-- ==== Sys2Proof/Word.lean ====
section
/-! DEFINITION. The word types of the CM-2448 and the index types of R15, with the smallest helpers over them. -/
namespace Sys2Proof

/-- A 32-bit register, memory or operand word (R9). -/
abbrev Word := BitVec 32
/-- One byte of a memory (R23, R26). -/
abbrev Byte := BitVec 8
/-- A 64-bit value: a queue entry (R27), a Sundial instant (R14), a legal register (R328). -/
abbrev Dword := BitVec 64
/-- A 72-bit accumulator a0 to a7 (R110, R119). -/
abbrev Acc := BitVec 72

/-- Engine 0 to 11 of a pavilion, in the order of Table ISA-15 (R18, R113). -/
abbrev Eng := Fin 12
/-- Phase group G0 to G31 and its stage link (R15). -/
abbrev Grp := Fin 32
/-- Outlet O0 to O23 (R15). -/
abbrev Outlet := Fin 24
/-- Dispenser link DL0 to DL11 (R15). -/
abbrev DLink := Fin 12
/-- Load-switch channel LS0 to LS31 (R397). -/
abbrev Chan := Fin 32
/-- Load-switch bank LB0 to LB3 (R397). -/
abbrev Bank := Fin 4
/-- Safety input SI0 to SI15 (R360). -/
abbrev SafeIn := Fin 16
/-- Test-pulse output TP0 to TP3 (R360). -/
abbrev TestOut := Fin 4
/-- Sundial event slot 0 to 63 of one pavilion (R68). -/
abbrev Slot := Fin 64
/-- CAN FD channel CF0, CF1 (R455). -/
abbrev CanCh := Fin 2
/-- CAN mailbox of one channel (R462). -/
abbrev Mailbox := Fin 32
/-- Mains-carrier short address, 0 for the device itself (R481). -/
abbrev Node := Fin 65
/-- Host session index (R433). -/
abbrev Sess := Fin 16
/-- Key slot K0 to K127 (R495). -/
abbrev KeySlot := Fin 128
/-- Injector or capture unit index (R216, R219). -/
abbrev Unit4 := Fin 4
/-- General register g0 to g31 (R110). -/
abbrev Gpr := Fin 32
/-- Accumulator a0 to a7 (R110). -/
abbrev AccIx := Fin 8

/-- The two pavilions (R17). -/
inductive Pav where
  | A | B
  deriving DecidableEq, Repr

/-- The other pavilion. -/
def Pav.other : Pav → Pav
  | .A => .B
  | .B => .A

/-- Lane A of a two-lane link belongs to Pavilion A, lane B to Pavilion B (R153, R286, R425). -/
abbrev Lane := Pav

end Sys2Proof
end

