-- ==== Sys2Proof/Syntax.lean ====
section
/-! DEFINITION. The commands of the CM-2448 block: one constructor per row of the opcode table, in the table's order, with what each
brings from outside (a frame, a message, a verdict of a cryptographic check, the place it concerns). -/
namespace Sys2Proof

/-- What ECC finds in the word a load reads (R23). -/
inductive Ecc where
  | none | single | double
  deriving DecidableEq, Repr

/-- The header of a DLP PDU (R288): `tagOk` is the verdict on its TAG, `valid` that of CHECK, DIR and the reserved bits. -/
structure DlpHdr where
  ver : Nat
  seq : Nat
  ackSeq : Nat
  ackMap : Nat
  outlet : Nat
  flags : Nat
  src : Nat
  tagOk : Bool
  valid : Bool
  deriving DecidableEq, Repr

/-- What the communication engine reads out of a vehicle's frames (R306 to R311; log entry 56). Voltages are in 0.025 V, currents in
0.1 A, powers in W. -/
inductive VehMsg where
  | connect
  | disconnect
  | handshake (offered : Nat)
  | chargeParams (pMax iMax vMax iExp : Nat)
  | contract (chainOk : Bool) (emaid : List Nat)
  | certRequest (request : List Nat)
  | precharge (volts amps : Nat)
  | powerStart (volts : Nat)
  | loop
  | stop
  | violation
  | other
  deriving DecidableEq, Repr

/-- A client's certificate chain as the TLS handshake finds it (R428, R429): the key slot of the anchor it ends in, the principal, the
validity in UTC ms, and whether the chain verifies. -/
structure ClientCert where
  anchor : Nat
  principal : Nat
  notBefore : Nat
  notAfter : Nat
  chainOk : Bool
  deriving DecidableEq, Repr

/-- A CAN frame from the bus with its start-of-frame timestamp (R459). -/
structure CanFrame where
  ident : Nat
  ide : Bool
  fdf : Bool
  brs : Bool
  esi : Bool
  remote : Bool
  dlc : Nat
  data : List Byte
  time : Nat
  deriving DecidableEq, Repr

/-- A mains-carrier frame with a good CHECK (R477); `tagOk` is the verdict on its TAG. -/
structure MccFrame where
  src : Nat
  dst : Nat
  origin : Nat
  final : Nat
  route : List Nat
  hop : Nat
  seq : Nat
  flags : Nat
  frag : Nat
  payload : List Byte
  tagOk : Bool
  deriving DecidableEq, Repr

/-- The commands. -/
inductive Instr where
  | add (p : Pav) (e : Eng) (d s1 s2 : Gpr)
  | sub (p : Pav) (e : Eng) (d s1 s2 : Gpr)
  | and (p : Pav) (e : Eng) (d s1 s2 : Gpr)
  | or (p : Pav) (e : Eng) (d s1 s2 : Gpr)
  | xor (p : Pav) (e : Eng) (d s1 s2 : Gpr)
  | sll (p : Pav) (e : Eng) (d s1 s2 : Gpr)
  | srl (p : Pav) (e : Eng) (d s1 s2 : Gpr)
  | sra (p : Pav) (e : Eng) (d s1 s2 : Gpr)
  | slt (p : Pav) (e : Eng) (d s1 s2 : Gpr)
  | sltu (p : Pav) (e : Eng) (d s1 s2 : Gpr)
  | addc (p : Pav) (e : Eng) (d s1 s2 : Gpr)
  | subc (p : Pav) (e : Eng) (d s1 s2 : Gpr)
  | adds (p : Pav) (e : Eng) (d s1 s2 : Gpr)
  | subs (p : Pav) (e : Eng) (d s1 s2 : Gpr)
  | min (p : Pav) (e : Eng) (d s1 s2 : Gpr)
  | max (p : Pav) (e : Eng) (d s1 s2 : Gpr)
  | minu (p : Pav) (e : Eng) (d s1 s2 : Gpr)
  | maxu (p : Pav) (e : Eng) (d s1 s2 : Gpr)
  | abss (p : Pav) (e : Eng) (d s1 : Gpr)
  | clz (p : Pav) (e : Eng) (d s1 : Gpr)
  | mul (p : Pav) (e : Eng) (d s1 s2 : Gpr)
  | mulh (p : Pav) (e : Eng) (d s1 s2 : Gpr)
  | mulhu (p : Pav) (e : Eng) (d s1 s2 : Gpr)
  | mulq (p : Pav) (e : Eng) (d s1 s2 : Gpr)
  | div (p : Pav) (e : Eng) (d s1 s2 : Gpr)
  | divu (p : Pav) (e : Eng) (d s1 s2 : Gpr)
  | rem (p : Pav) (e : Eng) (d s1 s2 : Gpr)
  | remu (p : Pav) (e : Eng) (d s1 s2 : Gpr)
  | addi (p : Pav) (e : Eng) (d s1 : Gpr) (imm : BitVec 14)
  | andi (p : Pav) (e : Eng) (d s1 : Gpr) (imm : BitVec 14)
  | ori (p : Pav) (e : Eng) (d s1 : Gpr) (imm : BitVec 14)
  | xori (p : Pav) (e : Eng) (d s1 : Gpr) (imm : BitVec 14)
  | slti (p : Pav) (e : Eng) (d s1 : Gpr) (imm : BitVec 14)
  | sltiu (p : Pav) (e : Eng) (d s1 : Gpr) (imm : BitVec 14)
  | slli (p : Pav) (e : Eng) (d s1 : Gpr) (sh : BitVec 5)
  | srli (p : Pav) (e : Eng) (d s1 : Gpr) (sh : BitVec 5)
  | srai (p : Pav) (e : Eng) (d s1 : Gpr) (sh : BitVec 5)
  | lhi (p : Pav) (e : Eng) (d s1 : Gpr) (imm : BitVec 14)
  | addsi (p : Pav) (e : Eng) (d s1 : Gpr) (imm : BitVec 14)
  | lb (p : Pav) (e : Eng) (d base : Gpr) (off : BitVec 15) (ecc : Ecc)
  | lbu (p : Pav) (e : Eng) (d base : Gpr) (off : BitVec 15) (ecc : Ecc)
  | lh (p : Pav) (e : Eng) (d base : Gpr) (off : BitVec 15) (ecc : Ecc)
  | lhu (p : Pav) (e : Eng) (d base : Gpr) (off : BitVec 15) (ecc : Ecc)
  | lw (p : Pav) (e : Eng) (d base : Gpr) (off : BitVec 15) (ecc : Ecc)
  | sb (p : Pav) (e : Eng) (src base : Gpr) (off : BitVec 15)
  | sh (p : Pav) (e : Eng) (src base : Gpr) (off : BitVec 15)
  | sw (p : Pav) (e : Eng) (src base : Gpr) (off : BitVec 15)
  | beq (p : Pav) (e : Eng) (d s1 : Gpr) (off : BitVec 15)
  | bne (p : Pav) (e : Eng) (d s1 : Gpr) (off : BitVec 15)
  | blt (p : Pav) (e : Eng) (d s1 : Gpr) (off : BitVec 15)
  | bge (p : Pav) (e : Eng) (d s1 : Gpr) (off : BitVec 15)
  | bltu (p : Pav) (e : Eng) (d s1 : Gpr) (off : BitVec 15)
  | bgeu (p : Pav) (e : Eng) (d s1 : Gpr) (off : BitVec 15)
  | bfs (p : Pav) (e : Eng) (flag : Gpr) (off : BitVec 15)
  | bfc (p : Pav) (e : Eng) (flag : Gpr) (off : BitVec 15)
  | jal (p : Pav) (e : Eng) (d : Gpr) (imm : BitVec 16)
  | jalr (p : Pav) (e : Eng) (d s1 : Gpr) (imm : BitVec 16)
  | nop (p : Pav) (e : Eng)
  | sprd (p : Pav) (e : Eng) (d : Gpr) (opd : BitVec 12)
  | spwr (p : Pav) (e : Eng) (s1 : Gpr) (opd : BitVec 12)
  | sprs (p : Pav) (e : Eng) (s1 : Gpr) (opd : BitVec 12)
  | sprc (p : Pav) (e : Eng) (s1 : Gpr) (opd : BitVec 12)
  | eret (p : Pav) (e : Eng)
  | trap (p : Pav) (e : Eng) (opd : BitVec 12)
  | fence (p : Pav) (e : Eng)
  | wfi (p : Pav) (e : Eng)
  | msnd (p : Pav) (e : Eng) (d s1 : Gpr) (target : BitVec 4) (queue : Fin 8)
  | mrcv (p : Pav) (e : Eng) (d : Gpr) (queue : Fin 8) (nb : Bool)
  | macc (p : Pav) (e : Eng) (s1 s2 : Gpr) (acc : AccIx)
  | msub (p : Pav) (e : Eng) (s1 s2 : Gpr) (acc : AccIx)
  | mpy (p : Pav) (e : Eng) (s1 s2 : Gpr) (acc : AccIx)
  | mac4 (p : Pav) (e : Eng) (s1 s2 : Gpr) (acc : AccIx)
  | macv (p : Pav) (e : Eng) (s1 s2 : Gpr) (acc : AccIx)
  | mpyv (p : Pav) (e : Eng) (s1 s2 : Gpr) (acc : AccIx)
  | accx (p : Pav) (e : Eng) (d : Gpr) (acc : AccIx) (sh : BitVec 5)
  | accxv (p : Pav) (e : Eng) (d : Gpr) (acc : AccIx) (sh : BitVec 5)
  | accclr (p : Pav) (e : Eng) (acc : AccIx)
  | accrd (p : Pav) (e : Eng) (d : Gpr) (acc : AccIx) (sh : BitVec 5)
  | accwr (p : Pav) (e : Eng) (s1 : Gpr) (acc : AccIx) (sh : BitVec 5)
  | vadds (p : Pav) (e : Eng) (d s1 s2 : Gpr)
  | vsubs (p : Pav) (e : Eng) (d s1 s2 : Gpr)
  | vmin (p : Pav) (e : Eng) (d s1 s2 : Gpr)
  | vmax (p : Pav) (e : Eng) (d s1 s2 : Gpr)
  | vclamp (p : Pav) (e : Eng) (d s1 s2 : Gpr)
  | vmulq (p : Pav) (e : Eng) (d s1 s2 : Gpr)
  | sos (p : Pav) (e : Eng) (d s1 s2 : Gpr) (idx : BitVec 9)
  | sosh (p : Pav) (e : Eng) (d s1 s2 : Gpr) (idx : BitVec 9)
  | sosp (p : Pav) (e : Eng) (d s1 s2 : Gpr) (idx : BitVec 9)
  | frld (p : Pav) (e : Eng) (d s1 : Gpr) (fmt : BitVec 2) (hw : BitVec 6)
  | frstat (p : Pav) (e : Eng) (d s1 : Gpr)
  | frst (p : Pav) (e : Eng) (d s1 : Gpr) (fmt : BitVec 2) (hw : BitVec 6)
  | await (p : Pav) (e : Eng) (s1 : Gpr) (endMark : Bool)
  | awaitp (p : Pav) (e : Eng) (s1 : Gpr) (endMark : Bool)
  | awaits (p : Pav) (e : Eng) (slot : Slot) (endMark : Bool)
  | tread (p : Pav) (e : Eng) (d : Gpr)
  | tsite (p : Pav) (e : Eng) (d : Gpr)
  | illegalInstruction (p : Pav) (e : Eng) (word : Word)
  | sequentialFetchBeyondItcm (p : Pav) (e : Eng)
  | interruptEntry (p : Pav) (e : Eng)
  | awaitWake (p : Pav) (e : Eng)
  | mrcvWake (p : Pav) (e : Eng)
  | msndWake (p : Pav) (e : Eng)
  | wfiWake (p : Pav) (e : Eng)
  | fenceComplete (p : Pav) (e : Eng)
  | queueStall (p : Pav) (e : Eng)
  | registerWrite (p : Pav) (e : Eng) (addr value : Word)
  | wideLowRead (p : Pav) (e : Eng) (addr : Word)
  | copyMismatch (f : Nat)
  | siteCycleBoundary
  | stgSampleFrameRx (p : Pav) (g : Grp) (frame : List Byte) (lineOk : Bool)
  | footbridgeFrameRx (p : Pav) (lane : Lane) (g : Grp) (frame : List Byte)
  | footbridgeChannelFail (p : Pav) (ch : Fin 2) (beats : Bool)
  | inputSetClosure
  | closureVectorRx (katA katB : Bool)
  | commandRelease
  | peerDigestRx (katA katB : Bool)
  | selfcheckResultRx (p : Pav) (pass : Bool)
  | selfcheckResultTimeout (p : Pav)
  | digestMissing (p : Pav)
  | refereeVerdict (lowA lowB : Bool)
  | refereeWindowTimeout
  | unsolicitedVerdict (lowA lowB : Bool)
  | setAsideReset (p : Pav)
  | indicatorAlone (p : Pav)
  | leaseRenewalSend
  | leaseRenewalRx (p : Pav)
  | leaseReleaseSeen (p : Pav)
  | leaseExpiry (p : Pav) (live : Bool)
  | peerClaimHigher (p : Pav)
  | logEntrySequence (kind source : Nat) (payload : List Byte) (switching : Bool)
  | logEntryRx (p : Pav) (seq effective kind source : Nat) (payload : List Byte) (checkOk switching : Bool)
  | joinRequest (p : Pav)
  | joinRetry (p : Pav)
  | backgroundCopyDone (p : Pav)
  | syncBoundary
  | handoverRecordRx (p : Pav) (checkOk : Bool)
  | joinerBecomesFollower (p : Pav)
  | holdElapsed (p : Pav)
  | handbackTick
  | zeroCrossing (positive : Bool) (ago : Nat)
  | zeroCrossingTimeout
  | mainsPlausibilityCheck (pass : Bool)
  | bitstreamStuck (c : Fin 6)
  | sundialCopyMismatch
  | crystalFailure (side : Pav)
  | clockSelectorFault
  | sdlSlotArm (p : Pav) (n : Slot) (ctrl : Word)
  | slotFire (p : Pav) (n : Slot)
  | slotMessageDeliver (p : Pav) (n : Slot)
  | echoProbe (p : Pav) (g : Grp)
  | echoReturnRx (p : Pav) (g : Grp) (token : Byte) (roundTrip : Nat)
  | stgLinkLost (g : Grp)
  | stgFaultExit (g : Grp)
  | stgLinkRestart (g : Grp)
  | stgMsgGo (g : Grp) (mtid len : Byte)
  | stgReplyTimeout (g : Grp)
  | stgIdentReply (g : Grp)
  | stgAuthRespReply (g : Grp) (verified : Bool)
  | stgConfigAckReply (g : Grp)
  | stgRouteReportReply (g : Grp)
  | stgStatusReply (g : Grp)
  | stgErrorReply (g : Grp)
  | ctlModeWrite (o : Outlet) (mode : BitVec 4)
  | ssOvercurrent (o : Outlet)
  | shortSoftstart (o : Outlet)
  | feedbackLost (g : Grp)
  | feedbackFrozen (g : Grp)
  | ctlXdisWrite (dis : BitVec 24)
  | rampDone (o : Outlet)
  | ctlSwapGo (o : Outlet)
  | swapLoad (o : Outlet)
  | ctlInjGo (i : Unit4)
  | ctlInjStop (i : Unit4)
  | injectionStart (i : Unit4)
  | injDone (i : Unit4)
  | ctlCapArm (i : Unit4)
  | ctlCapFire (i : Unit4)
  | ctlCapStop (i : Unit4)
  | capDone (i : Unit4)
  | ctlHfrzRelease (mask : Word)
  | shedStart (g : Grp)
  | rotationDue (g : Grp)
  | routeRampOutEnd (g : Grp)
  | routeChangeSend (g : Grp)
  | allocationTick
  | publicationDeadline
  | parterreFallback
  | invBreach (o : Outlet)
  | headStale
  | hostLimitExpiry (limit : Nat)
  | frontEndDataStale (cab : Fin 15)
  | coolantDataStale (o : Outlet)
  | dlpHello (d : DLink) (lane : Lane) (h : DlpHdr) (body : List Byte)
  | dlpAuthResp (d : DLink) (lane : Lane) (h : DlpHdr) (body : List Byte) (verified : Bool)
  | dlpKeepalive (d : DLink) (lane : Lane) (h : DlpHdr) (body : List Byte)
  | dlpWake (d : DLink) (lane : Lane) (h : DlpHdr) (body : List Byte)
  | dlpPlug (d : DLink) (lane : Lane) (h : DlpHdr) (body : List Byte)
  | dlpLockState (d : DLink) (lane : Lane) (h : DlpHdr) (body : List Byte)
  | dlpImdState (d : DLink) (lane : Lane) (h : DlpHdr) (body : List Byte)
  | dlpVehFrame (d : DLink) (lane : Lane) (h : DlpHdr) (len : Nat) (msg : VehMsg)
  | dlpVehLink (d : DLink) (lane : Lane) (h : DlpHdr) (body : List Byte)
  | dlpHeadBlock (d : DLink) (lane : Lane) (h : DlpHdr) (body : List Byte) (macOk : Bool)
  | dlpButton (d : DLink) (lane : Lane) (h : DlpHdr) (body : List Byte)
  | dlpCard (d : DLink) (lane : Lane) (h : DlpHdr) (body : List Byte)
  | dlpCoolStatus (d : DLink) (lane : Lane) (h : DlpHdr) (body : List Byte)
  | dlpError (d : DLink) (lane : Lane) (h : DlpHdr) (body : List Byte)
  | stopCurrentReached (o : Outlet)
  | dlpRetxTimeout (d : DLink) (seq : Nat)
  | dlpSendPoint
  | dlpLaneDown (d : DLink) (lane : Lane)
  | dlpSupervisionTimeout (d : DLink)
  | dlkFaultExit (d : DLink)
  | dlkLinkRestart (d : DLink)
  | tLinkExpiry (o : Outlet)
  | tAuthExpiry (o : Outlet)
  | tLockExpiry (o : Outlet)
  | tCcExpiry (o : Outlet)
  | tPreExpiry (o : Outlet)
  | tStopExpiry (o : Outlet)
  | tLoopExpiry (o : Outlet)
  | cardAnswerTimeout (o : Outlet)
  | certAnswerTimeout (o : Outlet)
  | preauthExpiry (d : DLink)
  | coolFlowLow (o : Outlet)
  | headIdent (d : DLink) (lane : Lane) (h : DlpHdr) (body : List Byte)
  | headResp (d : DLink) (lane : Lane) (h : DlpHdr) (body : List Byte) (verified : Bool)
  | headStarted (d : DLink) (lane : Lane) (h : DlpHdr) (body : List Byte)
  | headStopped (d : DLink) (lane : Lane) (h : DlpHdr) (body : List Byte)
  | headStat (d : DLink) (lane : Lane) (h : DlpHdr) (body : List Byte)
  | headErr (d : DLink) (lane : Lane) (h : DlpHdr) (body : List Byte)
  | blockMissed (o : Outlet)
  | blockLost (o : Outlet)
  | metrologySave
  | legalMramWrite (okA okB : Bool)
  | metMtpWrite (n : Fin 4) (value : Word)
  | mtpPulse (n : Fin 4)
  | safetyInputDemand (i : SafeIn)
  | safetyInputHealthy (i : SafeIn)
  | testPulse (k : TestOut) (stayed fell : BitVec 16) (tpOk : Bool)
  | siDiscrep (i : SafeIn)
  | siFaultClear (i : SafeIn)
  | safeResetPress
  | resetJam
  | resetJamClear
  | offPulseCheck (c : Chan) (pass : Bool)
  | offChannelCheck (c : Chan) (pass : Bool)
  | gateClearTimeout (o : Outlet)
  | postOpenDropWait (o : Outlet)
  | postOpenTestEnd (o : Outlet)
  | imdStale (o : Outlet)
  | tCondStale (o : Outlet)
  | degExpired
  | classSBlockClear (o : Outlet)
  | confirmLapse
  | unlockHeld (o : Outlet)
  | safEvsetWrite (value : Word)
  | lswChannelOnWrite (c : Chan) (on : Bool)
  | fastThresholdTrip (c : Chan)
  | overloadTrip (c : Chan)
  | thermalTrip (c : Chan)
  | bankLimit (b : Bank) (currents : List Nat)
  | bankOverload (b : Bank)
  | bankOverloadCut (b : Bank)
  | vbankLow (b : Bank)
  | vbankRestore (b : Bank)
  | bankEnterService (b : Bank) (pass : Bool)
  | retryWaitExpiry (c : Chan)
  | warmupEnd (c : Chan)
  | pullEnd (c : Chan)
  | startWindowEnd (c : Chan)
  | budgetRefresh (c : Chan)
  | attributionPendingExpiry (c : Chan)
  | attributedRestart (c : Chan)
  | openLoad (c : Chan) (low : Bool)
  | switchFault (c : Chan)
  | lswBankRestore (b : Bank) (pass : Bool)
  | noClaim
  | lswLatchRelease
  | tcpConnect (p : Pav) (port : Fin 2) (dport : Nat)
  | netEchoRequest (p : Pav) (port : Fin 2) (kind : Fin 4)
  | tlsHandshakeDone (n : Sess) (cert : Option ClientCert)
  | tlsHandshakeTimeout (n : Sess)
  | openTimeout (n : Sess)
  | rhpOpen (n : Sess) (majors role : Nat) (name : List Byte)
  | rhpRequestRx (n : Sess) (tag code : Nat) (payload : List Byte) (wellFormed : Bool)
  | rhpEventAck (n : Sess) (upTo : Nat)
  | rhpPing (n : Sess)
  | rhpPong (n : Sess)
  | rhpClose (n : Sess)
  | rhpPingTimer (n : Sess)
  | rhpKeepaliveTimeout (n : Sess)
  | tcpRetransmitTimeout (n : Sess)
  | hostLaneDown (p : Pav) (port : Fin 2)
  | handleExpiry (index : Fin 512)
  | eventHoldExpiry (k : Nat)
  | requestTagExpiry (k : Nat)
  | lockIdleExpiry
  | returnRequestExpiry
  | sessionClose (n : Sess) (tag : Nat)
  | eventSubscribe (n : Sess) (tag : Nat) (mask : Word)
  | opStatus (n : Sess) (tag handle : Nat)
  | opList (n : Sess) (tag : Nat)
  | opCancel (n : Sess) (tag handle : Nat)
  | opRelease (n : Sess) (tag handle : Nat)
  | opRead (n : Sess) (tag handle offset count : Nat)
  | timeSet (n : Sess) (tag utc : Nat)
  | siteLimitSet (n : Sess) (tag power ttl : Nat)
  | siteStatusRead (n : Sess) (tag : Nat)
  | outletLimitSet (n : Sess) (tag o power amps ttl pExp iExp : Nat)
  | outletOwn (n : Sess) (tag o : Nat) (force : Bool)
  | outletDisown (n : Sess) (tag o : Nat)
  | outletPrioritySet (n : Sess) (tag o prio : Nat)
  | outletStart (n : Sess) (tag o : Nat) (ref : List Byte)
  | outletStop (n : Sess) (tag o : Nat)
  | outletAuthAnswer (n : Sess) (tag o reqId result : Nat) (ref : List Byte)
  | outletCertAnswer (n : Sess) (tag o reqId : Nat) (answer : List Byte)
  | outletFaultClear (n : Sess) (tag o : Nat)
  | outletServiceSet (n : Sess) (tag o value : Nat)
  | outletStatusRead (n : Sess) (tag o : Nat)
  | outletCommission (n : Sess) (tag o value : Nat)
  | groupStatusRead (n : Sess) (tag g : Nat)
  | deviceAttest (n : Sess) (tag : Nat) (nonce : List Byte)
  | pavilionYield (n : Sess) (tag : Nat)
  | pavilionRejoin (n : Sess) (tag pav : Nat)
  | bankRestore (n : Sess) (tag bank : Nat) (pass : Bool)
  | deviceReturn (n : Sess) (tag : Nat) (nonce : List Byte)
  | serviceUnlockChallenge (n : Sess) (tag : Nat)
  | serviceUnlockOpen (n : Sess) (tag unit : Nat) (chal : List Byte) (sigOk : Bool)
  | configLockAcquire (n : Sess) (tag : Nat)
  | configLockRelease (n : Sess) (tag : Nat)
  | paramWrite (n : Sess) (tag record index offset : Nat) (data : List Byte)
  | paramCommit (n : Sess) (tag : Nat) (crcOk : Bool)
  | safetyCheckRead (n : Sess) (tag : Nat)
  | safetyConfirm (n : Sess) (tag : Nat) (check : Word)
  | tuneCoeffLoad (n : Sess) (tag o apply : Nat) (set : List Byte)
  | tuneRun (n : Sess) (tag o : Nat) (inj cap : List Byte)
  | captureRead (n : Sess) (tag unit : Nat)
  | captureReadComplete (index : Fin 512)
  | logRead (n : Sess) (tag log start count : Nat)
  | logReadComplete (index : Fin 512)
  | logAck (n : Sess) (tag slot txNo : Nat)
  | certInstall (n : Sess) (tag kind index mark : Nat) (chain : List Byte)
  | kuInstall (n : Sess) (tag : Nat) (msg : List Byte) (sigOk cipherOk keyOk : Bool) (material : List Byte)
  | kuGenerate (n : Sess) (tag : Nat) (msg : List Byte) (sigOk : Bool)
  | kuInvalidate (n : Sess) (tag : Nat) (msg : List Byte) (sigOk : Bool)
  | kuReadpub (n : Sess) (tag : Nat) (msg : List Byte)
  | kuAdvance (n : Sess) (tag : Nat) (msg : List Byte) (sigOk : Bool)
  | keyUpdateComplete (index : Fin 512)
  | imageStageDelta (n : Sess) (tag length : Nat) (digest : List Byte)
  | imageStageFull (n : Sess) (tag length : Nat) (digest : List Byte)
  | imageData (n : Sess) (tag handle offset : Nat) (data : List Byte) (okA okB : Bool)
  | imageActivate (n : Sess) (tag handle : Nat)
  | imageRollback (n : Sess) (tag : Nat)
  | activationVerifyDone
  | activationJoinTimeout
  | warmElapsed
  | slWaitExpiry
  | canFrameRx (p : Pav) (ch : CanCh) (f : CanFrame)
  | canTxComplete (ch : CanCh) (m : Mailbox) (ok same : Bool)
  | canMailboxGo (ch : CanCh) (m : Mailbox)
  | canMailboxAbort (ch : CanCh) (m : Mailbox)
  | canDeadlineLapse (ch : CanCh) (m : Mailbox)
  | canErrorPassive (ch : CanCh) (tec rec : Nat)
  | canBusOff (ch : CanCh)
  | canBusOn (ch : CanCh)
  | canFailed (ch : CanCh)
  | canWakeDetect (ch : CanCh) (frame : Option CanFrame)
  | mccSlotStart (heard acked : Bool)
  | mccHopFail (k : Nat)
  | mccAck (f : MccFrame)
  | mccData (f : MccFrame)
  | mccJoinReq (f : MccFrame)
  | mccJoinResp (f : MccFrame) (verified : Bool)
  | mccLqiReport (f : MccFrame)
  | mccWake (f : MccFrame)
  | mccLeave (f : MccFrame)
  | mccLinkUnusableExpiry (k : Nat)
  | mccReachTimeout (a : Node)
  | ghSign (p : Pav) (e : Eng) (desc : Word)
  | ghVerify (p : Pav) (e : Eng) (desc : Word) (good : Bool)
  | ghKeyAgree (p : Pav) (e : Eng) (desc : Word)
  | ghChallenge (p : Pav) (e : Eng) (desc : Word)
  | ghCheckResp (p : Pav) (e : Eng) (desc : Word) (good : Bool)
  | ghMac (p : Pav) (e : Eng) (desc : Word)
  | ghSeal (p : Pav) (e : Eng) (desc : Word)
  | ghOpen (p : Pav) (e : Eng) (desc : Word) (good : Bool)
  | ghHash (p : Pav) (e : Eng) (desc : Word)
  | ghRandom (p : Pav) (e : Eng) (desc : Word)
  | ghCtxFree (p : Pav) (e : Eng) (desc : Word)
  | ghReadState (p : Pav) (e : Eng) (desc : Word)
  | ghRequestDone (p : Pav)
  | ghSelftestDone (p : Pav) (pass : Bool)
  | rngFail (p : Pav)
  | gatehouseGuardTrip (p : Pav)
  | supplyMonitorTrip (p : Pav) (rail : Fin 3)
  | vio33Loss (p : Pav)
  | brownOut
  | nrstPulse (nanos : Nat)
  | powerOn
  | deviceResetRelease (part : Option Pav)
  | bootImageCheckDone (p : Pav)
  | imageRecoveryDone (p : Pav)
  | startupLeaseWait (p : Pav)
  | discoveryStart
  | sysEngineStart (p : Pav) (mask : BitVec 12)
  | sysCommitGo (crcOk : Bool)
  | sysPavilionReset (p : Pav)
  | fbrYield
  | fbrRejoin (p : Pav)
  | idleTimerExpiry
  | sleepEntry
  | wakeDetect (src : Fin 7)
  | aonPadRelease
  | controlledStopRestart (p : Pav)
  | thermalRecovered (c : Chan)
  | protocolSequenceTimeout (o : Outlet)
  | dlpUnknownPdu (d : DLink) (lane : Lane) (h : DlpHdr) (type : Byte) (body : List Byte)
  | mccCrcFail
  | canHeldFrameExpiry (p : Pav) (ch : CanCh) (k : Nat)
  | returnCloseTimeout
  | returnLifecycleReset
  deriving DecidableEq, Repr

end Sys2Proof
end

