-- ==== Sys2Proof/Config.lean ====
section
/-! DEFINITION. What an implementation fixes and what the spec leaves open: free values, none with a body, so that a claim about
one holds whatever it is. Each is named in the assumption log. -/
namespace Sys2Proof.Config

/-- The value of a free quantity; the argument is the running number of the draw, `Site.free` (log entry 1): random challenges,
keys and nonces (R509, R512), and results the spec does not state. -/
opaque freeNat : Nat → Nat

/-- exp(-num/den) in 2^-32 units, as the framework's commit-time computation rounds it (R279, R281; log entry 20). -/
opaque expNeg : Nat → Nat → Nat

/-- Entry n of the quarter-wave table of R215 in Q1.31 (log entry 21). -/
opaque sineEntry : Nat → Nat

/-- The unit identifier fused into the part (AON_UNIT_LO and AON_UNIT_HI, R568; log entry 5). -/
opaque unitWord : BitVec 64
def unitId : Nat := unitWord.toNat

/-- Signature and message authentication values of the Gatehouse (R497, R508 to R519; log entry 30). -/
opaque signature : Nat → List Byte → List Byte
opaque mac : Nat → List Byte → List Byte
opaque hash : List Byte → List Byte
opaque sealed : Nat → List Byte → List Byte
opaque opened : Nat → List Byte → List Byte
opaque agreed : Nat → List Byte → List Byte
opaque publicKey : Nat → List Byte
/-- SHA-256 over the blocks, parts and deltas of images (R526, R528, R530). -/
opaque sha256 : List Byte → List Byte
/-- Whether a signature over a text verifies under a public key (R504, R525). -/
opaque verifies : List Byte → List Byte → List Byte → Bool
/-- The public key of K1, programmed at wafer test (R499). -/
opaque vendorRoot : List Byte

/-- Number n of what the LAYOUT part of an image declares; the spec gives the part no byte layout (R526; log entry 71). -/
opaque layoutNum : List Byte → Nat → Nat

/-- The committed parameter set as one string of bytes, from its register values and its records; the spec gives the set no layout as a
whole (R38, R102, R451; log entry 73). -/
opaque setBytes : List (Nat × Nat) → List (Nat × Byte) → List Byte

/-- Cost class of a mains-carrier link from the LQI at its two ends: 0 D8PSK, 1 DQPSK, 2 DBPSK, 3 ROBO, any other unusable; the spec gives no
thresholds (R483; log entry 80). -/
opaque lqiClass : Nat → Nat → Nat

/-- An outlet current whose exact sum lies outside Q1.31, from that sum; whether a mean of outlet voltages, a pump or fan value, or a block's mean
power that is no whole number of units rounds up, from the dividend and the divisor: the spec states neither (R187, R188, R312, R332; log entry 191). -/
opaque currentOver : Int → BitVec 32
opaque meanUp : Int → Nat → Bool

/-- A legal register that a negative export energy takes below 0, with its fraction, from the exact sum (R329, R333; log entry 196). -/
opaque registerUnder : Int → Nat
/-- The refusal code of a head, from the ground of R320 (0 no common version, 1 T_S, 2 KEEP, 3 LSBs, 4 UNIT); SLOT of a save without a slot, from
the outlet and SAVE_NO (R343, R349; log entry 196). -/
opaque refusalCode : Nat → BitVec 8
opaque noSlot : Nat → Nat → BitVec 16

/-- A free string of `n` bytes. -/
def freeBytes (k : Nat) : Nat → List Byte
  | 0 => []
  | n + 1 => BitVec.ofNat 8 (freeNat k / 256 ^ n) :: freeBytes k n

end Sys2Proof.Config
end

