-- ==== Sys2Proof/Machine/Fields.lean ====
section
/-! DEFINITION. Every register field of the spec's register tables, under the manual's own register and field names, with the
block, offset, strides, bit place, access code (R9) and reset value (R10) its table gives. Instance letters of a register's
name are dropped (STG_LgCFG is STG_LCFG); the instance is the index beside the field. -/
namespace Sys2Proof.Machine

/-- The register blocks of R17 and R20, in the order of R17 and then FBR, LSW, SIO, AON (the order of SYS_ROUTEk.TAG, R569). -/
inductive Blk where
  | SYS | SDL | STG | CTL | DLK | HST | CAN | MCC | MET | KEY | UPD | SAF | GSP | FBR | LSW | SIO | AON
  deriving DecidableEq, Repr

/-- The access codes of R9. -/
inductive Access where
  | RO | RW | WO | W1C | RWL
  deriving DecidableEq, Repr

/-- Where a field is kept: `rep` a replicated block of each pavilion; `loc` a register of the pavilion's own; `com` the one
common-block register; `copy` a pavilion's own copy beside the value the common block acts on (R20, R21). -/
inductive Home where
  | rep | loc | com | copy
  deriving DecidableEq, Repr

/-- What a register table says of a field. `dims` are the strides and counts of its instances, outermost first; `kept` says
that its Reset column reads 'kept' (R10). -/
structure FieldInfo where
  blk : Blk
  base : Nat
  dims : List (Nat × Nat)
  lo : Nat
  width : Nat
  acc : Access
  home : Home
  reset : Nat
  kept : Bool
  deriving DecidableEq, Repr

/-- The register fields of Tables GSP-1, SDL-1, FBR-1, STG-7, STG-8, CTL-6, CTL-7, CTL-15 to CTL-18, DLK-7 to DLK-9, MET-12,
MET-13, SAF-7, SIO-1, LSW-1, LSW-2, HST-1, HST-2, CAN-1, CAN-2, MCC-1, KEY-6, KEY-7, UPD-7, AON-1 and SYS-1. -/
inductive Field where
  -- R49 (02_sundial.md)
  | GSP_CTRL_EN
  | GSP_CTRL_DIV
  | GSP_CTRL_OSR
  | GSP_CTRL_DELAY
  | GSP_STATUS_ACTIVE
  | GSP_STATUS_PLAUS
  | GSP_EVENT_STUCK
  | GSP_EVENT_IMPLAUS
  | GSP_EVCNT_CNT
  | GSP_VNOM_VNOM_PK
  | GSP_ZCADJ_ZCADJ
  | GSP_GAIN_GAIN
  | GSP_OFFS_OFFS
  | GSP_FS_FS
  | GSP_DATA_DATA
  -- R73 (02_sundial.md)
  | SDL_CTRL_NOMF
  | SDL_MULT_N
  | SDL_HALFMASK_HALF
  | SDL_STATUS_LOCKED
  | SDL_STATUS_FREE_RUN
  | SDL_STATUS_HOLD
  | SDL_STATUS_SLEW
  | SDL_STATUS_FIRST_LOCK
  | SDL_STATUS_XTAL
  | SDL_EVENT_GRID_LOST
  | SDL_EVENT_GRID_BACK
  | SDL_EVENT_PHASE_JUMP
  | SDL_EVENT_JUMP_TRANSIENT
  | SDL_EVENT_EV_LATE
  | SDL_EVENT_FREQ_RANGE
  | SDL_TIME_LO_ANGLE
  | SDL_TIME_HI_CYCLE
  | SDL_FREQ_FREQ
  | SDL_PHERR_PHERR
  | SDL_JUMP_JUMP
  | SDL_SITEIDX_S
  | SDL_EVCNT_CNT
  | SDL_STIME_LO_TIME_LO
  | SDL_STIME_HI_TIME_HI
  | SDL_SCTRL_ARM
  | SDL_SCTRL_MODE
  | SDL_SCTRL_TARGET
  | SDL_SCTRL_ENGINE
  | SDL_SCTRL_QUEUE
  | SDL_SCTRL_OFFSET
  | SDL_SFIRES_FIRES
  -- R107 (03_pavilions.md)
  | FBR_CTRL_MODE
  | FBR_CTRL_HOME
  | FBR_CTRL_REVERT
  | FBR_HOLD_HOLD
  | FBR_VWIN_VWIN
  | FBR_STATUS_ROLE
  | FBR_STATUS_PEER_ROLE
  | FBR_STATUS_LEASE_VALID
  | FBR_STATUS_DIVERGENT
  | FBR_STATUS_CH0_OK
  | FBR_STATUS_CH1_OK
  | FBR_STATUS_REDUNDANT
  | FBR_STATUS_PEER_LIVE
  | FBR_STATUS_REF_A
  | FBR_STATUS_REF_B
  | FBR_EVENT_DIVERGE
  | FBR_EVENT_TAKEOVER
  | FBR_EVENT_YIELD
  | FBR_EVENT_LEASE_EXPIRED
  | FBR_EVENT_CH_FAULT
  | FBR_EVENT_LOG_GAP
  | FBR_EVENT_LATE_FRAME
  | FBR_EVENT_COPY_MISMATCH
  | FBR_EVENT_REF_TIMEOUT
  | FBR_EVENT_REF_IGNORED
  | FBR_EVENT_CLAIM_EXHAUSTED
  | FBR_EVENT_HANDBACK
  | FBR_EVENT_LOG_HELD
  | FBR_CAUSE_CAUSE
  | FBR_CLAIM_STORED
  | FBR_PRESENT_OWN
  | FBR_PEERCLAIM_PEER
  | FBR_LEASEAGE_AGE
  | FBR_SEQ_LO_SEQ
  | FBR_SEQ_HI_SEQ
  | FBR_HEALTHY_TIME
  | FBR_DIG_OWN_DIGEST
  | FBR_DIG_PEER_DIGEST
  | FBR_SETASIDE_COUNT
  | FBR_EVCNT_CNT
  | FBR_CMD_YIELD
  | FBR_CMD_REJOIN
  -- R183 (05_stage_links.md)
  | STG_CTRL_LEASE
  | STG_CTRL_AUTHREQ
  | STG_CTRL_CMP
  | STG_CTRL_VERS
  | STG_MAXDLY_DLY
  | STG_RETRY_RTO
  | STG_RETRY_RCNT
  | STG_ZC_ZC_LIM
  | STG_ZC_ZC_CYC
  | STG_EVENT_LANE_DOWN
  | STG_EVENT_LANE_UP
  | STG_EVENT_NEW_ENDPOINT
  | STG_EVENT_NO_VERSION
  | STG_EVENT_AUTH_FAIL
  | STG_EVENT_LANE_SLOW
  | STG_EVENT_LANE_MISMATCH
  | STG_EVENT_STALE
  | STG_EVENT_FRAME_ERR
  | STG_EVENT_ROUTE_FAULT
  | STG_EVENT_ROUTE_HELD
  | STG_EVENT_MSG_FAIL
  | STG_EVENT_LINK_LOST
  | STG_EVENT_DISC_REFUSED
  | STG_ACTIVE_ACT
  | STG_LANEA_UP
  | STG_LANEB_UP
  | STG_EVCNT_CNT
  -- R184 (05_stage_links.md)
  | STG_LCFG_EN_LINK
  | STG_LCFG_LANES
  | STG_LCFG_RESTART
  | STG_LSTATE_STATE
  | STG_LSTATE_VER
  | STG_LSTATE_SLEN
  | STG_LSTATE_CLEN
  | STG_LSTATE_NPH
  | STG_LDLY_DLY_A
  | STG_LDLY_DLY_B
  | STG_LUNIT_LO_UNIT
  | STG_LUNIT_HI_UNIT
  | STG_LERR_ERR_A
  | STG_LERR_ERR_B
  | STG_LMSG_MTID
  | STG_LMSG_LEN
  | STG_LMSG_GO
  | STG_LMSG_BUSY
  | STG_LMSG_DONE
  | STG_LMSG_FAIL
  | STG_LMSG_RLEN
  | STG_LMISS_MISS
  -- R226 (06_converter_control.md)
  | CTL_CTRL_LOST_CYC
  | CTL_CTRL_FRZ_DUTY
  | CTL_SHORT_FRAC
  | CTL_SHORT_TIME
  | CTL_SHORT_ATLIM
  | CTL_SS_ILIM
  | CTL_SS_ICLIM
  | CTL_SS2_OC
  | CTL_SS2_RATE
  | CTL_XCHK_TOL
  | CTL_XCHK_OFS
  | CTL_XCHK_BLK
  | CTL_LAYER_LSUB
  | CTL_LAYER_SHORT_CYC
  | CTL_EVENT_FEEDBACK_LOST
  | CTL_EVENT_FEEDBACK_FROZEN
  | CTL_EVENT_SHORT_SOFTSTART
  | CTL_EVENT_SS_OVERCURRENT
  | CTL_EVENT_VOLTAGE_DISAGREE
  | CTL_EVENT_RAMP_DONE
  | CTL_EVENT_SWAP_DONE
  | CTL_EVENT_SWAP_REFUSED
  | CTL_EVENT_INJ_DONE
  | CTL_EVENT_CAP_DONE
  | CTL_XDIS_DIS
  | CTL_EVCNT_CNT
  | CTL_INJCTRL_OUTLET
  | CTL_INJCTRL_POINT
  | CTL_INJCTRL_WAVE
  | CTL_INJCTRL_GO
  | CTL_INJCTRL_STOP
  | CTL_INJCTRL_ACTIVE
  | CTL_INJCTRL_END
  | CTL_INJAMP_AMP
  | CTL_INJFREQ_FREQ
  | CTL_INJSTEP_STEP
  | CTL_INJSTART_START
  | CTL_INJLEN_LEN
  | CTL_CAPCTRL_ARM
  | CTL_CAPCTRL_FIRE
  | CTL_CAPCTRL_STOP
  | CTL_CAPCTRL_TRIG
  | CTL_CAPCTRL_EDGE
  | CTL_CAPCTRL_DEC
  | CTL_CAPCTRL_STATE
  | CTL_CAPCTRL_GOUTLET
  | CTL_CAPBASE_BASE
  | CTL_CAPSIZE_SIZE
  | CTL_CAPSIZE_PRE
  | CTL_CAPTRIG_TRIG
  | CTL_CAPCOUNT_COUNT
  | CTL_CAPSRC_KIND
  | CTL_CAPSRC_IDX
  | CTL_CAPSRC_HW
  -- R227 (06_converter_control.md)
  | CTL_OMODE_MODE
  | CTL_OMODE_SOFT
  | CTL_OMODE_RAMP
  | CTL_OMODE_STOPPED
  | CTL_OMODE_CAUSE
  | CTL_OVTGT_VTGT
  | CTL_OILIM_VEHI
  | CTL_OIOUT_IOUT
  | CTL_OVOUT_VOUT
  | CTL_OSWAP_APPLY
  | CTL_OSWCTL_GO
  | CTL_OSWCTL_PEND
  | CTL_OSWCTL_RESULT
  | CTL_OSWCTL_ENGINE
  | CTL_OSWCTL_ADDR
  | CTL_ORBUS_RBUS
  -- R228 (06_converter_control.md)
  | CTL_GFEED_NF_RUN
  | CTL_GFEED_FRESH
  | CTL_GFEED_OUTLET
  | CTL_GFEED_FRZ_RUN
  -- R254 (07_phase_management.md)
  | CTL_HFRZ_FRZ
  | CTL_HLOST_LOST
  -- R284 (08_power_sharing.md)
  | CTL_ACTRL_CUT_PCT
  | CTL_ACTRL_FB_PCT
  | CTL_ACTRL_LATE_FB
  | CTL_ACTRL_BLIND_PCT
  | CTL_PCONN_PCONN
  | CTL_POOLRATE_RATE
  | CTL_INVTOL_TOL
  | CTL_INVTOL_CYC
  | CTL_PBASE_BASE
  | CTL_PSTAT_RESULT
  | CTL_PSTAT_INFORCE
  | CTL_PSITE_LIMIT
  | CTL_FRESH_FE
  | CTL_FRESH_COOL
  | CTL_FRESH_STALE_PCT
  | CTL_AEVENT_PARTERRE_LATE
  | CTL_AEVENT_PARTERRE_REFUSED
  | CTL_AEVENT_PARTERRE_FALLBACK
  | CTL_AEVENT_IMPORT_CUT
  | CTL_AEVENT_CUT_RELEASED
  | CTL_AEVENT_INV_BREACH
  | CTL_AEVENT_HEAD_STALE
  | CTL_AEVCNT_CNT
  -- R285 (08_power_sharing.md)
  | CTL_OVEH_IMAX
  | CTL_OVEH_PMAX
  | CTL_OVEHV_VMAX
  | CTL_OVEHV_IEXP
  | CTL_OHEAD_HEAD
  | CTL_OHEAD_TC
  | CTL_GWIRE_BUS0
  | CTL_GWIRE_BUS1
  | CTL_GWIRE_BUS2
  | CTL_GWIRE_BUS3
  | CTL_GWIRE_CAB
  -- R315 (09_dispensers_vehicles.md)
  | DLK_CTRL_VERS
  | DLK_CTRL_AUTHREQ
  | DLK_CTRL_RTO
  | DLK_CTRL_RCNT
  | DLK_SUP_SUP
  | DLK_SUP_L
  | DLK_EVENT_LANE_DOWN
  | DLK_EVENT_LANE_UP
  | DLK_EVENT_NEW_DISPENSER
  | DLK_EVENT_NO_VERSION
  | DLK_EVENT_AUTH_FAIL
  | DLK_EVENT_LANE_MISMATCH
  | DLK_EVENT_DLP_FAIL
  | DLK_EVENT_LINK_LOST
  | DLK_EVENT_PROTO_ERR
  | DLK_EVENT_COOL_FAULT
  | DLK_ACTIVE_ACT
  | DLK_LANEA_UP
  | DLK_LANEB_UP
  | DLK_EVCNT_CNT
  -- R316 (09_dispensers_vehicles.md)
  | DLK_LCFG_EN_LINK
  | DLK_LCFG_LANES
  | DLK_LCFG_RESTART
  | DLK_LSTATE_STATE
  | DLK_LSTATE_VER
  | DLK_LSTATE_KIND0
  | DLK_LSTATE_KIND1
  | DLK_LSTATE_CAPS
  | DLK_LUNIT_LO_UNIT
  | DLK_LUNIT_HI_UNIT
  | DLK_LERR_ERR_A
  | DLK_LERR_ERR_B
  | DLK_LRETX_RETX
  -- R317 (09_dispensers_vehicles.md)
  | DLK_OSTATE_STATE
  | DLK_OSTATE_CAUSE
  | DLK_OSTATE_PROTO
  | DLK_OSTATE_PNC
  | DLK_OSTATE_WELD_OWED
  | DLK_OPROT_EN
  | DLK_OPROT_START_REQ
  | DLK_OPROT_FREE
  | DLK_OPROT_BPT
  | DLK_OTIME1_T_LINK
  | DLK_OTIME1_T_AUTH
  | DLK_OTIME1_T_LOCK
  | DLK_OTIME1_T_CC
  | DLK_OTIME2_T_PRE
  | DLK_OTIME2_T_STOP
  | DLK_OTIME2_T_LOOP
  | DLK_OTIME2_PRE_TOL
  | DLK_OSTOP_I_STOP
  | DLK_OCOOL_P_IDLE
  | DLK_OCOOL_T_ON
  | DLK_OCOOL_F_ON
  | DLK_OCOOL_F_FULL
  -- R355 (10_legal_metering.md)
  | MET_CTRL_SAVE_INT
  | MET_CTRL_REP
  | MET_CTRL_T_LOSS
  | MET_TIMES_L
  | MET_TIMES_T_DET
  | MET_TIMES_T_BOUND
  | MET_STATUS_FREE
  | MET_STATUS_OPEN
  | MET_STATUS_FULL
  | MET_STATUS_SIGN_OK
  | MET_STATUS_COPY_A
  | MET_STATUS_COPY_B
  | MET_EVENT_BLOCK_MISSED
  | MET_EVENT_MAC_FAIL
  | MET_EVENT_STREAM_LOST
  | MET_EVENT_KEY_ORPHANED
  | MET_EVENT_HEAD_REFUSED
  | MET_EVENT_LOG_NEAR_FULL
  | MET_EVENT_LEGAL_LOG_FULL
  | MET_EVENT_COPY_FAIL
  | MET_EVENT_SUPPLY_CLOSE
  | MET_EVENT_OVERRANGE
  | MET_EVENT_NEG_BLOCK
  | MET_EVENT_SIGN_KEY_LOST
  | MET_EVENT_MTP_OVERRUN
  | MET_TXNO_NEXT
  | MET_EVNO_NEXT
  | MET_PARAMCNT_COUNT
  | MET_PROGCNT_COUNT
  | MET_EVCNT_CNT
  | MET_MTP_OUTLET
  | MET_MTP_REG
  | MET_MTP_EN
  | MET_MTP_K
  | MET_MTPB_BACKLOG
  -- R356 (10_legal_metering.md)
  | MET_OIMP_LO_IMP
  | MET_OIMP_HI_IMP
  | MET_OEXP_LO_EXP
  | MET_OEXP_HI_EXP
  | MET_OWINI_WIN
  | MET_OWINE_WIN
  | MET_OEPOCH_EP_IMP
  | MET_OEPOCH_EP_EXP
  | MET_OSTATE_HEAD
  | MET_OSTATE_READY
  | MET_OSTATE_NRC
  | MET_OSTATE_DIR
  | MET_OSTATE_TXOPEN
  | MET_OSTATE_RESV
  | MET_OTX_TX_NO
  | MET_OBLOCK_BLOCK
  | MET_OPOWER_P
  | MET_OGAPS_GAPS
  | MET_OGAPS_MACF
  | MET_OPROG_VER
  | MET_OPCHK_CHECK
  -- R395 (11_safety.md)
  | SAF_STATUS_CONF
  | SAF_STATUS_PENDING
  | SAF_STATUS_CLASS
  | SAF_STATUS_DEGRADED
  | SAF_STATUS_HALTSAFE
  | SAF_CHECK_CHECK
  | SAF_CONFIRMED_CHECK
  | SAF_STOP_STOP
  | SAF_STOP_ALL
  | SAF_GRANT_CC_GRANT
  | SAF_GRANT_PC_GRANT
  | SAF_GRANT_CH_GRANT
  | SAF_BLOCK_BLOCK
  | SAF_DEG_REMAIN
  | SAF_DEG_FAULTS
  | SAF_UNLOCK_UNLOCK
  | SAF_EVENT_SF1_TRIP
  | SAF_EVENT_SF2_TRIP
  | SAF_EVENT_SF3_TRIP
  | SAF_EVENT_SF4_TRIP
  | SAF_EVENT_SF5_TRIP
  | SAF_EVENT_SF6_TRIP
  | SAF_EVENT_SF7_TRIP
  | SAF_EVENT_DIAG_FAULT
  | SAF_EVENT_DEG_ENTER
  | SAF_EVENT_DEG_EXPIRED
  | SAF_EVENT_RESET_OK
  | SAF_EVENT_RESET_REFUSED
  | SAF_EVENT_CONFIRMED
  | SAF_EVENT_WELD_FAIL
  | SAF_EVENT_UNLOCK_HELD
  | SAF_EVENT_ISO_WARNING
  | SAF_EVSET_SET
  | SAF_EVCNT_CNT
  | SAF_OTRIP_FUNC
  | SAF_OTRIP_DETAIL
  | SAF_OTRIP_WELD
  | SAF_OTRIP_GATE
  -- R396 (11_safety.md)
  | SIO_GATE_GATE
  | SIO_TPEN_EN
  | SIO_TPSTAT_FAULT
  | SIO_IN_IN
  | SIO_IN_FAULT
  | SIO_RAW_RAWA
  | SIO_RAW_RAWB
  | SIO_RESET_LEVEL
  | SIO_RESET_JAM
  | SIO_RESET_PRESSES
  | SIO_TPSEL_TP
  | SIO_DEB_SI_DEB
  | SIO_EVENT_SI_PULSE
  | SIO_EVENT_SI_CROSS
  | SIO_EVENT_SI_DISCREP
  | SIO_EVENT_TP_FAULT
  | SIO_EVENT_RESET_JAM
  | SIO_EVENT_RESET_PRESS
  | SIO_EVENT_HALT_SAFE
  | SIO_EVCNT_CNT
  -- R422 (12_load_switches.md)
  | LSW_CTRL_ISRC
  | LSW_STATUS_BANK_IN
  | LSW_STATUS_VB_OK
  | LSW_STATUS_LATCHED
  | LSW_ON_ON
  | LSW_FAULTMAP_FAULT
  | LSW_OPENMAP_OPEN
  | LSW_LATCHED_STATE
  | LSW_LATCHCTL_RELEASE
  | LSW_EVENT_SHORT
  | LSW_EVENT_OVERLOAD
  | LSW_EVENT_THERMAL
  | LSW_EVENT_OPEN_LOAD
  | LSW_EVENT_RETRY_EXHAUSTED
  | LSW_EVENT_ATTRIBUTED
  | LSW_EVENT_BANK_LIMIT
  | LSW_EVENT_BANK_OVERLOAD
  | LSW_EVENT_VBANK_LOW
  | LSW_EVENT_SWITCH_FAULT
  | LSW_EVENT_NO_CLAIM
  | LSW_EVENT_LATCH_TRIP
  | LSW_EVCNT_CNT
  | LSW_BSENSE_SEL
  | LSW_BSENSE_IBANK
  | LSW_BCMD_RESTORE
  -- R423 (12_load_switches.md)
  | LSW_CCFG_TYPE
  | LSW_CCFG_RETRY
  | LSW_CCFG_T_RETRY
  | LSW_CCFG_I_OL
  | LSW_CCFG_I_OPEN
  | LSW_CCFG2_T_PULL
  | LSW_CCFG2_I_HOLD
  | LSW_CCFG2_T_START
  | LSW_CCTRL_ON
  | LSW_CSTAT_STATE
  | LSW_CSTAT_OPEN
  | LSW_CSTAT_SAFETY
  | LSW_CSTAT_ATTR
  | LSW_CSTAT_CAUSE
  | LSW_CSTAT_LEFT
  | LSW_CSTAT_I
  | LSW_CTEMP_TJ
  | LSW_CTEMP_DUTY
  | LSW_CCNT_TRIPS
  | LSW_CCNT_ATTRIB
  -- R454 (13_host_protocol.md)
  | HST_CTRL_KA
  | HST_CTRL_TCP_RETRIES
  | HST_CTRL_MAJ1
  | HST_CTRL_MAJ2
  | HST_QUOTA_OBS
  | HST_QUOTA_OPR
  | HST_QUOTA_OEM
  | HST_QUOTA_VND
  | HST_TIMES_LOCK_IDLE
  | HST_LAYER_L
  | HST_STATUS_SESSIONS
  | HST_STATUS_HANDLES
  | HST_STATUS_LOCKSES
  | HST_EVENT_SESSION_OPEN
  | HST_EVENT_SESSION_REFUSED
  | HST_EVENT_SESSION_LOST
  | HST_EVENT_QUOTA_REFUSED
  | HST_EVENT_LOCK_LAPSED
  | HST_EVENT_EVENTS_LOST
  | HST_EVENT_HANDLE_EXPIRED
  | HST_EVCNT_CNT
  -- R455 (13_host_protocol.md)
  | HST_ADDR4_IP4
  | HST_NET_PFX4
  | HST_NET_PFX6
  | HST_GW4_GW4
  | HST_ADDR6_IP6
  | HST_GW6_GW6
  -- R492 (14_site_buses.md)
  | CAN_CCTRL_EN
  | CAN_CCTRL_FD
  | CAN_CCTRL_PEX
  | CAN_CCTRL_TDC
  | CAN_CCTRL_WAKE
  | CAN_CCTRL_MAXP
  | CAN_CNBT_NBRP
  | CAN_CNBT_NTSEG1
  | CAN_CNBT_NTSEG2
  | CAN_CNBT_NSJW
  | CAN_CDBT_DBRP
  | CAN_CDBT_DTSEG1
  | CAN_CDBT_DTSEG2
  | CAN_CDBT_DSJW
  | CAN_CTDC_TDCO
  | CAN_CTDC_TDCV
  | CAN_CSTAT_STATE
  | CAN_CSTAT_RECOV
  | CAN_CSTAT_SHADOW
  | CAN_CSTAT_TEC
  | CAN_CSTAT_REC
  | CAN_CLAYER_L
  | CAN_CLAYER_TMAX
  | CAN_CEVENT_BUS_OFF
  | CAN_CEVENT_BUS_ON
  | CAN_CEVENT_ERR_PASSIVE
  | CAN_CEVENT_CAN_FAILED
  | CAN_CEVENT_DEADLINE_LAPSED
  | CAN_CEVENT_SHADOW_MISMATCH
  | CAN_CEVENT_RX_OVERFLOW
  | CAN_CEVENT_PEX
  | CAN_CEVENT_TDC_RANGE
  | CAN_CEVENT_TX_REFUSED
  | CAN_CEVENT_WAKE
  | CAN_CEVENT_REMOTE_RX
  | CAN_CPEND_PEND
  | CAN_CWID_ID
  | CAN_CWID_IDE
  | CAN_CWMASK_MASK
  | CAN_CWDATA_DATA
  | CAN_CWDATA_DMASK
  | CAN_CEVCNT_CNT
  -- R493 (14_site_buses.md)
  | CAN_MBHDR_ID
  | CAN_MBHDR_IDE
  | CAN_MBHDR_FDF
  | CAN_MBHDR_BRS
  | CAN_MBCTRL_DLC
  | CAN_MBCTRL_DL_EN
  | CAN_MBCTRL_GO
  | CAN_MBCTRL_ABORT
  | CAN_MBCTRL_STATE
  | CAN_MBDL_LO_ANGLE
  | CAN_MBDL_HI_CYCLE
  | CAN_MBDATA_DATA
  | CAN_FLT_ID_ID
  | CAN_FLT_ID_IDE
  | CAN_FLT_ID_EN
  | CAN_FLT_MASK_MASK
  -- R494 (14_site_buses.md)
  | MCC_CTRL_EN
  | MCC_CTRL_SLOT_HC
  | MCC_CTRL_NSLOT
  | MCC_CTRL_GUARD
  | MCC_CTRL_SLOT_OFS
  | MCC_RETRY_RTRY
  | MCC_RETRY_ALT
  | MCC_RETRY_MAXHOP
  | MCC_RETRY_JOIN
  | MCC_REACH_REACH
  | MCC_REACH_L
  | MCC_MASK_MASK_BW
  | MCC_MASK_TXLVL
  | MCC_TMASK_LO_MASK
  | MCC_TMASK_HI_MASK
  | MCC_TMASK_HI_MASK_SEQ
  | MCC_STATUS_NODES
  | MCC_STATUS_FE_OK
  | MCC_EVENT_NODE_JOIN
  | MCC_EVENT_NODE_LOST
  | MCC_EVENT_ROUTE_CHANGE
  | MCC_EVENT_CRC_FAIL
  | MCC_EVENT_FE_FAULT
  | MCC_EVENT_JOIN_REFUSED
  | MCC_EVENT_MASK_CHANGE
  | MCC_EVENT_MASK_NARROW
  | MCC_EVENT_WAKE_RX
  | MCC_EVCNT_CNT
  | MCC_NEUI_LO_EUI
  | MCC_NEUI_HI_EUI
  | MCC_NSTAT_STATE
  | MCC_NSTAT_PHASE
  | MCC_NSTAT_MOD
  | MCC_NSTAT_TM
  | MCC_NSTAT_LQI
  | MCC_NSTAT_HOPS
  | MCC_NSTAT_REFUSE
  | MCC_NROUTE_REP1
  | MCC_NROUTE_REP2
  | MCC_NROUTE_REP3
  -- R521 (15_gatehouse_keys.md)
  | KEY_STATUS_LC
  | KEY_STATUS_SELFTEST_OK
  | KEY_STATUS_RNG_OK
  | KEY_STATUS_BUSY
  | KEY_SPARE_OPS
  | KEY_CTX0_VEH
  | KEY_CTX0_HOST
  | KEY_CTX0_HEAD
  | KEY_CTX0_LANE
  | KEY_CTX1_NODE
  | KEY_CTX1_SPARE
  | KEY_EVENT_UPDATE_DONE
  | KEY_EVENT_UPDATE_REFUSED
  | KEY_EVENT_ORPHANED
  | KEY_EVENT_CTX_FULL
  | KEY_EVENT_LC_ADVANCE
  | KEY_EVENT_SELFTEST_FAIL
  | KEY_EVENT_RNG_FAIL
  | KEY_EVENT_REQ_REFUSED
  | KEY_RESULT_CODE
  | KEY_RESULT_SLOT
  | KEY_EVCNT_CNT
  -- R522 (15_gatehouse_keys.md)
  | KEY_SATTR_ATTR
  | KEY_SINFO_ALG
  | KEY_SINFO_CHILDREN
  -- R545 (16_update_startup.md)
  | UPD_CTRL_WARM
  | UPD_CTRL_SL_WAIT
  | UPD_STATUS_ACTIVE
  | UPD_STATUS_TRIAL
  | UPD_STATUS_TRIAL_SLOT
  | UPD_STATUS_PREV_VALID
  | UPD_STATUS_STAGED
  | UPD_STATUS_PENDING_PARAM
  | UPD_STATUS_BOOTED
  | UPD_STATUS_FALLBACK
  | UPD_STATUS_PHASE
  | UPD_BUILD_BUILD
  | UPD_RESULT_CODE
  | UPD_RESULT_PART
  | UPD_OLDPROG_OUTLETS
  | UPD_OLDSAF_OUTLETS
  | UPD_BOOTTIME_MS
  | UPD_STAGEOFS_BYTES
  | UPD_EVENT_STAGE_DONE
  | UPD_EVENT_STAGE_FAIL
  | UPD_EVENT_ACT_DONE
  | UPD_EVENT_ACT_FAIL
  | UPD_EVENT_BOOT_FALLBACK
  | UPD_EVENT_IMAGE_RECOVERED
  | UPD_EVENT_PARAM_LOST
  | UPD_EVENT_SWITCHED
  | UPD_EVCNT_CNT
  | UPD_RB_COUNTER
  -- R568 (17_power_reset.md)
  | AON_CTRL_IDLE_T
  | AON_CTRL_IDLE_EN
  | AON_WAKEEN_EN
  | AON_STATE_STATE
  | AON_STATE_REG_LP
  | AON_STATE_LATCHED
  | AON_STATE_IDLE_S
  | AON_PADCTL_RELEASE
  | AON_WAKESRC_SRC
  | AON_SLEEP_BLOCK
  | AON_SLEEP_REASON
  | AON_SLEEP_ATTEMPTS
  | AON_CAUSE_CAUSE
  | AON_CAUSE_PCAUSE_A
  | AON_CAUSE_PCAUSE_B
  | AON_SUPPLY_VIO33A_OK
  | AON_SUPPLY_VIO33B_OK
  | AON_SUPPLY_VCB_OK
  | AON_UNIT_LO_UNIT
  | AON_UNIT_HI_UNIT
  | AON_EVENT_NIGHT_ENTER
  | AON_EVENT_WAKE
  | AON_EVENT_SLEEP_REFUSED
  | AON_EVENT_VIO33_LOSS
  | AON_EVENT_PAV_RESET
  | AON_EVCNT_CNT
  -- R569 (17_power_reset.md)
  | SYS_ENGCTL_START
  | SYS_ENGSTAT_RUNNING
  | SYS_ENGSTAT_GATED
  | SYS_HALT_HALT
  | SYS_COMMIT_GO
  | SYS_COMMIT_BUSY
  | SYS_COMMIT_RESULT
  | SYS_COMMIT_DETAIL
  | SYS_RSTCTL_PRESET
  | SYS_SUPPLY_VCORE_OK
  | SYS_SUPPLY_VSER_OK
  | SYS_SUPPLY_VIO18_OK
  | SYS_SUPPLY_VIO33_OK
  | SYS_SUPPLY_WARN
  | SYS_ECC_SINGLE
  | SYS_ECC_DOUBLE
  | SYS_BUSERR_COUNT
  | SYS_BOOT_BOOT
  | SYS_ROUTE_TAG
  | SYS_ROUTE_BIT
  | SYS_ROUTE_EN
  | SYS_EPC_PC
  | SYS_ECAUSE_CAUSE
  | SYS_ECAUSE_SECOND
  | SYS_EADDR_EADDR
  deriving DecidableEq, Repr

/-- A field of a register the spec lists once. -/
@[reducible] def FieldInfo.at (b : Blk) (base lo width : Nat) (a : Access) (h : Home) (rst : Nat := 0) (dims : List (Nat × Nat) := [])
    (kept : Bool := false) : FieldInfo :=
  FieldInfo.mk b base dims lo width a h rst kept

/-- The register tables of the spec, field by field. -/
def Field.info : Field → FieldInfo
  | .GSP_CTRL_EN => .at .GSP 0x0 0 6 .RWL .copy
  | .GSP_CTRL_DIV => .at .GSP 0x0 8 5 .RWL .copy 0x14
  | .GSP_CTRL_OSR => .at .GSP 0x0 16 2 .RWL .copy 1
  | .GSP_CTRL_DELAY => .at .GSP 0x0 20 3 .RWL .copy
  | .GSP_STATUS_ACTIVE => .at .GSP 0x4 0 6 .RO .com
  | .GSP_STATUS_PLAUS => .at .GSP 0x4 8 1 .RO .com
  | .GSP_EVENT_STUCK => .at .GSP 0x8 0 1 .W1C .com
  | .GSP_EVENT_IMPLAUS => .at .GSP 0x8 1 1 .W1C .com
  | .GSP_EVCNT_CNT => .at .GSP 0xc 0 16 .RO .com 0 [(0x4, 2)]
  | .GSP_VNOM_VNOM_PK => .at .GSP 0x14 0 16 .RWL .copy
  | .GSP_ZCADJ_ZCADJ => .at .GSP 0x18 0 16 .RWL .copy
  | .GSP_GAIN_GAIN => .at .GSP 0x20 0 32 .RWL .copy 0x40000000 [(0x10, 6)]
  | .GSP_OFFS_OFFS => .at .GSP 0x24 0 32 .RWL .copy 0 [(0x10, 6)]
  | .GSP_FS_FS => .at .GSP 0x28 0 32 .RWL .copy 0 [(0x10, 6)]
  | .GSP_DATA_DATA => .at .GSP 0x2c 0 32 .RO .com 0 [(0x10, 6)]
  | .SDL_CTRL_NOMF => .at .SDL 0x0 0 1 .RWL .copy
  | .SDL_MULT_N => .at .SDL 0x4 0 12 .RWL .copy
  | .SDL_HALFMASK_HALF => .at .SDL 0x8 0 32 .RWL .copy
  | .SDL_STATUS_LOCKED => .at .SDL 0xc 0 1 .RO .com
  | .SDL_STATUS_FREE_RUN => .at .SDL 0xc 1 1 .RO .com
  | .SDL_STATUS_HOLD => .at .SDL 0xc 2 1 .RO .com
  | .SDL_STATUS_SLEW => .at .SDL 0xc 3 1 .RO .com
  | .SDL_STATUS_FIRST_LOCK => .at .SDL 0xc 4 1 .RO .com
  | .SDL_STATUS_XTAL => .at .SDL 0xc 5 1 .RO .com
  | .SDL_EVENT_GRID_LOST => .at .SDL 0x10 0 1 .W1C .loc
  | .SDL_EVENT_GRID_BACK => .at .SDL 0x10 1 1 .W1C .loc
  | .SDL_EVENT_PHASE_JUMP => .at .SDL 0x10 2 1 .W1C .loc
  | .SDL_EVENT_JUMP_TRANSIENT => .at .SDL 0x10 3 1 .W1C .loc
  | .SDL_EVENT_EV_LATE => .at .SDL 0x10 4 1 .W1C .loc
  | .SDL_EVENT_FREQ_RANGE => .at .SDL 0x10 5 1 .W1C .loc
  | .SDL_TIME_LO_ANGLE => .at .SDL 0x14 0 32 .RO .com
  | .SDL_TIME_HI_CYCLE => .at .SDL 0x18 0 32 .RO .com
  | .SDL_FREQ_FREQ => .at .SDL 0x1c 0 32 .RO .com
  | .SDL_PHERR_PHERR => .at .SDL 0x20 0 32 .RO .com
  | .SDL_JUMP_JUMP => .at .SDL 0x24 0 32 .RO .com
  | .SDL_SITEIDX_S => .at .SDL 0x28 0 12 .RO .com
  | .SDL_EVCNT_CNT => .at .SDL 0x40 0 16 .RO .loc 0 [(0x4, 6)]
  | .SDL_STIME_LO_TIME_LO => .at .SDL 0x100 0 32 .RW .loc 0 [(0x10, 64)]
  | .SDL_STIME_HI_TIME_HI => .at .SDL 0x104 0 32 .RW .loc 0 [(0x10, 64)]
  | .SDL_SCTRL_ARM => .at .SDL 0x108 0 1 .RW .loc 0 [(0x10, 64)]
  | .SDL_SCTRL_MODE => .at .SDL 0x108 1 2 .RW .loc 0 [(0x10, 64)]
  | .SDL_SCTRL_TARGET => .at .SDL 0x108 4 4 .RW .loc 0 [(0x10, 64)]
  | .SDL_SCTRL_ENGINE => .at .SDL 0x108 8 4 .RW .loc 0 [(0x10, 64)]
  | .SDL_SCTRL_QUEUE => .at .SDL 0x108 12 3 .RW .loc 0 [(0x10, 64)]
  | .SDL_SCTRL_OFFSET => .at .SDL 0x108 16 16 .RW .loc 0 [(0x10, 64)]
  | .SDL_SFIRES_FIRES => .at .SDL 0x10c 0 16 .RO .loc 0 [(0x10, 64)]
  | .FBR_CTRL_MODE => .at .FBR 0x0 0 1 .RWL .loc
  | .FBR_CTRL_HOME => .at .FBR 0x0 1 1 .RWL .loc
  | .FBR_CTRL_REVERT => .at .FBR 0x0 2 1 .RWL .loc 1
  | .FBR_HOLD_HOLD => .at .FBR 0x4 0 16 .RWL .loc 0x64
  | .FBR_VWIN_VWIN => .at .FBR 0x8 0 16 .RWL .loc 0x7d0
  | .FBR_STATUS_ROLE => .at .FBR 0xc 0 3 .RO .loc
  | .FBR_STATUS_PEER_ROLE => .at .FBR 0xc 4 3 .RO .loc
  | .FBR_STATUS_LEASE_VALID => .at .FBR 0xc 8 1 .RO .loc
  | .FBR_STATUS_DIVERGENT => .at .FBR 0xc 9 1 .RO .loc
  | .FBR_STATUS_CH0_OK => .at .FBR 0xc 10 1 .RO .loc
  | .FBR_STATUS_CH1_OK => .at .FBR 0xc 11 1 .RO .loc
  | .FBR_STATUS_REDUNDANT => .at .FBR 0xc 12 1 .RO .loc
  | .FBR_STATUS_PEER_LIVE => .at .FBR 0xc 13 1 .RO .loc
  | .FBR_STATUS_REF_A => .at .FBR 0xc 14 1 .RO .loc 1
  | .FBR_STATUS_REF_B => .at .FBR 0xc 15 1 .RO .loc 1
  | .FBR_EVENT_DIVERGE => .at .FBR 0x10 0 1 .W1C .loc
  | .FBR_EVENT_TAKEOVER => .at .FBR 0x10 1 1 .W1C .loc
  | .FBR_EVENT_YIELD => .at .FBR 0x10 2 1 .W1C .loc
  | .FBR_EVENT_LEASE_EXPIRED => .at .FBR 0x10 3 1 .W1C .loc
  | .FBR_EVENT_CH_FAULT => .at .FBR 0x10 4 1 .W1C .loc
  | .FBR_EVENT_LOG_GAP => .at .FBR 0x10 5 1 .W1C .loc
  | .FBR_EVENT_LATE_FRAME => .at .FBR 0x10 6 1 .W1C .loc
  | .FBR_EVENT_COPY_MISMATCH => .at .FBR 0x10 7 1 .W1C .loc
  | .FBR_EVENT_REF_TIMEOUT => .at .FBR 0x10 8 1 .W1C .loc
  | .FBR_EVENT_REF_IGNORED => .at .FBR 0x10 9 1 .W1C .loc
  | .FBR_EVENT_CLAIM_EXHAUSTED => .at .FBR 0x10 10 1 .W1C .loc
  | .FBR_EVENT_HANDBACK => .at .FBR 0x10 11 1 .W1C .loc
  | .FBR_EVENT_LOG_HELD => .at .FBR 0x10 12 1 .W1C .loc
  | .FBR_CAUSE_CAUSE => .at .FBR 0x14 0 8 .RO .loc 0 [] true
  | .FBR_CLAIM_STORED => .at .FBR 0x18 0 32 .RO .loc 0 [] true
  | .FBR_PRESENT_OWN => .at .FBR 0x1c 0 32 .RO .loc
  | .FBR_PEERCLAIM_PEER => .at .FBR 0x20 0 32 .RO .loc
  | .FBR_LEASEAGE_AGE => .at .FBR 0x24 0 16 .RO .loc 0xffff
  | .FBR_SEQ_LO_SEQ => .at .FBR 0x28 0 32 .RO .loc
  | .FBR_SEQ_HI_SEQ => .at .FBR 0x2c 0 32 .RO .loc
  | .FBR_HEALTHY_TIME => .at .FBR 0x30 0 32 .RO .loc
  | .FBR_DIG_OWN_DIGEST => .at .FBR 0x34 0 32 .RO .loc
  | .FBR_DIG_PEER_DIGEST => .at .FBR 0x38 0 32 .RO .loc
  | .FBR_SETASIDE_COUNT => .at .FBR 0x3c 0 8 .RO .loc 0 [] true
  | .FBR_EVCNT_CNT => .at .FBR 0x40 0 16 .RO .loc 0 [(0x4, 13)]
  | .FBR_CMD_YIELD => .at .FBR 0x80 0 1 .WO .loc
  | .FBR_CMD_REJOIN => .at .FBR 0x80 1 1 .WO .loc
  | .STG_CTRL_LEASE => .at .STG 0x0 0 4 .RWL .rep 3
  | .STG_CTRL_AUTHREQ => .at .STG 0x0 4 1 .RWL .rep 1
  | .STG_CTRL_CMP => .at .STG 0x0 5 1 .RWL .rep
  | .STG_CTRL_VERS => .at .STG 0x0 6 2 .RWL .rep 3
  | .STG_MAXDLY_DLY => .at .STG 0x4 0 8 .RWL .rep 0x3c
  | .STG_RETRY_RTO => .at .STG 0x8 0 8 .RWL .rep 0x40
  | .STG_RETRY_RCNT => .at .STG 0x8 8 4 .RWL .rep 3
  | .STG_ZC_ZC_LIM => .at .STG 0xc 0 16 .RWL .rep 0x64
  | .STG_ZC_ZC_CYC => .at .STG 0xc 16 8 .RWL .rep 8
  | .STG_EVENT_LANE_DOWN => .at .STG 0x10 0 1 .W1C .rep
  | .STG_EVENT_LANE_UP => .at .STG 0x10 1 1 .W1C .rep
  | .STG_EVENT_NEW_ENDPOINT => .at .STG 0x10 2 1 .W1C .rep
  | .STG_EVENT_NO_VERSION => .at .STG 0x10 3 1 .W1C .rep
  | .STG_EVENT_AUTH_FAIL => .at .STG 0x10 4 1 .W1C .rep
  | .STG_EVENT_LANE_SLOW => .at .STG 0x10 5 1 .W1C .rep
  | .STG_EVENT_LANE_MISMATCH => .at .STG 0x10 6 1 .W1C .rep
  | .STG_EVENT_STALE => .at .STG 0x10 7 1 .W1C .rep
  | .STG_EVENT_FRAME_ERR => .at .STG 0x10 8 1 .W1C .rep
  | .STG_EVENT_ROUTE_FAULT => .at .STG 0x10 9 1 .W1C .rep
  | .STG_EVENT_ROUTE_HELD => .at .STG 0x10 10 1 .W1C .rep
  | .STG_EVENT_MSG_FAIL => .at .STG 0x10 11 1 .W1C .rep
  | .STG_EVENT_LINK_LOST => .at .STG 0x10 12 1 .W1C .rep
  | .STG_EVENT_DISC_REFUSED => .at .STG 0x10 13 1 .W1C .rep
  | .STG_ACTIVE_ACT => .at .STG 0x14 0 32 .RO .rep
  | .STG_LANEA_UP => .at .STG 0x18 0 32 .RO .rep
  | .STG_LANEB_UP => .at .STG 0x1c 0 32 .RO .rep
  | .STG_EVCNT_CNT => .at .STG 0x40 0 16 .RO .rep 0 [(0x4, 14)]
  | .STG_LCFG_EN_LINK => .at .STG 0x100 0 1 .RWL .rep 1 [(0x20, 32)]
  | .STG_LCFG_LANES => .at .STG 0x100 1 1 .RWL .rep 0 [(0x20, 32)]
  | .STG_LCFG_RESTART => .at .STG 0x100 2 1 .WO .rep 0 [(0x20, 32)]
  | .STG_LSTATE_STATE => .at .STG 0x104 0 3 .RW .rep 0 [(0x20, 32)]
  | .STG_LSTATE_VER => .at .STG 0x104 4 2 .RO .rep 0 [(0x20, 32)]
  | .STG_LSTATE_SLEN => .at .STG 0x104 8 8 .RO .rep 0x38 [(0x20, 32)]
  | .STG_LSTATE_CLEN => .at .STG 0x104 16 8 .RO .rep 0x2a [(0x20, 32)]
  | .STG_LSTATE_NPH => .at .STG 0x104 24 4 .RO .rep 0 [(0x20, 32)]
  | .STG_LDLY_DLY_A => .at .STG 0x108 0 16 .RO .rep 0 [(0x20, 32)]
  | .STG_LDLY_DLY_B => .at .STG 0x108 16 16 .RO .rep 0 [(0x20, 32)]
  | .STG_LUNIT_LO_UNIT => .at .STG 0x10c 0 32 .RO .rep 0 [(0x20, 32)]
  | .STG_LUNIT_HI_UNIT => .at .STG 0x110 0 32 .RO .rep 0 [(0x20, 32)]
  | .STG_LERR_ERR_A => .at .STG 0x114 0 16 .RO .rep 0 [(0x20, 32)]
  | .STG_LERR_ERR_B => .at .STG 0x114 16 16 .RO .rep 0 [(0x20, 32)]
  | .STG_LMSG_MTID => .at .STG 0x118 0 8 .RW .rep 0 [(0x20, 32)]
  | .STG_LMSG_LEN => .at .STG 0x118 8 8 .RW .rep 0 [(0x20, 32)]
  | .STG_LMSG_GO => .at .STG 0x118 16 1 .WO .rep 0 [(0x20, 32)]
  | .STG_LMSG_BUSY => .at .STG 0x118 17 1 .RO .rep 0 [(0x20, 32)]
  | .STG_LMSG_DONE => .at .STG 0x118 18 1 .RO .rep 0 [(0x20, 32)]
  | .STG_LMSG_FAIL => .at .STG 0x118 19 1 .RO .rep 0 [(0x20, 32)]
  | .STG_LMSG_RLEN => .at .STG 0x118 24 8 .RO .rep 0 [(0x20, 32)]
  | .STG_LMISS_MISS => .at .STG 0x11c 0 16 .RO .rep 0 [(0x20, 32)]
  | .CTL_CTRL_LOST_CYC => .at .CTL 0x0 0 4 .RWL .rep 2
  | .CTL_CTRL_FRZ_DUTY => .at .CTL 0x0 16 16 .RWL .rep 0x400
  | .CTL_SHORT_FRAC => .at .CTL 0x4 0 8 .RWL .rep 0xa
  | .CTL_SHORT_TIME => .at .CTL 0x4 8 16 .RWL .rep 0x32
  | .CTL_SHORT_ATLIM => .at .CTL 0x4 24 8 .RWL .rep 0x5a
  | .CTL_SS_ILIM => .at .CTL 0x8 0 16 .RWL .rep 0xc8
  | .CTL_SS_ICLIM => .at .CTL 0x8 16 16 .RWL .rep 0x5dc
  | .CTL_SS2_OC => .at .CTL 0xc 0 8 .RWL .rep 0x96
  | .CTL_SS2_RATE => .at .CTL 0xc 8 16 .RWL .rep 0x32
  | .CTL_XCHK_TOL => .at .CTL 0x10 0 8 .RWL .rep 0x14
  | .CTL_XCHK_OFS => .at .CTL 0x10 8 8 .RWL .rep 0xa
  | .CTL_XCHK_BLK => .at .CTL 0x10 16 4 .RWL .rep 3
  | .CTL_LAYER_LSUB => .at .CTL 0x14 0 9 .RO .rep
  | .CTL_LAYER_SHORT_CYC => .at .CTL 0x14 16 16 .RO .rep
  | .CTL_EVENT_FEEDBACK_LOST => .at .CTL 0x18 0 1 .W1C .rep
  | .CTL_EVENT_FEEDBACK_FROZEN => .at .CTL 0x18 1 1 .W1C .rep
  | .CTL_EVENT_SHORT_SOFTSTART => .at .CTL 0x18 2 1 .W1C .rep
  | .CTL_EVENT_SS_OVERCURRENT => .at .CTL 0x18 3 1 .W1C .rep
  | .CTL_EVENT_VOLTAGE_DISAGREE => .at .CTL 0x18 4 1 .W1C .rep
  | .CTL_EVENT_RAMP_DONE => .at .CTL 0x18 5 1 .W1C .rep
  | .CTL_EVENT_SWAP_DONE => .at .CTL 0x18 6 1 .W1C .rep
  | .CTL_EVENT_SWAP_REFUSED => .at .CTL 0x18 7 1 .W1C .rep
  | .CTL_EVENT_INJ_DONE => .at .CTL 0x18 8 1 .W1C .rep
  | .CTL_EVENT_CAP_DONE => .at .CTL 0x18 9 1 .W1C .rep
  | .CTL_XDIS_DIS => .at .CTL 0x1c 0 24 .WO .rep
  | .CTL_EVCNT_CNT => .at .CTL 0x40 0 16 .RO .rep 0 [(0x4, 10)]
  | .CTL_INJCTRL_OUTLET => .at .CTL 0x100 0 5 .RW .rep 0 [(0x20, 4)]
  | .CTL_INJCTRL_POINT => .at .CTL 0x100 6 2 .RW .rep 0 [(0x20, 4)]
  | .CTL_INJCTRL_WAVE => .at .CTL 0x100 8 3 .RW .rep 0 [(0x20, 4)]
  | .CTL_INJCTRL_GO => .at .CTL 0x100 16 1 .WO .rep 0 [(0x20, 4)]
  | .CTL_INJCTRL_STOP => .at .CTL 0x100 17 1 .WO .rep 0 [(0x20, 4)]
  | .CTL_INJCTRL_ACTIVE => .at .CTL 0x100 18 1 .RO .rep 0 [(0x20, 4)]
  | .CTL_INJCTRL_END => .at .CTL 0x100 20 2 .RO .rep 0 [(0x20, 4)]
  | .CTL_INJAMP_AMP => .at .CTL 0x104 0 32 .RW .rep 0 [(0x20, 4)]
  | .CTL_INJFREQ_FREQ => .at .CTL 0x108 0 32 .RW .rep 0 [(0x20, 4)]
  | .CTL_INJSTEP_STEP => .at .CTL 0x10c 0 32 .RW .rep 0 [(0x20, 4)]
  | .CTL_INJSTART_START => .at .CTL 0x110 0 32 .RW .rep 0 [(0x20, 4)]
  | .CTL_INJLEN_LEN => .at .CTL 0x114 0 24 .RW .rep 0 [(0x20, 4)]
  | .CTL_CAPCTRL_ARM => .at .CTL 0x200 0 1 .WO .rep 0 [(0x40, 4)]
  | .CTL_CAPCTRL_FIRE => .at .CTL 0x200 1 1 .WO .rep 0 [(0x40, 4)]
  | .CTL_CAPCTRL_STOP => .at .CTL 0x200 2 1 .WO .rep 0 [(0x40, 4)]
  | .CTL_CAPCTRL_TRIG => .at .CTL 0x200 4 3 .RW .rep 0 [(0x40, 4)]
  | .CTL_CAPCTRL_EDGE => .at .CTL 0x200 7 1 .RW .rep 0 [(0x40, 4)]
  | .CTL_CAPCTRL_DEC => .at .CTL 0x200 8 8 .RW .rep 1 [(0x40, 4)]
  | .CTL_CAPCTRL_STATE => .at .CTL 0x200 16 3 .RO .rep 0 [(0x40, 4)]
  | .CTL_CAPCTRL_GOUTLET => .at .CTL 0x200 24 5 .RW .rep 0x1f [(0x40, 4)]
  | .CTL_CAPBASE_BASE => .at .CTL 0x204 0 6 .RWL .rep 0 [(0x40, 4)]
  | .CTL_CAPSIZE_SIZE => .at .CTL 0x208 0 5 .RWL .rep 0 [(0x40, 4)]
  | .CTL_CAPSIZE_PRE => .at .CTL 0x208 16 16 .RW .rep 0 [(0x40, 4)]
  | .CTL_CAPTRIG_TRIG => .at .CTL 0x20c 0 32 .RW .rep 0 [(0x40, 4)]
  | .CTL_CAPCOUNT_COUNT => .at .CTL 0x210 0 32 .RO .rep 0 [(0x40, 4)]
  | .CTL_CAPSRC_KIND => .at .CTL 0x220 0 4 .RW .rep 0 [(0x40, 4), (0x4, 8)]
  | .CTL_CAPSRC_IDX => .at .CTL 0x220 4 5 .RW .rep 0 [(0x40, 4), (0x4, 8)]
  | .CTL_CAPSRC_HW => .at .CTL 0x220 9 6 .RW .rep 0 [(0x40, 4), (0x4, 8)]
  | .CTL_OMODE_MODE => .at .CTL 0x400 0 4 .RW .rep 0 [(0x20, 24)]
  | .CTL_OMODE_SOFT => .at .CTL 0x400 4 1 .RO .rep 0 [(0x20, 24)]
  | .CTL_OMODE_RAMP => .at .CTL 0x400 5 1 .RO .rep 0 [(0x20, 24)]
  | .CTL_OMODE_STOPPED => .at .CTL 0x400 6 1 .RO .rep 0 [(0x20, 24)]
  | .CTL_OMODE_CAUSE => .at .CTL 0x400 8 8 .RO .rep 0 [(0x20, 24)]
  | .CTL_OVTGT_VTGT => .at .CTL 0x404 0 16 .RW .rep 0 [(0x20, 24)]
  | .CTL_OILIM_VEHI => .at .CTL 0x408 0 16 .RW .rep 0 [(0x20, 24)]
  | .CTL_OIOUT_IOUT => .at .CTL 0x40c 0 32 .RO .rep 0 [(0x20, 24)]
  | .CTL_OVOUT_VOUT => .at .CTL 0x410 0 32 .RO .rep 0 [(0x20, 24)]
  | .CTL_OSWAP_APPLY => .at .CTL 0x414 0 32 .RW .rep 0 [(0x20, 24)]
  | .CTL_OSWCTL_GO => .at .CTL 0x418 0 1 .WO .rep 0 [(0x20, 24)]
  | .CTL_OSWCTL_PEND => .at .CTL 0x418 1 1 .RO .rep 0 [(0x20, 24)]
  | .CTL_OSWCTL_RESULT => .at .CTL 0x418 4 4 .RO .rep 0 [(0x20, 24)]
  | .CTL_OSWCTL_ENGINE => .at .CTL 0x418 8 4 .RO .rep 0 [(0x20, 24)]
  | .CTL_OSWCTL_ADDR => .at .CTL 0x418 16 13 .RO .rep 0 [(0x20, 24)]
  | .CTL_ORBUS_RBUS => .at .CTL 0x41c 0 16 .RWL .rep 0 [(0x20, 24)]
  | .CTL_GFEED_NF_RUN => .at .CTL 0x800 0 8 .RO .rep 0 [(0x4, 32)]
  | .CTL_GFEED_FRESH => .at .CTL 0x800 8 1 .RO .rep 0 [(0x4, 32)]
  | .CTL_GFEED_OUTLET => .at .CTL 0x800 16 5 .RO .rep 0x1f [(0x4, 32)]
  | .CTL_GFEED_FRZ_RUN => .at .CTL 0x800 24 7 .RO .rep 0 [(0x4, 32)]
  | .CTL_HFRZ_FRZ => .at .CTL 0x880 0 32 .W1C .rep
  | .CTL_HLOST_LOST => .at .CTL 0x884 0 16 .RO .rep
  | .CTL_ACTRL_CUT_PCT => .at .CTL 0x900 0 8 .RWL .rep 2
  | .CTL_ACTRL_FB_PCT => .at .CTL 0x900 8 8 .RWL .rep 0x50
  | .CTL_ACTRL_LATE_FB => .at .CTL 0x900 16 4 .RWL .rep 3
  | .CTL_ACTRL_BLIND_PCT => .at .CTL 0x900 24 8 .RWL .rep 5
  | .CTL_PCONN_PCONN => .at .CTL 0x904 0 16 .RWL .rep
  | .CTL_POOLRATE_RATE => .at .CTL 0x908 0 16 .RWL .rep 0x14
  | .CTL_INVTOL_TOL => .at .CTL 0x90c 0 8 .RWL .rep 5
  | .CTL_INVTOL_CYC => .at .CTL 0x90c 8 8 .RWL .rep 0x10
  | .CTL_PBASE_BASE => .at .CTL 0x910 0 32 .RO .rep
  | .CTL_PSTAT_RESULT => .at .CTL 0x914 0 4 .RO .rep
  | .CTL_PSTAT_INFORCE => .at .CTL 0x914 4 1 .RO .rep
  | .CTL_PSITE_LIMIT => .at .CTL 0x918 0 16 .RW .rep
  | .CTL_FRESH_FE => .at .CTL 0x91c 0 4 .RWL .rep 2
  | .CTL_FRESH_COOL => .at .CTL 0x91c 8 8 .RWL .rep 0x32
  | .CTL_FRESH_STALE_PCT => .at .CTL 0x91c 16 8 .RWL .rep 0x32
  | .CTL_AEVENT_PARTERRE_LATE => .at .CTL 0x920 0 1 .W1C .rep
  | .CTL_AEVENT_PARTERRE_REFUSED => .at .CTL 0x920 1 1 .W1C .rep
  | .CTL_AEVENT_PARTERRE_FALLBACK => .at .CTL 0x920 2 1 .W1C .rep
  | .CTL_AEVENT_IMPORT_CUT => .at .CTL 0x920 3 1 .W1C .rep
  | .CTL_AEVENT_CUT_RELEASED => .at .CTL 0x920 4 1 .W1C .rep
  | .CTL_AEVENT_INV_BREACH => .at .CTL 0x920 5 1 .W1C .rep
  | .CTL_AEVENT_HEAD_STALE => .at .CTL 0x920 6 1 .W1C .rep
  | .CTL_AEVCNT_CNT => .at .CTL 0x940 0 16 .RO .rep 0 [(0x4, 7)]
  | .CTL_OVEH_IMAX => .at .CTL 0xa00 0 16 .RW .rep 0 [(0x10, 24)]
  | .CTL_OVEH_PMAX => .at .CTL 0xa00 16 16 .RW .rep 0 [(0x10, 24)]
  | .CTL_OVEHV_VMAX => .at .CTL 0xa04 0 16 .RW .rep 0 [(0x10, 24)]
  | .CTL_OVEHV_IEXP => .at .CTL 0xa04 16 16 .RW .rep 0 [(0x10, 24)]
  | .CTL_OHEAD_HEAD => .at .CTL 0xa08 0 16 .RO .rep 0 [(0x10, 24)]
  | .CTL_OHEAD_TC => .at .CTL 0xa08 16 16 .RO .rep 0 [(0x10, 24)]
  | .CTL_GWIRE_BUS0 => .at .CTL 0xc00 0 5 .RWL .rep 0x1f [(0x4, 32)]
  | .CTL_GWIRE_BUS1 => .at .CTL 0xc00 5 5 .RWL .rep 0x1f [(0x4, 32)]
  | .CTL_GWIRE_BUS2 => .at .CTL 0xc00 10 5 .RWL .rep 0x1f [(0x4, 32)]
  | .CTL_GWIRE_BUS3 => .at .CTL 0xc00 15 5 .RWL .rep 0x1f [(0x4, 32)]
  | .CTL_GWIRE_CAB => .at .CTL 0xc00 20 4 .RWL .rep 0xf [(0x4, 32)]
  | .DLK_CTRL_VERS => .at .DLK 0x0 0 3 .RWL .rep 7
  | .DLK_CTRL_AUTHREQ => .at .DLK 0x0 3 1 .RWL .rep 1
  | .DLK_CTRL_RTO => .at .DLK 0x0 8 8 .RWL .rep 0x14
  | .DLK_CTRL_RCNT => .at .DLK 0x0 16 3 .RWL .rep 3
  | .DLK_SUP_SUP => .at .DLK 0x4 0 16 .RWL .rep 0xc8
  | .DLK_SUP_L => .at .DLK 0x4 16 16 .RO .rep 0x50
  | .DLK_EVENT_LANE_DOWN => .at .DLK 0x8 0 1 .W1C .rep
  | .DLK_EVENT_LANE_UP => .at .DLK 0x8 1 1 .W1C .rep
  | .DLK_EVENT_NEW_DISPENSER => .at .DLK 0x8 2 1 .W1C .rep
  | .DLK_EVENT_NO_VERSION => .at .DLK 0x8 3 1 .W1C .rep
  | .DLK_EVENT_AUTH_FAIL => .at .DLK 0x8 4 1 .W1C .rep
  | .DLK_EVENT_LANE_MISMATCH => .at .DLK 0x8 5 1 .W1C .rep
  | .DLK_EVENT_DLP_FAIL => .at .DLK 0x8 6 1 .W1C .rep
  | .DLK_EVENT_LINK_LOST => .at .DLK 0x8 7 1 .W1C .rep
  | .DLK_EVENT_PROTO_ERR => .at .DLK 0x8 8 1 .W1C .rep
  | .DLK_EVENT_COOL_FAULT => .at .DLK 0x8 9 1 .W1C .rep
  | .DLK_ACTIVE_ACT => .at .DLK 0xc 0 12 .RO .rep
  | .DLK_LANEA_UP => .at .DLK 0x10 0 12 .RO .rep
  | .DLK_LANEB_UP => .at .DLK 0x14 0 12 .RO .rep
  | .DLK_EVCNT_CNT => .at .DLK 0x40 0 16 .RO .rep 0 [(0x4, 10)]
  | .DLK_LCFG_EN_LINK => .at .DLK 0x100 0 1 .RWL .rep 1 [(0x20, 12)]
  | .DLK_LCFG_LANES => .at .DLK 0x100 1 1 .RWL .rep 0 [(0x20, 12)]
  | .DLK_LCFG_RESTART => .at .DLK 0x100 2 1 .WO .rep 0 [(0x20, 12)]
  | .DLK_LSTATE_STATE => .at .DLK 0x104 0 3 .RO .rep 0 [(0x20, 12)]
  | .DLK_LSTATE_VER => .at .DLK 0x104 4 2 .RO .rep 0 [(0x20, 12)]
  | .DLK_LSTATE_KIND0 => .at .DLK 0x104 8 2 .RO .rep 0 [(0x20, 12)]
  | .DLK_LSTATE_KIND1 => .at .DLK 0x104 10 2 .RO .rep 0 [(0x20, 12)]
  | .DLK_LSTATE_CAPS => .at .DLK 0x104 16 12 .RO .rep 0 [(0x20, 12)]
  | .DLK_LUNIT_LO_UNIT => .at .DLK 0x108 0 32 .RO .rep 0 [(0x20, 12)]
  | .DLK_LUNIT_HI_UNIT => .at .DLK 0x10c 0 32 .RO .rep 0 [(0x20, 12)]
  | .DLK_LERR_ERR_A => .at .DLK 0x110 0 16 .RO .rep 0 [(0x20, 12)]
  | .DLK_LERR_ERR_B => .at .DLK 0x110 16 16 .RO .rep 0 [(0x20, 12)]
  | .DLK_LRETX_RETX => .at .DLK 0x114 0 16 .RO .rep 0 [(0x20, 12)]
  | .DLK_OSTATE_STATE => .at .DLK 0x400 0 4 .RO .rep 0 [(0x20, 24)]
  | .DLK_OSTATE_CAUSE => .at .DLK 0x400 8 8 .RO .rep 0 [(0x20, 24)]
  | .DLK_OSTATE_PROTO => .at .DLK 0x400 16 2 .RO .rep 0 [(0x20, 24)]
  | .DLK_OSTATE_PNC => .at .DLK 0x400 18 1 .RO .rep 0 [(0x20, 24)]
  | .DLK_OSTATE_WELD_OWED => .at .DLK 0x400 19 1 .RO .rep 0 [(0x20, 24)]
  | .DLK_OPROT_EN => .at .DLK 0x404 0 3 .RWL .rep 7 [(0x20, 24)]
  | .DLK_OPROT_START_REQ => .at .DLK 0x404 3 1 .RWL .rep 0 [(0x20, 24)]
  | .DLK_OPROT_FREE => .at .DLK 0x404 4 1 .RWL .rep 0 [(0x20, 24)]
  | .DLK_OPROT_BPT => .at .DLK 0x404 5 1 .RWL .rep 0 [(0x20, 24)]
  | .DLK_OTIME1_T_LINK => .at .DLK 0x408 0 8 .RWL .rep 0x14 [(0x20, 24)]
  | .DLK_OTIME1_T_AUTH => .at .DLK 0x408 8 8 .RWL .rep 0x78 [(0x20, 24)]
  | .DLK_OTIME1_T_LOCK => .at .DLK 0x408 16 8 .RWL .rep 0x14 [(0x20, 24)]
  | .DLK_OTIME1_T_CC => .at .DLK 0x408 24 8 .RWL .rep 0x26 [(0x20, 24)]
  | .DLK_OTIME2_T_PRE => .at .DLK 0x40c 0 8 .RWL .rep 0x46 [(0x20, 24)]
  | .DLK_OTIME2_T_STOP => .at .DLK 0x40c 8 8 .RWL .rep 0x14 [(0x20, 24)]
  | .DLK_OTIME2_T_LOOP => .at .DLK 0x40c 16 8 .RWL .rep 0xa [(0x20, 24)]
  | .DLK_OTIME2_PRE_TOL => .at .DLK 0x40c 24 8 .RWL .rep 0x14 [(0x20, 24)]
  | .DLK_OSTOP_I_STOP => .at .DLK 0x410 0 16 .RWL .rep 0x32 [(0x20, 24)]
  | .DLK_OCOOL_P_IDLE => .at .DLK 0x414 0 8 .RWL .rep 0x14 [(0x20, 24)]
  | .DLK_OCOOL_T_ON => .at .DLK 0x414 8 8 .RWL .rep 0x28 [(0x20, 24)]
  | .DLK_OCOOL_F_ON => .at .DLK 0x414 16 8 .RWL .rep 0x1e [(0x20, 24)]
  | .DLK_OCOOL_F_FULL => .at .DLK 0x414 24 8 .RWL .rep 0x32 [(0x20, 24)]
  | .MET_CTRL_SAVE_INT => .at .MET 0x0 0 4 .RWL .rep 1
  | .MET_CTRL_REP => .at .MET 0x0 4 2 .RWL .rep 1
  | .MET_CTRL_T_LOSS => .at .MET 0x0 8 8 .RWL .rep 0xc
  | .MET_TIMES_L => .at .MET 0x4 0 8 .RO .rep 5
  | .MET_TIMES_T_DET => .at .MET 0x4 8 12 .RO .rep
  | .MET_TIMES_T_BOUND => .at .MET 0x4 20 12 .RO .rep
  | .MET_STATUS_FREE => .at .MET 0x8 0 13 .RO .rep 0 [] true
  | .MET_STATUS_OPEN => .at .MET 0x8 16 5 .RO .rep 0 [] true
  | .MET_STATUS_FULL => .at .MET 0x8 24 1 .RO .rep 0 [] true
  | .MET_STATUS_SIGN_OK => .at .MET 0x8 25 1 .RO .rep
  | .MET_STATUS_COPY_A => .at .MET 0x8 26 1 .RO .rep 1
  | .MET_STATUS_COPY_B => .at .MET 0x8 27 1 .RO .rep 1
  | .MET_EVENT_BLOCK_MISSED => .at .MET 0xc 0 1 .W1C .rep
  | .MET_EVENT_MAC_FAIL => .at .MET 0xc 1 1 .W1C .rep
  | .MET_EVENT_STREAM_LOST => .at .MET 0xc 2 1 .W1C .rep
  | .MET_EVENT_KEY_ORPHANED => .at .MET 0xc 3 1 .W1C .rep
  | .MET_EVENT_HEAD_REFUSED => .at .MET 0xc 4 1 .W1C .rep
  | .MET_EVENT_LOG_NEAR_FULL => .at .MET 0xc 5 1 .W1C .rep
  | .MET_EVENT_LEGAL_LOG_FULL => .at .MET 0xc 6 1 .W1C .rep
  | .MET_EVENT_COPY_FAIL => .at .MET 0xc 7 1 .W1C .rep
  | .MET_EVENT_SUPPLY_CLOSE => .at .MET 0xc 8 1 .W1C .rep
  | .MET_EVENT_OVERRANGE => .at .MET 0xc 9 1 .W1C .rep
  | .MET_EVENT_NEG_BLOCK => .at .MET 0xc 10 1 .W1C .rep
  | .MET_EVENT_SIGN_KEY_LOST => .at .MET 0xc 11 1 .W1C .rep
  | .MET_EVENT_MTP_OVERRUN => .at .MET 0xc 12 1 .W1C .rep
  | .MET_TXNO_NEXT => .at .MET 0x10 0 32 .RO .rep 0 [] true
  | .MET_EVNO_NEXT => .at .MET 0x14 0 32 .RO .rep 0 [] true
  | .MET_PARAMCNT_COUNT => .at .MET 0x18 0 32 .RO .rep 0 [] true
  | .MET_PROGCNT_COUNT => .at .MET 0x1c 0 32 .RO .rep 0 [] true
  | .MET_EVCNT_CNT => .at .MET 0x40 0 16 .RO .rep 0 [(0x4, 13)]
  | .MET_MTP_OUTLET => .at .MET 0x80 0 5 .RW .rep 0 [(0x4, 4)]
  | .MET_MTP_REG => .at .MET 0x80 5 1 .RW .rep 0 [(0x4, 4)]
  | .MET_MTP_EN => .at .MET 0x80 6 1 .RW .rep 0 [(0x4, 4)]
  | .MET_MTP_K => .at .MET 0x80 16 16 .RW .rep 0x3e8 [(0x4, 4)]
  | .MET_MTPB_BACKLOG => .at .MET 0x90 0 16 .RO .rep 0 [(0x4, 4)]
  | .MET_OIMP_LO_IMP => .at .MET 0x100 0 32 .RO .rep 0 [(0x40, 24)] true
  | .MET_OIMP_HI_IMP => .at .MET 0x104 0 32 .RO .rep 0 [(0x40, 24)] true
  | .MET_OEXP_LO_EXP => .at .MET 0x108 0 32 .RO .rep 0 [(0x40, 24)] true
  | .MET_OEXP_HI_EXP => .at .MET 0x10c 0 32 .RO .rep 0 [(0x40, 24)] true
  | .MET_OWINI_WIN => .at .MET 0x110 0 32 .RO .rep 0 [(0x40, 24)] true
  | .MET_OWINE_WIN => .at .MET 0x114 0 32 .RO .rep 0 [(0x40, 24)] true
  | .MET_OEPOCH_EP_IMP => .at .MET 0x118 0 8 .RO .rep 0 [(0x40, 24)] true
  | .MET_OEPOCH_EP_EXP => .at .MET 0x118 8 8 .RO .rep 0 [(0x40, 24)] true
  | .MET_OSTATE_HEAD => .at .MET 0x11c 0 3 .RO .rep 0 [(0x40, 24)]
  | .MET_OSTATE_READY => .at .MET 0x11c 3 1 .RO .rep 0 [(0x40, 24)]
  | .MET_OSTATE_NRC => .at .MET 0x11c 4 4 .RO .rep 0 [(0x40, 24)]
  | .MET_OSTATE_DIR => .at .MET 0x11c 8 1 .RO .rep 0 [(0x40, 24)]
  | .MET_OSTATE_TXOPEN => .at .MET 0x11c 9 1 .RO .rep 0 [(0x40, 24)] true
  | .MET_OSTATE_RESV => .at .MET 0x11c 10 1 .RO .rep 0 [(0x40, 24)] true
  | .MET_OTX_TX_NO => .at .MET 0x120 0 32 .RO .rep 0 [(0x40, 24)] true
  | .MET_OBLOCK_BLOCK => .at .MET 0x124 0 32 .RO .rep 0 [(0x40, 24)]
  | .MET_OPOWER_P => .at .MET 0x128 0 32 .RO .rep 0 [(0x40, 24)]
  | .MET_OGAPS_GAPS => .at .MET 0x12c 0 16 .RO .rep 0 [(0x40, 24)] true
  | .MET_OGAPS_MACF => .at .MET 0x12c 16 16 .RO .rep 0 [(0x40, 24)]
  | .MET_OPROG_VER => .at .MET 0x130 0 32 .RO .rep 0 [(0x40, 24)]
  | .MET_OPCHK_CHECK => .at .MET 0x134 0 32 .RO .rep 0 [(0x40, 24)]
  | .SAF_STATUS_CONF => .at .SAF 0x0 0 1 .RO .rep 0 [] true
  | .SAF_STATUS_PENDING => .at .SAF 0x0 1 1 .RO .rep
  | .SAF_STATUS_CLASS => .at .SAF 0x0 2 1 .RO .rep 0 [] true
  | .SAF_STATUS_DEGRADED => .at .SAF 0x0 3 1 .RO .rep
  | .SAF_STATUS_HALTSAFE => .at .SAF 0x0 4 1 .RO .rep
  | .SAF_CHECK_CHECK => .at .SAF 0x4 0 32 .RO .rep
  | .SAF_CONFIRMED_CHECK => .at .SAF 0x8 0 32 .RO .rep 0 [] true
  | .SAF_STOP_STOP => .at .SAF 0xc 0 24 .RW .rep
  | .SAF_STOP_ALL => .at .SAF 0xc 31 1 .RW .rep
  | .SAF_GRANT_CC_GRANT => .at .SAF 0x10 0 24 .RW .rep
  | .SAF_GRANT_PC_GRANT => .at .SAF 0x14 0 24 .RW .rep
  | .SAF_GRANT_CH_GRANT => .at .SAF 0x18 0 24 .RW .rep
  | .SAF_BLOCK_BLOCK => .at .SAF 0x1c 0 24 .RW .rep
  | .SAF_DEG_REMAIN => .at .SAF 0x20 0 16 .RO .rep
  | .SAF_DEG_FAULTS => .at .SAF 0x20 16 16 .RO .rep
  | .SAF_UNLOCK_UNLOCK => .at .SAF 0x24 0 24 .RW .rep
  | .SAF_EVENT_SF1_TRIP => .at .SAF 0x28 0 1 .W1C .rep
  | .SAF_EVENT_SF2_TRIP => .at .SAF 0x28 1 1 .W1C .rep
  | .SAF_EVENT_SF3_TRIP => .at .SAF 0x28 2 1 .W1C .rep
  | .SAF_EVENT_SF4_TRIP => .at .SAF 0x28 3 1 .W1C .rep
  | .SAF_EVENT_SF5_TRIP => .at .SAF 0x28 4 1 .W1C .rep
  | .SAF_EVENT_SF6_TRIP => .at .SAF 0x28 5 1 .W1C .rep
  | .SAF_EVENT_SF7_TRIP => .at .SAF 0x28 6 1 .W1C .rep
  | .SAF_EVENT_DIAG_FAULT => .at .SAF 0x28 7 1 .W1C .rep
  | .SAF_EVENT_DEG_ENTER => .at .SAF 0x28 8 1 .W1C .rep
  | .SAF_EVENT_DEG_EXPIRED => .at .SAF 0x28 9 1 .W1C .rep
  | .SAF_EVENT_RESET_OK => .at .SAF 0x28 10 1 .W1C .rep
  | .SAF_EVENT_RESET_REFUSED => .at .SAF 0x28 11 1 .W1C .rep
  | .SAF_EVENT_CONFIRMED => .at .SAF 0x28 12 1 .W1C .rep
  | .SAF_EVENT_WELD_FAIL => .at .SAF 0x28 13 1 .W1C .rep
  | .SAF_EVENT_UNLOCK_HELD => .at .SAF 0x28 14 1 .W1C .rep
  | .SAF_EVENT_ISO_WARNING => .at .SAF 0x28 15 1 .W1C .rep
  | .SAF_EVSET_SET => .at .SAF 0x2c 0 16 .WO .rep
  | .SAF_EVCNT_CNT => .at .SAF 0x40 0 16 .RO .rep 0 [(0x4, 16)]
  | .SAF_OTRIP_FUNC => .at .SAF 0x100 0 3 .RW .rep 0 [(0x4, 24)]
  | .SAF_OTRIP_DETAIL => .at .SAF 0x100 8 8 .RW .rep 0 [(0x4, 24)]
  | .SAF_OTRIP_WELD => .at .SAF 0x100 16 2 .RW .rep 0 [(0x4, 24)]
  | .SAF_OTRIP_GATE => .at .SAF 0x100 18 1 .RO .rep 0 [(0x4, 24)]
  | .SIO_GATE_GATE => .at .SIO 0x0 0 32 .RW .copy
  | .SIO_TPEN_EN => .at .SIO 0x4 0 4 .RW .copy
  | .SIO_TPSTAT_FAULT => .at .SIO 0x8 0 4 .RO .com
  | .SIO_IN_IN => .at .SIO 0xc 0 16 .RO .com
  | .SIO_IN_FAULT => .at .SIO 0xc 16 16 .RO .com
  | .SIO_RAW_RAWA => .at .SIO 0x10 0 16 .RO .com
  | .SIO_RAW_RAWB => .at .SIO 0x10 16 16 .RO .com
  | .SIO_RESET_LEVEL => .at .SIO 0x14 0 1 .RO .com
  | .SIO_RESET_JAM => .at .SIO 0x14 1 1 .RO .com
  | .SIO_RESET_PRESSES => .at .SIO 0x14 8 8 .RO .com
  | .SIO_TPSEL_TP => .at .SIO 0x18 0 32 .RW .copy
  | .SIO_DEB_SI_DEB => .at .SIO 0x1c 0 7 .RW .copy 0xa
  | .SIO_EVENT_SI_PULSE => .at .SIO 0x20 0 1 .W1C .com
  | .SIO_EVENT_SI_CROSS => .at .SIO 0x20 1 1 .W1C .com
  | .SIO_EVENT_SI_DISCREP => .at .SIO 0x20 2 1 .W1C .com
  | .SIO_EVENT_TP_FAULT => .at .SIO 0x20 3 1 .W1C .com
  | .SIO_EVENT_RESET_JAM => .at .SIO 0x20 4 1 .W1C .com
  | .SIO_EVENT_RESET_PRESS => .at .SIO 0x20 5 1 .W1C .com
  | .SIO_EVENT_HALT_SAFE => .at .SIO 0x20 6 1 .W1C .com
  | .SIO_EVCNT_CNT => .at .SIO 0x40 0 16 .RO .com 0 [(0x4, 7)]
  | .LSW_CTRL_ISRC => .at .LSW 0x0 0 4 .RWL .copy
  | .LSW_STATUS_BANK_IN => .at .LSW 0x4 0 4 .RO .com
  | .LSW_STATUS_VB_OK => .at .LSW 0x4 4 4 .RO .com
  | .LSW_STATUS_LATCHED => .at .LSW 0x4 8 1 .RO .com
  | .LSW_ON_ON => .at .LSW 0x8 0 32 .RO .com
  | .LSW_FAULTMAP_FAULT => .at .LSW 0xc 0 32 .RO .com
  | .LSW_OPENMAP_OPEN => .at .LSW 0x10 0 32 .RO .com
  | .LSW_LATCHED_STATE => .at .LSW 0x14 0 32 .RO .com
  | .LSW_LATCHCTL_RELEASE => .at .LSW 0x18 0 1 .WO .com
  | .LSW_EVENT_SHORT => .at .LSW 0x1c 0 1 .W1C .com
  | .LSW_EVENT_OVERLOAD => .at .LSW 0x1c 1 1 .W1C .com
  | .LSW_EVENT_THERMAL => .at .LSW 0x1c 2 1 .W1C .com
  | .LSW_EVENT_OPEN_LOAD => .at .LSW 0x1c 3 1 .W1C .com
  | .LSW_EVENT_RETRY_EXHAUSTED => .at .LSW 0x1c 4 1 .W1C .com
  | .LSW_EVENT_ATTRIBUTED => .at .LSW 0x1c 5 1 .W1C .com
  | .LSW_EVENT_BANK_LIMIT => .at .LSW 0x1c 6 1 .W1C .com
  | .LSW_EVENT_BANK_OVERLOAD => .at .LSW 0x1c 7 1 .W1C .com
  | .LSW_EVENT_VBANK_LOW => .at .LSW 0x1c 8 1 .W1C .com
  | .LSW_EVENT_SWITCH_FAULT => .at .LSW 0x1c 9 1 .W1C .com
  | .LSW_EVENT_NO_CLAIM => .at .LSW 0x1c 10 1 .W1C .com
  | .LSW_EVENT_LATCH_TRIP => .at .LSW 0x1c 11 1 .W1C .com
  | .LSW_EVCNT_CNT => .at .LSW 0x40 0 16 .RO .com 0 [(0x4, 12)]
  | .LSW_BSENSE_SEL => .at .LSW 0x80 0 3 .RW .copy 0 [(0x4, 4)]
  | .LSW_BSENSE_IBANK => .at .LSW 0x80 16 16 .RO .com 0 [(0x4, 4)]
  | .LSW_BCMD_RESTORE => .at .LSW 0x90 0 1 .WO .com 0 [(0x4, 4)]
  | .LSW_CCFG_TYPE => .at .LSW 0x100 0 3 .RWL .copy 0 [(0x20, 32)]
  | .LSW_CCFG_RETRY => .at .LSW 0x100 4 3 .RWL .copy 2 [(0x20, 32)]
  | .LSW_CCFG_T_RETRY => .at .LSW 0x100 8 8 .RWL .copy 0xa [(0x20, 32)]
  | .LSW_CCFG_I_OL => .at .LSW 0x100 16 6 .RWL .copy 0x20 [(0x20, 32)]
  | .LSW_CCFG_I_OPEN => .at .LSW 0x100 24 8 .RWL .copy 4 [(0x20, 32)]
  | .LSW_CCFG2_T_PULL => .at .LSW 0x104 0 8 .RWL .copy 0xa [(0x20, 32)]
  | .LSW_CCFG2_I_HOLD => .at .LSW 0x104 8 8 .RWL .copy 0x1e [(0x20, 32)]
  | .LSW_CCFG2_T_START => .at .LSW 0x104 16 8 .RWL .copy 0x32 [(0x20, 32)]
  | .LSW_CCTRL_ON => .at .LSW 0x108 0 1 .RW .copy 0 [(0x20, 32)]
  | .LSW_CSTAT_STATE => .at .LSW 0x10c 0 3 .RO .com 0 [(0x20, 32)]
  | .LSW_CSTAT_OPEN => .at .LSW 0x10c 3 1 .RO .com 0 [(0x20, 32)]
  | .LSW_CSTAT_SAFETY => .at .LSW 0x10c 4 1 .RO .com 0 [(0x20, 32)]
  | .LSW_CSTAT_ATTR => .at .LSW 0x10c 5 1 .RO .com 0 [(0x20, 32)]
  | .LSW_CSTAT_CAUSE => .at .LSW 0x10c 8 4 .RO .com 0 [(0x20, 32)]
  | .LSW_CSTAT_LEFT => .at .LSW 0x10c 12 4 .RO .com 0 [(0x20, 32)]
  | .LSW_CSTAT_I => .at .LSW 0x10c 16 16 .RO .com 0 [(0x20, 32)]
  | .LSW_CTEMP_TJ => .at .LSW 0x110 0 16 .RO .com 0 [(0x20, 32)]
  | .LSW_CTEMP_DUTY => .at .LSW 0x110 16 16 .RO .com 0 [(0x20, 32)]
  | .LSW_CCNT_TRIPS => .at .LSW 0x114 0 16 .RO .com 0 [(0x20, 32)]
  | .LSW_CCNT_ATTRIB => .at .LSW 0x114 16 16 .RO .com 0 [(0x20, 32)]
  | .HST_CTRL_KA => .at .HST 0x0 0 10 .RWL .rep 0x1e
  | .HST_CTRL_TCP_RETRIES => .at .HST 0x0 10 3 .RWL .rep 5
  | .HST_CTRL_MAJ1 => .at .HST 0x0 13 1 .RWL .rep 1
  | .HST_CTRL_MAJ2 => .at .HST 0x0 14 1 .RWL .rep 1
  | .HST_QUOTA_OBS => .at .HST 0x4 0 8 .RWL .rep 8
  | .HST_QUOTA_OPR => .at .HST 0x4 8 8 .RWL .rep 0x40
  | .HST_QUOTA_OEM => .at .HST 0x4 16 8 .RWL .rep 0x80
  | .HST_QUOTA_VND => .at .HST 0x4 24 8 .RWL .rep 0x80
  | .HST_TIMES_LOCK_IDLE => .at .HST 0x8 0 16 .RWL .rep 0x258
  | .HST_LAYER_L => .at .HST 0xc 0 16 .RO .rep 0x5e
  | .HST_STATUS_SESSIONS => .at .HST 0x10 0 5 .RO .rep
  | .HST_STATUS_HANDLES => .at .HST 0x10 5 10 .RO .rep
  | .HST_STATUS_LOCKSES => .at .HST 0x10 16 5 .RO .rep 0x1f
  | .HST_EVENT_SESSION_OPEN => .at .HST 0x14 0 1 .W1C .rep
  | .HST_EVENT_SESSION_REFUSED => .at .HST 0x14 1 1 .W1C .rep
  | .HST_EVENT_SESSION_LOST => .at .HST 0x14 2 1 .W1C .rep
  | .HST_EVENT_QUOTA_REFUSED => .at .HST 0x14 3 1 .W1C .rep
  | .HST_EVENT_LOCK_LAPSED => .at .HST 0x14 4 1 .W1C .rep
  | .HST_EVENT_EVENTS_LOST => .at .HST 0x14 5 1 .W1C .rep
  | .HST_EVENT_HANDLE_EXPIRED => .at .HST 0x14 6 1 .W1C .rep
  | .HST_EVCNT_CNT => .at .HST 0x40 0 16 .RO .rep 0 [(0x4, 7)]
  | .HST_ADDR4_IP4 => .at .HST 0x100 0 32 .RWL .rep 0 [(0x40, 4)]
  | .HST_NET_PFX4 => .at .HST 0x104 0 6 .RWL .rep 0 [(0x40, 4)]
  | .HST_NET_PFX6 => .at .HST 0x104 8 8 .RWL .rep 0 [(0x40, 4)]
  | .HST_GW4_GW4 => .at .HST 0x108 0 32 .RWL .rep 0 [(0x40, 4)]
  | .HST_ADDR6_IP6 => .at .HST 0x10c 0 32 .RWL .rep 0 [(0x40, 4), (0x4, 4)]
  | .HST_GW6_GW6 => .at .HST 0x11c 0 32 .RWL .rep 0 [(0x40, 4), (0x4, 4)]
  | .CAN_CCTRL_EN => .at .CAN 0x0 0 1 .RWL .rep 0 [(0x1000, 2)]
  | .CAN_CCTRL_FD => .at .CAN 0x0 1 1 .RWL .rep 1 [(0x1000, 2)]
  | .CAN_CCTRL_PEX => .at .CAN 0x0 2 1 .RWL .rep 1 [(0x1000, 2)]
  | .CAN_CCTRL_TDC => .at .CAN 0x0 3 1 .RWL .rep 1 [(0x1000, 2)]
  | .CAN_CCTRL_WAKE => .at .CAN 0x0 4 2 .RWL .rep 0 [(0x1000, 2)]
  | .CAN_CCTRL_MAXP => .at .CAN 0x0 8 7 .RWL .rep 0x40 [(0x1000, 2)]
  | .CAN_CNBT_NBRP => .at .CAN 0x4 0 8 .RWL .rep 0 [(0x1000, 2)]
  | .CAN_CNBT_NTSEG1 => .at .CAN 0x4 8 8 .RWL .rep 0x7e [(0x1000, 2)]
  | .CAN_CNBT_NTSEG2 => .at .CAN 0x4 16 5 .RWL .rep 0x1f [(0x1000, 2)]
  | .CAN_CNBT_NSJW => .at .CAN 0x4 24 5 .RWL .rep 0x1f [(0x1000, 2)]
  | .CAN_CDBT_DBRP => .at .CAN 0x8 0 5 .RWL .rep 0 [(0x1000, 2)]
  | .CAN_CDBT_DTSEG1 => .at .CAN 0x8 8 5 .RWL .rep 0x1c [(0x1000, 2)]
  | .CAN_CDBT_DTSEG2 => .at .CAN 0x8 16 4 .RWL .rep 9 [(0x1000, 2)]
  | .CAN_CDBT_DSJW => .at .CAN 0x8 24 4 .RWL .rep 9 [(0x1000, 2)]
  | .CAN_CTDC_TDCO => .at .CAN 0xc 0 7 .RWL .rep 0x1e [(0x1000, 2)]
  | .CAN_CTDC_TDCV => .at .CAN 0xc 8 7 .RO .rep 0 [(0x1000, 2)]
  | .CAN_CSTAT_STATE => .at .CAN 0x10 0 2 .RO .rep 0 [(0x1000, 2)]
  | .CAN_CSTAT_RECOV => .at .CAN 0x10 2 1 .RO .rep 0 [(0x1000, 2)]
  | .CAN_CSTAT_SHADOW => .at .CAN 0x10 3 1 .RO .rep 0 [(0x1000, 2)]
  | .CAN_CSTAT_TEC => .at .CAN 0x10 8 8 .RO .rep 0 [(0x1000, 2)]
  | .CAN_CSTAT_REC => .at .CAN 0x10 16 8 .RO .rep 0 [(0x1000, 2)]
  | .CAN_CLAYER_L => .at .CAN 0x14 0 16 .RO .rep 0 [(0x1000, 2)]
  | .CAN_CLAYER_TMAX => .at .CAN 0x14 16 16 .RO .rep 0 [(0x1000, 2)]
  | .CAN_CEVENT_BUS_OFF => .at .CAN 0x18 0 1 .W1C .rep 0 [(0x1000, 2)]
  | .CAN_CEVENT_BUS_ON => .at .CAN 0x18 1 1 .W1C .rep 0 [(0x1000, 2)]
  | .CAN_CEVENT_ERR_PASSIVE => .at .CAN 0x18 2 1 .W1C .rep 0 [(0x1000, 2)]
  | .CAN_CEVENT_CAN_FAILED => .at .CAN 0x18 3 1 .W1C .rep 0 [(0x1000, 2)]
  | .CAN_CEVENT_DEADLINE_LAPSED => .at .CAN 0x18 4 1 .W1C .rep 0 [(0x1000, 2)]
  | .CAN_CEVENT_SHADOW_MISMATCH => .at .CAN 0x18 5 1 .W1C .rep 0 [(0x1000, 2)]
  | .CAN_CEVENT_RX_OVERFLOW => .at .CAN 0x18 6 1 .W1C .rep 0 [(0x1000, 2)]
  | .CAN_CEVENT_PEX => .at .CAN 0x18 7 1 .W1C .rep 0 [(0x1000, 2)]
  | .CAN_CEVENT_TDC_RANGE => .at .CAN 0x18 8 1 .W1C .rep 0 [(0x1000, 2)]
  | .CAN_CEVENT_TX_REFUSED => .at .CAN 0x18 9 1 .W1C .rep 0 [(0x1000, 2)]
  | .CAN_CEVENT_WAKE => .at .CAN 0x18 10 1 .W1C .rep 0 [(0x1000, 2)]
  | .CAN_CEVENT_REMOTE_RX => .at .CAN 0x18 11 1 .W1C .rep 0 [(0x1000, 2)]
  | .CAN_CPEND_PEND => .at .CAN 0x1c 0 32 .RO .rep 0 [(0x1000, 2)]
  | .CAN_CWID_ID => .at .CAN 0x20 0 29 .RWL .rep 0 [(0x1000, 2)]
  | .CAN_CWID_IDE => .at .CAN 0x20 29 1 .RWL .rep 0 [(0x1000, 2)]
  | .CAN_CWMASK_MASK => .at .CAN 0x24 0 29 .RWL .rep 0 [(0x1000, 2)]
  | .CAN_CWDATA_DATA => .at .CAN 0x28 0 8 .RWL .rep 0 [(0x1000, 2)]
  | .CAN_CWDATA_DMASK => .at .CAN 0x28 8 8 .RWL .rep 0 [(0x1000, 2)]
  | .CAN_CEVCNT_CNT => .at .CAN 0x40 0 16 .RO .rep 0 [(0x1000, 2), (0x4, 12)]
  | .CAN_MBHDR_ID => .at .CAN 0x200 0 29 .RW .rep 0 [(0x1000, 2), (0x60, 32)]
  | .CAN_MBHDR_IDE => .at .CAN 0x200 29 1 .RW .rep 0 [(0x1000, 2), (0x60, 32)]
  | .CAN_MBHDR_FDF => .at .CAN 0x200 30 1 .RW .rep 0 [(0x1000, 2), (0x60, 32)]
  | .CAN_MBHDR_BRS => .at .CAN 0x200 31 1 .RW .rep 0 [(0x1000, 2), (0x60, 32)]
  | .CAN_MBCTRL_DLC => .at .CAN 0x204 0 4 .RW .rep 0 [(0x1000, 2), (0x60, 32)]
  | .CAN_MBCTRL_DL_EN => .at .CAN 0x204 4 1 .RW .rep 0 [(0x1000, 2), (0x60, 32)]
  | .CAN_MBCTRL_GO => .at .CAN 0x204 8 1 .WO .rep 0 [(0x1000, 2), (0x60, 32)]
  | .CAN_MBCTRL_ABORT => .at .CAN 0x204 9 1 .WO .rep 0 [(0x1000, 2), (0x60, 32)]
  | .CAN_MBCTRL_STATE => .at .CAN 0x204 12 3 .RO .rep 0 [(0x1000, 2), (0x60, 32)]
  | .CAN_MBDL_LO_ANGLE => .at .CAN 0x208 0 32 .RW .rep 0 [(0x1000, 2), (0x60, 32)]
  | .CAN_MBDL_HI_CYCLE => .at .CAN 0x20c 0 32 .RW .rep 0 [(0x1000, 2), (0x60, 32)]
  | .CAN_MBDATA_DATA => .at .CAN 0x210 0 32 .RW .rep 0 [(0x1000, 2), (0x60, 32), (0x4, 16)]
  | .CAN_FLT_ID_ID => .at .CAN 0xe00 0 29 .RWL .rep 0 [(0x1000, 2), (0x8, 64)]
  | .CAN_FLT_ID_IDE => .at .CAN 0xe00 29 1 .RWL .rep 0 [(0x1000, 2), (0x8, 64)]
  | .CAN_FLT_ID_EN => .at .CAN 0xe00 31 1 .RWL .rep 0 [(0x1000, 2), (0x8, 64)]
  | .CAN_FLT_MASK_MASK => .at .CAN 0xe04 0 29 .RWL .rep 0 [(0x1000, 2), (0x8, 64)]
  | .MCC_CTRL_EN => .at .MCC 0x0 0 1 .RWL .rep 1
  | .MCC_CTRL_SLOT_HC => .at .MCC 0x0 4 4 .RWL .rep 6
  | .MCC_CTRL_NSLOT => .at .MCC 0x0 8 8 .RWL .rep 0x10
  | .MCC_CTRL_GUARD => .at .MCC 0x0 16 8 .RWL .rep 0xa
  | .MCC_CTRL_SLOT_OFS => .at .MCC 0x0 24 8 .RWL .rep
  | .MCC_RETRY_RTRY => .at .MCC 0x4 0 3 .RWL .rep 3
  | .MCC_RETRY_ALT => .at .MCC 0x4 4 3 .RWL .rep 2
  | .MCC_RETRY_MAXHOP => .at .MCC 0x4 8 3 .RWL .rep 4
  | .MCC_RETRY_JOIN => .at .MCC 0x4 12 2 .RWL .rep 1
  | .MCC_REACH_REACH => .at .MCC 0x8 0 16 .RWL .rep 0x14
  | .MCC_REACH_L => .at .MCC 0x8 16 16 .RO .rep
  | .MCC_MASK_MASK_BW => .at .MCC 0xc 0 8 .RWL .rep 0x1e
  | .MCC_MASK_TXLVL => .at .MCC 0xc 8 8 .RWL .rep 0xc0
  | .MCC_TMASK_LO_MASK => .at .MCC 0x10 0 32 .RO .rep
  | .MCC_TMASK_HI_MASK => .at .MCC 0x14 0 4 .RO .rep
  | .MCC_TMASK_HI_MASK_SEQ => .at .MCC 0x14 8 8 .RO .rep
  | .MCC_STATUS_NODES => .at .MCC 0x18 0 7 .RO .rep
  | .MCC_STATUS_FE_OK => .at .MCC 0x18 8 1 .RO .rep
  | .MCC_EVENT_NODE_JOIN => .at .MCC 0x1c 0 1 .W1C .rep
  | .MCC_EVENT_NODE_LOST => .at .MCC 0x1c 1 1 .W1C .rep
  | .MCC_EVENT_ROUTE_CHANGE => .at .MCC 0x1c 2 1 .W1C .rep
  | .MCC_EVENT_CRC_FAIL => .at .MCC 0x1c 3 1 .W1C .rep
  | .MCC_EVENT_FE_FAULT => .at .MCC 0x1c 4 1 .W1C .rep
  | .MCC_EVENT_JOIN_REFUSED => .at .MCC 0x1c 5 1 .W1C .rep
  | .MCC_EVENT_MASK_CHANGE => .at .MCC 0x1c 6 1 .W1C .rep
  | .MCC_EVENT_MASK_NARROW => .at .MCC 0x1c 7 1 .W1C .rep
  | .MCC_EVENT_WAKE_RX => .at .MCC 0x1c 8 1 .W1C .rep
  | .MCC_EVCNT_CNT => .at .MCC 0x40 0 16 .RO .rep 0 [(0x4, 9)]
  | .MCC_NEUI_LO_EUI => .at .MCC 0x400 0 32 .RO .rep 0 [(0x10, 65)]
  | .MCC_NEUI_HI_EUI => .at .MCC 0x404 0 32 .RO .rep 0 [(0x10, 65)]
  | .MCC_NSTAT_STATE => .at .MCC 0x408 0 3 .RO .rep 0 [(0x10, 65)]
  | .MCC_NSTAT_PHASE => .at .MCC 0x408 4 3 .RO .rep 0 [(0x10, 65)]
  | .MCC_NSTAT_MOD => .at .MCC 0x408 8 2 .RO .rep 0 [(0x10, 65)]
  | .MCC_NSTAT_TM => .at .MCC 0x408 10 6 .RO .rep 0 [(0x10, 65)]
  | .MCC_NSTAT_LQI => .at .MCC 0x408 16 8 .RO .rep 0 [(0x10, 65)]
  | .MCC_NSTAT_HOPS => .at .MCC 0x408 24 3 .RO .rep 0 [(0x10, 65)]
  | .MCC_NSTAT_REFUSE => .at .MCC 0x408 28 2 .RO .rep 0 [(0x10, 65)]
  | .MCC_NROUTE_REP1 => .at .MCC 0x40c 0 8 .RO .rep 0 [(0x10, 65)]
  | .MCC_NROUTE_REP2 => .at .MCC 0x40c 8 8 .RO .rep 0 [(0x10, 65)]
  | .MCC_NROUTE_REP3 => .at .MCC 0x40c 16 8 .RO .rep 0 [(0x10, 65)]
  | .KEY_STATUS_LC => .at .KEY 0x0 0 3 .RO .rep 0 [] true
  | .KEY_STATUS_SELFTEST_OK => .at .KEY 0x0 3 1 .RO .rep
  | .KEY_STATUS_RNG_OK => .at .KEY 0x0 4 1 .RO .rep
  | .KEY_STATUS_BUSY => .at .KEY 0x0 5 1 .RO .rep
  | .KEY_SPARE_OPS => .at .KEY 0x4 0 5 .RWL .rep 8
  | .KEY_CTX0_VEH => .at .KEY 0x8 0 6 .RO .rep
  | .KEY_CTX0_HOST => .at .KEY 0x8 8 5 .RO .rep
  | .KEY_CTX0_HEAD => .at .KEY 0x8 16 5 .RO .rep
  | .KEY_CTX0_LANE => .at .KEY 0x8 24 5 .RO .rep
  | .KEY_CTX1_NODE => .at .KEY 0xc 0 7 .RO .rep
  | .KEY_CTX1_SPARE => .at .KEY 0xc 8 5 .RO .rep
  | .KEY_EVENT_UPDATE_DONE => .at .KEY 0x10 0 1 .W1C .rep
  | .KEY_EVENT_UPDATE_REFUSED => .at .KEY 0x10 1 1 .W1C .rep
  | .KEY_EVENT_ORPHANED => .at .KEY 0x10 2 1 .W1C .rep
  | .KEY_EVENT_CTX_FULL => .at .KEY 0x10 3 1 .W1C .rep
  | .KEY_EVENT_LC_ADVANCE => .at .KEY 0x10 4 1 .W1C .rep
  | .KEY_EVENT_SELFTEST_FAIL => .at .KEY 0x10 5 1 .W1C .rep
  | .KEY_EVENT_RNG_FAIL => .at .KEY 0x10 6 1 .W1C .rep
  | .KEY_EVENT_REQ_REFUSED => .at .KEY 0x10 7 1 .W1C .rep
  | .KEY_RESULT_CODE => .at .KEY 0x14 0 8 .RO .rep
  | .KEY_RESULT_SLOT => .at .KEY 0x14 8 7 .RO .rep
  | .KEY_EVCNT_CNT => .at .KEY 0x40 0 16 .RO .rep 0 [(0x4, 8)]
  | .KEY_SATTR_ATTR => .at .KEY 0x100 0 32 .RO .rep 0 [(0x4, 128)] true
  | .KEY_SINFO_ALG => .at .KEY 0x300 0 3 .RO .rep 0 [(0x4, 128)] true
  | .KEY_SINFO_CHILDREN => .at .KEY 0x300 8 7 .RO .rep 0 [(0x4, 128)] true
  | .UPD_CTRL_WARM => .at .UPD 0x0 0 16 .RWL .rep 0x32
  | .UPD_CTRL_SL_WAIT => .at .UPD 0x0 16 16 .RWL .rep 0x3c
  | .UPD_STATUS_ACTIVE => .at .UPD 0x4 0 1 .RO .rep 0 [] true
  | .UPD_STATUS_TRIAL => .at .UPD 0x4 1 1 .RO .rep 0 [] true
  | .UPD_STATUS_TRIAL_SLOT => .at .UPD 0x4 2 1 .RO .rep 0 [] true
  | .UPD_STATUS_PREV_VALID => .at .UPD 0x4 3 1 .RO .rep 0 [] true
  | .UPD_STATUS_STAGED => .at .UPD 0x4 4 1 .RO .rep 0 [] true
  | .UPD_STATUS_PENDING_PARAM => .at .UPD 0x4 5 1 .RO .rep 0 [] true
  | .UPD_STATUS_BOOTED => .at .UPD 0x4 6 1 .RO .loc
  | .UPD_STATUS_FALLBACK => .at .UPD 0x4 7 1 .RO .loc
  | .UPD_STATUS_PHASE => .at .UPD 0x4 8 3 .RO .rep
  | .UPD_BUILD_BUILD => .at .UPD 0x8 0 32 .RO .rep 0 [(0x4, 2)] true
  | .UPD_RESULT_CODE => .at .UPD 0x10 0 8 .RO .rep
  | .UPD_RESULT_PART => .at .UPD 0x10 8 8 .RO .rep
  | .UPD_OLDPROG_OUTLETS => .at .UPD 0x14 0 24 .RO .rep 0 [] true
  | .UPD_OLDSAF_OUTLETS => .at .UPD 0x18 0 24 .RO .rep 0 [] true
  | .UPD_BOOTTIME_MS => .at .UPD 0x1c 0 16 .RO .loc
  | .UPD_STAGEOFS_BYTES => .at .UPD 0x20 0 32 .RO .rep
  | .UPD_EVENT_STAGE_DONE => .at .UPD 0x24 0 1 .W1C .rep
  | .UPD_EVENT_STAGE_FAIL => .at .UPD 0x24 1 1 .W1C .rep
  | .UPD_EVENT_ACT_DONE => .at .UPD 0x24 2 1 .W1C .rep
  | .UPD_EVENT_ACT_FAIL => .at .UPD 0x24 3 1 .W1C .rep
  | .UPD_EVENT_BOOT_FALLBACK => .at .UPD 0x24 4 1 .W1C .rep
  | .UPD_EVENT_IMAGE_RECOVERED => .at .UPD 0x24 5 1 .W1C .rep
  | .UPD_EVENT_PARAM_LOST => .at .UPD 0x24 6 1 .W1C .rep
  | .UPD_EVENT_SWITCHED => .at .UPD 0x24 7 1 .W1C .rep
  | .UPD_EVCNT_CNT => .at .UPD 0x40 0 16 .RO .rep 0 [(0x4, 8)]
  | .UPD_RB_COUNTER => .at .UPD 0x80 0 32 .RO .rep 0 [(0x4, 11)] true
  | .AON_CTRL_IDLE_T => .at .AON 0x0 0 16 .RWL .copy 0x258
  | .AON_CTRL_IDLE_EN => .at .AON 0x0 16 1 .RWL .copy 1
  | .AON_WAKEEN_EN => .at .AON 0x4 0 7 .RWL .copy 0x7f
  | .AON_STATE_STATE => .at .AON 0x8 0 2 .RO .com
  | .AON_STATE_REG_LP => .at .AON 0x8 2 1 .RO .com
  | .AON_STATE_LATCHED => .at .AON 0x8 3 1 .RO .com
  | .AON_STATE_IDLE_S => .at .AON 0x8 16 16 .RO .com
  | .AON_PADCTL_RELEASE => .at .AON 0xc 0 1 .WO .com
  | .AON_WAKESRC_SRC => .at .AON 0x10 0 7 .RO .com
  | .AON_SLEEP_BLOCK => .at .AON 0x14 0 4 .RO .com
  | .AON_SLEEP_REASON => .at .AON 0x14 8 8 .RO .com
  | .AON_SLEEP_ATTEMPTS => .at .AON 0x14 16 16 .RO .com
  | .AON_CAUSE_CAUSE => .at .AON 0x18 0 8 .RO .com 0 [] true
  | .AON_CAUSE_PCAUSE_A => .at .AON 0x18 8 8 .RO .com 0 [] true
  | .AON_CAUSE_PCAUSE_B => .at .AON 0x18 16 8 .RO .com 0 [] true
  | .AON_SUPPLY_VIO33A_OK => .at .AON 0x1c 0 1 .RO .com
  | .AON_SUPPLY_VIO33B_OK => .at .AON 0x1c 1 1 .RO .com
  | .AON_SUPPLY_VCB_OK => .at .AON 0x1c 2 1 .RO .com
  | .AON_UNIT_LO_UNIT => .at .AON 0x20 0 32 .RO .com 0 [] true
  | .AON_UNIT_HI_UNIT => .at .AON 0x24 0 32 .RO .com 0 [] true
  | .AON_EVENT_NIGHT_ENTER => .at .AON 0x28 0 1 .W1C .com
  | .AON_EVENT_WAKE => .at .AON 0x28 1 1 .W1C .com
  | .AON_EVENT_SLEEP_REFUSED => .at .AON 0x28 2 1 .W1C .com
  | .AON_EVENT_VIO33_LOSS => .at .AON 0x28 3 1 .W1C .com
  | .AON_EVENT_PAV_RESET => .at .AON 0x28 4 1 .W1C .com
  | .AON_EVCNT_CNT => .at .AON 0x40 0 16 .RO .com 0 [(0x4, 5)]
  | .SYS_ENGCTL_START => .at .SYS 0x0 1 11 .WO .loc
  | .SYS_ENGSTAT_RUNNING => .at .SYS 0x4 0 12 .RO .loc 1
  | .SYS_ENGSTAT_GATED => .at .SYS 0x4 16 12 .RO .loc
  | .SYS_HALT_HALT => .at .SYS 0x8 0 12 .W1C .loc
  | .SYS_COMMIT_GO => .at .SYS 0xc 0 1 .WO .loc
  | .SYS_COMMIT_BUSY => .at .SYS 0xc 1 1 .RO .loc
  | .SYS_COMMIT_RESULT => .at .SYS 0xc 8 8 .RO .loc
  | .SYS_COMMIT_DETAIL => .at .SYS 0xc 16 16 .RO .loc
  | .SYS_RSTCTL_PRESET => .at .SYS 0x10 0 1 .WO .loc
  | .SYS_SUPPLY_VCORE_OK => .at .SYS 0x14 0 1 .RO .loc
  | .SYS_SUPPLY_VSER_OK => .at .SYS 0x14 1 1 .RO .loc
  | .SYS_SUPPLY_VIO18_OK => .at .SYS 0x14 2 1 .RO .loc
  | .SYS_SUPPLY_VIO33_OK => .at .SYS 0x14 3 1 .RO .loc
  | .SYS_SUPPLY_WARN => .at .SYS 0x14 4 1 .RO .loc
  | .SYS_ECC_SINGLE => .at .SYS 0x18 0 16 .RO .loc
  | .SYS_ECC_DOUBLE => .at .SYS 0x18 16 16 .RO .loc
  | .SYS_BUSERR_COUNT => .at .SYS 0x1c 0 16 .RO .loc
  | .SYS_BOOT_BOOT => .at .SYS 0x20 0 32 .RO .loc 0 [] true
  | .SYS_ROUTE_TAG => .at .SYS 0x40 0 5 .RW .loc 0 [(0x4, 7)]
  | .SYS_ROUTE_BIT => .at .SYS 0x40 5 5 .RW .loc 0 [(0x4, 7)]
  | .SYS_ROUTE_EN => .at .SYS 0x40 31 1 .RW .loc 0 [(0x4, 7)]
  | .SYS_EPC_PC => .at .SYS 0x100 0 32 .RO .loc 0 [(0x10, 12)]
  | .SYS_ECAUSE_CAUSE => .at .SYS 0x104 0 8 .RO .loc 0 [(0x10, 12)]
  | .SYS_ECAUSE_SECOND => .at .SYS 0x104 8 8 .RO .loc 0 [(0x10, 12)]
  | .SYS_EADDR_EADDR => .at .SYS 0x108 0 32 .RO .loc 0 [(0x10, 12)]

/-- The fields of one block's register map. -/
def Blk.fields : Blk → List Field
  | .GSP =>
    [.GSP_CTRL_EN, .GSP_CTRL_DIV, .GSP_CTRL_OSR, .GSP_CTRL_DELAY, .GSP_STATUS_ACTIVE,
      .GSP_STATUS_PLAUS, .GSP_EVENT_STUCK, .GSP_EVENT_IMPLAUS, .GSP_EVCNT_CNT, .GSP_VNOM_VNOM_PK,
      .GSP_ZCADJ_ZCADJ, .GSP_GAIN_GAIN, .GSP_OFFS_OFFS, .GSP_FS_FS, .GSP_DATA_DATA]
  | .SDL =>
    [.SDL_CTRL_NOMF, .SDL_MULT_N, .SDL_HALFMASK_HALF, .SDL_STATUS_LOCKED, .SDL_STATUS_FREE_RUN,
      .SDL_STATUS_HOLD, .SDL_STATUS_SLEW, .SDL_STATUS_FIRST_LOCK, .SDL_STATUS_XTAL, .SDL_EVENT_GRID_LOST,
      .SDL_EVENT_GRID_BACK, .SDL_EVENT_PHASE_JUMP, .SDL_EVENT_JUMP_TRANSIENT, .SDL_EVENT_EV_LATE, .SDL_EVENT_FREQ_RANGE,
      .SDL_TIME_LO_ANGLE, .SDL_TIME_HI_CYCLE, .SDL_FREQ_FREQ, .SDL_PHERR_PHERR, .SDL_JUMP_JUMP,
      .SDL_SITEIDX_S, .SDL_EVCNT_CNT, .SDL_STIME_LO_TIME_LO, .SDL_STIME_HI_TIME_HI, .SDL_SCTRL_ARM,
      .SDL_SCTRL_MODE, .SDL_SCTRL_TARGET, .SDL_SCTRL_ENGINE, .SDL_SCTRL_QUEUE, .SDL_SCTRL_OFFSET,
      .SDL_SFIRES_FIRES]
  | .FBR =>
    [.FBR_CTRL_MODE, .FBR_CTRL_HOME, .FBR_CTRL_REVERT, .FBR_HOLD_HOLD, .FBR_VWIN_VWIN,
      .FBR_STATUS_ROLE, .FBR_STATUS_PEER_ROLE, .FBR_STATUS_LEASE_VALID, .FBR_STATUS_DIVERGENT, .FBR_STATUS_CH0_OK,
      .FBR_STATUS_CH1_OK, .FBR_STATUS_REDUNDANT, .FBR_STATUS_PEER_LIVE, .FBR_STATUS_REF_A, .FBR_STATUS_REF_B,
      .FBR_EVENT_DIVERGE, .FBR_EVENT_TAKEOVER, .FBR_EVENT_YIELD, .FBR_EVENT_LEASE_EXPIRED, .FBR_EVENT_CH_FAULT,
      .FBR_EVENT_LOG_GAP, .FBR_EVENT_LATE_FRAME, .FBR_EVENT_COPY_MISMATCH, .FBR_EVENT_REF_TIMEOUT, .FBR_EVENT_REF_IGNORED,
      .FBR_EVENT_CLAIM_EXHAUSTED, .FBR_EVENT_HANDBACK, .FBR_EVENT_LOG_HELD, .FBR_CAUSE_CAUSE, .FBR_CLAIM_STORED,
      .FBR_PRESENT_OWN, .FBR_PEERCLAIM_PEER, .FBR_LEASEAGE_AGE, .FBR_SEQ_LO_SEQ, .FBR_SEQ_HI_SEQ,
      .FBR_HEALTHY_TIME, .FBR_DIG_OWN_DIGEST, .FBR_DIG_PEER_DIGEST, .FBR_SETASIDE_COUNT, .FBR_EVCNT_CNT]
    ++ [.FBR_CMD_YIELD, .FBR_CMD_REJOIN]
  | .STG =>
    [.STG_CTRL_LEASE, .STG_CTRL_AUTHREQ, .STG_CTRL_CMP, .STG_CTRL_VERS, .STG_MAXDLY_DLY,
      .STG_RETRY_RTO, .STG_RETRY_RCNT, .STG_ZC_ZC_LIM, .STG_ZC_ZC_CYC, .STG_EVENT_LANE_DOWN,
      .STG_EVENT_LANE_UP, .STG_EVENT_NEW_ENDPOINT, .STG_EVENT_NO_VERSION, .STG_EVENT_AUTH_FAIL, .STG_EVENT_LANE_SLOW,
      .STG_EVENT_LANE_MISMATCH, .STG_EVENT_STALE, .STG_EVENT_FRAME_ERR, .STG_EVENT_ROUTE_FAULT, .STG_EVENT_ROUTE_HELD,
      .STG_EVENT_MSG_FAIL, .STG_EVENT_LINK_LOST, .STG_EVENT_DISC_REFUSED, .STG_ACTIVE_ACT, .STG_LANEA_UP,
      .STG_LANEB_UP, .STG_EVCNT_CNT, .STG_LCFG_EN_LINK, .STG_LCFG_LANES, .STG_LCFG_RESTART,
      .STG_LSTATE_STATE, .STG_LSTATE_VER, .STG_LSTATE_SLEN, .STG_LSTATE_CLEN, .STG_LSTATE_NPH,
      .STG_LDLY_DLY_A, .STG_LDLY_DLY_B, .STG_LUNIT_LO_UNIT, .STG_LUNIT_HI_UNIT, .STG_LERR_ERR_A]
    ++ [.STG_LERR_ERR_B, .STG_LMSG_MTID, .STG_LMSG_LEN, .STG_LMSG_GO, .STG_LMSG_BUSY,
      .STG_LMSG_DONE, .STG_LMSG_FAIL, .STG_LMSG_RLEN, .STG_LMISS_MISS]
  | .CTL =>
    [.CTL_CTRL_LOST_CYC, .CTL_CTRL_FRZ_DUTY, .CTL_SHORT_FRAC, .CTL_SHORT_TIME, .CTL_SHORT_ATLIM,
      .CTL_SS_ILIM, .CTL_SS_ICLIM, .CTL_SS2_OC, .CTL_SS2_RATE, .CTL_XCHK_TOL,
      .CTL_XCHK_OFS, .CTL_XCHK_BLK, .CTL_LAYER_LSUB, .CTL_LAYER_SHORT_CYC, .CTL_EVENT_FEEDBACK_LOST,
      .CTL_EVENT_FEEDBACK_FROZEN, .CTL_EVENT_SHORT_SOFTSTART, .CTL_EVENT_SS_OVERCURRENT, .CTL_EVENT_VOLTAGE_DISAGREE, .CTL_EVENT_RAMP_DONE,
      .CTL_EVENT_SWAP_DONE, .CTL_EVENT_SWAP_REFUSED, .CTL_EVENT_INJ_DONE, .CTL_EVENT_CAP_DONE, .CTL_XDIS_DIS,
      .CTL_EVCNT_CNT, .CTL_INJCTRL_OUTLET, .CTL_INJCTRL_POINT, .CTL_INJCTRL_WAVE, .CTL_INJCTRL_GO,
      .CTL_INJCTRL_STOP, .CTL_INJCTRL_ACTIVE, .CTL_INJCTRL_END, .CTL_INJAMP_AMP, .CTL_INJFREQ_FREQ,
      .CTL_INJSTEP_STEP, .CTL_INJSTART_START, .CTL_INJLEN_LEN, .CTL_CAPCTRL_ARM, .CTL_CAPCTRL_FIRE]
    ++ [.CTL_CAPCTRL_STOP, .CTL_CAPCTRL_TRIG, .CTL_CAPCTRL_EDGE, .CTL_CAPCTRL_DEC, .CTL_CAPCTRL_STATE,
      .CTL_CAPCTRL_GOUTLET, .CTL_CAPBASE_BASE, .CTL_CAPSIZE_SIZE, .CTL_CAPSIZE_PRE, .CTL_CAPTRIG_TRIG,
      .CTL_CAPCOUNT_COUNT, .CTL_CAPSRC_KIND, .CTL_CAPSRC_IDX, .CTL_CAPSRC_HW, .CTL_OMODE_MODE,
      .CTL_OMODE_SOFT, .CTL_OMODE_RAMP, .CTL_OMODE_STOPPED, .CTL_OMODE_CAUSE, .CTL_OVTGT_VTGT,
      .CTL_OILIM_VEHI, .CTL_OIOUT_IOUT, .CTL_OVOUT_VOUT, .CTL_OSWAP_APPLY, .CTL_OSWCTL_GO,
      .CTL_OSWCTL_PEND, .CTL_OSWCTL_RESULT, .CTL_OSWCTL_ENGINE, .CTL_OSWCTL_ADDR, .CTL_ORBUS_RBUS,
      .CTL_GFEED_NF_RUN, .CTL_GFEED_FRESH, .CTL_GFEED_OUTLET, .CTL_GFEED_FRZ_RUN, .CTL_HFRZ_FRZ,
      .CTL_HLOST_LOST, .CTL_ACTRL_CUT_PCT, .CTL_ACTRL_FB_PCT, .CTL_ACTRL_LATE_FB, .CTL_ACTRL_BLIND_PCT]
    ++ [.CTL_PCONN_PCONN, .CTL_POOLRATE_RATE, .CTL_INVTOL_TOL, .CTL_INVTOL_CYC, .CTL_PBASE_BASE,
      .CTL_PSTAT_RESULT, .CTL_PSTAT_INFORCE, .CTL_PSITE_LIMIT, .CTL_FRESH_FE, .CTL_FRESH_COOL,
      .CTL_FRESH_STALE_PCT, .CTL_AEVENT_PARTERRE_LATE, .CTL_AEVENT_PARTERRE_REFUSED, .CTL_AEVENT_PARTERRE_FALLBACK, .CTL_AEVENT_IMPORT_CUT,
      .CTL_AEVENT_CUT_RELEASED, .CTL_AEVENT_INV_BREACH, .CTL_AEVENT_HEAD_STALE, .CTL_AEVCNT_CNT, .CTL_OVEH_IMAX,
      .CTL_OVEH_PMAX, .CTL_OVEHV_VMAX, .CTL_OVEHV_IEXP, .CTL_OHEAD_HEAD, .CTL_OHEAD_TC,
      .CTL_GWIRE_BUS0, .CTL_GWIRE_BUS1, .CTL_GWIRE_BUS2, .CTL_GWIRE_BUS3, .CTL_GWIRE_CAB]
  | .DLK =>
    [.DLK_CTRL_VERS, .DLK_CTRL_AUTHREQ, .DLK_CTRL_RTO, .DLK_CTRL_RCNT, .DLK_SUP_SUP,
      .DLK_SUP_L, .DLK_EVENT_LANE_DOWN, .DLK_EVENT_LANE_UP, .DLK_EVENT_NEW_DISPENSER, .DLK_EVENT_NO_VERSION,
      .DLK_EVENT_AUTH_FAIL, .DLK_EVENT_LANE_MISMATCH, .DLK_EVENT_DLP_FAIL, .DLK_EVENT_LINK_LOST, .DLK_EVENT_PROTO_ERR,
      .DLK_EVENT_COOL_FAULT, .DLK_ACTIVE_ACT, .DLK_LANEA_UP, .DLK_LANEB_UP, .DLK_EVCNT_CNT,
      .DLK_LCFG_EN_LINK, .DLK_LCFG_LANES, .DLK_LCFG_RESTART, .DLK_LSTATE_STATE, .DLK_LSTATE_VER,
      .DLK_LSTATE_KIND0, .DLK_LSTATE_KIND1, .DLK_LSTATE_CAPS, .DLK_LUNIT_LO_UNIT, .DLK_LUNIT_HI_UNIT,
      .DLK_LERR_ERR_A, .DLK_LERR_ERR_B, .DLK_LRETX_RETX, .DLK_OSTATE_STATE, .DLK_OSTATE_CAUSE,
      .DLK_OSTATE_PROTO, .DLK_OSTATE_PNC, .DLK_OSTATE_WELD_OWED, .DLK_OPROT_EN, .DLK_OPROT_START_REQ]
    ++ [.DLK_OPROT_FREE, .DLK_OPROT_BPT, .DLK_OTIME1_T_LINK, .DLK_OTIME1_T_AUTH, .DLK_OTIME1_T_LOCK,
      .DLK_OTIME1_T_CC, .DLK_OTIME2_T_PRE, .DLK_OTIME2_T_STOP, .DLK_OTIME2_T_LOOP, .DLK_OTIME2_PRE_TOL,
      .DLK_OSTOP_I_STOP, .DLK_OCOOL_P_IDLE, .DLK_OCOOL_T_ON, .DLK_OCOOL_F_ON, .DLK_OCOOL_F_FULL]
  | .MET =>
    [.MET_CTRL_SAVE_INT, .MET_CTRL_REP, .MET_CTRL_T_LOSS, .MET_TIMES_L, .MET_TIMES_T_DET,
      .MET_TIMES_T_BOUND, .MET_STATUS_FREE, .MET_STATUS_OPEN, .MET_STATUS_FULL, .MET_STATUS_SIGN_OK,
      .MET_STATUS_COPY_A, .MET_STATUS_COPY_B, .MET_EVENT_BLOCK_MISSED, .MET_EVENT_MAC_FAIL, .MET_EVENT_STREAM_LOST,
      .MET_EVENT_KEY_ORPHANED, .MET_EVENT_HEAD_REFUSED, .MET_EVENT_LOG_NEAR_FULL, .MET_EVENT_LEGAL_LOG_FULL, .MET_EVENT_COPY_FAIL,
      .MET_EVENT_SUPPLY_CLOSE, .MET_EVENT_OVERRANGE, .MET_EVENT_NEG_BLOCK, .MET_EVENT_SIGN_KEY_LOST, .MET_EVENT_MTP_OVERRUN,
      .MET_TXNO_NEXT, .MET_EVNO_NEXT, .MET_PARAMCNT_COUNT, .MET_PROGCNT_COUNT, .MET_EVCNT_CNT,
      .MET_MTP_OUTLET, .MET_MTP_REG, .MET_MTP_EN, .MET_MTP_K, .MET_MTPB_BACKLOG,
      .MET_OIMP_LO_IMP, .MET_OIMP_HI_IMP, .MET_OEXP_LO_EXP, .MET_OEXP_HI_EXP, .MET_OWINI_WIN]
    ++ [.MET_OWINE_WIN, .MET_OEPOCH_EP_IMP, .MET_OEPOCH_EP_EXP, .MET_OSTATE_HEAD, .MET_OSTATE_READY,
      .MET_OSTATE_NRC, .MET_OSTATE_DIR, .MET_OSTATE_TXOPEN, .MET_OSTATE_RESV, .MET_OTX_TX_NO,
      .MET_OBLOCK_BLOCK, .MET_OPOWER_P, .MET_OGAPS_GAPS, .MET_OGAPS_MACF, .MET_OPROG_VER,
      .MET_OPCHK_CHECK]
  | .SAF =>
    [.SAF_STATUS_CONF, .SAF_STATUS_PENDING, .SAF_STATUS_CLASS, .SAF_STATUS_DEGRADED, .SAF_STATUS_HALTSAFE,
      .SAF_CHECK_CHECK, .SAF_CONFIRMED_CHECK, .SAF_STOP_STOP, .SAF_STOP_ALL, .SAF_GRANT_CC_GRANT,
      .SAF_GRANT_PC_GRANT, .SAF_GRANT_CH_GRANT, .SAF_BLOCK_BLOCK, .SAF_DEG_REMAIN, .SAF_DEG_FAULTS,
      .SAF_UNLOCK_UNLOCK, .SAF_EVENT_SF1_TRIP, .SAF_EVENT_SF2_TRIP, .SAF_EVENT_SF3_TRIP, .SAF_EVENT_SF4_TRIP,
      .SAF_EVENT_SF5_TRIP, .SAF_EVENT_SF6_TRIP, .SAF_EVENT_SF7_TRIP, .SAF_EVENT_DIAG_FAULT, .SAF_EVENT_DEG_ENTER,
      .SAF_EVENT_DEG_EXPIRED, .SAF_EVENT_RESET_OK, .SAF_EVENT_RESET_REFUSED, .SAF_EVENT_CONFIRMED, .SAF_EVENT_WELD_FAIL,
      .SAF_EVENT_UNLOCK_HELD, .SAF_EVENT_ISO_WARNING, .SAF_EVSET_SET, .SAF_EVCNT_CNT, .SAF_OTRIP_FUNC,
      .SAF_OTRIP_DETAIL, .SAF_OTRIP_WELD, .SAF_OTRIP_GATE]
  | .SIO =>
    [.SIO_GATE_GATE, .SIO_TPEN_EN, .SIO_TPSTAT_FAULT, .SIO_IN_IN, .SIO_IN_FAULT,
      .SIO_RAW_RAWA, .SIO_RAW_RAWB, .SIO_RESET_LEVEL, .SIO_RESET_JAM, .SIO_RESET_PRESSES,
      .SIO_TPSEL_TP, .SIO_DEB_SI_DEB, .SIO_EVENT_SI_PULSE, .SIO_EVENT_SI_CROSS, .SIO_EVENT_SI_DISCREP,
      .SIO_EVENT_TP_FAULT, .SIO_EVENT_RESET_JAM, .SIO_EVENT_RESET_PRESS, .SIO_EVENT_HALT_SAFE, .SIO_EVCNT_CNT]
  | .LSW =>
    [.LSW_CTRL_ISRC, .LSW_STATUS_BANK_IN, .LSW_STATUS_VB_OK, .LSW_STATUS_LATCHED, .LSW_ON_ON,
      .LSW_FAULTMAP_FAULT, .LSW_OPENMAP_OPEN, .LSW_LATCHED_STATE, .LSW_LATCHCTL_RELEASE, .LSW_EVENT_SHORT,
      .LSW_EVENT_OVERLOAD, .LSW_EVENT_THERMAL, .LSW_EVENT_OPEN_LOAD, .LSW_EVENT_RETRY_EXHAUSTED, .LSW_EVENT_ATTRIBUTED,
      .LSW_EVENT_BANK_LIMIT, .LSW_EVENT_BANK_OVERLOAD, .LSW_EVENT_VBANK_LOW, .LSW_EVENT_SWITCH_FAULT, .LSW_EVENT_NO_CLAIM,
      .LSW_EVENT_LATCH_TRIP, .LSW_EVCNT_CNT, .LSW_BSENSE_SEL, .LSW_BSENSE_IBANK, .LSW_BCMD_RESTORE,
      .LSW_CCFG_TYPE, .LSW_CCFG_RETRY, .LSW_CCFG_T_RETRY, .LSW_CCFG_I_OL, .LSW_CCFG_I_OPEN,
      .LSW_CCFG2_T_PULL, .LSW_CCFG2_I_HOLD, .LSW_CCFG2_T_START, .LSW_CCTRL_ON, .LSW_CSTAT_STATE,
      .LSW_CSTAT_OPEN, .LSW_CSTAT_SAFETY, .LSW_CSTAT_ATTR, .LSW_CSTAT_CAUSE, .LSW_CSTAT_LEFT]
    ++ [.LSW_CSTAT_I, .LSW_CTEMP_TJ, .LSW_CTEMP_DUTY, .LSW_CCNT_TRIPS, .LSW_CCNT_ATTRIB]
  | .HST =>
    [.HST_CTRL_KA, .HST_CTRL_TCP_RETRIES, .HST_CTRL_MAJ1, .HST_CTRL_MAJ2, .HST_QUOTA_OBS,
      .HST_QUOTA_OPR, .HST_QUOTA_OEM, .HST_QUOTA_VND, .HST_TIMES_LOCK_IDLE, .HST_LAYER_L,
      .HST_STATUS_SESSIONS, .HST_STATUS_HANDLES, .HST_STATUS_LOCKSES, .HST_EVENT_SESSION_OPEN, .HST_EVENT_SESSION_REFUSED,
      .HST_EVENT_SESSION_LOST, .HST_EVENT_QUOTA_REFUSED, .HST_EVENT_LOCK_LAPSED, .HST_EVENT_EVENTS_LOST, .HST_EVENT_HANDLE_EXPIRED,
      .HST_EVCNT_CNT, .HST_ADDR4_IP4, .HST_NET_PFX4, .HST_NET_PFX6, .HST_GW4_GW4,
      .HST_ADDR6_IP6, .HST_GW6_GW6]
  | .CAN =>
    [.CAN_CCTRL_EN, .CAN_CCTRL_FD, .CAN_CCTRL_PEX, .CAN_CCTRL_TDC, .CAN_CCTRL_WAKE,
      .CAN_CCTRL_MAXP, .CAN_CNBT_NBRP, .CAN_CNBT_NTSEG1, .CAN_CNBT_NTSEG2, .CAN_CNBT_NSJW,
      .CAN_CDBT_DBRP, .CAN_CDBT_DTSEG1, .CAN_CDBT_DTSEG2, .CAN_CDBT_DSJW, .CAN_CTDC_TDCO,
      .CAN_CTDC_TDCV, .CAN_CSTAT_STATE, .CAN_CSTAT_RECOV, .CAN_CSTAT_SHADOW, .CAN_CSTAT_TEC,
      .CAN_CSTAT_REC, .CAN_CLAYER_L, .CAN_CLAYER_TMAX, .CAN_CEVENT_BUS_OFF, .CAN_CEVENT_BUS_ON,
      .CAN_CEVENT_ERR_PASSIVE, .CAN_CEVENT_CAN_FAILED, .CAN_CEVENT_DEADLINE_LAPSED, .CAN_CEVENT_SHADOW_MISMATCH, .CAN_CEVENT_RX_OVERFLOW,
      .CAN_CEVENT_PEX, .CAN_CEVENT_TDC_RANGE, .CAN_CEVENT_TX_REFUSED, .CAN_CEVENT_WAKE, .CAN_CEVENT_REMOTE_RX,
      .CAN_CPEND_PEND, .CAN_CWID_ID, .CAN_CWID_IDE, .CAN_CWMASK_MASK, .CAN_CWDATA_DATA]
    ++ [.CAN_CWDATA_DMASK, .CAN_CEVCNT_CNT, .CAN_MBHDR_ID, .CAN_MBHDR_IDE, .CAN_MBHDR_FDF,
      .CAN_MBHDR_BRS, .CAN_MBCTRL_DLC, .CAN_MBCTRL_DL_EN, .CAN_MBCTRL_GO, .CAN_MBCTRL_ABORT,
      .CAN_MBCTRL_STATE, .CAN_MBDL_LO_ANGLE, .CAN_MBDL_HI_CYCLE, .CAN_MBDATA_DATA, .CAN_FLT_ID_ID,
      .CAN_FLT_ID_IDE, .CAN_FLT_ID_EN, .CAN_FLT_MASK_MASK]
  | .MCC =>
    [.MCC_CTRL_EN, .MCC_CTRL_SLOT_HC, .MCC_CTRL_NSLOT, .MCC_CTRL_GUARD, .MCC_CTRL_SLOT_OFS,
      .MCC_RETRY_RTRY, .MCC_RETRY_ALT, .MCC_RETRY_MAXHOP, .MCC_RETRY_JOIN, .MCC_REACH_REACH,
      .MCC_REACH_L, .MCC_MASK_MASK_BW, .MCC_MASK_TXLVL, .MCC_TMASK_LO_MASK, .MCC_TMASK_HI_MASK,
      .MCC_TMASK_HI_MASK_SEQ, .MCC_STATUS_NODES, .MCC_STATUS_FE_OK, .MCC_EVENT_NODE_JOIN, .MCC_EVENT_NODE_LOST,
      .MCC_EVENT_ROUTE_CHANGE, .MCC_EVENT_CRC_FAIL, .MCC_EVENT_FE_FAULT, .MCC_EVENT_JOIN_REFUSED, .MCC_EVENT_MASK_CHANGE,
      .MCC_EVENT_MASK_NARROW, .MCC_EVENT_WAKE_RX, .MCC_EVCNT_CNT, .MCC_NEUI_LO_EUI, .MCC_NEUI_HI_EUI,
      .MCC_NSTAT_STATE, .MCC_NSTAT_PHASE, .MCC_NSTAT_MOD, .MCC_NSTAT_TM, .MCC_NSTAT_LQI,
      .MCC_NSTAT_HOPS, .MCC_NSTAT_REFUSE, .MCC_NROUTE_REP1, .MCC_NROUTE_REP2, .MCC_NROUTE_REP3]
  | .KEY =>
    [.KEY_STATUS_LC, .KEY_STATUS_SELFTEST_OK, .KEY_STATUS_RNG_OK, .KEY_STATUS_BUSY, .KEY_SPARE_OPS,
      .KEY_CTX0_VEH, .KEY_CTX0_HOST, .KEY_CTX0_HEAD, .KEY_CTX0_LANE, .KEY_CTX1_NODE,
      .KEY_CTX1_SPARE, .KEY_EVENT_UPDATE_DONE, .KEY_EVENT_UPDATE_REFUSED, .KEY_EVENT_ORPHANED, .KEY_EVENT_CTX_FULL,
      .KEY_EVENT_LC_ADVANCE, .KEY_EVENT_SELFTEST_FAIL, .KEY_EVENT_RNG_FAIL, .KEY_EVENT_REQ_REFUSED, .KEY_RESULT_CODE,
      .KEY_RESULT_SLOT, .KEY_EVCNT_CNT, .KEY_SATTR_ATTR, .KEY_SINFO_ALG, .KEY_SINFO_CHILDREN]
  | .UPD =>
    [.UPD_CTRL_WARM, .UPD_CTRL_SL_WAIT, .UPD_STATUS_ACTIVE, .UPD_STATUS_TRIAL, .UPD_STATUS_TRIAL_SLOT,
      .UPD_STATUS_PREV_VALID, .UPD_STATUS_STAGED, .UPD_STATUS_PENDING_PARAM, .UPD_STATUS_BOOTED, .UPD_STATUS_FALLBACK,
      .UPD_STATUS_PHASE, .UPD_BUILD_BUILD, .UPD_RESULT_CODE, .UPD_RESULT_PART, .UPD_OLDPROG_OUTLETS,
      .UPD_OLDSAF_OUTLETS, .UPD_BOOTTIME_MS, .UPD_STAGEOFS_BYTES, .UPD_EVENT_STAGE_DONE, .UPD_EVENT_STAGE_FAIL,
      .UPD_EVENT_ACT_DONE, .UPD_EVENT_ACT_FAIL, .UPD_EVENT_BOOT_FALLBACK, .UPD_EVENT_IMAGE_RECOVERED, .UPD_EVENT_PARAM_LOST,
      .UPD_EVENT_SWITCHED, .UPD_EVCNT_CNT, .UPD_RB_COUNTER]
  | .AON =>
    [.AON_CTRL_IDLE_T, .AON_CTRL_IDLE_EN, .AON_WAKEEN_EN, .AON_STATE_STATE, .AON_STATE_REG_LP,
      .AON_STATE_LATCHED, .AON_STATE_IDLE_S, .AON_PADCTL_RELEASE, .AON_WAKESRC_SRC, .AON_SLEEP_BLOCK,
      .AON_SLEEP_REASON, .AON_SLEEP_ATTEMPTS, .AON_CAUSE_CAUSE, .AON_CAUSE_PCAUSE_A, .AON_CAUSE_PCAUSE_B,
      .AON_SUPPLY_VIO33A_OK, .AON_SUPPLY_VIO33B_OK, .AON_SUPPLY_VCB_OK, .AON_UNIT_LO_UNIT, .AON_UNIT_HI_UNIT,
      .AON_EVENT_NIGHT_ENTER, .AON_EVENT_WAKE, .AON_EVENT_SLEEP_REFUSED, .AON_EVENT_VIO33_LOSS, .AON_EVENT_PAV_RESET,
      .AON_EVCNT_CNT]
  | .SYS =>
    [.SYS_ENGCTL_START, .SYS_ENGSTAT_RUNNING, .SYS_ENGSTAT_GATED, .SYS_HALT_HALT, .SYS_COMMIT_GO,
      .SYS_COMMIT_BUSY, .SYS_COMMIT_RESULT, .SYS_COMMIT_DETAIL, .SYS_RSTCTL_PRESET, .SYS_SUPPLY_VCORE_OK,
      .SYS_SUPPLY_VSER_OK, .SYS_SUPPLY_VIO18_OK, .SYS_SUPPLY_VIO33_OK, .SYS_SUPPLY_WARN, .SYS_ECC_SINGLE,
      .SYS_ECC_DOUBLE, .SYS_BUSERR_COUNT, .SYS_BOOT_BOOT, .SYS_ROUTE_TAG, .SYS_ROUTE_BIT,
      .SYS_ROUTE_EN, .SYS_EPC_PC, .SYS_ECAUSE_CAUSE, .SYS_ECAUSE_SECOND, .SYS_EADDR_EADDR]

/-- The event counter behind a W1C flag, with its index (R34); a flag whose counter has no address in the tables has none. -/
def Field.counter (f : Field) (i : Nat) : Option (Field × Nat) :=
  match f.info.acc, f.info.blk with
  | .W1C, .GSP => some (.GSP_EVCNT_CNT, f.info.lo)
  | .W1C, .SDL => some (.SDL_EVCNT_CNT, f.info.lo)
  | .W1C, .FBR => some (.FBR_EVCNT_CNT, f.info.lo)
  | .W1C, .STG => some (.STG_EVCNT_CNT, f.info.lo)
  | .W1C, .CTL =>
    if f.info.base = 0x920 then some (.CTL_AEVCNT_CNT, f.info.lo)
    else if f.info.base = 0x18 then some (.CTL_EVCNT_CNT, f.info.lo) else none
  | .W1C, .DLK => some (.DLK_EVCNT_CNT, f.info.lo)
  | .W1C, .MET => some (.MET_EVCNT_CNT, f.info.lo)
  | .W1C, .SAF => some (.SAF_EVCNT_CNT, f.info.lo)
  | .W1C, .SIO => some (.SIO_EVCNT_CNT, f.info.lo)
  | .W1C, .LSW => some (.LSW_EVCNT_CNT, f.info.lo)
  | .W1C, .HST => some (.HST_EVCNT_CNT, f.info.lo)
  | .W1C, .CAN => some (.CAN_CEVCNT_CNT, i * 12 + f.info.lo)
  | .W1C, .MCC => some (.MCC_EVCNT_CNT, f.info.lo)
  | .W1C, .KEY => some (.KEY_EVCNT_CNT, f.info.lo)
  | .W1C, .UPD => some (.UPD_EVCNT_CNT, f.info.lo)
  | .W1C, .AON => some (.AON_EVCNT_CNT, f.info.lo)
  | _, _ => none

/-- The instance a table offset names, for the strides of a field (`none`: the offset is no place of the field). -/
def instOf : List (Nat × Nat) → Nat → Option Nat
  | [], r => if r = 0 then some 0 else none
  | (s, n) :: rest, r =>
    if r / s < n then (instOf rest (r % s)).map (fun i => (r / s) * (rest.foldl (fun m d => m * d.2) 1) + i) else none

/-- The instance of a field that lies at offset `off` of its block. -/
def FieldInfo.instAt (x : FieldInfo) (off : Nat) : Option Nat :=
  if x.base ≤ off then instOf x.dims (off - x.base) else none

/-- The place of one instance in the register file's list. -/
def Field.key (f : Field) (i : Nat) : Nat := f.ctorIdx + 1024 * i

end Sys2Proof.Machine
end

