-- ==== Sys2Proof/Machine/Sparse.lean ====
section
/-! DEFINITION. The one sparse map of the model: a list of (key, value) pairs with strictly rising keys that never lists the
value an unlisted key reads as. Memories and the register file are such lists, so equal contents are equal data. -/
namespace Sys2Proof.Machine

/-- A sparse map from numbers. -/
abbrev Sparse (α : Type) := List (Nat × α)

/-- What key `k` reads as; `d` is what an unlisted key reads as. -/
def Sparse.get {α : Type} (d : α) : Sparse α → Nat → α
  | [], _ => d
  | (k', v') :: r, k => if k < k' then d else if k = k' then v' else Sparse.get d r k

/-- The list without its leading keys up to `k`. -/
def Sparse.above {α : Type} (k : Nat) : Sparse α → Sparse α
  | [] => []
  | (k', v') :: r => if k' ≤ k then Sparse.above k r else (k', v') :: r

/-- Write `v` at key `k`; writing the unlisted value removes the entry. -/
def Sparse.put {α : Type} [DecidableEq α] (d : α) : Sparse α → Nat → α → Sparse α
  | [], k, v => if v = d then [] else [(k, v)]
  | (k', v') :: r, k, v =>
    if k < k' then (if v = d then (k', v') :: r else (k, v) :: (k', v') :: r)
    else if k = k' then (if v = d then Sparse.above k r else (k, v) :: Sparse.above k r)
    else (k', v') :: Sparse.put d r k v

/-- The keys of `m` lie strictly above `lo` and rise strictly, and no entry holds the unlisted value. -/
def Sparse.wfFrom {α : Type} [DecidableEq α] (d : α) : Option Nat → Sparse α → Bool
  | _, [] => true
  | lo, (k, v) :: r => (match lo with | none => true | some l => decide (l < k)) && decide (v ≠ d) && Sparse.wfFrom d (some k) r

/-- The canonical form. -/
def Sparse.wf {α : Type} [DecidableEq α] (d : α) (m : Sparse α) : Bool := Sparse.wfFrom d none m

end Sys2Proof.Machine
end

