-- ==== Sys2Proof/Machine/State.lean ====
section
/-! DEFINITION. The state of the CM-2448 as plain data: two pavilions, each with what it holds for itself and what follows from the
input log, and the common block; and the queue of commands. -/
namespace Sys2Proof.Machine

/-- The register file: values by field and instance, holding only what differs from the reset value (R10). -/
abbrev Regs := Sparse Nat

/-- The value of a field, a number of the field's width. -/
def Regs.rd (r : Regs) (f : Field) (i : Nat := 0) : Nat := Sparse.get f.info.reset r (f.key i) % 2 ^ f.info.width

/-- A field set by hardware or by an admitted write, cut to its width. -/
def Regs.wr (r : Regs) (f : Field) (v : Nat) (i : Nat := 0) : Regs :=
  Sparse.put f.info.reset r (f.key i) (v % 2 ^ f.info.width)

/-- The hardware sets a W1C flag: it reads 1 and its event counter advances modulo 2^16 (R34). -/
def Regs.raise (r : Regs) (f : Field) (i : Nat := 0) : Regs :=
  let r := r.wr f 1 i
  match f.counter i with
  | some (c, j) => r.wr c (r.rd c j + 1) j
  | none => r

/-- A byte memory; a byte nothing has written reads 0 (DESIGN CHOICE, log entry 3). -/
abbrev Mem := Sparse Byte

def Mem.rd (m : Mem) (a : Nat) : Byte := Sparse.get 0#8 m a
def Mem.wr (m : Mem) (a : Nat) (b : Byte) : Mem := Sparse.put 0#8 m a b

/-- `n` bytes from `a`, lowest address first. -/
def Mem.rdBytes (m : Mem) (a : Nat) : Nat → List Byte
  | 0 => []
  | n + 1 => m.rd a :: m.rdBytes (a + 1) n

/-- Bytes stored from `a` upward. -/
def Mem.wrBytes (m : Mem) (a : Nat) : List Byte → Mem
  | [] => m
  | b :: r => (m.wr a b).wrBytes (a + 1) r

/-- A little-endian number of `n` bytes (R9, R11). -/
def Mem.rdN (m : Mem) (a : Nat) : Nat → Nat
  | 0 => 0
  | n + 1 => (m.rd a).toNat + 256 * m.rdN (a + 1) n

/-- The `n` little-endian bytes of a number. -/
def leBytes : Nat → Nat → List Byte
  | 0, _ => []
  | n + 1, v => BitVec.ofNat 8 v :: leBytes n (v / 256)

/-- The number little-endian bytes spell. -/
def ofLe : List Byte → Nat
  | [] => 0
  | b :: r => b.toNat + 256 * ofLe r

def Mem.wrN (m : Mem) (a n v : Nat) : Mem := m.wrBytes a (leBytes n v)

/-- The map's canonical form (strictly rising addresses, no byte equal to the unlisted 0). -/
def Mem.wf (m : Mem) : Bool := Sparse.wf 0#8 m

/-- One copy of the Sundial's counting state (R50, R58, R67). `pos` is Sundial time in 2^-64 mains cycles (the angle of R14 and 32
further fraction bits); rates are in 2^-64 cycle per 5 ns tick (log entry 10). -/
structure SunCopy where
  pos : Nat := 0
  rate : Nat := 4611686018427
  integral : Nat := 4611686018427
  target : Nat := 4611686018427
  deriving DecidableEq, Repr

/-- The common-block Sundial, held twice (R67), with the crossing detector's records (R56 to R65). -/
structure Sundial where
  a : SunCopy := {}
  b : SunCopy := {}
  /-- 5 ns ticks the block has run, the unit in which crossing instants are resolved (R56); only differences of it matter, and a
  whole-device reset leaves it. -/
  ticks : Nat := 0
  lastPos : Option Nat := none
  lastNeg : Option Nat := none
  /-- The last valid positive-going intervals in ticks, newest first, at most 8 (R58). -/
  intervals : List Nat := []
  /-- Consecutive valid positive-going intervals gathered for first lock or the return from free-run (R57, R63). -/
  gather : List Nat := []
  /-- First-lock frequency taken; the next positive-going crossing brings the angle to 0 (R57). -/
  firstPending : Bool := false
  /-- The first deviation of a jump candidate, in 2^-32 cycle (R64). -/
  candidate : Option Int := none
  /-- What a slew has still to take up, in 2^-64 cycle, with the sign of R58 (R65). -/
  slewLeft : Int := 0
  /-- The ramp back to the grid frequency has begun (R65). -/
  slewBack : Bool := false
  /-- The last error lies within 1 degree (R60). -/
  errSmall : Bool := false
  /-- The plausibility check has passed since free-run began (R63). -/
  plausSince : Bool := true
  /-- A command frame has been released since reset (R57). -/
  released : Bool := false
  deriving DecidableEq, Repr

/-- Whether an engine runs (R19, R146, R147). -/
inductive EngRun where
  | stopped | running | halted
  deriving DecidableEq, Repr

/-- What a stalled engine waits for: R140 (awaits), R137 and R138 (queues), R124 (fence), R127 (wfi). `target` is a
site-cycle position counted on from cycle 0; `issue` is the 5 ns tick of issue; `fired` says that the slot has fired after it. -/
inductive Wait where
  | none
  | await (time : Nat)
  | awaitp (target : Nat)
  | awaits (slot : Slot) (issue : Nat) (fired : Bool)
  | mrcv (d : Gpr) (queue : Fin 8)
  | msnd (target : BitVec 4) (queue : Fin 8) (msg : Dword)
  | fence
  | wfi
  deriving DecidableEq, Repr

/-- One entry of an engine's hardware queue: the 64-bit message and its source code of Table ISA-12 (R27, R137). -/
structure Msg where
  data : Dword
  src : BitVec 8
  deriving DecidableEq, Repr

/-- One store waiting in the 4-entry write buffer (R124). -/
structure Store where
  addr : Word
  size : Nat
  data : Word
  deriving DecidableEq, Repr

/-- One Ziljan engine (R109 to R114, R124, R137). -/
structure Engine where
  run : EngRun := .stopped
  wait : Wait := .none
  pc : Word := 0
  gpr : Vector Word 32 := Vector.replicate 32 0
  acc : Vector Acc 8 := Vector.replicate 8 0
  flags : BitVec 11 := 0
  epc : Word := 0
  ecause : BitVec 8 := 0
  eaddr : Word := 0
  evec : Word := 0
  escr : Word := 0
  imask : BitVec 17 := 0
  msrc : BitVec 8 := 0
  work : BitVec 16 := 0
  workMax : BitVec 16 := 0
  slotPl : Word := 0
  slotPh : Word := 0
  queues : Vector (List Msg) 8 := Vector.replicate 8 []
  wbuf : List Store := []
  /-- The wide-read shadow: the latched upper word and the address it is returned at (R37). -/
  shadow : Option (Word × Word) := none
  /-- An await with E = 1 has been issued since the last RELEASE instant (R142). -/
  endMark : Bool := false
  itcm : Mem := []
  dtcm : Mem := []
  deriving DecidableEq, Repr

/-- One input-log entry (R82). -/
structure LogEntry where
  seq : Nat
  effective : Nat
  kind : Nat
  source : Nat
  payload : List Byte
  /-- It moves an outlet into CABLE_CHECK or COMMISSION, or starts a routing change (R554). -/
  switching : Bool := false
  deriving DecidableEq, Repr

/-- What SDL has taken up for an armed slot (R68), and the message a full queue holds back (R70). -/
structure SlotState where
  time : Nat := 0
  held : Bool := false
  deriving DecidableEq, Repr

/-- What the divergence procedure will do with a pavilion (R94, R97, R98). -/
inductive Verdict where
  | continues | setAside (cause : Nat) | yields | takesOver | controlledStop
  deriving DecidableEq, Repr

/-- A divergence procedure in progress in one pavilion (R91 to R98): its start, its own self-check result, the decided outcome
and whether it is provisional under REFEREE mode. -/
structure Divergence where
  start : Nat
  own : Bool
  /-- The 5 ns tick of the exchange, that is of the decision (R95). -/
  decided : Nat := 0
  peer : Option Bool := none
  outcome : Option Verdict := none
  /-- A verdict window is open (R98). -/
  window : Bool := false
  deriving DecidableEq, Repr

/-- Progress of a join, on the joiner's side and on the leader's (R101). -/
inductive JoinPhase where
  | idle | asked | refused | mirroring | syncLogged (boundary : Nat) | joining (matched : Nat)
  deriving DecidableEq, Repr

/-- The sticky fault indicators a self-check reads (R92). -/
structure Indicators where
  ecc : Bool := false
  bus : Bool := false
  engine : Bool := false
  supply : Bool := false
  beat : Bool := false
  deriving DecidableEq, Repr

/-- What IDENT told of an endpoint (R175). -/
structure Ident where
  maker : Nat := 0
  model : Nat := 0
  unit : Nat := 0
  txLat : Nat := 0
  setup : Nat := 0
  turn : Nat := 0
  imax : Nat := 0
  vmax : Nat := 0
  nbus : Nat := 0
  caps : Nat := 0
  verSel : Nat := 0
  slen : Nat := 56
  clen : Nat := 42
  deriving DecidableEq, Repr

/-- The state of one stage link that no STG register shows (R170 to R180). -/
structure StageLink where
  /-- Consecutive frame periods with a valid frame, and without one (R177). -/
  goodRun : Nat := 0
  silentRun : Nat := 0
  /-- Consecutive periods each lane was named, and was not while the other (or, wired alone, itself) should be (R180). -/
  upA : Nat := 0
  upB : Nat := 0
  missA : Nat := 0
  missB : Nat := 0
  /-- A lane found slow is not used (R159). -/
  slowA : Bool := false
  slowB : Bool := false
  /-- The unit last identified on the link since the last whole-device reset (R177). -/
  lastUnit : Option Nat := none
  /-- The outstanding request: the next fragment to send (`none` once LAST is out), periods since LAST, resends left (R173). -/
  nextFrag : Option Nat := none
  sinceLast : Nat := 0
  resends : Nat := 0
  /-- The reply's next fragment index while it is being assembled (R173). -/
  replyFrag : Nat := 0
  /-- The same reply as lane B brings it, and lane B refused because its UNIT differs (R177). -/
  replyB : List Byte := []
  refusedB : Bool := false
  /-- The last transaction identifier the runtime used. -/
  mtid : Nat := 0
  /-- The reply type the discovery awaits; 0 for none (R177). -/
  awaited : Nat := 0
  /-- The OEM part of CONFIG (R176). -/
  oem : List Byte := []
  ident : Ident := {}
  /-- ROUTE and EN last sent (R170, R179), and whether the present change has raised ROUTE_HELD. -/
  routeSent : Nat := 0
  enSent : Nat := 0
  routeHeld : Bool := false
  /-- Consecutive frame periods with EN = 0 sent and zero current shown (R179). -/
  zcRun : Nat := 0
  /-- FLAGS and FAULT of the last sample frame taken (R163, R252). -/
  prevFlags : Nat := 0
  prevFault : Nat := 0
  /-- A lane lost since it was last up, so that its return ends a masking (R256). -/
  lostA : Bool := false
  lostB : Bool := false
  /-- The counts of the last STATUS reply (R174). -/
  status : List Nat := []
  deriving DecidableEq, Repr

/-- A lane report that travels behind a closure vector (R184): delays measured and errors counted since the last one. -/
structure LaneReport where
  grp : Grp
  delay : Option Nat := none
  slow : Bool := false
  errs : Nat := 0
  stale : Nat := 0
  deriving DecidableEq, Repr

/-- What CTL keeps of a group between closures and releases (R206 to R211, R170). Frame values are the raw halfwords of R162. -/
structure GroupLoop where
  /-- CONV of the last fresh frame (R206). -/
  lastConv : Option Nat := none
  /-- Every frame period of the present not-fresh run carried a VALID frame (R207). -/
  runValid : Bool := true
  /-- IPH (signed), VDC, VOUT and ROUTE_ACT of the last fresh frame. -/
  iph : List Int := []
  vdc : Nat := 0
  vout : Nat := 0
  routeAct : Nat := 0
  /-- IPH, VDC and VOUT of the first frame of the freeze run (R208). -/
  frzFirst : List Int := []
  /-- The sample frame of the latest input set, the command frame last released (R219, R251). -/
  lastSample : List Byte := []
  lastCmd : List Byte := []
  /-- Duties, EN and SEQ of the command frames last released, newest first, at most 66 (R208). -/
  sent : List (List Nat × Nat × Nat) := []
  /-- Releases done of a loop-opening ramp and the base duties it started from (R211); likewise for R147 and R42. -/
  rampK : Nat := 0
  base : List Nat := []
  haltRampK : Option Nat := none
  haltBase : List Nat := []
  /-- The present run of frame periods that are not fresh, or of identical frames, has led to a declaration (R207, R208). -/
  lossSaid : Bool := false
  frzSaid : Bool := false
  deriving DecidableEq, Repr

/-- What CTL keeps of an outlet (R202, R203, R211 to R213). -/
structure OutletLoop where
  ocRun : Nat := 0
  shortCnt : Nat := 0
  /-- Consecutive fresh frame periods at or below I_STOP in STOPPING (R302). -/
  stopRun : Nat := 0
  /-- This closure had fresh values (R206). -/
  freshNow : Bool := false
  /-- The cause the runtime has still to take the outlet to FAULT with (R204, R211). -/
  faultDue : Option Nat := none
  /-- The site cycle at whose closure the opening in progress was declared (R213). -/
  openSeq : Option Nat := none
  deriving DecidableEq, Repr

/-- The running state of an injection generator (R215, R216). -/
structure Injector where
  /-- GO written, START not yet reached. -/
  armed : Bool := false
  t : Nat := 0
  phase : Nat := 0
  inc : Nat := 0
  lfsr : Nat := 0x7FF
  value : Word := 0
  deriving DecidableEq, Repr

/-- The running state of a capture unit (R219 to R223). -/
structure Capture where
  /-- Closures since ARM, samples in the ring, next ring index, samples still to write after the trigger. -/
  closures : Nat := 0
  held : Nat := 0
  next : Nat := 0
  post : Nat := 0
  trigTime : Nat := 0
  trigSeq : Nat := 0
  cause : Nat := 0
  /-- A trigger has been taken and applies at the next sample. -/
  trigger : Bool := false
  opened : Bool := false
  swapped : Bool := false
  /-- The last reading of channel 0 (R222, LEVEL). -/
  last : Option Int := none
  src : List Nat := []
  deriving DecidableEq, Repr

/-- What the phase-management library keeps of a group (R232 to R248, the status area of Table CTL-13). Weights are in units that
make 65,536 one. -/
structure Phases where
  en : Nat := 0
  /-- The phase being shed and its weight; phases being added, with the frame periods done. -/
  shed : Option (Nat × Nat) := none
  adds : List (Nat × Nat) := []
  rot : Nat := 0
  sheds : Nat := 0
  addsN : Nat := 0
  reversals : Nat := 0
  rotations : Nat := 0
  hold : Nat := 0
  atLimit : Nat := 0
  allAtLimit : Bool := false
  q : List Nat := [0, 0, 0, 0, 0, 0, 0, 0]
  /-- Frame periods sent with EN = 0 for every phase (R234), and allocation ticks since the last timed rotation. -/
  enZero : Nat := 0
  ticks : Nat := 0
  rotDue : Bool := false
  /-- Ramp-out: the frame periods done of SHED_RAMP, and the outlet the group goes to (R247). -/
  rampOut : Option (Nat × Nat) := none
  target : Option Nat := none
  joining : Bool := false
  /-- New ADAPTIVE offsets are due, and a CONFIG with them is outstanding (R239). -/
  ofsDue : Bool := false
  configOut : Bool := false
  /-- The last CONFIG with offsets was refused or failed: the next one waits for an allocation tick (R239). -/
  ofsWait : Bool := false
  ofs : List Nat := [0, 0, 0, 0, 0, 0, 0, 0]
  deriving DecidableEq, Repr

/-- What CTL and the Lodge hold of a frozen history ring (R252, R253). -/
structure Frozen where
  cause : Nat
  outlet : Nat
  link : Nat
  time : Nat
  seq : Nat
  lost : Nat := 0
  en : Nat
  shedPh : Nat
  fault : Nat
  deriving DecidableEq, Repr

/-- The content of a fault-journal entry that both pavilions share (R255, R256). -/
structure JEntry where
  time : Nat
  location : Nat
  instNo : Nat
  outcome : Nat
  reaction : Nat
  cause : Nat
  detail : List Byte := []
  localTo : Bool := false
  deriving DecidableEq, Repr

/-- An outlet entry of a Parterre (R259). -/
structure OutletEntry where
  pMax : Nat := 0
  pExp : Nat := 0
  poolMax : Nat := 0
  iMax : Nat := 0
  iExp : Nat := 0
  vMax : Nat := 0
  rampUp : Nat := 0
  prio : Nat := 0
  pool : Bool := false
  holdStart : Bool := false
  deriving DecidableEq, Repr

/-- A Parterre as taken from a bank (R258 to R260). -/
structure Parterre where
  serial : Nat := 0
  target : Nat := 0
  pImport : Nat := 0
  pDc : Nat := 0
  pPool : Nat := 0
  outlets : Vector OutletEntry 24 := Vector.replicate 24 {}
  groups : Vector Nat 32 := Vector.replicate 32 31
  deriving DecidableEq, Repr

/-- Coolant state of an outlet as last logged (R264, R280, R297). -/
structure Coolant where
  valid : Bool := false
  supply : Int := 0
  ret : Int := 0
  flow : Nat := 0
  pumpFault : Bool := false
  tMeas : Option Int := none
  age : Nat := 0
  stale : Bool := true
  deriving DecidableEq, Repr

/-- A cabinet's front-end report as last logged (R264). -/
structure Cabinet where
  valid : Bool := false
  limit : Nat := 0
  power : Nat := 0
  age : Nat := 0
  stale : Bool := true
  deriving DecidableEq, Repr

/-- A host limit within its time to live (R265, R440); `outlet` none is a site limit. Power in W, currents in 0.1 A. -/
structure HostLimit where
  principal : Nat
  outlet : Option Outlet
  value : Nat
  amps : Nat := 0
  pExp : Nat := 0
  iExp : Nat := 0
  seconds : Nat
  deriving DecidableEq, Repr

/-- Site power sharing (R257 to R282). -/
structure Allocation where
  part : Parterre := {}
  /-- A Parterre has been taken up since start (R262). -/
  taken : Bool := false
  /-- The bank accepted at the publication deadline for the next tick (R261). -/
  accepted : Option Parterre := none
  bank : Nat := 0
  lateRun : Nat := 0
  fallback : Bool := false
  cut : Bool := false
  blind : Bool := false
  f : Nat := 0x10000
  lastCut : Option Nat := none
  /-- P_IMP has stayed within P_IMPORT at every closure since the last tick (R276). -/
  tickClean : Bool := true
  grants : Vector Nat 24 := Vector.replicate 24 0
  poolLeft : Nat := 0
  pImp : Int := 0
  /-- I_CAP, I_ECAP and V_CAP of the latest closure, and the last 128 I_CAP, newest first (R269, R271). -/
  iCap : Vector Nat 24 := Vector.replicate 24 0
  iEcap : Vector Nat 24 := Vector.replicate 24 0
  vCap : Vector Nat 24 := Vector.replicate 24 0
  iCapHist : Vector (List Nat) 24 := Vector.replicate 24 []
  /-- The largest I_CAP since the last tick (R279). -/
  iCapMax : Vector Nat 24 := Vector.replicate 24 0
  breachRun : Vector Nat 24 := Vector.replicate 24 0
  /-- The headroom table read at the deadline, to be taken up at the next tick (R282): I_head and T_c per outlet. -/
  headNext : Option (List (Nat × Int)) := none
  headMiss : Nat := 0
  /-- Conductor temperatures of the thermal model, in 0.001 K above 0 °C (R279). -/
  tc : Vector (Option Int) 24 := Vector.replicate 24 none
  coolant : Vector Coolant 24 := Vector.replicate 24 {}
  cabinets : Vector Cabinet 15 := Vector.replicate 15 {}
  limits : List HostLimit := []
  prio : Vector Nat 24 := Vector.replicate 24 128
  /-- The last allocation tick (Sundial time); groups with a new endpoint (R267): 1 until its link has been ACTIVE at a tick, 2 from then to
  the next. -/
  lastTick : Nat := 0
  newEndpoint : Vector Nat 32 := Vector.replicate 32 0
  deriving DecidableEq, Repr

/-- A PDU the device originated that waits for its acknowledgement, or for an earlier one of its TYPE and OUTLET (R291). `lane` names
the lane of a HELLO_ACK, which goes out on that lane alone (R300). -/
structure OutPdu where
  seq : Nat
  type : Nat
  outlet : Nat
  body : List Nat
  lane : Option Pav := none
  left : Nat
  deriving DecidableEq, Repr

/-- The state of one dispenser link that no DLK register shows (R286 to R300, R313). -/
structure DispLink where
  /-- SEQ of the next PDU the device originates (R288). -/
  seqNo : Nat := 0
  /-- H and the record of the 64 numbers below it (R290). -/
  high : Option Nat := none
  seen : Nat := 0
  unacked : List OutPdu := []
  waiting : List OutPdu := []
  /-- Lanes that have passed AUTH (R289, R300). -/
  authA : Bool := false
  authB : Bool := false
  /-- Source address and UNIT of the last valid HELLO on each lane (R287, R300). -/
  srcA : Nat := 0
  srcB : Nat := 0
  unitA : Option Nat := none
  unitB : Option Nat := none
  /-- The unit of the last HELLO taken since the last whole-device reset (R300). -/
  lastUnit : Option Nat := none
  maker : Nat := 0
  model : Nat := 0
  fwVer : Nat := 0
  imax0 : Nat := 0
  imax1 : Nat := 0
  /-- A valid PDU since the last allocation tick, and consecutive ticks with one (R292). -/
  heardA : Bool := false
  heardB : Bool := false
  upA : Nat := 0
  upB : Nat := 0
  lostA : Bool := false
  lostB : Bool := false
  /-- A PDU sent since the last send point (R292). -/
  sentA : Bool := false
  sentB : Bool := false
  /-- The outlet the last select button chose, and the 5 ns tick of it (R313). -/
  selected : Option (Nat × Nat) := none
  /-- A card held as pre-authorisation (R313). -/
  preauth : Option (List Nat) := none
  deriving DecidableEq, Repr

/-- The vehicle session and the dispenser reports of one outlet (R301 to R314). -/
structure VehSession where
  /-- The 5 ns tick at which the present state was entered. -/
  entered : Nat := 0
  pluggedAt : Nat := 0
  conn : Bool := false
  pilot : Nat := 0
  pp : Nat := 0
  linkUp : Bool := false
  /-- The protocol handshake has been answered. -/
  shook : Bool := false
  /-- Vehicle session contexts in use, at most 2 (R308). -/
  contexts : Nat := 0
  /-- Charge parameters received; the precharge request made; the power-delivery start and the vehicle's voltage in 0.025 V. -/
  params : Bool := false
  wantPre : Bool := false
  wantPower : Option Nat := none
  lock : Option Nat := none
  lockCmd : Bool := false
  /-- The latest IMD_STATE: STATE and R_ISO (R372). -/
  imd : Option (Nat × Nat) := none
  imdFresh : Bool := false
  /-- Authorisation (R313): AUTH_KIND of R342, the identity and the host's reference. -/
  held : Bool := false
  kind : Nat := 0
  ident : List Nat := []
  href : List Nat := []
  startBtn : Bool := false
  /-- A card, or an EMAID, awaiting the owner's answer, and a certificate request that does (R311, R313), with their REQ_IDs. -/
  asked : Option (Nat × Bool × List Nat) := none
  certAsked : Option Nat := none
  reqNo : Nat := 0
  /-- Set out of service by a host (R302). -/
  outOfService : Bool := false
  /-- Raised maxima waiting for their save (R344). -/
  vehDue : Option (Nat × Nat × Nat × Nat) := none
  /-- U_T of R372 in 0.025 V. -/
  testV : Nat := 0
  /-- The display page last named (R294, R313). -/
  page : Nat := 0
  /-- PUMP and FAN last sent and the ticks since (R312). -/
  pump : Option Nat := none
  fan : Nat := 0
  coolTicks : Nat := 0
  /-- The outlet has been lost to LINK_LOST in this session (R304). -/
  lost : Bool := false
  deriving DecidableEq, Repr

/-- A write to the legal MRAM that waits for the common block to take it (R25, R89). `forSave` names an outlet whose raised maxima
wait for this save (R344). -/
structure LegalWrite where
  addr : Nat
  data : List Byte
  forSave : Option Nat := none
  deriving DecidableEq, Repr

/-- One slot of the legal log (R342, R347): directory state, number, read-outs and the acknowledging SEQ. -/
structure LegalSlot where
  state : Nat := 0
  txNo : Nat := 0
  readouts : Nat := 0
  ackSeq : Nat := 0
  deriving DecidableEq, Repr

/-- An open transaction (R336 to R342): the opening fields of its record and what has gathered since. `closing` is the reason and the
stop cause of a passed closing position, with the last block it takes (`none`: every block registered already). -/
structure Trans where
  slot : Nat
  txNo : Nat
  openTime : Nat
  openUtc : Nat
  bootOpen : Nat
  impOpen : Nat
  expOpen : Nat
  blockOpen : Nat
  authKind : Nat
  ident : List Nat
  href : List Nat
  eventOpen : Nat
  rCable : Nat
  iStart : Nat
  paramCheck : Nat
  progVer : Nat
  progHash : List Byte
  didImp : Bool := false
  didExp : Bool := false
  overRange : Bool := false
  negBlock : Bool := false
  gaps : Nat := 0
  dirs : Nat := 0
  unregImp : Nat := 0
  unregExp : Nat := 0
  closing : Option (Nat × Nat × Option Nat) := none
  closeTime : Nat := 0
  closeUtc : Nat := 0
  deriving DecidableEq, Repr

/-- One outlet's meter (R322 to R344). -/
structure Meter where
  imp : Nat := 0
  exp : Nat := 0
  impFrac : Nat := 0
  expFrac : Nat := 0
  /-- What HEAD_IDENT told, and the UNIT last authenticated. -/
  unit : Nat := 0
  lastUnit : Option Nat := none
  vLsb : Nat := 0
  iLsb : Nat := 0
  keep : Nat := 0
  headClass : Nat := 0
  stat : List Nat := []
  /-- A parent key of the session key has been invalidated (R327). -/
  orphaned : Bool := false
  /-- Next block to register; fragments held; blocks taken at or above it, each with its acceptance (Sundial time and tick); the blocks
  declared missed. -/
  next : Nat := 0
  frags : List (Nat × Nat × List Byte) := []
  taken : List (Nat × (Nat × Nat) × List Byte) := []
  missed : List Nat := []
  /-- Acceptance of the last registered block, and the highest block accepted. -/
  tAcc : Nat := 0
  accTick : Nat := 0
  highest : Option Nat := none
  /-- Class of the last registering sample, and samples since it (R331). -/
  exporting : Option Bool := none
  idle : Nat := 0
  pLast : Nat := 0
  pLastX : Nat := 0
  /-- The slot reserved or open (R335, R336). -/
  slot : Option Nat := none
  tx : Option Trans := none
  saveNo : Nat := 0
  saveBank : Nat := 0
  /-- Sum of squared currents (nA²) and samples since the last tick (R332). -/
  i2 : Nat := 0
  i2n : Nat := 0
  /-- The program in force (R354) and the parameter record in force, 32 bytes (R353). -/
  progHash : List Byte := []
  record : List Byte := []
  deriving DecidableEq, Repr

/-- The metrology of a pavilion beyond its outlets (R336 to R351). -/
structure Legal where
  meters : Vector Meter 24 := Vector.replicate 24 {}
  slots : Sparse LegalSlot := []
  writes : List LegalWrite := []
  /-- Bytes 0 to 479 of the record last committed (R342, PREV). -/
  prev : List Byte := []
  /-- Records closed after both copies failed (R350). -/
  held : List (Nat × List Byte) := []
  /-- Energy in 2^-32 mWh that each test output has still to give as pulses (R351). -/
  residue : Vector Int 4 := Vector.replicate 4 0
  deriving DecidableEq, Repr

/-- The weld checks of R378 and R379: `pre` before closing, with the run of blocks that fail it; `drop` waits T_DROP; `comparing`
holds whether each of the last two blocks shows a difference below WT_DIFF with the larger voltage at or above WT_VMIN. -/
inductive Weld where
  | idle | pre (run : Nat) | drop | comparing (last : List Bool)
  deriving DecidableEq, Repr

/-- The safety engine's state for one outlet (R357 to R380). Voltages are in 2^-31 of 1,638.4 V, as v_out is. -/
structure SafetyOutlet where
  ovRun : Nat := 0
  zcRun : Nat := 0
  /-- Tripped, with the gate still to be cleared (R377). -/
  clearing : Bool := false
  /-- Triggers reported since the last closure: function, DETAIL, cause. -/
  reports : List (Nat × Nat × Nat) := []
  /-- A trigger was present at the last closure. -/
  trigger : Bool := false
  weld : Weld := .idle
  weldFailed : Bool := false
  preOk : Bool := false
  /-- The SF5 acceptance of this cable check (R372). -/
  isoOk : Bool := false
  /-- Mean voltage of the latest registered head block, and block means not yet compared, with mean v_out and i_out over each. -/
  headV : Option Int := none
  headNew : List (Int × Option (Nat × Int × Nat)) := []
  vSum : Nat := 0
  iSum : Int := 0
  vN : Nat := 0
  badRun : Nat := 0
  hot : Nat := 0
  tCond : Option Int := none
  /-- The safety channel's latest check passed (R367, R375). -/
  checkOk : Bool := true
  /-- Every fresh frame period of this tick lay above the degraded limit (R391). -/
  degOver : Option Bool := none
  unlockSent : Bool := false
  /-- The set in force for this outlet is still the one before the last confirmation (R387). -/
  oldSet : Bool := false
  deriving DecidableEq, Repr

/-- The safety engine's state beyond its outlets (R357 to R393). -/
structure Safety where
  outs : Vector SafetyOutlet 24 := Vector.replicate 24 {}
  /-- SISET and SRSET of the latest closure, and the diagnostic faults seen at the one before. -/
  siset : Nat := 0
  srset : Nat := 0
  faults : Nat := 0
  /-- Degraded mode has run out: faulted inputs count as demand (R391); ticks of it gone. -/
  expired : Bool := false
  degTicks : Nat := 0
  /-- The value a SAFE_RESET press would confirm (R388). -/
  confirm : Option Nat := none
  /-- The confirmed set in force, and the one before it (R387). -/
  inForce : List Byte := []
  before : List Byte := []
  /-- The gate bits the safety engine asks for, and banks to switch off once their gates are clear (R358, R368). -/
  gates : Nat := 0
  bankFail : Nat := 0
  /-- A channel's check failed since the last closure: its number. -/
  checkFail : List Nat := []
  deriving DecidableEq, Repr

/-- The samplers of SIO beyond its registers (R360 to R363, R393). -/
structure SioState where
  /-- Consecutive pulses at which an input stayed high, or fell in another TP's window, and at which a TP read back wrong. -/
  stayRun : Vector Nat 16 := Vector.replicate 16 0
  fellRun : Vector Nat 16 := Vector.replicate 16 0
  tpRun : Vector Nat 4 := Vector.replicate 4 0
  /-- Diagnostic code of each faulted input (R363), 0 for none. -/
  code : Vector Nat 16 := Vector.replicate 16 0
  /-- A press completed since the last closure. -/
  pressed : Bool := false
  deriving DecidableEq, Repr

/-- What the switch controller keeps of a channel beyond its registers (R401 to R410, R416). Ticks are of 5 ns. -/
structure Switch where
  /-- The last switch-on, the first one of an open warm-up window, and the last short detection. -/
  onAt : Nat := 0
  lampFrom : Option Nat := none
  shortAt : Option Nat := none
  /-- A trip held pending for 50 µs: its instant and cause. -/
  pending : Option (Nat × Nat) := none
  /-- Waiting for the switch-on that follows an attributed trip, and consecutive attributed trips. -/
  attrWait : Bool := false
  attrRun : Nat := 0
  /-- Tj has reached 170 °C and not yet fallen to 150 °C; T_RETRY has run out meanwhile. -/
  hot : Bool := false
  due : Bool := false
  /-- The switch-on that waits for Tj is a new one; ON has been written 0 since FAULT was entered (R407, R421). -/
  fresh : Bool := false
  zeroed : Bool := false
  deriving DecidableEq, Repr

/-- The switch controller beyond its registers. -/
structure LswState where
  chans : Vector Switch 32 := Vector.replicate 32 {}
  /-- Banks taken out of service that stay out until a reset or RESTORE (R413). -/
  out : Nat := 0
  /-- Banks under the overload cut of R405. -/
  cutting : Nat := 0
  /-- A non-zero claim has been presented since the last whole-device reset (R417). -/
  claimSeen : Bool := false
  /-- Trips of safety channels that the safety engine has still to see (R414). -/
  safetyTrips : List Nat := []
  deriving DecidableEq, Repr

/-- A host session context (R426, R432 to R434, R444, R445). `phase`: 0 free, 1 TCP accepted, 2 TLS done, 3 open. What an ended session
was stays until its context is taken again, for the requests of it that are still in the log (R449). -/
structure Session where
  phase : Nat := 0
  /-- Host port and carrying lane. -/
  port : Nat := 0
  lane : Pav := .A
  principal : Nat := 0
  role : Nat := 0
  major : Nat := 0
  /-- Slot of the trust anchor, and the certificate's validity in UTC ms (R429). -/
  anchor : Nat := 0
  notBefore : Nat := 0
  notAfter : Nat := 0
  name : List Byte := []
  mask : Nat := 0
  evNext : Nat := 0
  /-- Events sent and not acknowledged, oldest first: number, code, data (R445); events dropped since the last EVENTS_LOST. -/
  unacked : List (Nat × Nat × List Nat) := []
  dropped : Nat := 0
  /-- Requests sequenced whose responses are due (R431). -/
  waiting : Nat := 0
  /-- TCP retransmissions under way (R427). -/
  retx : Nat := 0
  deriving DecidableEq, Repr

/-- The kinds of long operations (Table HST-7). -/
inductive OpKind where
  | tune (o i c : Nat)
  | capture (u : Nat)
  | log (log start count : Nat)
  | keyUpdate (slot : Nat)
  | stage
  | activate
  | rollback
  deriving DecidableEq, Repr

/-- One operation (R441, R443). -/
structure HostOp where
  index : Nat
  gen : Nat
  principal : Nat
  kind : OpKind
  done : Bool := false
  progress : Nat := 0
  result : Nat := 0
  detail : Nat := 0
  bytes : List Byte := []
  deriving DecidableEq, Repr

/-- A stored TAG with its response (R439). -/
structure TagEntry where
  principal : Nat
  tag : Nat
  code : Nat
  status : Nat
  handle : Nat
  body : List Byte
  deriving DecidableEq, Repr

/-- Events held for a principal whose last session has ended (R445). -/
structure Absent where
  principal : Nat
  mask : Nat
  events : List (Nat × List Nat)
  dropped : Nat := 0
  deriving DecidableEq, Repr

/-- Where the entry into RETURN stands (R592): closing transactions, or done and waiting for the reset. -/
inductive Returning where
  | no | closing | reset
  deriving DecidableEq, Repr

/-- What the host side holds alike in both pavilions (R425 to R453, R592 to R595). -/
structure Hosts where
  sessions : Vector Session 16 := Vector.replicate 16 {}
  ops : List HostOp := []
  /-- Last counter per handle index (R441). -/
  counters : Sparse Nat := []
  tags : List TagEntry := []
  absent : List Absent := []
  /-- The session that set each outlet's priority, and the tick at which each principal's last session ended. -/
  prioBy : Vector (Option Nat) 24 := Vector.replicate 24 none
  lastSeen : List (Nat × Nat) := []
  /-- UTC in ms at a tick (R429). -/
  utc : Option (Nat × Nat) := none
  /-- A pending device.return: role and nonce (R450), and the entry into RETURN in progress. -/
  ret : Option (Nat × List Byte) := none
  returning : Returning := .no
  /-- The last service.unlock challenge, unused, with the tick of its issue; the service port (R594, R595). -/
  chal : Option (List Byte × Nat) := none
  servicePort : Bool := false
  /-- Installed SECC chains and trust anchors: KIND, INDEX, MARK, DER chain (R310). -/
  certs : List (Nat × Nat × Nat × List Byte) := []
  /-- The parameter records with the staged writes in them, and the pending set (R448, R534). -/
  staged : Option Mem := none
  pending : Option Mem := none
  deriving DecidableEq, Repr

/-- What a CAN FD controller keeps beyond its registers (R456 to R471). -/
structure CanState where
  /-- The mailbox in transmission, and the STATE an ABORT or a deadline gives it if its frame fails (R464, R465). -/
  sending : Option Nat := none
  onFail : Option Nat := none
  /-- A frame has completed on the bus since bus-off entry (R469). -/
  busy : Bool := false
  /-- The wake frame to enter after wake (R471). -/
  wakeFrame : Option CanFrame := none
  deriving DecidableEq, Repr

/-- One mains-carrier node (R477 to R487). -/
structure CarrierNode where
  caps : Nat := 0
  /-- Highest SEQ accepted and the record of the 32 below it (R290, R477). -/
  high : Option Nat := none
  seen : Nat := 0
  /-- LQI of its neighbours as last reported. -/
  lqi : List (Nat × Nat) := []
  /-- Recommended modulation and tone map, consecutive successes since a failure, and the modulation meanwhile (R484, R485). -/
  recMod : Nat := 0
  recTm : Nat := 63
  good : Nat := 2
  mod : Nat := 0
  pend : Bool := false
  deriving DecidableEq, Repr

/-- A transaction of the carrier (R476, R484): its number; the node; its route, repeaters from the device outward; whether it is a poll, whose
origin is the node; hop in progress, attempts on it, route changes so far; TYPE and payload; placed first after a new route. -/
structure CarrierTrans where
  no : Nat
  node : Nat
  route : List Nat := []
  up : Bool := false
  hop : Nat := 0
  tries : Nat := 0
  alts : Nat := 0
  seq : Nat := 0
  type : Nat := 3
  payload : List Byte := []
  fresh : Bool := false
  deriving DecidableEq, Repr

/-- A node that joins (R480): EUI, CAPS, ZC_OFS, the BEACON_ANGLE it refers to, its table entry, the challenge and its route. -/
structure CarrierJoin where
  eui : Nat
  caps : Nat
  zcOfs : Nat
  angle : Nat
  entry : Nat
  chal : List Byte
  route : List Nat
  deriving DecidableEq, Repr

/-- The mains carrier beyond its registers (R472 to R491). -/
structure Carrier where
  nodes : Vector CarrierNode 65 := Vector.replicate 65 {}
  joining : List CarrierJoin := []
  trans : List CarrierTrans := []
  nextNo : Nat := 0
  /-- Links marked unusable: the two ends. -/
  unusable : List (Nat × Nat) := []
  /-- Superframe number, the slot in progress (none before the first), and the slot map: transmitter, transaction, hop. -/
  superframe : Nat := 0
  slot : Option Nat := none
  map : List (Nat × Nat × Nat) := []
  beaconAngle : Nat := 0
  seqNo : Nat := 0
  /-- The device transmits in the slot in progress to this node (0: to all); the last 3 such slots, newest first: heard, acknowledged, node
  (R487). -/
  sentTo : Option Nat := none
  recent : List (Bool × Bool × Nat) := []
  feFault : Bool := false
  /-- The repeater that sent DISCOVER last. -/
  discover : Nat := 0
  deriving DecidableEq, Repr

/-- A Gatehouse session context (R516): class 0 vehicle, 1 host, 2 head, 3 lane, 4 node, 5 spare; the slot it was derived from, the peer,
whether its key is orphaned, and the session key. -/
structure KeyContext where
  cls : Nat
  slot : Nat
  peer : Nat
  orphaned : Bool := false
  key : List Byte := []
  deriving DecidableEq, Repr

/-- A challenge issued and not yet answered (R509, R510): its context, slot, peer, LABEL, LANE and C. -/
structure Challenge where
  ctx : Nat
  slot : Nat
  peer : Nat
  label : Nat
  lane : Nat
  c : List Byte
  deriving DecidableEq, Repr

/-- A Gatehouse request in work (R518). -/
structure GateRequest where
  desc : Nat
  engine : Nat
  replyQ : Nat
  status : Nat
  out : List Byte := []
  outAddr : Nat := 0
  deriving DecidableEq, Repr

/-- The Gatehouse beyond its registers (R495 to R520). -/
structure Gate where
  /-- Key material by slot (R495). -/
  material : Sparse (List Byte) := []
  contexts : Vector (Option KeyContext) 192 := Vector.replicate 192 none
  challenges : List Challenge := []
  work : List GateRequest := []
  /-- Running alone with a failed random source (R515). -/
  noRandom : Bool := false
  copyKey : Bool := false
  deriving DecidableEq, Repr

/-- What the LAYOUT part of the active image declares (R524, R600, R150, R151). -/
structure Layout where
  twoCycle : Bool := false
  /-- OFFSET_c and OFFSET_r of R600, and the slots that carry them. -/
  offClose : Nat := 0
  offRelease : Nat := 0
  /-- The engine that writes each group's command frame (R135); none before an image names one. -/
  groupEngine : Vector (Option Eng) 32 := Vector.replicate 32 none
  /-- W_e and W_c,e per engine (R150, R151). -/
  work : List Nat := []
  workClose : List Nat := []
  /-- Serialisation lengths, in characters, of the largest frames the endpoints declare (R600). -/
  upChars : Nat := 96
  downChars : Nat := 64
  /-- The capture reservation in 64 KiB units from 0x1000_0000 (R220), and the status area's SRAM address (R250). -/
  captureUnits : Nat := 0
  statusBase : Nat := 0
  build : Nat := 0
  /-- VERSION and PART_HASH of the METROLOGY part, VERSION of the SAFETY part (R526, R541). -/
  metVer : Nat := 0
  metHash : List Byte := []
  safVer : Nat := 0
  /-- CTL_PBASE, and the engine and coefficient area of each standard-loop outlet (R227, R254). -/
  pbase : Nat := 0
  swapEngine : List Nat := []
  swapAddr : List Nat := []
  /-- The result area for host operations, in bytes (R442). -/
  resultArea : Nat := 0
  deriving DecidableEq, Repr

/-- A staging in progress, and a staged activation (R529 to R540). The images themselves lie in the pavilions' MRAM (R523). -/
structure Update where
  /-- PART, LENGTH, DIGEST and the handle of the staging in progress; the delta bytes accepted. -/
  staging : Option (Nat × Nat × List Byte × Nat) := none
  bytes : List Byte := []
  /-- Handle of the activation in progress, its target slot, whether it changes only the parameter set, and the pavilion that led at its
  start. -/
  act : Option Nat := none
  target : Nat := 0
  paramOnly : Bool := false
  lead : Pav := .A
  warmTicks : Nat := 0
  /-- The handover waits for single-lane groups, and SL_WAIT has run out (R538). -/
  slWait : Bool := false
  slOut : Bool := false
  deriving DecidableEq, Repr

/-- What AON and the supply monitors keep beyond the registers (R547 to R563). -/
structure PowerState where
  /-- The 5 ns tick since which the night conditions have held (R555). -/
  idleFrom : Option Nat := none
  /-- The common block is held in reset. -/
  inReset : Bool := false
  /-- A VIO33 rail below its window. -/
  lostA : Bool := false
  lostB : Bool := false
  /-- The sleep agreement's entry has been sequenced. -/
  asked : Bool := false
  /-- Wake sources active while an agreement runs. -/
  waking : Nat := 0
  /-- Every condition of R553 has held since the last allocation tick. -/
  quiet : Bool := false
  deriving DecidableEq, Repr

/-- What the device sends (R166, R157, R159, R76, R77, R84, R94, R101 and the link chapters). A pavilion's own sends name it. -/
inductive Tx where
  | stageFrame (p : Pav) (g : Nat) (frame : List Byte)
  | cycleMark (p : Pav) (g seq frac : Nat)
  | echo (p : Pav) (g : Nat) (token : Byte)
  | forward (p : Pav) (g : Nat) (frame : List Byte)
  | closureVector (p : Pav) (v : BitVec 64)
  | digest (p : Pav) (d : Word)
  | selfCheck (p : Pav) (pass : Bool)
  | renewal (p : Pav) (claim seq : Nat)
  | logEntry (p : Pav) (e : LogEntry)
  | refereeRequest
  | joinRequest (p : Pav)
  | joinRefused (p : Pav)
  | handover (p : Pav) (boundary nextSeq : Nat)
  | askLease (p : Pav)
  | dlp (d : Nat) (type : Nat) (body : List Nat)
  | dlpLane (p : Pav) (d : Nat) (type : Nat) (body : List Nat)
  | net (port : Nat) (what : Nat) (body : List Nat)
  | rhp (session : Nat) (kind flags tag code status handle : Nat) (body : List Byte)
  | rhpEvent (session : Nat) (number code : Nat) (body : List Nat)
  | input (p : Pav) (kind source : Nat) (payload : List Byte)
  | can (n : Nat) (mailbox : Nat) (hdr : Nat) (data : List Nat)
  | mcc (node : Nat) (type : Nat) (body : List Nat)
  | gatehouse (engine : Nat) (status : Nat) (body : List Nat)
  | mtpPulse (n : Nat)
  | pin (name : Nat) (level : Nat)
  deriving DecidableEq, Repr


/-- The input-set window before the first closure: MISSING set in every status word (R80), F at 0x1_0000 in ASTAT (R283), all else 0. -/
def winReset : Mem := ((List.range 32).map fun g => (4 * g, 2#8)) ++ [(0x1286, 1#8)]

/-- What one pavilion holds for itself (R17, R23, R68, R76 to R107). -/
structure Local where
  regs : Regs := []
  engines : Vector Engine 12 := Vector.replicate 12 {}
  sram : Mem := []
  mram : Mem := []
  /-- Input-set window, the set waiting for the boundary in two-site-cycle mode (R136), and the output window (R26). -/
  inWin : Mem := winReset
  inNext : Option Mem := none
  outWin : Mem := []
  /-- The current cycle's stage frames by lane (R76, R77), and whether the closure instant has passed. -/
  rxA : Vector (Option (List Byte)) 32 := Vector.replicate 32 none
  rxB : Vector (Option (List Byte)) 32 := Vector.replicate 32 none
  closed : Bool := false
  vector : BitVec 64 := 0
  /-- The input set of this cycle has been written. -/
  setDone : Bool := false
  reports : List LaneReport := []
  frozenReports : List LaneReport := []
  /-- LEAD of the pavilion's own lanes in ns (R157, R159), and the outstanding ECHO tokens. -/
  lead : Vector Nat 32 := Vector.replicate 32 0
  echo : Vector (Option Byte) 32 := Vector.replicate 32 none
  echoNo : Nat := 0
  /-- The input-log ring (R82), the next SEQ, and a sequencing hold in progress. -/
  log : List LogEntry := []
  nextSeq : Nat := 0
  logHeld : Bool := false
  /-- Inputs that wait for room in the ring, oldest first: kind, source, payload, switching (R82). -/
  inputs : List (Nat × Nat × List Byte × Bool) := []
  /-- Accepted CAN frames that await sequencing in the leader or are kept by the follower, and the start-of-frame timestamp of the last one
  sequenced, by channel (R459). -/
  canRx : Vector (List CanFrame) 2 := Vector.replicate 2 []
  canSeq : Vector Nat 2 := Vector.replicate 2 0
  /-- A shadow comparison has failed; the divergence procedure starts at the next closure (R457). -/
  shadowBad : Bool := false
  /-- The last claim the peer presented (R87). -/
  peerClaim : Nat := 0
  /-- A restart ordered by a controlled stop is due (R94, R105). -/
  restartDue : Bool := false
  div : Option Divergence := none
  join : JoinPhase := .idle
  ind : Indicators := {}
  /-- Single-bit corrections since the last journal entry on them, by memory: the ITCM of engine e is e, its DTCM 16 + e, shared SRAM 32, MRAM 33,
  legal MRAM 34 (R23, R256). -/
  corrected : Sparse Nat := []
  /-- 5 ns ticks of the settings aside within the last hour (R96), and the hold after the third. -/
  setAsides : List Nat := []
  heldOut : Bool := false
  /-- Cause of the reset it is in, or has started from (R564). -/
  resetCause : Nat := 1
  /-- Consecutive cycles without the peer's digest (R106), and whether this cycle's own digest exists. -/
  digMiss : Nat := 0
  ownDigest : Bool := false
  /-- Ticks at which the lease was last renewed to this pavilion and at which its own LIVE bit last toggled (R84, R86). -/
  renewedAt : Nat := 0
  live : Bool := false
  liveAt : Nat := 0
  healthyAt : Nat := 0
  /-- The allocation tick a HANDBACK entry names (R104). -/
  handbackAt : Option Nat := none
  slots : Vector SlotState 64 := Vector.replicate 64 {}
  /-- The number of the next fault-journal entry (R255). -/
  jNext : Nat := 0
  /-- In reset; powered down for NIGHT. -/
  inReset : Bool := true
  powered : Bool := true
  /-- RWL fields written and not yet committed: field, instance, value (R38); the committed values of the pavilion's own RWL
  registers. -/
  rwl : List (Field × Nat × Nat) := []
  paramRegs : Regs := []
  /-- Progress of a start (R531, R533): the image check done, the parts loaded, recovery asked for. -/
  booted : Bool := false
  /-- ENTRY of each engine in the loaded image (R527). -/
  entries : Vector Word 12 := Vector.replicate 12 0
  recovering : Bool := false
  tx : List Tx := []
  deriving DecidableEq, Repr

/-- What follows from the input log and the input sets alone, and so stands alike in every pavilion in step (R30, R33, R73, R183,
R226, R256). -/
structure Replica where
  regs : Regs := []
  /-- Buffers inside replicated register windows, by 2^20 × block tag + offset: STG request and reply buffers (R184), CTL
  coefficient staging buffers (R227). -/
  blkMem : Mem := []
  links : Vector StageLink 32 := Vector.replicate 32 {}
  groups : Vector GroupLoop 32 := Vector.replicate 32 {}
  outs : Vector OutletLoop 24 := Vector.replicate 24 {}
  injs : Vector Injector 4 := Vector.replicate 4 {}
  caps : Vector Capture 4 := Vector.replicate 4 {}
  /-- Outlets whose coefficients were loaded since the last closure (R196), and engines that took one this period (R197). -/
  swapWord : Nat := 0
  swapEngines : List Nat := []
  phases : Vector Phases 32 := Vector.replicate 32 {}
  hist : Vector (List (List Byte)) 32 := Vector.replicate 32 []
  frozen : Vector (Option Frozen) 32 := Vector.replicate 32 none
  alloc : Allocation := {}
  layout : Layout := {}
  /-- The committed parameter records, by 2^16 × kind + 2^10 × index + offset, and whether a set is in force (R38, R599). -/
  params : Mem := []
  committed : Bool := false
  /-- Stage-link discovery may run (R531 step 10, R560). -/
  discovery : Bool := false
  /-- Journal entries formed and not yet written to the pavilions' MRAM (R255, R256). -/
  jq : List JEntry := []
  tx : List Tx := []
  /-- Sundial time of the position being executed. -/
  now : Nat := 0
  disps : Vector DispLink 12 := Vector.replicate 12 {}
  vehs : Vector VehSession 24 := Vector.replicate 24 {}
  legal : Legal := {}
  safety : Safety := {}
  /-- The owner principal of each outlet (R446). -/
  owners : Vector (Option Nat) 24 := Vector.replicate 24 none
  hosts : Hosts := {}
  gate : Gate := {}
  cans : Vector CanState 2 := Vector.replicate 2 {}
  carrier : Carrier := {}
  upd : Update := {}
  /-- Replicated RWL fields written and not yet committed; their committed values (R38). -/
  rwl : List (Field × Nat × Nat) := []
  paramRegs : Regs := []
  deriving DecidableEq, Repr

/-- One pavilion (R17): what it holds for itself and what it computes alike with its peer. -/
structure Pavilion where
  loc : Local := {}
  rep : Replica := {}
  deriving DecidableEq, Repr

/-- The common block (R20, R22): its registers, the Sundial, the crystals, the two copies of the legal MRAM, and the controllers behind
the load switches, the safety inputs and the always-on domain. -/
structure Common where
  regs : Regs := []
  sun : Sundial := {}
  xtalBadA : Bool := false
  xtalBadB : Bool := false
  legalA : Mem := []
  legalB : Mem := []
  sio : SioState := {}
  lsw : LswState := {}
  power : PowerState := {}
  tx : List Tx := []
  deriving DecidableEq, Repr

/-- The machine without its command queue. `free` is the model's own field, not the spec's: the running number of the next free value
(log entry 1). -/
structure Site where
  a : Pavilion := {}
  b : Pavilion := {}
  com : Common := {}
  free : Nat := 0
  deriving DecidableEq, Repr

/-- The CM-2448 with the commands that wait, first in, first out. -/
structure State where
  site : Site := {}
  pending : List Instr := []
  deriving DecidableEq, Repr

/-- Faults. No command of this model faults: every meaning answers a next state. Safe. -/
inductive Fault where
  /-- Raised by no command. Safe. -/
  | never
  deriving DecidableEq, Repr

/-- Refusals. -/
inductive Refusal where
  /-- Raised by an arm of exec whose command has no meaning yet. Safe. -/
  | notModelled (mnemonic : String)
  deriving DecidableEq, Repr

/-- Gatehouse slots as manufactured (R499): K1 holds the first vendor UPDATE_ROOT; every other slot is EMPTY (log entry 62). -/
def Regs.manufactured : Regs :=
  Regs.wr (Regs.wr (Regs.wr [] .KEY_SATTR_ATTR (1 + 1 * 16 + 3 * 128 + 0x0F * 512 + 1 * 16384) 1) .KEY_SINFO_ALG 3 1) .MET_STATUS_FREE 4096

/-- The machine right after power-on reset of a device as manufactured (R10, R564): both pavilions in reset, memories empty, every
register at the reset value of its table, kept values at what manufacture leaves (log entry 62). -/
def State.reset : State :=
  { site := { a := { rep := { regs := Regs.manufactured } }, b := { rep := { regs := Regs.manufactured } }, com := { power := { inReset := true } }, free := 0 }
    pending := [] }

end Sys2Proof.Machine
end

