-- ==== Sys2Proof/Machine/Operands.lean ====
section
/-! DEFINITION. Operand forms of the Ziljan instruction set: general registers, pairs and quads (R110, R117), immediates
(R115, R122), engine profiles (R18), and the instruction words of R115 that ILLEGAL puts into EADDR (R145). -/
namespace Sys2Proof.Machine

/-- A general register as an operand: g0 reads as zero (R110). -/
def Engine.g (en : Engine) (r : Gpr) : Word := if r = 0 then 0 else en.gpr.get r

/-- A general register as a destination: writes to g0 are discarded (R110). -/
def Engine.setG (en : Engine) (r : Gpr) (v : Word) : Engine :=
  if r = 0 then en else { en with gpr := en.gpr.set r.val v r.isLt }

/-- Register n + i, for pairs and quads. -/
def gprPlus (r : Gpr) (i : Nat) : Gpr := Fin.ofNat 32 (r.val + i)

/-- Accumulator n + i. -/
def accPlus (a : AccIx) (i : Nat) : AccIx := Fin.ofNat 8 (a.val + i)

/-- A register pair is named by an even register from g2 to g28 (R117). -/
def pairOk (r : Gpr) : Bool := r.val % 2 = 0 && 2 ≤ r.val && r.val ≤ 28

/-- A register quad is named by g4, g8, g12, g16, g20 or g24 (R117). -/
def quadOk (r : Gpr) : Bool := r.val % 4 = 0 && 4 ≤ r.val && r.val ≤ 24

/-- A vector accumulator operand is a0 or a4 (R117). -/
def accQuadOk (a : AccIx) : Bool := a.val % 4 = 0

/-- Lane `i` of a quad. -/
def Engine.lane (en : Engine) (r : Gpr) (i : Nat) : Word := en.g (gprPlus r i)

/-- A pair written low word first. -/
def Engine.setPair (en : Engine) (r : Gpr) (lo hi : Word) : Engine := (en.setG r lo).setG (gprPlus r 1) hi

/-- A quad written lane by lane from `v`. -/
def Engine.setQuad (en : Engine) (r : Gpr) (v : Nat → Word) : Engine :=
  (((en.setG r (v 0)).setG (gprPlus r 1) (v 1)).setG (gprPlus r 2) (v 2)).setG (gprPlus r 3) (v 3)

/-- An accumulator's value and its replacement (R110). -/
def Engine.a (en : Engine) (i : AccIx) : Acc := en.acc.get i
def Engine.setA (en : Engine) (i : AccIx) (v : Acc) : Engine := { en with acc := en.acc.set i.val v i.isLt }

/-- sext(IMM) and zext(IMM) of the 14-bit immediate (R122). -/
def sext14 (i : BitVec 14) : Word := i.signExtend 32
def zext14 (i : BitVec 14) : Word := i.zeroExtend 32
/-- sext(OFF) in bytes, and in words for branches (R123, R125). -/
def sextOff (o : BitVec 15) : Word := o.signExtend 32
def branchOff (o : BitVec 15) : Word := sextOff o <<< 2

/-- Engine codes of R69, in the order of the engine table of R18. -/
def lodge : Eng := 0
def allocationCore : Eng := 1
def metrologyEngine : Eng := 7
def safetyEngine : Eng := 10
def gatehouse : Eng := 11

/-- LE0 to LE4 and the safety engine have the loop profile (R18). -/
def loopProfile (e : Eng) : Bool := (2 ≤ e.val && e.val ≤ 6) || e.val = 10

/-- LE0 to LE4. -/
def isLoopEngine (e : Eng) : Bool := 2 ≤ e.val && e.val ≤ 6

/-- The last address of an ITCM is 0x0003_FFFF (R26). -/
def inItcm (a : Word) : Bool := a.toNat < 0x40000

/-- Instruction words (R115): class, D, S1 and the low 18 bits. -/
def encode (cls : Nat) (d s1 : Gpr) (low : Nat) : Word :=
  BitVec.ofNat 32 (cls * 2 ^ 28 + d.val * 2 ^ 23 + s1.val * 2 ^ 18 + low)
/-- Class 0x4 (R115, R125). -/
def encBranch (cond : Nat) (d s1 : Gpr) (off : BitVec 15) : Word := encode 4 d s1 (cond * 2 ^ 15 + off.toNat)
/-- Class 0x6 (R115, R127). -/
def encSys (func : Nat) (d s1 : Gpr) (opd : Nat) : Word := encode 6 d s1 (func * 2 ^ 12 + opd)
/-- Class 0x7 (R115, R128). -/
def encMac (func : Nat) (d s1 s2 : Gpr) (acc : AccIx) (sh : Nat) : Word :=
  encode 7 d s1 (func * 2 ^ 13 + s2.val * 2 ^ 8 + acc.val * 2 ^ 5 + sh)
/-- Class 0x8 (R115, R131). -/
def encSec (func : Nat) (d s1 s2 : Gpr) (idx : BitVec 9) : Word := encode 8 d s1 (func * 2 ^ 14 + s2.val * 2 ^ 9 + idx.toNat)
/-- Class 0x9, frame forms (R115, R134). -/
def encFrame (func : Nat) (d s1 : Gpr) (fmt hw : Nat) : Word := encode 9 d s1 (func * 2 ^ 15 + fmt * 2 ^ 13 + hw * 2 ^ 7)
/-- Class 0xA (R115, R140). -/
def encTime (func : Nat) (d s1 : Gpr) (e : Bool) (slot : Nat) : Word :=
  encode 10 d s1 (func * 2 ^ 15 + (if e then 2 ^ 14 else 0) + slot)

end Sys2Proof.Machine
end

