-- ==== Sys2Proof/Machine/Flags.lean ====
section
/-! DEFINITION. The FLAGS register of Table ISA-2 (R112) and the saturation, rounding and carry rules that set it
(R118 to R121). -/
namespace Sys2Proof.Machine

/-- Flag numbers of Table ISA-2. -/
def flagC : Nat := 0
def flagQ : Nat := 1
def flagDZ : Nat := 2
def flagM : Nat := 3
def flagQE : Nat := 4
def flagLT : Nat := 5
def flagLIM : Nat := 6
def flagAL : Nat := 7
def flagIE : Nat := 8
def flagEXC : Nat := 9
def flagPIE : Nat := 10

/-- A flag's value. -/
def Engine.flag (en : Engine) (n : Nat) : Bool := en.flags.getLsbD n

/-- The flags word with one bit replaced. -/
def flagPut (w : BitVec 11) (n : Nat) (b : Bool) : BitVec 11 :=
  if b then w ||| (1#11 <<< n) else w &&& ~~~(1#11 <<< n)

/-- A flag set to a value. -/
def Engine.setFlag (en : Engine) (n : Nat) (b : Bool) : Engine := { en with flags := flagPut en.flags n b }

/-- A sticky flag: set when `b`, otherwise left (R112). -/
def Engine.stick (en : Engine) (n : Nat) (b : Bool) : Engine := if b then en.setFlag n true else en

/-- Saturation to the nearest bound (R118), and whether it occurred. -/
def satTo (lo hi x : Int) : Int := if x < lo then lo else if hi < x then hi else x
def satHit (lo hi x : Int) : Bool := decide (x < lo) || decide (hi < x)

/-- sat32: saturation to -2^31 to 2^31 - 1 (R120). -/
def sat32 (x : Int) : Word := BitVec.ofInt 32 (satTo (-2147483648) 2147483647 x)
def sat32Hit (x : Int) : Bool := satHit (-2147483648) 2147483647 x

/-- Accumulator saturation to -2^71 to 2^71 - 1 (R119). -/
def sat72 (x : Int) : Acc := BitVec.ofInt 72 (satTo (-(2 ^ 71)) (2 ^ 71 - 1) x)
def sat72Hit (x : Int) : Bool := satHit (-(2 ^ 71)) (2 ^ 71 - 1) x

/-- Rounding (R118): half of the discarded weight is added, then an arithmetic right shift; a shift by 0 does not round. -/
def roundShift (x : Int) (sh : Nat) : Int := if sh = 0 then x else (x + 2 ^ (sh - 1)) / 2 ^ sh

/-- The carry out of a 33-bit sum (R120, addc and subc). -/
def carryOut (x y : Word) (c : Bool) : Bool := decide (2 ^ 32 ≤ x.toNat + y.toNat + c.toNat)

/-- The Q1.31 product of mulq and vmulq before saturation (R120, R128). -/
def mulqExact (x y : Word) : Int := (x.toInt * y.toInt + 2 ^ 30) / 2 ^ 31

end Sys2Proof.Machine
end

