-- ==== Sys2Proof/Machine/Ops.lean ====
section
/-! DEFINITION. The named operations every meaning is written over: access to pavilions, engines, registers and logs; CRCs;
time; the journal; taking an exception and returning from one; outlet openings; roles; resets. -/
namespace Sys2Proof.Machine

/-- The outcome of a command. -/
abbrev Result := Host.Outcome State Fault Refusal

/-! ### State access -/

/-- A command whose effect is a function of everything but the queue. -/
def State.run (s : State) (f : Site → Site) : Result := .next { s with site := f s.site }

def Site.pav (t : Site) : Pav → Pavilion
  | .A => t.a
  | .B => t.b
def Site.modPav (t : Site) (p : Pav) (f : Pavilion → Pavilion) : Site :=
  match p with
  | .A => { t with a := f t.a }
  | .B => { t with b := f t.b }
def Site.modLoc (t : Site) (p : Pav) (f : Local → Local) : Site := t.modPav p fun v => { v with loc := f v.loc }
def Site.modRep (t : Site) (p : Pav) (f : Replica → Replica) : Site := t.modPav p fun v => { v with rep := f v.rep }
def Site.modCom (t : Site) (f : Common → Common) : Site := { t with com := f t.com }

def Local.eng (l : Local) (e : Eng) : Engine := l.engines.get e
def Local.setEng (l : Local) (e : Eng) (en : Engine) : Local := { l with engines := l.engines.set e.val en e.isLt }
def Site.eng (t : Site) (p : Pav) (e : Eng) : Engine := (t.pav p).loc.eng e
def Site.setEng (t : Site) (p : Pav) (e : Eng) (en : Engine) : Site := t.modLoc p fun l => l.setEng e en
def Site.modEng (t : Site) (p : Pav) (e : Eng) (f : Engine → Engine) : Site := t.setEng p e (f (t.eng p e))

def Local.rd (l : Local) (f : Field) (i : Nat := 0) : Nat := l.regs.rd f i
def Local.wr (l : Local) (f : Field) (v : Nat) (i : Nat := 0) : Local := { l with regs := l.regs.wr f v i }
def Local.raise (l : Local) (f : Field) (i : Nat := 0) : Local := { l with regs := l.regs.raise f i }
def Local.send (l : Local) (x : Tx) : Local := { l with tx := l.tx ++ [x] }
def Replica.rd (r : Replica) (f : Field) (i : Nat := 0) : Nat := r.regs.rd f i
def Replica.wr (r : Replica) (f : Field) (v : Nat) (i : Nat := 0) : Replica := { r with regs := r.regs.wr f v i }
def Replica.raise (r : Replica) (f : Field) (i : Nat := 0) : Replica := { r with regs := r.regs.raise f i }
def Replica.send (r : Replica) (x : Tx) : Replica := { r with tx := r.tx ++ [x] }
def Common.rd (c : Common) (f : Field) (i : Nat := 0) : Nat := c.regs.rd f i
def Common.wr (c : Common) (f : Field) (v : Nat) (i : Nat := 0) : Common := { c with regs := c.regs.wr f v i }
def Common.raise (c : Common) (f : Field) (i : Nat := 0) : Common := { c with regs := c.regs.raise f i }

/-- A bit of a field. -/
def bitOf (v i : Nat) : Bool := v.testBit i
/-- A bit set to a value. -/
def putBit (v i : Nat) (b : Bool) : Nat := if b then v ||| 2 ^ i else v &&& (2 ^ 64 - 1 - 2 ^ i)

/-- An entry of a vector replaced. -/
def vput {α : Type} {n : Nat} (v : Vector α n) (i : Nat) (x : α) : Vector α n := if h : i < n then v.set i x h else v
/-- An entry of a vector, `d` beyond its end. -/
def vget {α : Type} {n : Nat} (v : Vector α n) (i : Nat) (d : α) : α := if h : i < n then v.get ⟨i, h⟩ else d

def Replica.link (r : Replica) (g : Nat) : StageLink := vget r.links g {}
def Replica.setLink (r : Replica) (g : Nat) (x : StageLink) : Replica := { r with links := vput r.links g x }
def Replica.grp (r : Replica) (g : Nat) : GroupLoop := vget r.groups g {}
def Replica.setGrp (r : Replica) (g : Nat) (x : GroupLoop) : Replica := { r with groups := vput r.groups g x }
def Replica.out (r : Replica) (o : Nat) : OutletLoop := vget r.outs o {}
def Replica.setOut (r : Replica) (o : Nat) (x : OutletLoop) : Replica := { r with outs := vput r.outs o x }
def Replica.ph (r : Replica) (g : Nat) : Phases := vget r.phases g {}
def Replica.setPh (r : Replica) (g : Nat) (x : Phases) : Replica := { r with phases := vput r.phases g x }
/-- A step over every group, or every outlet. -/
def Replica.eachGrp (r : Replica) (f : Nat → Replica → Replica) : Replica := (List.range 32).foldl (fun r g => f g r) r
def Replica.eachOut (r : Replica) (f : Nat → Replica → Replica) : Replica := (List.range 24).foldl (fun r o => f o r) r

/-! ### Time (R14, R50, R52, R157) -/

/-- Sundial time as the 64-bit number cycle:angle. -/
def Site.now (t : Site) : Nat := t.com.sun.a.pos / 2 ^ 32 % 2 ^ 64
/-- 5 ns ticks since power-on reset. -/
def Site.ticks (t : Site) : Nat := t.com.sun.ticks
/-- The committed switching multiple (R53). -/
def Site.mult (t : Site) : Nat := t.com.rd .SDL_MULT_N
def Site.angle (t : Site) : Nat := t.now % 2 ^ 32
def Site.cycle (t : Site) : Nat := t.now / 2 ^ 32
/-- s of R52. -/
def Site.siteIndex (t : Site) : Nat := t.angle * t.mult / 2 ^ 32
/-- The position within the site cycle (R52). -/
def Site.sitePos (t : Site) : Nat := t.angle * t.mult % 2 ^ 32 / 2 ^ 16
/-- The site-cycle sequence number of the latest boundary (R157). -/
def Site.seq (t : Site) : Nat := (t.cycle * t.mult + t.siteIndex) % 2 ^ 32
/-- A group at N/2 (R54). -/
def Site.half (t : Site) (g : Nat) : Bool := bitOf (t.com.rd .SDL_HALFMASK_HALF) g
/-- The nominal frequency in Hz (R53). -/
def Site.nominal (t : Site) : Nat := if t.com.rd .SDL_CTRL_NOMF = 0 then 50 else 60
/-- The sequence number of the frame period whose input set a frame would enter (R54, R165). -/
def Site.frameSeq (t : Site) (g : Nat) : Nat := if t.half g then t.seq - t.seq % 2 else t.seq

/-! ### CRCs -/

/-- One bit of the reflected CRC-32C (polynomial 0x1EDC_6F41). -/
def crc32cBit (c : Word) : Word := if c.getLsbD 0 then (c >>> 1) ^^^ 0x82F63B78 else c >>> 1
def crc32cByte (c : Word) (b : Byte) : Word :=
  let c := c ^^^ b.zeroExtend 32
  crc32cBit (crc32cBit (crc32cBit (crc32cBit (crc32cBit (crc32cBit (crc32cBit (crc32cBit c)))))))
/-- CRC-32C with the usual initial and final inversion (log entry 8). -/
def crc32c (bs : List Byte) : Word := ~~~(bs.foldl crc32cByte 0xFFFFFFFF)
/-- A record whose last 4 bytes hold the CRC-32C of all earlier ones. -/
def crcGood (bs : List Byte) : Bool :=
  decide (4 ≤ bs.length) && ofLe (bs.drop (bs.length - 4)) = (crc32c (bs.take (bs.length - 4))).toNat

/-- A byte, and a little-endian field, of a byte string; beyond its end 0. -/
def byteAt (bs : List Byte) (i : Nat) : Nat := (bs.getD i 0).toNat
def fieldAt (bs : List Byte) (i n : Nat) : Nat := ofLe ((bs.drop i).take n)
/-- A two's-complement reading of `w` bits. -/
def signed (w v : Nat) : Int := if v % 2 ^ w < 2 ^ (w - 1) then (v % 2 ^ w : Int) else (v % 2 ^ w : Int) - 2 ^ w
/-- A byte string padded with zeros, or cut, to a length. -/
def padTo (n : Nat) (bs : List Byte) : List Byte := bs.take n ++ List.replicate (n - bs.length) 0

/-! ### Committed parameter records (R38, R599) -/

/-- Record kinds of the committed parameter set as the model files them. -/
def recPhase : Nat := 0
def recCable : Nat := 1
def recSafety : Nat := 2
def recMcc : Nat := 3
def recProg : Nat := 4
/-- A field of a committed record. -/
def Replica.prm (r : Replica) (kind ix off n : Nat) : Nat := r.params.rdN (kind * 2 ^ 16 + ix * 2 ^ 10 + off) n

/-- CRC-32C of the committed parameter set, own registers and replicated ones (R102, R451). -/
def paramCheck (l : Local) (r : Replica) : Nat := (crc32c (Config.setBytes (l.paramRegs ++ r.paramRegs) r.params)).toNat

/-! ### Roles and log positions (R74, R75, R33) -/

def roleSetAside : Nat := 0
def roleJoining : Nat := 1
def roleFollower : Nat := 2
def roleLeader : Nat := 3
def roleHeld : Nat := 4

def Pavilion.role (v : Pavilion) : Nat := v.loc.rd .FBR_STATUS_ROLE
def Site.role (t : Site) (p : Pav) : Nat := (t.pav p).role
/-- A pavilion in step executes the input log: leader, follower, held, or a joiner from its boundary B on (R74, R97, R101). -/
def Pavilion.inStep (v : Pavilion) : Bool :=
  v.role = roleLeader || v.role = roleFollower || v.role = roleHeld ||
    (v.role = roleJoining && match v.loc.join with | .joining _ => true | _ => false)
/-- Stage, dispenser and host lanes are driven by LEADER and FOLLOWER (R75). -/
def Site.drives (t : Site) (p : Pav) : Bool := t.role p = roleLeader || t.role p = roleFollower
/-- The leader runs alone when the other pavilion is in any role but FOLLOWER (R75). -/
def Site.alone (t : Site) (p : Pav) : Bool := t.role p = roleLeader && t.role p.other ≠ roleFollower
def Site.redundant (t : Site) : Bool :=
  (t.role .A = roleLeader && t.role .B = roleFollower) || (t.role .A = roleFollower && t.role .B = roleLeader)
/-- The pavilion that holds the lease, if any; while two present claims, the one with the higher (R88 to R90). -/
def Site.leader (t : Site) : Option Pav :=
  if t.role .A = roleLeader && t.role .B = roleLeader then
    some (if (t.pav .B).loc.rd .FBR_PRESENT_OWN > (t.pav .A).loc.rd .FBR_PRESENT_OWN then .B else .A)
  else if t.role .A = roleLeader then some .A else if t.role .B = roleLeader then some .B else none
/-- Privileged outputs are taken up: no divergence is open, or the leader runs alone (R89, R105). -/
def Site.privOpen (t : Site) : Bool :=
  match t.leader with
  | some p => (t.pav p).loc.div.isNone || t.alone p
  | none => false
/-- SEQ of the log entry last sequenced. -/
def Site.logSeq (t : Site) : Nat := max (t.pav .A).loc.nextSeq (t.pav .B).loc.nextSeq - 1

/-! ### Events to hosts (R444, R445) -/

def evOpDone : Nat := 1
def evOutletState : Nat := 2
def evAuthReq : Nat := 3
def evCertReq : Nat := 4
def evDegraded : Nat := 5
def evJournal : Nat := 6
def evSafety : Nat := 7
def evLimitExpired : Nat := 8
def evOwnerChanged : Nat := 9
def evLockLapsed : Nat := 10
def evLegalLog : Nat := 11
def evEventsLost : Nat := 12
/-- The class bit of an event code (Table HST-8). -/
def evClass (code : Nat) : Nat :=
  if code = evOpDone then 0 else if code = evOutletState then 1 else if code = evAuthReq || code = evCertReq then 2
  else if code = evDegraded then 3 else if code = evJournal then 4 else if code = evSafety then 5
  else if code = evLegalLog then 7 else if code = evEventsLost then 0xFF else 6

def Replica.ses (r : Replica) (n : Nat) : Session := vget r.hosts.sessions n {}
def Replica.withHosts (r : Replica) (f : Hosts → Hosts) : Replica := { r with hosts := f r.hosts }
def Replica.setSes (r : Replica) (n : Nat) (x : Session) : Replica :=
  r.withHosts fun h => { h with sessions := vput h.sessions n x }
/-- The open sessions that meet a condition. -/
def Replica.sessions (r : Replica) (f : Session → Bool) : List Nat :=
  (List.range 16).filter fun n => (r.ses n).phase = 3 && f (r.ses n)

/-- An event to one session: CLASS, RESERVED, TIME and the data, numbered per session. With 256 unacknowledged events it is dropped and
counted; in major 1 it counts as acknowledged when sent. -/
def Replica.sessionEvent (r : Replica) (n code : Nat) (data : List Nat) : Replica :=
  let x := r.ses n
  if x.phase ≠ 3 then r
  else if 256 ≤ x.unacked.length then (r.setSes n { x with dropped := x.dropped + 1 }).raise .HST_EVENT_EVENTS_LOST
  else
    let body := [evClass code, 0, 0, 0] ++ (leBytes 8 r.now).map BitVec.toNat ++ data
    (r.setSes n { x with evNext := x.evNext + 1, unacked := if x.major = 2 then x.unacked ++ [(x.evNext, code, data)] else [] }).send
      (.rhpEvent n x.evNext code body)

/-- An event to every session that has subscribed to its class. -/
def Replica.eventClass (r : Replica) (cls code : Nat) (data : List Nat) : Replica :=
  (r.sessions fun x => bitOf x.mask cls).foldl (fun r n => r.sessionEvent n code data) r
/-- An event to every session with the operator or the OEM role, whatever it has subscribed to (R44, R444). -/
def Replica.hostEvent (r : Replica) (code : Nat) (data : List Nat) : Replica :=
  (r.sessions fun x => x.role = 1 || x.role = 2).foldl (fun r n => r.sessionEvent n code data) r
/-- An event addressed to a principal: to its sessions, or held while it is absent (R445). -/
def Replica.principalEvent (r : Replica) (p code : Nat) (sel : Session → Bool) (data : List Nat) : Replica :=
  match r.sessions fun x => x.principal = p && sel x with
  | [] => r.withHosts fun h => { h with absent := h.absent.map fun a =>
      if a.principal ≠ p || (code = evOpDone && !bitOf a.mask 0) then a
      else if 256 ≤ a.events.length then { a with dropped := a.dropped + 1 }
      else { a with events := a.events ++ [(code, data)] } }
  | ns => ns.foldl (fun r n => r.sessionEvent n code data) r
/-- An event to the owner's sessions (R446). -/
def Replica.eventOwner (r : Replica) (o code : Nat) (data : List Nat) : Replica :=
  match vget r.owners o none with
  | some p => r.principalEvent p code (fun x => x.role = 1) data
  | none => r

/-- UTC in ms, from the last time.set; 0 before one (R429). -/
def Replica.utcAt (r : Replica) (ticks : Nat) : Nat :=
  match r.hosts.utc with
  | some (ms, at') => ms + (ticks - at') / 200000
  | none => 0
def Replica.utcSet (r : Replica) : Bool := r.hosts.utc.isSome

/-- An operation completes: RESULT and the result bytes are fixed, and OP_DONE goes to its principal (R443). -/
def Replica.completeOp (r : Replica) (sel : HostOp → Bool) (result detail : Nat) (bytes : List Byte) : Replica :=
  match r.hosts.ops.find? fun x => !x.done && sel x with
  | none => r
  | some x =>
    let r := r.withHosts fun h => { h with ops := h.ops.map fun y =>
      if y.index = x.index then { y with done := true, result, detail, bytes, progress := 1000 } else y }
    r.principalEvent x.principal evOpDone (fun s => bitOf s.mask 0)
      ((leBytes 4 (x.gen * 2 ^ 16 + x.index) ++ leBytes 2 result).map BitVec.toNat)

/-- The 64 bytes of a journal entry (R255). -/
def journalBytes (no boot logSeq : Nat) (p : Pav) (redundant : Bool) (j : JEntry) : List Byte :=
  let body := leBytes 4 no ++ leBytes 8 j.time ++ leBytes 4 boot ++ leBytes 8 (if j.localTo then 2 ^ 64 - 1 else logSeq) ++
    leBytes 1 j.location ++ leBytes 1 j.instNo ++ leBytes 1 j.outcome ++ leBytes 1 j.reaction ++
    leBytes 1 ((if p = .A then 1 else 2) + (if j.localTo then 4 else 0) + (if redundant then 8 else 0)) ++
    leBytes 1 j.cause ++ leBytes 2 0 ++ padTo 28 j.detail
  body ++ leBytes 4 (crc32c body).toNat

/-- Entry E occupies slot E mod 256 of the journal at 0x21C1_0040 (R255). -/
def Local.journal (l : Local) (p : Pav) (redundant : Bool) (j : JEntry) : Local :=
  { l with mram := l.mram.wrBytes (0x21C10040 + 64 * (l.jNext % 256)) (journalBytes l.jNext (l.rd .SYS_BOOT_BOOT) l.nextSeq p redundant j)
           jNext := l.jNext + 1 }

/-- The journal entries a pavilion's replica has formed, written to its own MRAM. -/
def Pavilion.flush (v : Pavilion) (p : Pav) (redundant : Bool) : Pavilion :=
  { loc := v.rep.jq.foldl (fun l j => l.journal p redundant j) v.loc, rep := { v.rep with jq := [] } }

/-- An effect at an input-log position or input set: every pavilion in step carries it out alike (R33). -/
def Site.onStep (t : Site) (f : Pavilion → Pavilion) : Site :=
  let go (t : Site) (p : Pav) : Site := t.modPav p fun v =>
    if v.inStep then (f { v with rep := { v.rep with now := t.now } }).flush p t.redundant else v
  go (go t .A) .B
def Site.onLog (t : Site) (f : Replica → Replica) : Site := t.onStep fun v => { v with rep := f v.rep }
def State.onLog (s : State) (f : Site → Replica → Replica) : Result := s.run fun t => t.onLog (f t)

/-- A journal entry formed at an input-log position (R45, R255), and its event: the part of the entry both pavilions share (R444;
log entry 61). -/
def Replica.journal (r : Replica) (now location instNo outcome reaction cause : Nat) (detail : List Byte := []) : Replica :=
  ({ r with jq := r.jq ++ [{ time := now, location, instNo, outcome, reaction, cause, detail }] } : Replica).eventClass 4 evJournal
    ([location, instNo, outcome, reaction, cause] ++ detail.map BitVec.toNat)

/-- Location, outcome and reaction codes of R256. -/
def locPavLogic : Nat := 0x01
def locMemSingle : Nat := 0x02
def locMemDouble : Nat := 0x03
def locPavSupply : Nat := 0x04
def locVio33 : Nat := 0x05
def locStageLane : Nat := 0x06
def locDispLane : Nat := 0x07
def locHostLane : Nat := 0x08
def locCan : Nat := 0x09
def locFootbridge : Nat := 0x0A
def locCrystal : Nat := 0x0B
def locLegalCopy : Nat := 0x0C
def locClockSel : Nat := 0x0D
def locSundial : Nat := 0x0E
def locCopyCompare : Nat := 0x0F
def locLoadSwitch : Nat := 0x10
def locSafetyInput : Nat := 0x11
def locGridSense : Nat := 0x12
def locCarrierFe : Nat := 0x13
def locAon : Nat := 0x14
def locStageEndpoint : Nat := 0x15
def locSensorHead : Nat := 0x16
def locOutletGuard : Nat := 0x17
def masked : Nat := 0
def detected : Nat := 1
def restored : Nat := 2
def reLogged : Nat := 0x00
def reCorrected : Nat := 0x01
def reSetAside : Nat := 0x02
def reOtherPath : Nat := 0x03
def reControlledStop : Nat := 0x04
def reLoopOpened : Nat := 0x05
def reBankOff : Nat := 0x06
def reSafeState : Nat := 0x07
def reFreeRun : Nat := 0x08
def reNodesUnreachable : Nat := 0x09
def reDeviceReset : Nat := 0x0A
def reStreamLoss : Nat := 0x0B

/-! ### Outlets (R229, R301, Table CTL-10) -/

def modeOff : Nat := 0
def modeCableCheck : Nat := 1
def modePrecharge : Nat := 2
def modeCharging : Nat := 3
def modeStopping : Nat := 4
def modeCommission : Nat := 5
def modeFault : Nat := 6

def osUnavailable : Nat := 0
def osIdle : Nat := 1
def osPlugged : Nat := 2
def osNegotiating : Nat := 3
def osCableCheck : Nat := 4
def osPrecharge : Nat := 5
def osCharging : Nat := 6
def osStopping : Nat := 7
def osWeldCheck : Nat := 8
def osUnplugWait : Nat := 9
def osFault : Nat := 10
def osCommission : Nat := 11

def coNone : Nat := 0
def coFeedbackLost : Nat := 1
def coFeedbackFrozen : Nat := 2
def coShort : Nat := 3
def coOvercurrent : Nat := 4
def coDisagree : Nat := 5
def coEngine : Nat := 6
def coSafetyStop : Nat := 7
def coControlledStop : Nat := 8

/-- MODE that the runtime writes for an outlet state (R229). -/
def modeOfState (st : Nat) : Nat :=
  if st = osCableCheck then modeCableCheck else if st = osPrecharge then modePrecharge
  else if st = osCharging then modeCharging else if st = osStopping then modeStopping
  else if st = osCommission then modeCommission else if st = osFault then modeFault else modeOff

def Replica.mode (r : Replica) (o : Nat) : Nat := r.rd .CTL_OMODE_MODE o
def Replica.ostate (r : Replica) (o : Nat) : Nat := r.rd .DLK_OSTATE_STATE o
/-- The groups routed to an outlet (R228). -/
def Replica.groupsOf (r : Replica) (o : Nat) : List Nat := (List.range 32).filter fun g => r.rd .CTL_GFEED_OUTLET g = o


/-! ### What a step may draw on besides a replica -/

/-- The site-wide values a replica's step draws on: Sundial time, sequence number, multiple, rate, and the running number of the
next free value (log entry 1). -/
structure Env where
  now : Nat
  seq : Nat
  ticks : Nat
  mult : Nat
  halfMask : Nat
  nominal : Nat
  free : Nat
  redundant : Bool
  boot : Nat
  deriving DecidableEq, Repr

def Site.env (t : Site) : Env :=
  { now := t.now, seq := t.seq, ticks := t.ticks, mult := t.mult, halfMask := t.com.rd .SDL_HALFMASK_HALF, nominal := t.nominal,
    free := t.free, redundant := t.redundant, boot := max ((t.pav .A).loc.rd .SYS_BOOT_BOOT) ((t.pav .B).loc.rd .SYS_BOOT_BOOT) }
def Replica.utcMs (r : Replica) (v : Env) : Nat := r.utcAt v.ticks
def Env.half (v : Env) (g : Nat) : Bool := bitOf v.halfMask g
/-- A group's frame period ends with this closure: every site cycle at N, even ones at N/2 (R54). -/
def Env.period (v : Env) (g : Nat) : Bool := !v.half g || v.seq % 2 = 0

/-- A command that draws a free value advances the running number. -/
def State.onLogFree (s : State) (f : Site → Replica → Replica) : Result :=
  s.run fun t => { t.onLog (f t) with free := t.free + 1 }

/-! ### Faults (R44, R45) -/

/-- A detected or masked fault: a journal entry, and after a masked one the degraded-redundancy event to every session with the
operator or OEM role (R44, R45). -/
def Replica.fault (r : Replica) (now location instNo outcome reaction cause : Nat) : Replica :=
  let r := r.journal now location instNo outcome reaction cause
  if outcome = masked then r.hostEvent evDegraded [location, instNo] else r

/-! ### History rings, openings and stops (R204, R211 to R213, R252) -/

/-- A trigger freezes a group's history ring and sets its CTL_HFRZ bit; on a frozen ring it only counts (R252). -/
def Replica.freezeRing (r : Replica) (v : Env) (g cause : Nat) : Replica :=
  match vget r.frozen g none with
  | some z => { r.wr .CTL_HLOST_LOST (r.rd .CTL_HLOST_LOST + 1) with frozen := vput r.frozen g (some { z with lost := z.lost + 1 }) }
  | none =>
    let z : Frozen := { cause, outlet := r.rd .CTL_GFEED_OUTLET g, link := r.rd .STG_LSTATE_STATE g, time := v.now, seq := v.seq,
                        en := (r.ph g).en, shedPh := match (r.ph g).shed with | some x => x.1 | none => 0xFF,
                        fault := (r.link g).prevFault }
    { r.wr .CTL_HFRZ_FRZ (putBit (r.rd .CTL_HFRZ_FRZ) g true) with frozen := vput r.frozen g (some z) }

/-- A generator ends: ACTIVE clears, END is recorded, INJ_DONE is raised (R216). -/
def Replica.endInj (r : Replica) (i code : Nat) : Replica :=
  let r := ((r.wr .CTL_INJCTRL_ACTIVE 0 i).wr .CTL_INJCTRL_END code i).raise .CTL_EVENT_INJ_DONE
  { r with injs := vput r.injs i { vget r.injs i {} with armed := false, value := 0 } }
/-- Generators on an outlet end with a code. -/
def Replica.endInjOn (r : Replica) (o code : Nat) : Replica :=
  (List.range 4).foldl (fun r i =>
    if r.rd .CTL_INJCTRL_OUTLET i = o && (r.rd .CTL_INJCTRL_ACTIVE i = 1 || (vget r.injs i {}).armed) then r.endInj i code else r) r

/-- A loop opening marks the captures that watch the outlet (R213, R222, R223). -/
def Replica.markOpening (r : Replica) (o : Nat) : Replica :=
  { r with caps := r.caps.mapFinIdx fun i c _ =>
      let st := r.rd .CTL_CAPCTRL_STATE i
      if st = 1 || st = 2 || st = 3 then
        let hit := r.rd .CTL_CAPCTRL_TRIG i = 4 && (r.rd .CTL_CAPCTRL_GOUTLET i = 31 || r.rd .CTL_CAPCTRL_GOUTLET i = o) && st ≠ 3
        { c with opened := true, trigger := c.trigger || hit }
      else c }

/-- The journal entry of an opening or stop (R45). -/
def Replica.openJournal (r : Replica) (v : Env) (o cause : Nat) (grp : Option Nat) : Replica :=
  match grp with
  | some g => r.journal v.now locStageEndpoint g detected reLoopOpened cause
  | none => r.journal v.now locOutletGuard o detected reLoopOpened cause

/-- What every opening or stop does: the injections on the outlet end with END = 3, the history rings of its groups freeze, watching
captures trigger, the runtime's move to FAULT falls due, and the journal entry is made. -/
def Replica.opening (r : Replica) (v : Env) (o cause : Nat) (grp : Option Nat) : Replica :=
  let r := (r.groupsOf o).foldl (fun r g => r.freezeRing v g cause) r
  let r := ((r.endInjOn o 3).markOpening o).openJournal v o cause grp
  r.setOut o { r.out o with faultDue := some ((r.out o).faultDue.getD cause) }

def Replica.isOpen (r : Replica) (o : Nat) : Bool := r.rd .CTL_OMODE_RAMP o = 1 || r.rd .CTL_OMODE_STOPPED o = 1

/-- The order in which CAUSE takes the causes declared at one closure (R213); 0 for one that stands outside it. -/
def coRank (cause : Nat) : Nat :=
  if cause = coShort then 1 else if cause = coOvercurrent then 2 else if cause = coFeedbackFrozen then 3 else if cause = coFeedbackLost then 4
  else if cause = coDisagree then 5 else if cause = coSafetyStop then 6 else 0
/-- The opening in progress on an outlet was declared at this closure. -/
def Replica.openedHere (r : Replica) (v : Env) (o : Nat) : Bool := r.isOpen o && decide ((r.out o).openSeq = some v.seq)
/-- A further cause at the closure of the opening: it is entered in the journal, the move to FAULT falls due, and CAUSE, the
records being made and the cause of that move take the first in R213's order. -/
def Replica.addCause (r : Replica) (v : Env) (o cause : Nat) (grp : Option Nat) : Replica :=
  let old := r.rd .CTL_OMODE_CAUSE o
  let r := r.openJournal v o cause grp
  if 1 ≤ coRank cause && coRank cause ≤ 5 && coRank cause < coRank old then
    let r := (r.groupsOf o).foldl (fun r g => { r with frozen := vput r.frozen g ((vget r.frozen g none).map fun z =>
      if z.seq = v.seq && z.cause = old then { z with cause } else z) }) (r.wr .CTL_OMODE_CAUSE cause o)
    r.setOut o { r.out o with faultDue := some (((r.out o).faultDue.map fun c => if c = old then cause else c).getD cause) }
  else r.setOut o { r.out o with faultDue := some ((r.out o).faultDue.getD cause) }

/-- The loop opening of R211: RAMP is set, CAUSE recorded, and each routed group's base duty is that of the last release. An opening
already in progress keeps its ramp and, after the closure that declared it, its cause (R212, R213). -/
def Replica.openRamp (r : Replica) (v : Env) (o cause : Nat) (grp : Option Nat) : Replica :=
  if r.openedHere v o then r.addCause v o cause grp
  else
  let r := r.opening v o cause grp
  if r.isOpen o then r
  else
    let r := r.setOut o { r.out o with openSeq := some v.seq }
    let r := (r.wr .CTL_OMODE_RAMP 1 o).wr .CTL_OMODE_CAUSE cause o
    (r.groupsOf o).foldl (fun r g =>
      let x := r.grp g
      r.setGrp g { x with rampK := 0, base := match x.sent with | d :: _ => d.1 | [] => [] }) r

/-- An immediate stop (R204, R213): EN = 0 from the next release, a ramp in progress ends, its CAUSE unchanged unless it was
declared at this closure. -/
def Replica.stopNow (r : Replica) (v : Env) (o cause : Nat) : Replica :=
  let r :=
    if r.openedHere v o then r.addCause v o cause none
    else
      let r := r.opening v o cause none
      if r.isOpen o then r else (r.setOut o { r.out o with openSeq := some v.seq }).wr .CTL_OMODE_CAUSE cause o
  (r.wr .CTL_OMODE_RAMP 0 o).wr .CTL_OMODE_STOPPED 1 o

/-- A write of an outlet's MODE (R201 to R203, R212, R216). -/
def Replica.writeMode (r : Replica) (o m : Nat) : Replica :=
  let soft := m = modeCableCheck || m = modePrecharge
  let r := (r.wr .CTL_OMODE_MODE m o).wr .CTL_OMODE_SOFT soft.toNat o
  let r := r.setOut o { r.out o with ocRun := 0, shortCnt := 0 }
  let r := if m = modeOff then (r.wr .CTL_OMODE_RAMP 0 o).wr .CTL_OMODE_STOPPED 0 o else r
  if m = modeCharging || m = modeCommission then r else r.endInjOn o 2

/-! ### Outlet states and stop causes (R301 to R305) -/

def ocVehicleStop : Nat := 0x20
def ocButton : Nat := 0x21
def ocCard : Nat := 0x22
def ocHostStop : Nat := 0x23
def ocProtocolTimeout : Nat := 0x24
def ocAuthLost : Nat := 0x25
def ocInvBreach : Nat := 0x26
def ocDispenserLost : Nat := 0x27
def ocAuthTimeout : Nat := 0x28
def ocNoVehicleLink : Nat := 0x30
def ocProtocolError : Nat := 0x31
def ocLockFail : Nat := 0x32
def ocIsolation : Nat := 0x33
def ocCableCheckTimeout : Nat := 0x34
def ocPrechargeTimeout : Nat := 0x35
def ocWelded : Nat := 0x36
def ocPlugOutLive : Nat := 0x37
def ocSafetyTrip : Nat := 0x38

def Replica.vs (r : Replica) (o : Nat) : VehSession := vget r.vehs o {}
def Replica.setVs (r : Replica) (o : Nat) (x : VehSession) : Replica := { r with vehs := vput r.vehs o x }

/-- The Lodge writes STATE (and CAUSE where one is given), the runtime writes MODE under R229, and OUTLET_STATE is sent. -/
def Replica.setOstate (r : Replica) (v : Env) (o st : Nat) (cause : Option Nat) : Replica :=
  let r := r.wr .DLK_OSTATE_STATE st o
  let r := match cause with | some c => r.wr .DLK_OSTATE_CAUSE c o | none => r
  let r := (r.setVs o { r.vs o with entered := v.ticks }).writeMode o (modeOfState st)
  r.eventClass 1 evOutletState [o, st, r.rd .DLK_OSTATE_CAUSE o]

/-- A stop of R303: NEGOTIATING, CABLE_CHECK, PRECHARGE or CHARGING to STOPPING with the first cause; elsewhere nothing. -/
def Replica.stopOutlet (r : Replica) (v : Env) (o cause : Nat) : Replica :=
  let st := r.ostate o
  if osNegotiating ≤ st && st ≤ osCharging then r.setOstate v o osStopping (some cause) else r

/-! ### Key slots (R496 to R499) -/

def Replica.keyAttr (r : Replica) (n : Nat) : Nat := r.rd .KEY_SATTR_ATTR n
def Replica.keyUsage (r : Replica) (n : Nat) : Nat := r.keyAttr n % 16
def Replica.keyState (r : Replica) (n : Nat) : Nat := r.keyAttr n / 16 % 8
def Replica.keyRole (r : Replica) (n : Nat) : Nat := r.keyAttr n / 128 % 4
def Replica.keyLcmask (r : Replica) (n : Nat) : Nat := r.keyAttr n / 512 % 32
def Replica.keyParent (r : Replica) (n : Nat) : Nat := r.keyAttr n / 16384 % 128
def Replica.keyCounter (r : Replica) (n : Nat) : Nat := r.keyAttr n / 2097152 % 1024
def Replica.lifeCycle (r : Replica) : Nat := r.rd .KEY_STATUS_LC

/-- The parent chain above a slot, at most `k` slots long, up to a slot that names itself. -/
def Replica.keyChain (r : Replica) : Nat → Nat → List Nat
  | 0, _ => []
  | k + 1, n => if r.keyParent n = n then [] else r.keyParent n :: r.keyChain k (r.keyParent n)
/-- A slot is usable when it is ACTIVE, its LCMASK bit for the life-cycle state is set, and its parent chain is ACTIVE (R499). -/
def Replica.keyUsable (r : Replica) (n : Nat) : Bool :=
  r.keyState n = 1 && bitOf (r.keyLcmask n) r.lifeCycle && (r.keyChain 4 n).all fun k => r.keyState k = 1
/-- The key material of a slot. That of K1 stands in one-time storage until K1 is INVALID or ERASED (R498, R499). -/
def Replica.material (r : Replica) (n : Nat) : List Byte :=
  let m := Sparse.get [] r.gate.material n
  if n = 1 && m = [] && r.keyState 1 = 1 then Config.vendorRoot else m
/-- The material as the number cryptographic functions take. -/
def Replica.keyVal (r : Replica) (n : Nat) : Nat := ofLe (r.material n)
/-- The lowest-numbered usable slot of a usage (R509). -/
def Replica.keyOf (r : Replica) (usage : Nat) : Option Nat :=
  (List.range 128).find? fun n => r.keyUsage n = usage && r.keyUsable n
/-- AUTH_ENDPOINT for a stage endpoint (peer 1), AUTH_DISPENSER for a dispenser lane (peer 2), AUTH_NODE for a node (peer 4). -/
def Replica.authSlot (r : Replica) (peer : Nat) : Option Nat := r.keyOf (if peer = 1 then 12 else if peer = 2 then 13 else 15)
/-- The METER_SIGN slot (R340). -/
def Replica.signSlot (r : Replica) : Option Nat := r.keyOf 10

/-! ### Session contexts of the Gatehouse (R516) -/

/-- The class partition of R516: the first context of a class and how many it has. Vehicle contexts 2o and 2o + 1, host context n, head o,
lane 2d (A) and 2d + 1 (B) and node a - 1 stand at their own place within their class. -/
def ctxBase (cls : Nat) : Nat := [0, 48, 64, 88, 112, 176].getD cls 192
def ctxSize (cls : Nat) : Nat := [48, 16, 24, 24, 64, 16].getD cls 0
def ctxField (cls : Nat) : Field :=
  match cls with
  | 0 => .KEY_CTX0_VEH | 1 => .KEY_CTX0_HOST | 2 => .KEY_CTX0_HEAD | 3 => .KEY_CTX0_LANE | 4 => .KEY_CTX1_NODE | _ => .KEY_CTX1_SPARE
def Replica.ctx (r : Replica) (cls k : Nat) : Option KeyContext := vget r.gate.contexts (ctxBase cls + k) none
/-- A context taken or freed; the register shows how many of its class are in use (R521). -/
def Replica.setCtx (r : Replica) (cls k : Nat) (x : Option KeyContext) : Replica :=
  if ctxSize cls ≤ k then r
  else
    let cs := vput r.gate.contexts (ctxBase cls + k) x
    let n := ((List.range (ctxSize cls)).filter fun j => (vget cs (ctxBase cls + j) none).isSome).length
    { r.wr (ctxField cls) n with gate := { r.gate with contexts := cs } }
/-- The key of a context is orphaned (R507). -/
def Replica.ctxOrphaned (r : Replica) (cls k : Nat) : Bool := match r.ctx cls k with | some c => c.orphaned | none => false

/-! ### Register words (R9, R10) -/

/-- The word at an offset of a block, as the fields of a register file make it up. -/
def Regs.word (r : Regs) (b : Blk) (off : Nat) : Nat :=
  b.fields.foldl (fun w f => match f.info.instAt off with
    | some i => w ||| (r.rd f i <<< f.info.lo)
    | none => w) 0
/-- The RW and RWL fields of a word written; the others keep their values. -/
def Regs.putWord (r : Regs) (b : Blk) (off w : Nat) : Regs :=
  b.fields.foldl (fun r f => match f.info.instAt off with
    | some i => if f.info.acc = .RW || f.info.acc = .RWL then r.wr f (w >>> f.info.lo) i else r
    | none => r) r
/-- Every block. -/
def allBlocks : List Blk := [.SYS, .SDL, .STG, .CTL, .DLK, .HST, .CAN, .MCC, .MET, .KEY, .UPD, .SAF, .GSP, .FBR, .LSW, .SIO, .AON]
/-- The entries of a register file that belong to fields of a kind. -/
def Regs.only (r : Regs) (p : FieldInfo → Bool) : Regs :=
  let idx := (allBlocks.map fun b => (b.fields.filter fun f => p f.info).map (·.ctorIdx)).flatten
  r.filter fun e => idx.contains (e.1 % 1024)
/-- A register file with the entries of another for fields of a kind; an entry of a register file is never the unlisted value, so it
is entered whatever its value. -/
def Regs.take (r : Regs) (p : FieldInfo → Bool) (new : Regs) : Regs :=
  let rest := r.only fun x => !p x
  (new.only p).foldl (fun r e => Sparse.put (e.2 + 1) r e.1 e.2) rest
def isRwl (x : FieldInfo) : Bool := x.acc = .RWL

/-! ### Engines (R109 to R114, R137, R145 to R148) -/

def exILLEGAL : Nat := 1
def exFETCH : Nat := 2
def exALIGN : Nat := 3
def exACCESS : Nat := 4
def exECC : Nat := 5
def exTRAP : Nat := 6
def exCYCLE_OVERRUN : Nat := 7
def exQUEUE_STALL : Nat := 8
def exDOUBLE : Nat := 9
def exINTERRUPT : Nat := 0x20

/-- What an instruction does to its own engine: a new state of it, or an exception with its cause and EADDR. -/
inductive EngRes where
  | ok (en : Engine)
  | exc (cause : Nat) (eaddr : Word)
/-- What an instruction does to the site. -/
inductive SiteRes where
  | ok (t : Site)
  | exc (cause : Nat) (eaddr : Word)

/-- The next instruction in sequence. -/
def Engine.next (en : Engine) : Engine := { en with pc := en.pc + 4 }
/-- A wait ends and the instruction completes. -/
def Engine.wake (en : Engine) : Engine := { en with wait := .none }.next
/-- Exception and interrupt entry of the base profile (R146). -/
def Engine.exceptionEntry (en : Engine) (cause : Nat) (eaddr : Word) : Engine :=
  let en := { en with epc := en.pc, ecause := BitVec.ofNat 8 cause, eaddr := eaddr, wait := .none }
  { ((en.setFlag flagPIE (en.flag flagIE)).setFlag flagIE false).setFlag flagEXC true with pc := en.evec &&& ~~~3#32 }
/-- eret (R127). -/
def Engine.exceptionReturn (en : Engine) : Engine :=
  { (en.setFlag flagIE (en.flag flagPIE)).setFlag flagEXC false with pc := en.epc }

/-- Four bytes of DTCM at an engine-local address, little-endian, and their replacement. -/
def Engine.dtcmWord (en : Engine) (a : Nat) : Word := BitVec.ofNat 32 (en.dtcm.rdN a 4)
def Engine.putDtcmWord (en : Engine) (a : Nat) (w : Word) : Engine := { en with dtcm := en.dtcm.wrN a 4 w.toNat }
/-- A store into the engine's own memories. -/
def Engine.putTcm (en : Engine) (s : Store) : Engine :=
  if s.addr.toNat < 0x40000 then { en with itcm := en.itcm.wrN s.addr.toNat s.size s.data.toNat }
  else { en with dtcm := en.dtcm.wrN s.addr.toNat s.size s.data.toNat }
/-- The buffered stores into the engine's own memories take effect before it reads them (R124). -/
def Engine.settleTcm (en : Engine) : Engine :=
  en.wbuf.foldl (fun en s => if s.addr.toNat < 0x60000 then en.putTcm s else en)
    { en with wbuf := en.wbuf.filter fun s => 0x60000 ≤ s.addr.toNat }

/-- A queue holds 16 entries (R27). -/
def Site.queueFull (t : Site) (p : Pav) (e : Eng) (q : Fin 8) : Bool := decide (16 ≤ ((t.eng p e).queues.get q).length)
def Engine.push (en : Engine) (q : Fin 8) (m : Msg) : Engine :=
  { en with queues := en.queues.set q.val (en.queues.get q ++ [m]) q.isLt }
def Site.enqueue (t : Site) (p : Pav) (e : Eng) (q : Fin 8) (m : Msg) : Site := t.modEng p e fun en => en.push q m

/-- The blocks in the order of SYS_ROUTEk.TAG (R569). -/
def routeBlock (tag : Nat) : Option Blk := allBlocks[tag]?
/-- The event field at a bit of a block, as its register file shows it. -/
def Regs.eventBit (r : Regs) (b : Blk) (bit : Nat) : Bool :=
  b.fields.any fun f => f.info.acc = .W1C && f.info.width = 1 && f.info.lo = bit && r.rd f = 1

/-- IPEND: the level-sensitive interrupt sources (R148, Table ISA-15). -/
def Site.ipend (t : Site) (p : Pav) (e : Eng) : BitVec 17 :=
  let en := t.eng p e
  let l := (t.pav p).loc
  let q := (List.range 8).foldl (fun w i => if (vget en.queues i []) = [] then w else w ||| 2 ^ i) 0
  let slot := if en.slotPl = 0 && en.slotPh = 0 then 0 else 256
  let blk := (List.range 7).foldl (fun w k =>
    let on := l.rd .SYS_ROUTE_EN k = 1 && match routeBlock (l.rd .SYS_ROUTE_TAG k) with
      | some b => l.regs.eventBit b (l.rd .SYS_ROUTE_BIT k) || (t.pav p).rep.regs.eventBit b (l.rd .SYS_ROUTE_BIT k) ||
          t.com.regs.eventBit b (l.rd .SYS_ROUTE_BIT k)
      | none => false
    if on then w ||| 2 ^ (9 + k) else w) 0
  let halt := if e = lodge && l.rd .SYS_HALT_HALT ≠ 0 then 2 ^ 16 else 0
  BitVec.ofNat 17 (q + slot + blk + halt)

/-! ### Resets of a pavilion (R564, R565) -/

/-- What a replica keeps through a reset of both pavilions: what the MRAM, the Gatehouse storage and the kept registers hold. -/
def Replica.restart (r : Replica) : Replica :=
  { regs := r.regs.only (·.kept), params := r.params, paramRegs := r.paramRegs, owners := r.owners
    hosts := { certs := r.hosts.certs, pending := r.hosts.pending }, gate := { material := r.gate.material }
    legal := { slots := r.legal.slots }
    safety := { inForce := r.safety.inForce, before := r.safety.before } }

/-- What a pavilion keeps through its own reset: its MRAM and the kept registers. TCMs, shared SRAM, registers and event counters are
lost. -/
def Local.restart (l : Local) : Local :=
  { regs := l.regs.only (·.kept), mram := l.mram, paramRegs := l.paramRegs, jNext := l.jNext, setAsides := l.setAsides
    heldOut := l.heldOut, inReset := true, powered := l.powered, tx := l.tx }

def pcSupply : Nat := 0x10
def pcLodgeDouble : Nat := 0x11
def pcSetAside : Nat := 0x12
def pcActivation : Nat := 0x13
def pcNight : Nat := 0x14
def pcGuard : Nat := 0x15
def pcCommand : Nat := 0x16

/-- The pavilion's reset cause in AON_CAUSE (R564, R568). -/
def Common.pcause (c : Common) (p : Pav) (cause : Nat) : Common :=
  match p with
  | .A => c.wr .AON_CAUSE_PCAUSE_A cause
  | .B => c.wr .AON_CAUSE_PCAUSE_B cause

/-- A pavilion's role, as both FBR show it (R74, R75). -/
def Site.setRole (t : Site) (p : Pav) (role : Nat) : Site :=
  let t := t.modLoc p fun l => l.wr .FBR_STATUS_ROLE role
  let t := t.modLoc p.other fun l => l.wr .FBR_STATUS_PEER_ROLE role
  let red := t.redundant
  let both (t : Site) (q : Pav) : Site := t.modLoc q fun l =>
    (l.wr .FBR_STATUS_REDUNDANT red.toNat).wr .FBR_STATUS_LEASE_VALID t.leader.isSome.toNat
  both (both t .A) .B

/-- The claim a pavilion presents, as both FBR show it (R88). -/
def Site.present (t : Site) (p : Pav) (claim : Nat) : Site :=
  let t := (t.modLoc p fun l => l.wr .FBR_PRESENT_OWN claim).modLoc p.other fun l =>
    { l.wr .FBR_PEERCLAIM_PEER claim with peerClaim := if claim = 0 then l.peerClaim else claim }
  t.modCom fun c => { c with lsw := { c.lsw with claimSeen := c.lsw.claimSeen || claim ≠ 0 } }

/-- A staged activation fails before its tick T (R540): ACT_FAIL, and its operation ends with FAILED (0x42) and the code. -/
def Replica.actFail (r : Replica) (code part : Nat) : Replica :=
  let r := (((r.wr .UPD_STATUS_PHASE 0).wr .UPD_STATUS_TRIAL 0).wr .UPD_RESULT_CODE code).wr .UPD_RESULT_PART part
  let r := { r.raise .UPD_EVENT_ACT_FAIL with
    upd := { r.upd with act := none, paramOnly := false, warmTicks := 0, slWait := false, slOut := false } }
  r.completeOp (fun x => match x.kind with | .activate => true | .rollback => true | _ => false) 0x42 code []
/-- The pavilion that restarts first in a staged activation in progress, from VERIFY up to T (R535): F. -/
def Site.actFirst (t : Site) : Option Pav :=
  match t.leader with
  | none => none
  | some p =>
    let r := (t.pav p).rep
    if 2 ≤ r.rd .UPD_STATUS_PHASE && r.rd .UPD_STATUS_PHASE ≤ 5 then some r.upd.lead.other else none
/-- F has failed (R540): the activation fails with START_FAIL (0x0E), and F's next start takes its ACTIVE slot. -/
def Site.firstFails (t : Site) (p : Pav) : Site :=
  if t.actFirst = some p then (t.modRep p fun r => r.wr .UPD_STATUS_TRIAL 0).onLog fun r => r.actFail 0x0E 0 else t

/-- A pavilion is reset: it drives nothing, presents no claim and has released the lease within 1 µs (R85, R88), and PAV_RESET is
raised. A reset of F other than the activation's own ends the activation (R540). The survivor enters a masked fault in the journal (R42,
R45). -/
def Site.pavReset (t : Site) (p : Pav) (cause : Nat) : Site :=
  let t := if cause = pcActivation then t else t.firstFails p
  let t := t.modPav p fun v => { loc := { v.loc.restart with resetCause := cause }, rep := v.rep.restart }
  let t := ((t.setRole p roleSetAside).present p 0).modCom fun c => (c.pcause p cause).raise .AON_EVENT_PAV_RESET
  if cause = pcSupply then t.onLog fun r => r.fault t.now locPavSupply (if p = .A then 0 else 1) masked reSetAside 0
  else if cause = pcLodgeDouble || cause = pcGuard then t.onLog fun r => r.fault t.now locPavLogic 0xFF masked reSetAside 0
  else t

/-! ### Exceptions (R145 to R147) -/

/-- The reaction to a halted loop-profile engine (R147, R359): its groups ramp to zero over 4 site cycles, the outlets they feed go to
FAULT with ENGINE_EXCEPTION; a halted safety engine brings every outlet to its safe state. -/
def Replica.engineHalted (r : Replica) (v : Env) (e : Eng) : Replica :=
  if e = safetyEngine then
    let r := ((r.wr .SAF_STOP_ALL 1).wr .SAF_STOP_STOP (2 ^ 24 - 1)).wr .SAF_STATUS_HALTSAFE 1
    let r := ((r.wr .SAF_GRANT_CC_GRANT 0).wr .SAF_GRANT_PC_GRANT 0).wr .SAF_GRANT_CH_GRANT 0
    let r := { r with safety := { r.safety with gates := 0 } }
    r.eachOut fun o r => r.setOut o { r.out o with faultDue := some ((r.out o).faultDue.getD coEngine) }
  else
    r.eachGrp fun g r =>
      if vget r.layout.groupEngine g none = some e && ((r.grp g).haltRampK).isNone then
        let x := r.grp g
        let r := r.setGrp g { x with haltRampK := some 0, haltBase := match x.sent with | d :: _ => d.1 | [] => [] }
        let o := r.rd .CTL_GFEED_OUTLET g
        if o < 24 then
          let r := r.opening v o coEngine none
          if r.isOpen o then r else r.wr .CTL_OMODE_CAUSE coEngine o
        else r
      else r

/-- The SYS report of a halted engine to the Lodge: a message on its queue 0 with the engine code (R137; log entry 63). -/
def Site.sysReport (t : Site) (p : Pav) (e : Eng) : Site :=
  if t.queueFull p lodge 0 then t else t.enqueue p lodge 0 ⟨BitVec.ofNat 64 e.val, 0x11⟩

/-- An engine halts, and SYS shows its PC, cause and EADDR (R146, R147, R569). -/
def Site.haltEngine (t : Site) (p : Pav) (e : Eng) (cause second : Nat) (eaddr : Word) : Site :=
  let pc := (t.eng p e).pc.toNat
  let t := t.modEng p e fun en => { en with run := .halted, wait := .none, ecause := BitVec.ofNat 8 cause, eaddr := eaddr }
  let t := t.modLoc p fun l =>
    let l := (((l.wr .SYS_EPC_PC pc e.val).wr .SYS_ECAUSE_CAUSE cause e.val).wr .SYS_ECAUSE_SECOND second e.val).wr .SYS_EADDR_EADDR eaddr.toNat e.val
    (l.wr .SYS_HALT_HALT (putBit (l.rd .SYS_HALT_HALT) e.val true)).wr .SYS_ENGSTAT_RUNNING (putBit (l.rd .SYS_ENGSTAT_RUNNING) e.val false)
  t.sysReport p e

/-- An engine exception (R145 to R147). In the base profile with EXC = 0 the engine enters its handler; with EXC = 1 it halts with
DOUBLE, and the Lodge resets its pavilion; a loop-profile engine halts. The safe state of a halted safety engine
needs both to have halted, or a leader alone (R359). Every exception sets a sticky fault indicator. -/
def Site.exception (t : Site) (p : Pav) (e : Eng) (cause : Nat) (eaddr : Word) : Site :=
  let en := t.eng p e
  let t := t.modLoc p fun l =>
    let l := { l with ind := { l.ind with engine := true, ecc := l.ind.ecc || cause = exECC } }
    if cause = exECC then l.wr .SYS_ECC_DOUBLE (l.rd .SYS_ECC_DOUBLE + 1) else l
  if loopProfile e then
    let t := t.haltEngine p e cause 0 eaddr
    if e ≠ safetyEngine then t.modRep p fun r => r.engineHalted t.env e
    else if t.alone p || (t.eng p.other e).run = .halted then
      (t.onLog fun r => r.engineHalted t.env e).modCom fun c => ((c.wr .SIO_GATE_GATE 0).wr .SIO_TPEN_EN 0).raise .SIO_EVENT_HALT_SAFE
    else t
  else if !en.flag flagEXC then t.setEng p e (en.exceptionEntry cause eaddr)
  else if e = lodge then t.pavReset p pcLodgeDouble
  else t.haltEngine p e exDOUBLE cause eaddr

/-- A load, store or register access that is misaligned, or that R25 or R26 refuses: the latter is a bus error, which SYS counts (R26,
R92, R123, R569). -/
def Site.refuseAccess (t : Site) (p : Pav) (e : Eng) (cause : Nat) (a : Word) : Site :=
  let t := if cause = exACCESS then t.modLoc p fun l =>
      { l.wr .SYS_BUSERR_COUNT (l.rd .SYS_BUSERR_COUNT + 1) with ind := { l.ind with bus := true } } else t
  t.exception p e cause a

/-- An engine executes when its pavilion runs, it is not gated, and it neither is stopped nor waits. -/
def Site.ready (t : Site) (p : Pav) (e : Eng) : Bool :=
  let l := (t.pav p).loc
  l.powered && !l.inReset && (l.eng e).run = .running && (l.eng e).wait = .none && !bitOf (l.rd .SYS_ENGSTAT_GATED) e.val

/-- An instruction whose effect lies within its engine. An engine that does not execute leaves all as it is. -/
def State.engine (s : State) (p : Pav) (e : Eng) (f : Engine → Engine) : Result :=
  s.run fun t => if t.ready p e then t.modEng p e f else t
/-- An instruction that may raise an exception. -/
def State.engineX (s : State) (p : Pav) (e : Eng) (f : Engine → EngRes) : Result :=
  s.run fun t => if t.ready p e then (match f (t.eng p e) with
    | .ok en => t.setEng p e en
    | .exc c a => t.exception p e c a) else t
/-- An instruction that acts on more than its engine. -/
def State.siteX (s : State) (p : Pav) (e : Eng) (f : Site → SiteRes) : Result :=
  s.run fun t => if t.ready p e then (match f t with
    | .ok t' => t'
    | .exc c a => t.exception p e c a) else t

/-! ### Stops and roles -/

/-- The outlets a controlled stop brings to FAULT: PLUGGED to WELD_CHECK, and COMMISSION (R42). -/
def Replica.controlledStop (r : Replica) (v : Env) : Replica :=
  r.eachOut fun o r =>
    let st := r.ostate o
    if (osPlugged ≤ st && st ≤ osWeldCheck) || st = osCommission then r.openRamp v o coControlledStop none else r
def Site.controlledStop (t : Site) : Site := t.onLog fun r => r.controlledStop t.env

/-- A quotient that the spec states without its rounding (R187, R312, R332; log entry 191). -/
def roundDiv (a n : Nat) : Nat := a / n + (decide (a % n ≠ 0) && Config.meanUp a n).toNat
def roundInt (a : Int) (n : Nat) : Int := a.fdiv n + (decide (a.fmod n ≠ 0) && Config.meanUp a n).toNat

/-- A head block's mean voltage counts 1 / headDen of a unit of v_out: 64 samples of V_LSB nV. -/
def headDen : Nat := 64 * 10 ^ 9
/-- The mean voltage of a registered head block, and what the safety channel compares it with: the sums of v_out and i_out over the
block's frame periods and their number, none where no frame period was fresh (R209, R378, R379). -/
def Replica.headMean (r : Replica) (o : Nat) (mean : Int) : Replica :=
  let x := vget r.safety.outs o {}
  let m := if x.vN = 0 then none else some (x.vSum, x.iSum, x.vN)
  let x := { x with headV := some mean, headNew := x.headNew ++ [(mean, m)], vSum := 0, iSum := 0, vN := 0 }
  { r with safety := { r.safety with outs := vput r.safety.outs o x } }

end Sys2Proof.Machine
end

