-- ==== Sys2Proof/Machine/Stage.lean ====
section
/-! DEFINITION. Stage links: frames, delay probes, messages and discovery (R152 to R184). -/
namespace Sys2Proof.Machine

def lsDown : Nat := 0
def lsIdent : Nat := 1
def lsAuth : Nat := 2
def lsConfig : Nat := 3
def lsActive : Nat := 4
def lsFault : Nat := 5
def lsDisabled : Nat := 6

def Replica.lstate (r : Replica) (g : Nat) : Nat := r.rd .STG_LSTATE_STATE g
/-- Discovery runs in IDENT, AUTH and CONFIG (R177). -/
def Replica.discovering (r : Replica) (g : Nat) : Bool := 1 ≤ r.lstate g && r.lstate g ≤ 3

/-- A link state change. Entry into DOWN returns the agreed lengths to 56 and 42 and VER to 0; leaving ACTIVE for DOWN or FAULT
freezes the history ring (R177, R252). -/
def Replica.setLink' (r : Replica) (v : Env) (g st : Nat) : Replica :=
  let r := if r.lstate g = lsActive && (st = lsDown || st = lsFault) then r.freezeRing v g 0x12 else r
  let r := (r.wr .STG_LSTATE_STATE st g).wr .STG_ACTIVE_ACT (putBit (r.rd .STG_ACTIVE_ACT) g (st = lsActive))
  if st = lsDown || st = lsDisabled then
    let r := ((r.wr .STG_LSTATE_VER 0 g).wr .STG_LSTATE_SLEN 56 g).wr .STG_LSTATE_CLEN 42 g
    (r.setLink g { r.link g with goodRun := 0, silentRun := 0, awaited := 0, nextFrag := none, replyFrag := 0, replyB := [], refusedB := false }).wr .STG_LMSG_BUSY 0 g
  else r

/-- GO: the request buffer is sent as a fragmented message (R171, R173); ignored while BUSY (R184). -/
def Replica.msgGo (r : Replica) (g mtid len : Nat) : Replica :=
  if r.rd .STG_LMSG_BUSY g = 1 then r
  else
    let r := ((((r.wr .STG_LMSG_MTID mtid g).wr .STG_LMSG_LEN len g).wr .STG_LMSG_BUSY 1 g).wr .STG_LMSG_DONE 0 g).wr .STG_LMSG_FAIL 0 g
    r.setLink g { r.link g with nextFrag := some 0, sinceLast := 0, resends := r.rd .STG_RETRY_RCNT, replyFrag := 0, replyB := [] }

/-- The window addresses of a link's message buffers (R184). -/
def stgReq (g : Nat) : Nat := 2 * 2 ^ 20 + 0x1000 + 0x80 * g
def stgRep (g : Nat) : Nat := 2 * 2 ^ 20 + 0x2000 + 0x80 * g

/-- The runtime writes a request and GO, with the next transaction identifier, and awaits a reply of one TYPE (R177). -/
def Replica.stgSend (r : Replica) (g awaited : Nat) (bytes : List Byte) : Replica :=
  let id := (r.link g).mtid % 255 + 1
  let r := { r with blkMem := r.blkMem.wrBytes (stgReq g) (padTo 128 bytes) }
  let r := r.msgGo g id bytes.length
  r.setLink g { r.link g with mtid := id, awaited := awaited }

/-- The reply buffer. -/
def Replica.stgReply (r : Replica) (g : Nat) : List Byte := r.blkMem.rdBytes (stgRep g) 128

/-- IDENT_REQ (R174): the offered versions and the hardware type code of R1. -/
def Replica.sendIdentReq (r : Replica) (g : Nat) : Replica :=
  r.stgSend g 0x81 (leBytes 1 0x01 ++ leBytes 1 (r.rd .STG_CTRL_VERS) ++ leBytes 4 0x24480002)

/-- CONFIG (R176), with the offsets the phase management holds and an APPLY_SEQ 16 frame periods after its LAST. -/
def Replica.configBytes (r : Replica) (v : Env) (g : Nat) : List Byte :=
  let l := r.link g
  let i := l.ident
  let half := v.half g
  let frags := (32 + l.oem.length + 7) / 8
  let apply := (v.seq + (frags + 17) * (if half then 2 else 1)) % 2 ^ 32
  leBytes 1 0x03 ++ leBytes 1 i.verSel ++ leBytes 1 (r.rd .STG_CTRL_LEASE) ++ leBytes 1 half.toNat ++ leBytes 4 apply ++
    ((List.range 8).map fun k => leBytes 2 ((r.ph g).ofs.getD k 0)).flatten ++
    leBytes 2 (r.rd .STG_ZC_ZC_LIM) ++ leBytes 1 (r.rd .STG_ZC_ZC_CYC) ++
    leBytes 1 (if i.verSel = 2 && i.caps % 2 = 1 then r.rd .STG_CTRL_CMP else 0) ++
    leBytes 1 i.slen ++ leBytes 1 i.clen ++ leBytes 1 l.oem.length ++ leBytes 1 0 ++ l.oem
def Replica.sendConfig (r : Replica) (v : Env) (g : Nat) : Replica := r.stgSend g 0x83 (r.configBytes v g)

/-- ROUTE_SET (R174): the routing times of the group's record and the buses CTL_GgWIRE gives an outlet. -/
def Replica.sendRouteSet (r : Replica) (g : Nat) : Replica :=
  let bus (f : Field) (b : Nat) : Nat := if r.rd f g = 31 then 0 else 2 ^ b
  let mask := bus .CTL_GWIRE_BUS0 0 + bus .CTL_GWIRE_BUS1 1 + bus .CTL_GWIRE_BUS2 2 + bus .CTL_GWIRE_BUS3 3
  r.stgSend g 0x84 (leBytes 1 0x04 ++ leBytes 2 (r.prm recPhase g 52 2) ++ leBytes 2 (r.prm recPhase g 54 2) ++
    leBytes 2 (r.prm recPhase g 56 2) ++ leBytes 1 mask)

/-- FAULT of the discovery, with its event (R177). -/
def Replica.discFault (r : Replica) (v : Env) (g : Nat) (ev : Field) : Replica := (r.raise ev).setLink' v g lsFault

/-- IDENT fields within the ranges of R175. -/
def identOk (b : List Byte) : Bool :=
  let ver := byteAt b 2
  let slen := byteAt b 18
  let clen := byteAt b 19
  (byteAt b 3 = 1 || byteAt b 3 = 2) && 56 ≤ slen && slen ≤ 94 && slen % 2 = 0 && 42 ≤ clen && clen ≤ 62 && clen % 2 = 0 &&
    (ver ≠ 1 || (slen = 56 && clen = 42)) && ver ≤ 2 &&
    fieldAt b 20 2 ≤ 200 && fieldAt b 22 2 ≤ 1000 && fieldAt b 24 2 ≤ 500 &&
    1 ≤ byteAt b 30 && byteAt b 30 ≤ 8 && 1 ≤ byteAt b 31 && byteAt b 31 ≤ 4 && fieldAt b 32 4 < 4

def identOf (b : List Byte) : Ident :=
  { maker := fieldAt b 4 2, model := fieldAt b 6 2, unit := fieldAt b 8 8, txLat := fieldAt b 20 2, setup := fieldAt b 22 2,
    turn := fieldAt b 24 2, imax := fieldAt b 26 2, vmax := fieldAt b 28 2, nbus := byteAt b 31, caps := fieldAt b 32 4,
    verSel := byteAt b 2, slen := byteAt b 18, clen := byteAt b 19 }

/-- A unit other than the one last seen on the link resets the group's allocation records (R177, R267); the first since reset does not. -/
def Replica.noteUnit (r : Replica) (g unit : Nat) : Replica :=
  let l := r.link g
  let r := r.setLink g { l with lastUnit := some unit }
  if l.lastUnit = none || l.lastUnit = some unit then r
  else
    let r := r.raise .STG_EVENT_NEW_ENDPOINT
    { r with alloc := { r.alloc with newEndpoint := vput r.alloc.newEndpoint g 1 } }

/-- AUTH_CHAL (R174, R509): a challenge under a usable AUTH_ENDPOINT slot; with none the link waits in AUTH. -/
def Replica.sendAuthChal (r : Replica) (v : Env) (g : Nat) : Replica :=
  match r.authSlot 1 with
  | some k => r.stgSend g 0x82 (leBytes 1 0x02 ++ leBytes 1 k ++ Config.freeBytes v.free 16)
  | none => r.setLink g { r.link g with awaited := 0x82 }

/-- An endpoint on both lanes whose lane B reports another UNIT has lane B refused, and the group runs on lane A (R177). -/
def Replica.checkLaneB (r : Replica) (g unit : Nat) : Replica :=
  let b := (r.link g).replyB
  if r.rd .STG_LCFG_LANES g = 0 && 16 ≤ b.length && fieldAt b 8 8 ≠ unit then
    (r.setLink g { r.link g with refusedB := true }).raise .STG_EVENT_LANE_MISMATCH
  else r

/-- IDENT received (R175, R177, R181). -/
def Replica.identReply (r : Replica) (v : Env) (g : Nat) : Replica :=
  let b := r.stgReply g
  if r.lstate g ≠ lsIdent then (if r.discovering g then r.discFault v g .STG_EVENT_DISC_REFUSED else r)
  else
    let i := identOf b
    let r := r.noteUnit g i.unit
    if byteAt b 2 = 0 then r.discFault v g .STG_EVENT_NO_VERSION
    else if !identOk b || (byteAt b 3 = 1) ≠ (r.rd .STG_LCFG_LANES g = 1) then r.discFault v g .STG_EVENT_DISC_REFUSED
    else
      let r := r.setLink g { r.link g with ident := i, awaited := 0 }
      let r := r.checkLaneB g i.unit
      let r := ((r.wr .STG_LSTATE_NPH (byteAt b 30) g).wr .STG_LUNIT_LO_UNIT i.unit g).wr .STG_LUNIT_HI_UNIT (i.unit / 2 ^ 32) g
      if r.rd .STG_CTRL_AUTHREQ = 1 then (r.setLink' v g lsAuth).sendAuthChal v g
      else (r.setLink' v g lsConfig).sendConfig v g

/-- A complete reply stands in the buffer. -/
def Replica.replyDone (r : Replica) (g : Nat) : Bool := r.rd .STG_LMSG_DONE g = 1

def execStgIdentReply (g : Grp) (s : State) : Result :=
  s.onLogFree fun t r => if r.replyDone g then r.identReply t.env g else r

/-- AUTH_RESP with the Gatehouse's verdict (R177, R510). -/
def execStgAuthRespReply (g : Grp) (verified : Bool) (s : State) : Result :=
  s.onLog fun t r =>
    if !r.replyDone g || !r.discovering g then r
    else if r.lstate g ≠ lsAuth then r.discFault t.env g .STG_EVENT_DISC_REFUSED
    else if verified then (r.setLink' t.env g lsConfig).sendConfig t.env g
    else r.discFault t.env g .STG_EVENT_AUTH_FAIL

/-- CONFIG_ACK: in discovery the agreed lengths take the CONFIG's values and ROUTE_SET follows (R165, R177); outside it a refused
offsets change is sent again at the next tick (R239). -/
def execStgConfigAckReply (g : Grp) (s : State) : Result :=
  s.onLog fun t r =>
    let ok := byteAt (r.stgReply g) 1 = 0
    let i := (r.link g).ident
    if !r.replyDone g then r
    else if r.lstate g = lsConfig && (r.link g).awaited = 0x83 then
      if ok then
        (((r.wr .STG_LSTATE_VER i.verSel g).wr .STG_LSTATE_SLEN i.slen g).wr .STG_LSTATE_CLEN i.clen g).sendRouteSet g
      else r.discFault t.env g .STG_EVENT_DISC_REFUSED
    else if r.discovering g then r.discFault t.env g .STG_EVENT_DISC_REFUSED
    else r.setPh g { r.ph g with configOut := false, ofsDue := (r.ph g).ofsDue || !ok, ofsWait := !ok }

/-- ROUTE_REPORT result 0 completes ACTIVE (R177). -/
def execStgRouteReportReply (g : Grp) (s : State) : Result :=
  s.onLog fun t r =>
    if !r.replyDone g || !r.discovering g then r
    else if r.lstate g = lsConfig && (r.link g).awaited = 0x84 && byteAt (r.stgReply g) 1 = 0 then
      (r.setLink g { r.link g with awaited := 0 }).setLink' t.env g lsActive
    else r.discFault t.env g .STG_EVENT_DISC_REFUSED

/-- STATUS is reported to the runtime (R174); in discovery it is a reply of a TYPE not awaited (R177). -/
def execStgStatusReply (g : Grp) (s : State) : Result :=
  s.onLog fun t r =>
    if !r.replyDone g then r
    else if r.discovering g then r.discFault t.env g .STG_EVENT_DISC_REFUSED
    else
      let b := r.stgReply g
      r.setLink g { r.link g with status := [fieldAt b 1 4, fieldAt b 5 4, fieldAt b 9 4, fieldAt b 13 4, fieldAt b 17 4] }

/-- An ERROR reply: FAULT in discovery, reported otherwise (R177). -/
def execStgErrorReply (g : Grp) (s : State) : Result :=
  s.onLog fun t r =>
    if !r.replyDone g then r
    else if r.discovering g then r.discFault t.env g .STG_EVENT_DISC_REFUSED
    else r.setPh g { r.ph g with configOut := false, ofsDue := (r.ph g).ofsDue || (r.ph g).configOut, ofsWait := (r.ph g).configOut }

/-- No reply within RTO frame periods of LAST: the request is sent again, and after RCNT repetitions fails (R173, R177). -/
def execStgReplyTimeout (g : Grp) (s : State) : Result :=
  s.onLog fun t r =>
    let l := r.link g
    if r.rd .STG_LMSG_BUSY g = 0 || l.nextFrag ≠ none || l.sinceLast < r.rd .STG_RETRY_RTO then r
    else if 0 < l.resends then r.setLink g { l with nextFrag := some 0, sinceLast := 0, resends := l.resends - 1, replyFrag := 0, replyB := [] }
    else
      let r := ((r.wr .STG_LMSG_BUSY 0 g).wr .STG_LMSG_FAIL 1 g).raise .STG_EVENT_MSG_FAIL
      if r.discovering g then r.setLink' t.env g lsFault
      else r.setPh g { r.ph g with configOut := false, ofsDue := (r.ph g).ofsDue || (r.ph g).configOut, ofsWait := (r.ph g).configOut }

/-- The Lodge writes GO with a request in the buffer (R173, R184). -/
def execStgMsgGo (g : Grp) (mtid len : Byte) (s : State) : Result :=
  s.onLog fun _ r => r.msgGo g mtid.toNat len.toNat

/-- 64 frame periods with no valid frame on either lane (R177). -/
def execStgLinkLost (g : Grp) (s : State) : Result :=
  s.onLog fun t r =>
    if (r.link g).silentRun < 64 || r.lstate g = lsDown || r.lstate g = lsDisabled then r
    else (r.raise .STG_EVENT_LINK_LOST).setLink' t.env g lsDown

/-- FAULT is left for DOWN after 10 s, or at once on RESTART (R177, R184). -/
def execStgFaultExit (g : Grp) (s : State) : Result :=
  s.onLog fun t r => if r.lstate g = lsFault then r.setLink' t.env g lsDown else r
def Replica.stgRestart (r : Replica) (v : Env) (g : Nat) : Replica := if r.lstate g = lsFault then r.setLink' v g lsDown else r
def execStgLinkRestart (g : Grp) (s : State) : Result := s.onLog fun t r => r.stgRestart t.env g

/-! ### Frames and delay probes -/

/-- R155 for an upstream frame: no line error, at most 94 bytes, LEN agreeing with the bytes received. -/
def frameWhole (lineOk : Bool) (b : List Byte) : Bool := lineOk && decide (b.length ≤ 94) && byteAt b 1 = b.length && decide (18 ≤ b.length)

/-- R165: a sample frame valid for the present frame period. -/
def sampleValid (slen seq : Nat) (b : List Byte) : Bool :=
  crcGood b && byteAt b 0 = 0x81 && byteAt b 1 = slen && fieldAt b 4 4 = seq

/-- A lane that is not used: too slow, or refused (R159, R177). -/
def StageLink.unused (l : StageLink) (lane : Lane) : Bool :=
  match lane with
  | .A => l.slowA
  | .B => l.slowB || l.refusedB

def Local.report (l : Local) (x : LaneReport) : Local := { l with reports := l.reports ++ [x] }
def Local.holdFrame (l : Local) (lane : Lane) (g : Nat) (b : List Byte) : Local :=
  match lane with
  | .A => { l with rxA := vput l.rxA g (some b) }
  | .B => { l with rxB := vput l.rxB g (some b) }

/-- A sample frame arrives on pavilion p's own lane: it is forwarded over the Footbridge, judged, and held for the closure; an
error or a stale frame enters the lane report, and one after the closure instant counts as LATE_FRAME (R76, R78, R155, R165, R184). -/
def execStgSampleFrameRx (p : Pav) (g : Grp) (frame : List Byte) (lineOk : Bool) (s : State) : Result :=
  s.run fun t => t.modPav p fun v =>
    let whole := frameWhole lineOk frame && crcGood frame && byteAt frame 0 = 0x81
    if !whole then { v with loc := v.loc.report { grp := g, errs := 1 } }
    else
      let loc := v.loc.send (.forward p g.val frame)
      if fieldAt frame 4 4 ≠ t.frameSeq g then { v with loc := loc.report { grp := g, stale := 1 } }
      else if sampleValid (v.rep.rd .STG_LSTATE_SLEN g) (t.frameSeq g) frame && !loc.closed &&
          !(v.rep.link g).unused p then
        { v with loc := loc.holdFrame p g frame }
      else { v with loc := if loc.closed then loc.raise .FBR_EVENT_LATE_FRAME else loc }

/-- A frame forwarded by the peer, of a lane in use: held until both vectors are in; one that arrives later, or for another period, is discarded and
counted as LATE_FRAME (R76, R78). -/
def execFootbridgeFrameRx (p : Pav) (lane : Lane) (g : Grp) (frame : List Byte) (s : State) : Result :=
  s.run fun t => t.modPav p fun v =>
    if sampleValid (v.rep.rd .STG_LSTATE_SLEN g) (t.frameSeq g) frame && !v.loc.setDone then
      if (v.rep.link g).unused lane then v else { v with loc := v.loc.holdFrame lane g frame }
    else { v with loc := v.loc.raise .FBR_EVENT_LATE_FRAME }

/-- Every 1,024 site cycles, and at link up, a pavilion sends an ECHO on its lane (R159). -/
def execEchoProbe (p : Pav) (g : Grp) (s : State) : Result :=
  s.run fun t =>
    if t.drives p && (t.pav p).rep.lstate g ≠ lsDisabled then
      t.modLoc p fun l =>
        let tok := BitVec.ofNat 8 l.echoNo
        ({ l with echo := vput l.echo g.val (some tok), echoNo := l.echoNo + 1 }).send (.echo p g.val tok)
    else t

/-- The returned token gives the one-way delay, which becomes LEAD; a lane slower than STG_MAXDLY is not used (R159). -/
def execEchoReturnRx (p : Pav) (g : Grp) (token : Byte) (roundTrip : Nat) (s : State) : Result :=
  s.run fun t => t.modPav p fun v =>
    if vget v.loc.echo g.val none = some token then
      let i := (v.rep.link g).ident
      let d := (roundTrip - i.turn) / 2
      let slow := v.rep.rd .STG_MAXDLY_DLY * 5 < d + i.txLat
      { v with loc := { v.loc.report { grp := g, delay := some d, slow := slow } with
                          lead := vput v.loc.lead g.val d, echo := vput v.loc.echo g.val none } }
    else v

/-- A lane report taken up at a closure (R184): delays, LANE_SLOW, STALE and FRAME_ERR. -/
def Replica.takeReport (r : Replica) (lane : Lane) (x : LaneReport) : Replica :=
  let g := x.grp.val
  let r := match x.delay with
    | none => r
    | some d =>
      let r := r.wr (match lane with | .A => .STG_LDLY_DLY_A | .B => .STG_LDLY_DLY_B) d g
      let r := r.setLink g (match lane with | .A => { r.link g with slowA := x.slow } | .B => { r.link g with slowB := x.slow })
      if x.slow then r.raise .STG_EVENT_LANE_SLOW else r
  let f : Field := match lane with | .A => .STG_LERR_ERR_A | .B => .STG_LERR_ERR_B
  let r := r.wr f (r.rd f g + x.errs) g
  let r := (List.replicate x.errs ()).foldl (fun r _ => r.raise .STG_EVENT_FRAME_ERR) r
  (List.replicate x.stale ()).foldl (fun r _ => r.raise .STG_EVENT_STALE) r

/-! ### A link at a closure (R172, R173, R177, R180) -/

/-- Lane supervision (R180). -/
def Replica.laneWatch (r : Replica) (v : Env) (g : Nat) (namedA namedB : Bool) : Replica :=
  let l := r.link g
  let single := r.rd .STG_LCFG_LANES g = 1
  let missA := if namedA then 0 else if namedB || single then l.missA + 1 else 0
  let missB := if namedB || single then 0 else if namedA then l.missB + 1 else 0
  let upA := if namedA then l.upA + 1 else 0
  let upB := if namedB then l.upB + 1 else 0
  let r := r.setLink g { l with missA, missB, upA, upB }
  let down (r : Replica) (lane : Lane) (f : Field) (miss : Nat) : Replica :=
    if miss = 2 && bitOf (r.rd f) g then
      let r := ((r.wr f (putBit (r.rd f) g false)).raise .STG_EVENT_LANE_DOWN).fault v.now locStageLane g
        (if single then detected else masked) (if single then reLogged else reOtherPath) 0
      r.setLink g (match lane with | .A => { r.link g with lostA := true } | .B => { r.link g with lostB := true })
    else r
  let up (r : Replica) (lane : Lane) (f : Field) (n : Nat) : Replica :=
    if 16 ≤ n && !bitOf (r.rd f) g then
      let r := (r.wr f (putBit (r.rd f) g true)).raise .STG_EVENT_LANE_UP
      let lost := match lane with | .A => (r.link g).lostA | .B => (r.link g).lostB
      let r := if lost then r.journal v.now locStageLane g restored reLogged 0 else r
      r.setLink g (match lane with | .A => { r.link g with lostA := false } | .B => { r.link g with lostB := false })
    else r
  up (up (down (down r .A .STG_LANEA_UP missA) .B .STG_LANEB_UP missB) .A .STG_LANEA_UP upA) .B .STG_LANEB_UP upB

/-- The reply fragment of a taken sample frame (R171 to R173). -/
def Replica.takeFragment (r : Replica) (g : Nat) (b : List Byte) : Replica :=
  let l := r.link g
  if r.rd .STG_LMSG_BUSY g = 1 && l.nextFrag = none && byteAt b 8 = r.rd .STG_LMSG_MTID g && byteAt b 8 ≠ 0 && byteAt b 9 % 128 = l.replyFrag
  then
    let r := { r with blkMem := r.blkMem.wrBytes (stgRep g + 8 * l.replyFrag) ((b.drop 10).take 8) }
    if 128 ≤ byteAt b 9 then
      let r := ((r.wr .STG_LMSG_BUSY 0 g).wr .STG_LMSG_DONE 1 g).wr .STG_LMSG_RLEN (8 * (l.replyFrag + 1)) g
      r.setLink g { l with replyFrag := 0 }
    else r.setLink g { l with replyFrag := l.replyFrag + 1 }
  else r

/-- The same fragment in the frame of lane B, where both lanes brought one (R177). -/
def Replica.takeFragmentB (r : Replica) (g : Nat) (b : List Byte) : Replica :=
  let l := r.link g
  if r.rd .STG_LMSG_BUSY g = 1 && l.nextFrag = none && byteAt b 8 = r.rd .STG_LMSG_MTID g && byteAt b 8 ≠ 0 &&
      8 * (byteAt b 9 % 128) = l.replyB.length
  then r.setLink g { l with replyB := l.replyB ++ padTo 8 ((b.drop 10).take 8) }
  else r

/-- A link's frame period at a closure, with the frame taken if any, and lane B's beside it where both lanes brought one. -/
def Replica.stgClosure (r : Replica) (v : Env) (g : Nat) (namedA namedB : Bool) (frame frameB : Option (List Byte)) : Replica :=
  let r := r.laneWatch v g namedA namedB
  let l := r.link g
  let r := r.setLink g { l with goodRun := if frame.isSome then l.goodRun + 1 else 0, silentRun := if frame.isSome then 0 else l.silentRun + 1
                                sinceLast := if l.nextFrag = none then l.sinceLast + 1 else 0 }
  let r := match frame with
    | none => r.wr .STG_LMISS_MISS (r.rd .STG_LMISS_MISS g + 1) g
    | some b =>
      let r := match frameB with
        | some b' => r.takeFragmentB g b'
        | none => r
      let r := r.takeFragment g b
      let flags := fieldAt b 2 2
      let flt := fieldAt b 42 2
      let l := r.link g
      let rose (n : Nat) : Bool := bitOf flags n && !bitOf l.prevFlags n
      let r := if flt &&& (flt ^^^ l.prevFault) ≠ 0 then r.freezeRing v g 0x10 else r
      let r := if rose 5 then (r.raise .STG_EVENT_ROUTE_FAULT).freezeRing v g 0x11 else r
      let r := if rose 3 then r.freezeRing v g 0x13 else r
      r.setLink g { r.link g with prevFlags := flags, prevFault := flt }
  if r.lstate g = lsDown && r.discovery && r.committed && r.rd .STG_LCFG_EN_LINK g = 1 && 4 ≤ (r.link g).goodRun then (r.setLink' v g lsIdent).sendIdentReq g else r

/-! ### A link at a release (R161, R170, R171) -/

/-- MTID, MFRAG and MDATA of the present fragment; an empty slot is zeros. -/
def Replica.slotBytes (r : Replica) (g : Nat) : List Byte :=
  match (r.link g).nextFrag with
  | none => leBytes 10 0
  | some k =>
    let len := r.rd .STG_LMSG_LEN g
    let last := decide (len ≤ 8 * (k + 1))
    leBytes 1 (r.rd .STG_LMSG_MTID g) ++ leBytes 1 (k + (if last then 128 else 0)) ++
      padTo 8 ((r.blkMem.rdBytes (stgReq g + 8 * k) 8).take (len - 8 * k))
/-- After a release the next fragment stands ready, or the wait for the reply begins. -/
def Replica.nextFragment (r : Replica) (g : Nat) : Replica :=
  let l := r.link g
  match l.nextFrag with
  | none => r
  | some k =>
    if r.rd .STG_LMSG_LEN g ≤ 8 * (k + 1) then r.setLink g { l with nextFrag := none, sinceLast := 0 }
    else r.setLink g { l with nextFrag := some (k + 1) }

end Sys2Proof.Machine
end

