-- ==== Sys2Proof/Machine/Ctl.lean ====
section
/-! DEFINITION. Converter control: the CTL guards, coefficient swaps, injection and capture (R185 to R229). -/
namespace Sys2Proof.Machine

/-- A group's guards act while it is ACTIVE and routed to an outlet whose MODE is CABLE_CHECK to COMMISSION (R206). -/
def Replica.guarded (r : Replica) (g : Nat) : Bool :=
  let o := r.rd .CTL_GFEED_OUTLET g
  r.lstate g = lsActive && decide (o < 24) && 1 ≤ r.mode o && r.mode o ≤ 5

/-- The runtime's write of MODE (R201). -/
def execCtlModeWrite (o : Outlet) (mode : BitVec 4) (s : State) : Result :=
  s.onLog fun _ r => r.writeMode o.val mode.toNat

/-- A soft-start guard declares on an outlet that is not stopped, or was at this closure (R213). -/
def Replica.maySoft (r : Replica) (v : Env) (o : Nat) : Bool := r.rd .CTL_OMODE_STOPPED o = 0 || r.openedHere v o

/-- R202: the run of closures above OC percent of I_ss has reached 2. -/
def execSsOvercurrent (o : Outlet) (s : State) : Result :=
  s.onLog fun t r =>
    if r.rd .CTL_OMODE_SOFT o = 1 && 2 ≤ (r.out o).ocRun && r.maySoft t.env o then
      (r.raise .CTL_EVENT_SS_OVERCURRENT).stopNow t.env o coOvercurrent
    else r

/-- R203: the short counter has reached SHORT_CYC. -/
def execShortSoftstart (o : Outlet) (s : State) : Result :=
  s.onLog fun t r =>
    if r.rd .CTL_OMODE_SOFT o = 1 && 0 < r.rd .CTL_LAYER_SHORT_CYC && r.rd .CTL_LAYER_SHORT_CYC ≤ (r.out o).shortCnt &&
        r.maySoft t.env o then
      (r.raise .CTL_EVENT_SHORT_SOFTSTART).stopNow t.env o coShort
    else r

/-- NF_RUN has reached LOST_CYC and the run has not been declared yet (R207). -/
def Replica.lossDue (r : Replica) (g : Nat) : Bool := r.rd .CTL_CTRL_LOST_CYC ≤ r.rd .CTL_GFEED_NF_RUN g && !(r.grp g).lossSaid

/-- R207: NF_RUN has reached LOST_CYC, and some frame period of the run carried no VALID frame. -/
def execFeedbackLost (g : Grp) (s : State) : Result :=
  s.onLog fun t r =>
    if r.guarded g && r.lossDue g && !(r.grp g).runValid then
      ((r.setGrp g { r.grp g with lossSaid := true }).raise .CTL_EVENT_FEEDBACK_LOST).openRamp t.env (r.rd .CTL_GFEED_OUTLET g) coFeedbackLost (some g)
    else r

/-- The command frames in force for the last 64 frames: those applied at the boundary that opened the conversion window of the latest
sample frame and before (R160, R208). -/
def Replica.inForce (r : Replica) (v : Env) (g : Nat) : List (List Nat × Nat × Nat) :=
  let opened := fieldAt (r.grp g).lastSample 4 4 + 2 ^ 32 - if v.half g then 2 else 1
  ((r.grp g).sent.dropWhile fun x => decide (x.2.2 ≠ opened % 2 ^ 32 ∧ (x.2.2 + 2 ^ 32 - opened % 2 ^ 32) % 2 ^ 32 < 2 ^ 31)).take 64

/-- Over the 64 command frames in force, some fitted phase enabled throughout moved by more than FRZ_DUTY (R208). -/
def Replica.dutyMoved (r : Replica) (v : Env) (g : Nat) : Bool :=
  let h := r.inForce v g
  h.length = 64 && (List.range (r.rd .STG_LSTATE_NPH g)).any fun k =>
    let ds := h.map fun x => x.1.getD k 0
    h.all (fun x => bitOf x.2.1 k) && decide (r.rd .CTL_CTRL_FRZ_DUTY < ds.foldl max 0 - ds.foldl min 65535)

/-- R207, R208: a standing counter, or 64 bit-identical fresh frames while a duty moved. -/
def execFeedbackFrozen (g : Grp) (s : State) : Result :=
  s.onLog fun t r =>
    let still := r.lossDue g && (r.grp g).runValid
    let frozen := 64 ≤ r.rd .CTL_GFEED_FRZ_RUN g && r.dutyMoved t.env g && !(r.grp g).frzSaid
    if r.guarded g && (still || frozen) then
      let x := r.grp g
      ((r.setGrp g { x with lossSaid := x.lossSaid || still, frzSaid := x.frzSaid || frozen }).raise .CTL_EVENT_FEEDBACK_FROZEN).openRamp t.env (r.rd .CTL_GFEED_OUTLET g) coFeedbackFrozen (some g)
    else r

/-- The safety engine writes a disagreement (R209). -/
def Replica.xdisWrite (r : Replica) (v : Env) (dis : Nat) : Replica :=
  r.eachOut fun o r =>
    if bitOf dis o && 1 ≤ r.mode o && r.mode o ≤ 4 then (r.raise .CTL_EVENT_VOLTAGE_DISAGREE).openRamp v o coDisagree none else r
def execCtlXdisWrite (dis : BitVec 24) (s : State) : Result := s.onLog fun t r => r.xdisWrite t.env dis.toNat

/-- The fourth release has gone out: RAMP clears, STOPPED is set (R211). -/
def execRampDone (o : Outlet) (s : State) : Result :=
  s.onLog fun _ r =>
    if r.rd .CTL_OMODE_RAMP o = 1 && (r.groupsOf o).all (fun g => 4 ≤ (r.grp g).rampK) then
      ((r.wr .CTL_OMODE_RAMP 0 o).wr .CTL_OMODE_STOPPED 1 o).raise .CTL_EVENT_RAMP_DONE
    else r

/-! ### Coefficient swaps (R192 to R197) -/

def ctlStaging (o : Nat) : Nat := 3 * 2 ^ 20 + 0x1000 + 0x100 * o
def Replica.staged (r : Replica) (o : Nat) : List Byte := r.blkMem.rdBytes (ctlStaging o) 176

/-- Word i of the section record at offset `off` of a set, signed. -/
def setWord (b : List Byte) (off i : Nat) : Int := signed 32 (fieldAt b (off + 4 * i) 4)

/-- R195, with A1 and A2 in Q2.30. -/
def stableSection (a1 a2 : Int) (clamp : Bool) : Bool :=
  absInt' a2 < 2 ^ 30 && (absInt' a1 < 2 ^ 30 + a2 || (a1 < 0 && absInt' a1 = 2 ^ 30 + a2 && clamp))
where absInt' (x : Int) : Int := (x.natAbs : Int)

/-- The contents checks of R194, in ascending code order. -/
def setCheck (b : List Byte) : Nat :=
  let offs := [8, 40, 72, 104]
  let ctrl (o : Nat) : Nat := fieldAt b (o + 28) 4
  if !crcGood b then 1
  else if fieldAt b 0 2 ≠ 0x0601 || fieldAt b 2 2 ≠ 176 || !((b.drop 160).take 12).all (· = 0) then 2
  else if offs.any (fun o => 16 ≤ ctrl o) then 3
  else if offs.any (fun o => !stableSection (setWord b o 3) (setWord b o 4) (ctrl o % 2 = 1)) then 4
  else if offs.any (fun o => setWord b o 6 < setWord b o 5) || fieldAt b 156 2 < fieldAt b 158 2 ||
      signed 32 (fieldAt b 136 4) < 0 || signed 32 (fieldAt b 140 4) < 0 || signed 32 (fieldAt b 152 4) < 0 ||
      signed 32 (fieldAt b 148 4) ≤ 0 || setWord b 8 6 ≠ 0 || setWord b 40 5 ≠ 0 then 5
  else 0

/-- GO in CTL_OoSWCTL (R194): RESULT 0 sets PEND, any other raises SWAP_REFUSED and changes nothing. -/
def Replica.swapGo (r : Replica) (o : Nat) : Replica :=
  let code := if r.rd .CTL_OSWCTL_ADDR o = 0 then 6 else if r.rd .CTL_OSWCTL_PEND o = 1 then 7 else setCheck (r.staged o)
  let r := r.wr .CTL_OSWCTL_RESULT code o
  if code = 0 then r.wr .CTL_OSWCTL_PEND 1 o else r.raise .CTL_EVENT_SWAP_REFUSED
def execCtlSwapGo (o : Outlet) (s : State) : Result := s.onLog fun _ r => r.swapGo o

/-- A boundary SEQ has come or passed (modulo 2^32). -/
def seqReached (target now : Nat) : Bool := decide ((now + 2 ^ 32 - target % 2 ^ 32) % 2 ^ 32 < 2 ^ 31)

/-- The engine stands in its end-mark wait (R142, R196). -/
def Engine.inEndWait (en : Engine) : Bool :=
  en.endMark && match en.wait with | .awaits _ _ _ => true | _ => false

/-- The words of a set written into the coefficient area: bytes 0 to 31 of each section, SET_ID and PARAMS (R193, R196). -/
def Engine.loadSet (en : Engine) (base : Nat) (b : List Byte) : Engine :=
  let m := en.dtcm
  let m := ((m.wrBytes base ((b.drop 8).take 32)).wrBytes (base + 48) ((b.drop 40).take 32)).wrBytes (base + 96) ((b.drop 72).take 32)
  let m := (m.wrBytes (base + 144) ((b.drop 104).take 32)).wrBytes (base + 192) ((b.drop 4).take 4)
  { en with dtcm := m.wrBytes (base + 196) ((b.drop 136).take 36) }

/-- R196, R197: one outlet per engine per frame period, in ascending outlet number, in the end-mark wait that ends at the closure of
APPLY or a later one. -/
def execSwapLoad (o : Outlet) (s : State) : Result :=
  s.run fun t => t.onStep fun v =>
    let r := v.rep
    let e := r.rd .CTL_OSWCTL_ENGINE o
    let en := v.loc.eng (Fin.ofNat 12 e)
    let first := (List.range o.val).all fun q =>
      !(r.rd .CTL_OSWCTL_PEND q = 1 && r.rd .CTL_OSWCTL_ENGINE q = e && seqReached (r.rd .CTL_OSWAP_APPLY q) t.seq)
    if r.rd .CTL_OSWCTL_PEND o = 1 && seqReached (r.rd .CTL_OSWAP_APPLY o) t.seq && en.inEndWait && !r.swapEngines.contains e && first then
      let r' := (r.wr .CTL_OSWCTL_PEND 0 o).raise .CTL_EVENT_SWAP_DONE
      { loc := v.loc.setEng (Fin.ofNat 12 e) (en.loadSet (0x40000 + 16 * r.rd .CTL_OSWCTL_ADDR o) (r.staged o))
        rep := { r' with swapWord := r.swapWord ||| 2 ^ o.val, swapEngines := e :: r.swapEngines,
                         caps := r'.caps.map fun c => { c with swapped := true } } }
    else v

/-! ### Injection (R214 to R216) -/

/-- GO is ignored unless WAVE is defined, MODE is CHARGING or COMMISSION, and no other generator on the outlet is active. -/
def Replica.injGo (r : Replica) (i : Nat) : Replica :=
  let o := r.rd .CTL_INJCTRL_OUTLET i
  let clash := (List.range 4).any fun j => j ≠ i && r.rd .CTL_INJCTRL_OUTLET j = o &&
    (r.rd .CTL_INJCTRL_ACTIVE j = 1 || (vget r.injs j {}).armed)
  if r.rd .CTL_INJCTRL_WAVE i ≤ 4 && o < 24 && (r.mode o = modeCharging || r.mode o = modeCommission) && !clash then
    { r with injs := vput r.injs i { armed := true, inc := r.rd .CTL_INJFREQ_FREQ i } }
  else r
def execCtlInjGo (i : Unit4) (s : State) : Result := s.onLog fun _ r => r.injGo i

def Replica.injStop (r : Replica) (i : Nat) : Replica :=
  if r.rd .CTL_INJCTRL_ACTIVE i = 1 || (vget r.injs i {}).armed then r.endInj i 1 else r
def execCtlInjStop (i : Unit4) (s : State) : Result := s.onLog fun _ r => r.injStop i

/-- The boundary whose SEQ equals START, or the next closure if it has passed (R216); a capture with TRIG = INJECTION on the
generator's own unit triggers (R222). -/
def execInjectionStart (i : Unit4) (s : State) : Result :=
  s.onLog fun t r =>
    let x := vget r.injs i {}
    if x.armed && seqReached (r.rd .CTL_INJSTART_START i) t.seq then
      let c := vget r.caps i {}
      let st := r.rd .CTL_CAPCTRL_STATE i
      let hit := r.rd .CTL_CAPCTRL_TRIG i = 2 && (st = 1 || st = 2)
      { r.wr .CTL_INJCTRL_ACTIVE 1 i with
          injs := vput r.injs i { x with armed := false, t := 0, phase := 0, lfsr := 0x7FF }
          caps := vput r.caps i { c with trigger := c.trigger || hit } }
    else r

/-- LEN frame periods are completed (R216). -/
def execInjDone (i : Unit4) (s : State) : Result :=
  s.onLog fun _ r =>
    if r.rd .CTL_INJCTRL_ACTIVE i = 1 && r.rd .CTL_INJLEN_LEN i ≤ (vget r.injs i {}).t then r.endInj i 0 else r

/-- The sine of R215: a quarter-wave table of 1,024 entries with linear interpolation; the entries are Config's (log entry 21). -/
def sineQ31 (phase : Nat) : Int :=
  let q := phase / 2 ^ 30 % 4
  let x := phase % 2 ^ 30
  let x := if q % 2 = 1 then 2 ^ 30 - x else x
  let i := x / 2 ^ 20
  let f := x % 2 ^ 20
  let y : Int := ((Config.sineEntry i * (2 ^ 20 - f) + Config.sineEntry (i + 1) * f) / 2 ^ 20 : Nat)
  if q < 2 then y else -y

/-- A generator's value for its present frame period, and its state for the next (R215). -/
def Replica.injStep (r : Replica) (i : Nat) : Replica :=
  let x := vget r.injs i {}
  if r.rd .CTL_INJCTRL_ACTIVE i = 0 then { r with injs := vput r.injs i { x with value := 0 } }
  else
    let amp : Int := min (signed 32 (r.rd .CTL_INJAMP_AMP i)) 0x10000000
    let freq := r.rd .CTL_INJFREQ_FREQ i
    let wave := r.rd .CTL_INJCTRL_WAVE i
    let val : Int :=
      if r.rd .CTL_INJLEN_LEN i ≤ x.t then 0
      else if wave = 0 then amp
      else if wave = 1 then (if freq % 65536 = 0 || x.t / (freq % 65536) % 2 = 0 then amp else -amp)
      else if wave ≤ 3 then amp * sineQ31 x.phase / 2 ^ 31
      else if x.lfsr % 2 = 1 then amp else -amp
    let bit := (x.lfsr / 2 ^ 10 + x.lfsr / 2 ^ 8) % 2
    let step := wave = 4 && (x.t + 1) % (max 1 (freq % 256)) = 0
    let x := { x with t := x.t + 1, phase := (x.phase + x.inc) % 2 ^ 32, value := BitVec.ofInt 32 val,
                      inc := if wave = 3 then min (2 ^ 31) (x.inc + r.rd .CTL_INJSTEP_STEP i) else x.inc,
                      lfsr := if step then (x.lfsr * 2 + bit) % 2 ^ 11 else x.lfsr }
    { r with injs := vput r.injs i x }

/-! ### Capture (R219 to R223) -/

/-- A region's first byte and its capacity in samples (R220). -/
def Replica.capBase (r : Replica) (i : Nat) : Nat := 0x10000000 + r.rd .CTL_CAPBASE_BASE i * 65536
def Replica.capSize (r : Replica) (i : Nat) : Nat := r.rd .CTL_CAPSIZE_SIZE i * 2048 - 2
def Replica.capPre (r : Replica) (i : Nat) : Nat := min (r.rd .CTL_CAPSIZE_PRE i) (r.capSize i - 1)

/-- ARM (R221); ignored for TRIG codes 6 and 7, for DEC = 0 and for an unused unit. -/
def Replica.capArmWrite (r : Replica) (i : Nat) : Replica :=
  if 6 ≤ r.rd .CTL_CAPCTRL_TRIG i || r.rd .CTL_CAPCTRL_DEC i = 0 || r.rd .CTL_CAPSIZE_SIZE i = 0 then r
  else
    let src := (List.range 8).map fun c =>
      r.rd .CTL_CAPSRC_KIND (i * 8 + c) + r.rd .CTL_CAPSRC_IDX (i * 8 + c) * 16 + r.rd .CTL_CAPSRC_HW (i * 8 + c) * 512
    { (r.wr .CTL_CAPCTRL_STATE 1 i).wr .CTL_CAPCOUNT_COUNT 0 i with
        caps := vput r.caps i { src := src, trigger := r.rd .CTL_CAPCTRL_TRIG i = 0 } }
def execCtlCapArm (i : Unit4) (s : State) : Result := s.onLog fun _ r => r.capArmWrite i

/-- FIRE triggers at the next closure (R222). -/
def Replica.capFire (r : Replica) (i : Nat) : Replica :=
  let st := r.rd .CTL_CAPCTRL_STATE i
  if r.rd .CTL_CAPCTRL_TRIG i = 1 && (st = 1 || st = 2) then { r with caps := vput r.caps i { vget r.caps i {} with trigger := true } } else r
def execCtlCapFire (i : Unit4) (s : State) : Result := s.onLog fun _ r => r.capFire i

/-- STOP returns a unit to IDLE at once, without a header (R222). -/
def execCtlCapStop (i : Unit4) (s : State) : Result := s.onLog fun _ r => r.wr .CTL_CAPCTRL_STATE 0 i

/-- The 64-byte header of R223. -/
def Replica.capHeader (r : Replica) (i : Nat) : List Byte :=
  let c := vget r.caps i {}
  let b := leBytes 2 0x0602 ++ leBytes 2 8 ++ leBytes 4 c.held ++ leBytes 8 c.trigTime ++ leBytes 4 c.trigSeq ++
    leBytes 4 (if c.held < r.capSize i then 0 else c.next) ++ leBytes 2 (r.rd .CTL_CAPCTRL_DEC i) ++ leBytes 1 c.cause ++
    leBytes 1 (c.opened.toNat + 2 * c.swapped.toNat) ++ (c.src.map (leBytes 4)).flatten
  b ++ leBytes 4 (crc32c b).toNat

/-- The samples after the trigger are written: the header follows, CAP_DONE is raised (R221, R223), and a tuning run
that uses the unit completes (R440). -/
def execCapDone (i : Unit4) (s : State) : Result :=
  s.run fun t => t.onStep fun v =>
    if v.rep.rd .CTL_CAPCTRL_STATE i = 3 && (vget v.rep.caps i {}).post = 0 then
      { loc := { v.loc with sram := v.loc.sram.wrBytes (v.rep.capBase i) (v.rep.capHeader i) }
        rep := ((v.rep.wr .CTL_CAPCTRL_STATE 4 i).raise .CTL_EVENT_CAP_DONE).completeOp
          (fun x => match x.kind with | .tune _ _ c => c = i.val | _ => false) 0 0 [] }
    else v

/-- One channel of a sample (R219). -/
def Pavilion.capChannel (v : Pavilion) (src : Nat) : Nat :=
  let kind := src % 16
  let ix := src / 16 % 32
  let hw := src / 512 % 64
  if kind = 1 then v.loc.inWin.rdN (0x100 + 128 * ix + 2 * hw) 2
  else if kind = 2 then fieldAt (v.rep.grp ix).lastCmd (2 * hw) 2
  else if kind = 3 then v.loc.outWin.rdN (0x1000 + 4 * hw) 4
  else if kind = 4 then (vget v.rep.injs (ix % 4) {}).value.toNat
  else if kind = 5 then v.rep.rd .CTL_OIOUT_IOUT ix
  else if kind = 6 then v.rep.rd .CTL_OVOUT_VOUT ix
  else if kind = 7 then v.loc.inWin.rdN (4 * ix) 4 else 0

/-- The LEVEL and SEQ triggers (R222). -/
def capLevel (last : Option Int) (x trig : Int) (falling : Bool) : Bool :=
  match last with
  | none => false
  | some y => if falling then decide (trig < y) && decide (x ≤ trig) else decide (y < trig) && decide (trig ≤ x)

/-- A running unit at a closure: at every DEC-th closure from ARM it writes one sample and moves through PRE, WAIT and POST. -/
def Pavilion.capStep (v : Pavilion) (e : Env) (i : Nat) : Pavilion :=
  let r := v.rep
  let c := vget r.caps i {}
  let st := r.rd .CTL_CAPCTRL_STATE i
  if st = 0 || st = 4 || (st = 3 && c.post = 0) then v
  else
    let c := { c with closures := c.closures + 1 }
    if c.closures % (max 1 (r.rd .CTL_CAPCTRL_DEC i)) ≠ 0 then { v with rep := { r with caps := vput r.caps i c } }
    else
      let ch := c.src.map v.capChannel
      let x := signed 32 (ch.getD 0 0)
      let trig := st ≠ 3 && (c.trigger || (r.rd .CTL_CAPCTRL_TRIG i = 3 &&
          capLevel c.last x (signed 32 (r.rd .CTL_CAPTRIG_TRIG i)) (r.rd .CTL_CAPCTRL_EDGE i = 1)) ||
        (r.rd .CTL_CAPCTRL_TRIG i = 5 && e.seq = r.rd .CTL_CAPTRIG_TRIG i))
      let cap := r.capSize i
      let c := if trig then { c with post := cap - r.capPre i, trigTime := e.now, trigSeq := e.seq,
                                     cause := r.rd .CTL_CAPCTRL_TRIG i, trigger := false } else c
      let st := if trig then 3 else st
      let addr := r.capBase i + 64 + 32 * c.next
      let c := { c with next := (c.next + 1) % max 1 cap, held := min cap (c.held + 1), last := some x,
                        post := if st = 3 then c.post - 1 else c.post }
      let st := if st = 1 && r.capPre i ≤ c.held then 2 else st
      { loc := { v.loc with sram := v.loc.sram.wrBytes addr ((ch.map (leBytes 4)).flatten) }
        rep := { ((r.wr .CTL_CAPCTRL_STATE st i).wr .CTL_CAPCOUNT_COUNT (r.rd .CTL_CAPCOUNT_COUNT i + 1) i) with
                   caps := vput r.caps i c } }

/-! ### Freshness and the guards' counters at a closure (R203, R206 to R208) -/

/-- The bus of a group that reaches an outlet (R285). -/
def Replica.busTo (r : Replica) (g o : Nat) : Option Nat :=
  if r.rd .CTL_GWIRE_BUS0 g = o then some 0 else if r.rd .CTL_GWIRE_BUS1 g = o then some 1
  else if r.rd .CTL_GWIRE_BUS2 g = o then some 2 else if r.rd .CTL_GWIRE_BUS3 g = o then some 3 else none

/-- The contactor to the routed outlet's bus shown closed in ROUTE_ACT. -/
def Replica.closedTo (r : Replica) (g o : Nat) : Bool :=
  match r.busTo g o with | some b => bitOf (r.grp g).routeAct b | none => false

/-- A group's freshness, NF_RUN and freeze run for one frame period (R206 to R208). -/
def Replica.freshStep (r : Replica) (g : Nat) (frame : Option (List Byte)) : Replica :=
  let x := r.grp g
  let conv := frame.map fun b => fieldAt b 18 2
  let fresh : Bool := match conv with | some c => decide (x.lastConv ≠ some c) | none => false
  let r := r.wr .CTL_GFEED_FRESH fresh.toNat g
  match frame with
  | some b =>
    if fresh then
      let iph := (List.range 8).map fun k => signed 16 (fieldAt b (20 + 2 * k) 2)
      let nph := r.rd .STG_LSTATE_NPH g
      let key := iph.take nph ++ [(fieldAt b 36 2 : Int), (fieldAt b 38 2 : Int)]
      let same := x.frzFirst = key
      let r := (r.wr .CTL_GFEED_NF_RUN 0 g).wr .CTL_GFEED_FRZ_RUN (if same then min 127 (r.rd .CTL_GFEED_FRZ_RUN g + 1) else 1) g
      r.setGrp g { x with lossSaid := false, frzSaid := x.frzSaid && same, lastConv := conv, runValid := true, iph := iph, vdc := fieldAt b 36 2, vout := fieldAt b 38 2,
                          routeAct := byteAt b 41, frzFirst := key, lastSample := b }
    else
      let r := (r.wr .CTL_GFEED_NF_RUN (min 255 (r.rd .CTL_GFEED_NF_RUN g + 1)) g).wr .CTL_GFEED_FRZ_RUN 0 g
      r.setGrp g { x with frzSaid := false, frzFirst := [], lastSample := b }
  | none =>
    let r := (r.wr .CTL_GFEED_NF_RUN (min 255 (r.rd .CTL_GFEED_NF_RUN g + 1)) g).wr .CTL_GFEED_FRZ_RUN 0 g
    r.setGrp g { x with frzSaid := false, runValid := false, frzFirst := [], lastSample := [] }

/-- The soft-start current limit I_ss in 0.1 A (R201). -/
def Replica.iss (r : Replica) (o : Nat) : Nat :=
  let l := r.rd .CTL_SS_ILIM
  let v := r.rd .CTL_OILIM_VEHI o
  if v ≠ 0 && v < l then v else l

/-- i_out in Q1.31 from the exact sum; v_out, the mean of `n` voltages whose sum is `a` (R187, R188 stage 1). -/
def outletCurrent (i : Int) : Int := if -(2 ^ 31) ≤ i && i < 2 ^ 31 then i else (Config.currentOver i).toInt
def outletVoltage (a n : Nat) : Nat := roundDiv a n

/-- An outlet's fresh values and soft-start counters at a closure (R188 stage 1, R202, R203, R206). Currents are on the outlet scale
(0.02 A is 8,192; 0.1 A is 40,960), voltages in Q1.31 (0.025 V is 32,768). -/
def Replica.outletStep (r : Replica) (o : Nat) : Replica :=
  let gs := (r.groupsOf o).filter fun g => r.closedTo g o
  let fresh := gs.any fun g => r.rd .CTL_GFEED_FRESH g = 1
  if !fresh then r.setOut o { r.out o with freshNow := false }
  else
    let v := outletVoltage (gs.foldl (fun a g => a + (r.grp g).vout) 0 * 32768) gs.length
    let i := outletCurrent (gs.foldl (fun a g => a + (r.grp g).iph.foldl (· + ·) 0) (0 : Int) * 8192)
    let x := r.out o
    let soft := r.rd .CTL_OMODE_SOFT o = 1
    let iss : Int := r.iss o * 40960
    let above := soft && decide (iss * r.rd .CTL_SS2_OC < i * 100)
    let short := soft && decide (v * 100 < r.rd .CTL_SHORT_FRAC * (r.rd .CTL_OVTGT_VTGT o * 32768)) &&
      decide (iss * r.rd .CTL_SHORT_ATLIM ≤ i * 100)
    let stop := r.ostate o = osStopping && decide (i ≤ (r.rd .DLK_OSTOP_I_STOP o * 40960 : Nat))
    let r := (r.wr .CTL_OVOUT_VOUT v o).wr .CTL_OIOUT_IOUT ((i % 2 ^ 32).toNat) o
    r.setOut o { x with freshNow := true, stopRun := if stop then x.stopRun + 1 else 0, ocRun := if above then x.ocRun + 1 else 0, shortCnt := if short then x.shortCnt + 1 else 0 }

end Sys2Proof.Machine
end

