-- ==== Sys2Proof/Machine/Phase.lean ====
section
/-! DEFINITION. Phase management: the library's balancing counts, rotation, offsets, shedding, adding and routing, and the
last-fault records (R230 to R254). -/
namespace Sys2Proof.Machine

/-- Fields of a group's phase-management record (R231). -/
def Replica.phImax (r : Replica) (g : Nat) : Nat := r.prm recPhase g 4 2
def Replica.phPmax (r : Replica) (g : Nat) : Nat := r.prm recPhase g 6 2
def Replica.addTh (r : Replica) (g : Nat) : Nat := r.prm recPhase g 8 1
def Replica.shedTh (r : Replica) (g : Nat) : Nat := r.prm recPhase g 9 1
def Replica.shedHold (r : Replica) (g : Nat) : Nat := r.prm recPhase g 10 2
def Replica.shedRamp (r : Replica) (g : Nat) : Nat := r.prm recPhase g 12 1
def Replica.addRamp (r : Replica) (g : Nat) : Nat := r.prm recPhase g 13 1
def Replica.minPh (r : Replica) (g : Nat) : Nat := r.prm recPhase g 14 1
def Replica.ilvMode (r : Replica) (g : Nat) : Nat := r.prm recPhase g 15 1
def Replica.rotInt (r : Replica) (g : Nat) : Nat := r.prm recPhase g 16 2
def Replica.fit (r : Replica) (g : Nat) : Nat := r.prm recPhase g 18 1

/-- A phase is usable when its FIT bit is set and it is fitted (R232). -/
def Replica.usable (r : Replica) (g : Nat) : Nat := r.fit g &&& (2 ^ r.rd .STG_LSTATE_NPH g - 1)
def popcount8 (m : Nat) : Nat := ((List.range 8).filter fun k => bitOf m k).length

/-- I_lim in 0.02 A at an output voltage in Q1.31 (R232): PH_PMAX / v with PH_PMAX in 100 W. -/
def Replica.iLim (r : Replica) (g vOut : Nat) : Nat :=
  let a := min (r.phImax g) (r.link g).ident.imax
  if vOut / 32768 = 0 then a else min a (r.phPmax g * 200000 / (vOut / 32768))

/-- ADAPTIVE offsets need ILVMODE 1 and a version-2 endpoint (R237, R238). -/
def Replica.adaptive (r : Replica) (g : Nat) : Bool := r.ilvMode g = 1 && r.rd .STG_LSTATE_VER g = 2

/-- The slot of a phase (R234). -/
def Replica.slotOf (r : Replica) (g k : Nat) : Nat := (k + (r.ph g).rot) % 8

/-- FIXED offsets (R237). -/
def Replica.fixedOfs (r : Replica) (v : Env) (g k : Nat) : Nat :=
  let peers := (List.range 32).filter fun h => r.rd .STG_LCFG_EN_LINK h = 1 && v.half h = v.half g
  let pos := (peers.filter fun h => h < g).length
  65536 * (r.slotOf g k * peers.length + pos) / (8 * max 1 peers.length)

/-- ADAPTIVE offsets of an outlet's enabled phases (R238): the phase is numbered among those of its rate by (slot, group). -/
def Replica.adaptiveOfs (r : Replica) (v : Env) (o g k : Nat) : Nat :=
  let ps := ((r.groupsOf o).filter fun h => r.adaptive h && v.half h = v.half g).flatMap fun h =>
    ((List.range 8).filter fun j => bitOf (r.ph h).en j).map fun j => (r.slotOf h j, h)
  let n := max 1 ps.length
  let me := (r.slotOf g k, g)
  let j := (ps.filter fun x => x.1 < me.1 || (x.1 = me.1 && x.2 < me.2)).length
  (65536 * j / n + 65536 * o / (24 * n)) % 65536

/-- The offsets a CONFIG made now carries; those of disabled phases stay as they are in ADAPTIVE mode (R237, R238). -/
def Replica.newOfs (r : Replica) (v : Env) (g : Nat) : List Nat :=
  let o := r.rd .CTL_GFEED_OUTLET g
  (List.range 8).map fun k =>
    if r.adaptive g && o < 24 then (if bitOf (r.ph g).en k then r.adaptiveOfs v o g k else (r.ph g).ofs.getD k 0)
    else r.fixedOfs v g k

/-- r_g advances (R234). -/
def Phases.rotate (x : Phases) : Phases := { x with rot := (x.rot + 1) % 8, rotations := (x.rotations + 1) % 2 ^ 32, rotDue := false }

/-- Every group of an outlet has new ADAPTIVE offsets to send (R239). -/
def Replica.ofsFall (r : Replica) (o : Nat) : Replica :=
  (r.groupsOf o).foldl (fun r g => if r.adaptive g then r.setPh g { r.ph g with ofsDue := true } else r) r

/-- A timed rotation (R234, R236): in ADAPTIVE mode, every ROT_INT ticks; one due during a ramp-out waits for the re-enable. -/
def execRotationDue (g : Grp) (s : State) : Result :=
  s.onLog fun _ r =>
    let x := r.ph g
    if r.ilvMode g = 1 && 0 < r.rotInt g && r.rotInt g ≤ x.ticks then
      let x := { x with ticks := 0 }
      if x.rampOut.isSome then r.setPh g { x with rotDue := true }
      else (r.setPh g x.rotate).ofsFall (r.rd .CTL_GFEED_OUTLET g)
    else r

/-- The phase a shed takes (the largest Q among w = 1) or an add takes (the smallest Q among usable disabled ones); ties go to the
lower slot (R235). -/
def Replica.pickPhase (r : Replica) (g : Nat) (cands : List Nat) (largest : Bool) : Option Nat :=
  cands.foldl (fun best k =>
    match best with
    | none => some k
    | some b =>
      let qk := (r.ph g).q.getD k 0
      let qb := (r.ph g).q.getD b 0
      let better := if largest then qb < qk else qk < qb
      if better || (qk = qb && r.slotOf g k < r.slotOf g b) then some k else some b) none

/-- The shed count has reached SHED_HOLD: a shed starts (R244). -/
def execShedStart (g : Grp) (s : State) : Result :=
  s.onLog fun _ r =>
    let x := r.ph g
    if r.shedHold g ≤ x.hold && 0 < x.hold && x.shed.isNone && x.adds = [] && x.rampOut.isNone then
      match r.pickPhase g ((List.range 8).filter fun k => bitOf x.en k) true with
      | some k => r.setPh g { x with shed := some (k, 65536), hold := 0 }
      | none => r
    else r

/-- The enabled set of a group written by the library into its output-window area (R170: EN is halfword 17's low byte). -/
def Pavilion.putEn (v : Pavilion) (g : Nat) : Pavilion :=
  { v with loc := { v.loc with outWin := v.loc.outWin.wrN (128 * g + 34) 1 (v.rep.ph g).en } }

/-- SHED_RAMP frame periods of a ramp-out are done: EN = 0 for all phases (R247). -/
def execRouteRampOutEnd (g : Grp) (s : State) : Result :=
  s.run fun t => t.onStep fun v =>
    let x := v.rep.ph g
    match x.rampOut with
    | some (k, _) =>
      if v.rep.shedRamp g ≤ k then
        ({ v with rep := v.rep.setPh g { x with en := 0, shed := none, adds := [] } } : Pavilion).putEn g
      else v
    | none => v

/-- The ROUTE byte that names an outlet: its bus in the group's entry (R285), 0 for none. -/
def Replica.routeByte (r : Replica) (g o : Nat) : Nat := match r.busTo g o with | some b => 2 ^ b | none => 0
/-- ZC_CYC zero-current periods with EN = 0 have passed: the new ROUTE is sent (R179, R247). -/
def Replica.routeReady (r : Replica) (g : Nat) : Option Nat :=
  match (r.ph g).rampOut with
  | some (_, o) => if r.rd .STG_ZC_ZC_CYC ≤ (r.link g).zcRun && (r.ph g).en = 0 then some o else none
  | none => none
/-- The library writes the ROUTE byte into the output window, and CTL sends it. -/
def Pavilion.routeChange (v : Pavilion) (g : Nat) : Pavilion :=
  let r := v.rep
  match r.routeReady g with
  | none => v
  | some o =>
    let route := r.routeByte g o
    let r := r.ofsFall (r.rd .CTL_GFEED_OUTLET g)
    let r := r.setLink g { r.link g with routeSent := route, routeHeld := false, zcRun := 0 }
    let r := (r.wr .CTL_GFEED_OUTLET (if route = 0 then 31 else o) g).setPh g { r.ph g with rampOut := none, target := none, joining := route ≠ 0 }
    { loc := { v.loc with outWin := v.loc.outWin.wrN (128 * g + 35) 1 route }, rep := r }
def execRouteChangeSend (g : Grp) (s : State) : Result := s.run fun t => t.onStep fun v => v.routeChange g

/-- The Parterre taken up names an outlet for a group (R247, R248): a change starts the ramp-out; naming the routed outlet again
before step 3 reverses it. A group with no route goes straight to the zero-current wait. -/
def Replica.nameOutlet (r : Replica) (g o : Nat) : Replica :=
  let x := r.ph g
  let cur := r.rd .CTL_GFEED_OUTLET g
  if o = cur then (if x.rampOut.isSome then r.setPh g { x with rampOut := none, target := none } else r)
  else match x.rampOut with
    | some (k, _) => r.setPh g { x with rampOut := some (k, o), target := some o }
    | none => r.setPh g { x with rampOut := some (if cur = 31 then r.shedRamp g else 0, o), target := some o, shed := none, adds := [], hold := 0 }

/-- Enabling phases brings a group back after EN = 0: r_g advances at a re-enable (R234, R236). -/
def Phases.reEnable (x : Phases) : Phases := if 2 ≤ x.enZero then x.rotate else x

/-- MIN_PH usable phases, by smallest charge count (R235, R242). -/
def Replica.minSet (r : Replica) (g : Nat) : Nat :=
  (List.range (r.minPh g)).foldl (fun m _ =>
    match r.pickPhase g ((List.range 8).filter fun k => bitOf (r.usable g) k && !bitOf m k) false with
    | some k => m ||| 2 ^ k
    | none => m) 0

/-- The enabled set a group's MODE calls for (R242, R247 step 5). -/
def Replica.modeSet (r : Replica) (g mode : Nat) : Replica :=
  let x := r.ph g
  let want :=
    if mode = modeCableCheck || mode = modePrecharge then (if popcount8 x.en = r.minPh g then x.en else r.minSet g)
    else if mode = modeCharging then (if x.en = 0 then r.minSet g else x.en)
    else if mode = modeCommission then r.usable g
    else if mode = modeStopping then x.en else 0
  if want = x.en then r
  else
    let y := if x.en = 0 then x.reEnable else x
    let new := (List.range 8).filter fun k => bitOf want k && !bitOf x.en k
    let r := r.setPh g { y with en := want, shed := none, joining := false, adds := if mode = modeCharging then new.map fun k => (k, 0) else [] }
    r.ofsFall (r.rd .CTL_GFEED_OUTLET g)

/-- The add condition (R243): the group's current against ADD_TH, or every enabled phase at 98 % of I_lim. -/
def Replica.addCond (r : Replica) (g vOut : Nat) : Bool :=
  let x := r.ph g
  let on := (List.range 8).filter fun k => bitOf x.en k
  let lim : Int := r.iLim g vOut
  let ig := on.foldl (fun a k => a + (r.grp g).iph.getD k 0) (0 : Int)
  decide (r.addTh g * on.length * lim ≤ ig * 100) || on.all fun k => decide (lim * 98 ≤ (r.grp g).iph.getD k 0 * 100)

/-- The shed condition (R244). -/
def Replica.shedCond (r : Replica) (g vOut : Nat) : Bool :=
  let x := r.ph g
  let on := (List.range 8).filter fun k => bitOf x.en k
  let lim : Int := r.iLim g vOut
  let ig := on.foldl (fun a k => a + (r.grp g).iph.getD k 0) (0 : Int)
  decide (ig * 100 ≤ r.shedTh g * ((on.length : Int) - 1) * lim) && r.minPh g < on.length && x.shed.isNone && x.adds = [] && x.rampOut.isNone

/-- One phase is added: EN in this frame period's frame, w from 1 / ADD_RAMP (R243). -/
def Replica.addPhase (r : Replica) (g : Nat) : Replica :=
  let x := r.ph g
  match r.pickPhase g ((List.range 8).filter fun k => bitOf (r.usable g) k && !bitOf x.en k) false with
  | some k => (r.setPh g { x with en := x.en ||| 2 ^ k, adds := x.adds ++ [(k, 1)], addsN := (x.addsN + 1) % 2 ^ 32 }).ofsFall (r.rd .CTL_GFEED_OUTLET g)
  | none => r

/-- A shed in progress: reversed by the add condition in the same frame period, otherwise w falls by 1 / SHED_RAMP, and at 0 the
phase's EN bit goes (R243, R244). -/
def Replica.shedStep (r : Replica) (g : Nat) (add : Bool) : Replica :=
  let x := r.ph g
  match x.shed with
  | none => if add then r.addPhase g else r
  | some (k, w) =>
    if add then r.setPh g { x with shed := none, reversals := (x.reversals + 1) % 2 ^ 32 }
    else
      let w := w - 65536 / max 1 (r.shedRamp g)
      if w < 65536 / max 1 (r.shedRamp g) then
        (r.setPh g { x with shed := none, en := putBit x.en k false, sheds := (x.sheds + 1) % 2 ^ 32 }).ofsFall (r.rd .CTL_GFEED_OUTLET g)
      else r.setPh g { x with shed := some (k, w) }

/-- A routed group's frame period in the library (R233 to R248): charge counts, ramps, adds and sheds. -/
def Replica.phaseStep (r : Replica) (g : Nat) : Replica :=
  let o := r.rd .CTL_GFEED_OUTLET g
  let x := r.ph g
  let x := { x with adds := (x.adds.map fun a => (a.1, a.2 + 1)).filter fun a => a.2 < r.addRamp g,
                    q := if r.rd .CTL_GFEED_FRESH g = 1 then (List.range 8).map fun k => (x.q.getD k 0 + ((r.grp g).iph.getD k 0).natAbs) % 2 ^ 64 else x.q,
                    rampOut := x.rampOut.map fun p => (p.1 + 1, p.2) }
  let r := r.setPh g x
  if r.lstate g ≠ lsActive || 24 ≤ o || x.rampOut.isSome || !r.closedTo g o then r
  else
    let r := r.modeSet g (r.mode o)
    if r.mode o ≠ modeCharging then r
    else
      let vOut := r.rd .CTL_OVOUT_VOUT o
      let add := r.addCond g vOut
      let lim : Int := r.iLim g vOut
      let all := (r.ph g).en ≠ 0 && (List.range 8).all fun k => !bitOf (r.ph g).en k || decide (lim * 98 ≤ (r.grp g).iph.getD k 0 * 100)
      let r := r.setPh g { r.ph g with allAtLimit := all, atLimit := if all then ((r.ph g).atLimit + 1) % 2 ^ 32 else (r.ph g).atLimit }
      let r := r.shedStep g add
      let y := r.ph g
      r.setPh g { y with hold := if r.shedCond g vOut then y.hold + 1 else 0 }

/-- CONFIGs with new ADAPTIVE offsets are sent as links are free; after one that was refused or failed, from the next tick on (R239). -/
def Replica.sendOfs (r : Replica) (v : Env) (g : Nat) : Replica :=
  let x := r.ph g
  if x.ofsDue && !x.configOut && !x.ofsWait && r.lstate g = lsActive && r.rd .STG_LMSG_BUSY g = 0 then
    let r := r.setPh g { x with ofs := r.newOfs v g, ofsDue := false, configOut := true }
    (r.sendConfig v g).setLink g { (r.sendConfig v g).link g with awaited := 0 }
  else r

/-- The status-area record of Table CTL-13 (R250). -/
def Replica.statusRecord (r : Replica) (g : Nat) : List Byte :=
  let x := r.ph g
  let sh := match x.shed with | some p => p | none => (0xFF, 0)
  let ad := match x.adds.reverse with | p :: _ => p.1 | [] => 0xFF
  let flags := x.shed.isSome.toNat + 2 * (x.adds ≠ [] : Bool).toNat + 4 * x.rampOut.isSome.toNat + 8 * x.joining.toNat +
    16 * x.allAtLimit.toNat + 32 * x.configOut.toNat
  leBytes 1 x.en ++ leBytes 1 (r.usable g) ++ leBytes 1 sh.1 ++ leBytes 1 ad ++ leBytes 2 (min 65535 sh.2) ++ leBytes 1 x.rot ++
    leBytes 1 flags ++ leBytes 4 x.sheds ++ leBytes 4 x.addsN ++ leBytes 4 x.reversals ++ leBytes 4 x.rotations ++ leBytes 4 x.hold ++
    leBytes 4 x.atLimit ++ (x.q.map (leBytes 8)).flatten

/-- One entry of a history ring (R251), and the ring as CTL shows it. -/
def histEntry (sample cmd : List Byte) (status : Nat) : List Byte := padTo 96 (sample.take (sample.length - 4)) ++ leBytes 4 status ++ padTo 60 cmd
def Replica.pushHist (r : Replica) (g : Nat) (e : List Byte) : Replica :=
  if (vget r.frozen g none).isSome then r
  else { r with hist := vput r.hist g ((vget r.hist g [] ++ [e]).drop ((vget r.hist g []).length + 1 - 12)) }

/-- The last-fault record of a group (R253). -/
def Pavilion.faultRecord (v : Pavilion) (p : Pav) (redundant : Bool) (g : Nat) (z : Frozen) (count : Nat) : List Byte :=
  let h := vget v.rep.hist g []
  let b := leBytes 2 0x0702 ++ leBytes 2 2048 ++ leBytes 1 g ++ leBytes 1 z.cause ++ leBytes 1 z.outlet ++ leBytes 1 z.link ++ leBytes 8 z.time ++
    leBytes 4 z.seq ++ leBytes 8 v.loc.nextSeq ++ leBytes 4 count ++ leBytes 2 z.lost ++ leBytes 1 h.length ++
    leBytes 1 ((if p = .A then 1 else 2) + (if redundant then 4 else 0)) ++ leBytes 1 z.en ++ leBytes 1 z.shedPh ++ leBytes 2 z.fault ++
    leBytes 4 (v.loc.jNext - 1) ++ leBytes 20 0 ++ padTo 1920 h.flatten ++ leBytes 60 0
  b ++ leBytes 4 (crc32c b).toNat

/-- The Lodge copies the frozen rings into the last-fault records and releases them by writing 1 (R252, R253). -/
def Pavilion.releaseRing (v : Pavilion) (p : Pav) (redundant : Bool) (g : Nat) : Pavilion :=
  match vget v.rep.frozen g none with
  | none => v
  | some z =>
    let a := 0x21C00000 + 2048 * g
    let rec' := v.faultRecord p redundant g z (v.loc.mram.rdN (a + 28) 4 + 1)
    { loc := { v.loc with mram := v.loc.mram.wrBytes a rec' }
      rep := { v.rep.wr .CTL_HFRZ_FRZ (putBit (v.rep.rd .CTL_HFRZ_FRZ) g false) with frozen := vput v.rep.frozen g none } }

def Pavilion.releaseRings (v : Pavilion) (p : Pav) (redundant : Bool) (mask : Nat) : Pavilion :=
  (List.range 32).foldl (fun v g => if bitOf mask g then v.releaseRing p redundant g else v) v
def execCtlHfrzRelease (mask : Word) (s : State) : Result :=
  s.run fun t =>
    let go (t : Site) (p : Pav) : Site := t.modPav p fun v => if v.inStep then v.releaseRings p t.redundant mask.toNat else v
    go (go t .A) .B

end Sys2Proof.Machine
end

