-- ==== Sys2Proof/Machine/Alloc.lean ====
section
/-! DEFINITION. Site power sharing and cable thermal headroom (R257 to R285). -/
namespace Sys2Proof.Machine

def Replica.withAlloc (r : Replica) (f : Allocation → Allocation) : Replica := { r with alloc := f r.alloc }
def Replica.entry (r : Replica) (o : Nat) : OutletEntry := vget r.alloc.part.outlets o {}

/-- A bank's outlet and group entries (R259, R260). -/
def entryOf (b : List Byte) (o : Nat) : OutletEntry :=
  let a := 32 + 32 * o
  { pMax := fieldAt b a 4, pExp := fieldAt b (a + 4) 4, poolMax := fieldAt b (a + 8) 4, iMax := fieldAt b (a + 12) 2, iExp := fieldAt b (a + 14) 2,
    vMax := fieldAt b (a + 16) 2, rampUp := fieldAt b (a + 18) 2, prio := byteAt b (a + 20), pool := byteAt b (a + 21) % 2 = 1,
    holdStart := byteAt b (a + 21) / 2 % 2 = 1 }
def parterreOf (b : List Byte) : Parterre :=
  { serial := fieldAt b 4 4, target := fieldAt b 8 8, pImport := fieldAt b 16 4, pDc := fieldAt b 20 4, pPool := fieldAt b 24 4,
    outlets := Vector.ofFn fun o => entryOf b o.val, groups := Vector.ofFn fun g => byteAt b (800 + 4 * g.val) }

/-- Ranges of R259 and R260. -/
def entryOk (pool : Nat) (b : List Byte) (o : Nat) : Bool :=
  let e := entryOf b o
  e.pMax ≤ 3750000 && e.pExp ≤ 3750000 && e.poolMax ≤ pool && e.iMax ≤ 30000 && e.iExp ≤ 30000 && e.vMax ≤ 50000 && e.prio ≤ 23 &&
    byteAt b (32 + 32 * o + 21) < 4
def bankReserved (b : List Byte) : Bool :=
  fieldAt b 28 4 = 0 && ((b.drop 928).take 28).all (· = 0) && (List.range 24).all fun o => ((b.drop (32 + 32 * o + 22)).take 10).all (· = 0)

/-- NO_GROUP: an outlet whose MODE is CABLE_CHECK to CHARGING has no group naming it. -/
def Replica.noGroup (r : Replica) (p : Parterre) : Bool :=
  (List.range 24).any fun o => 1 ≤ r.mode o && r.mode o ≤ 3 && !(p.groups.toList.contains o)

/-- The checks of R261 at the publication deadline, for the next tick's Sundial time. -/
def Replica.bankCheck (r : Replica) (b : List Byte) (publish nextTick : Nat) : Nat :=
  let p := parterreOf b
  let prios := p.outlets.toList.map (·.prio)
  if publish ≠ p.serial then 1
  else if !crcGood b then 2
  else if fieldAt b 0 2 ≠ 0x0801 || fieldAt b 2 2 ≠ 960 || !bankReserved b || p.serial ≠ (r.alloc.part.serial + 1) % 2 ^ 32 || p.target ≠ nextTick then 3
  else if !((List.range 24).all (entryOk p.pPool b)) || !(List.range 32).all (fun g => (byteAt b (800 + 4 * g) ≤ 23 || byteAt b (800 + 4 * g) = 31) &&
      ((b.drop (801 + 4 * g)).take 3).all (· = 0)) then 4
  else if p.pDc < (p.outlets.toList.map (·.pMax)).foldl (· + ·) 0 + p.pPool || p.pImport < p.pDc || r.rd .CTL_PSITE_LIMIT * 1000 < p.pImport then 5
  else if (List.range 32).any (fun g => byteAt b (800 + 4 * g) ≠ 31 && (r.busTo g (byteAt b (800 + 4 * g))).isNone) then 6
  else if !prios.Nodup then 7
  else if r.noGroup p then 8 else 0

/-- A Sundial time's half cycle: the last tick at or before it, and the next (R31). -/
def tickOf (now : Nat) : Nat := now / 2 ^ 31 * 2 ^ 31
def nextTickOf (now : Nat) : Nat := (now / 2 ^ 31 + 1) * 2 ^ 31 % 2 ^ 64

/-- The headroom table (R281): FORMAT, LENGTH, TICK and CHECK are those CTL requires (R282). -/
def headTable (b : List Byte) (tick : Nat) : Option (List (Nat × Int)) :=
  if crcGood b && fieldAt b 0 2 = 0x0803 && fieldAt b 2 2 = 116 && fieldAt b 8 8 = tick then
    some ((List.range 24).map fun o => (fieldAt b (16 + 4 * o) 2, signed 16 (fieldAt b (18 + 4 * o) 2)))
  else none

/-- At 162° and 342° CTL examines the bank not in force and reads the headroom table (R261, R282). -/
def Pavilion.deadline (v : Pavilion) (now : Nat) : Pavilion :=
  let r := v.rep
  let base := r.rd .CTL_PBASE_BASE + 1024 * (1 - r.alloc.bank)
  let b := v.loc.sram.rdBytes base 960
  let code := r.bankCheck b (v.loc.sram.rdN (base + 960) 4) (nextTickOf now)
  let h := headTable (v.loc.sram.rdBytes (r.rd .CTL_PBASE_BASE + 2048) 116) (tickOf now)
  let r := r.wr .CTL_PSTAT_RESULT code
  { v with rep := r.withAlloc fun a => { a with accepted := if code = 0 then some (parterreOf b) else none, headNext := h } }
def execPublicationDeadline (s : State) : Result := s.run fun t => t.onStep fun v => v.deadline t.now

/-! ### Caps, pool and import cut at a closure (R269 to R277) -/

/-- F_tot of R269 as a numerator over 65,536 × 100. -/
def Replica.fTot (r : Replica) : Nat := r.alloc.f * (if r.alloc.fallback then r.rd .CTL_ACTRL_FB_PCT else 100)
def Replica.scaleF (r : Replica) (p : Nat) : Nat := p * r.fTot / 6553600

/-- v = max(v_out, 50 V) in Q1.31. -/
def Replica.vCap50 (r : Replica) (o : Nat) : Nat := max (r.rd .CTL_OVOUT_VOUT o) 65536000
/-- A power in W over a voltage in Q1.31, as a current on the outlet scale, rounded down; `den` divides the power. -/
def overV (p v : Nat) (den : Nat := 1) : Nat := p * 1000 * 2 ^ 29 / (den * v)
/-- A power times F_tot over v, rounded down once (R269). -/
def Replica.overVF (r : Replica) (p v : Nat) : Nat := overV (p * r.fTot) v 6553600
/-- Sum over the routed groups of usable phases × I_lim, on the outlet scale. -/
def Replica.groupTerm (r : Replica) (o v : Nat) : Nat :=
  (r.groupsOf o).foldl (fun a g => a + popcount8 (r.usable g) * r.iLim g v * 8192) 0

/-- The terms of I_CAP other than P_cap / v (R269). -/
def Replica.iCapOther (r : Replica) (o : Nat) : Nat :=
  let v := r.vCap50 o
  let e := r.entry o
  [r.rd .CTL_OVEH_IMAX o * 40960, r.rd .CTL_OHEAD_HEAD o * 40960, 30000 * 40960, overV (r.rd .CTL_OVEH_PMAX o * 1000) v, r.groupTerm o v].foldl min
    (e.iMax * 40960)
/-- P_cap / v. -/
def Replica.pCapTerm (r : Replica) (o : Nat) : Nat := r.overVF ((r.entry o).pMax + vget r.alloc.grants o 0) (r.vCap50 o)
def Replica.iCapOf (r : Replica) (o : Nat) : Nat := min (r.iCapOther o) (r.pCapTerm o)
def Replica.iEcapOf (r : Replica) (o : Nat) : Nat :=
  let e := r.entry o
  [r.rd .CTL_OVEHV_IEXP o * 40960, r.rd .CTL_OHEAD_HEAD o * 40960, 30000 * 40960, r.overVF e.pExp (r.vCap50 o)].foldl min (e.iExp * 40960)
def Replica.vCapOf (r : Replica) (o : Nat) : Nat := (min (r.entry o).vMax (min (r.rd .CTL_OVEHV_VMAX o) 50000)) * 32768

/-- STEP of R272 in W per frame period at the nominal frequency. -/
def Replica.poolStep (r : Replica) (v : Env) : Nat := r.rd .CTL_POOLRATE_RATE * 1000000 / max 1 (v.mult * v.nominal)

def sumGrants (a : Allocation) : Nat := a.grants.toList.foldl (· + ·) 0
/-- The outlets in ascending PRIO. -/
def Parterre.order (p : Parterre) : List Nat := (List.range 24).flatMap fun k => (List.range 24).filter fun o => (vget p.outlets o {}).prio = k

/-- Grants of one outlet (R272). -/
def Replica.grantStep (r : Replica) (v : Env) (o : Nat) : Replica :=
  let a := r.alloc
  let e := r.entry o
  let g := vget a.grants o 0
  let left : Int := (r.scaleF a.part.pPool : Int) - sumGrants a
  let step := r.poolStep v
  let iout : Int := signed 32 (r.rd .CTL_OIOUT_IOUT o)
  let ask := (r.out o).freshNow && decide ((r.iCapOf o : Int) * 97 ≤ iout * 100) && r.pCapTerm o ≤ r.iCapOther o
  let g' : Nat :=
    if r.mode o ≠ modeCharging then 0
    else if !e.pool then g
    else if a.cut || a.fallback then 0
    else if ask then min (min (g + step) e.poolMax) (g + left.toNat)
    else g - step
  r.withAlloc fun a => { a with grants := vput a.grants o g' }
def Replica.poolUpdate (r : Replica) (v : Env) : Replica :=
  let r := r.alloc.part.order.foldl (fun r o => r.grantStep v o) r
  r.withAlloc fun a => { a with poolLeft := (((r.scaleF a.part.pPool : Int) - sumGrants a) % 2 ^ 32).toNat }

/-- The import cut (R275) and blindness (R277) at a closure. `plaus` is PLAUS of the grid sense port, `pImp` the import of R274. -/
def Replica.importCut (r : Replica) (v : Env) (plaus : Bool) (pImp : Int) : Replica :=
  let a := { r.alloc with pImp := pImp, blind := !plaus, tickClean := r.alloc.tickClean && decide (pImp ≤ r.alloc.part.pImport) }
  if !plaus then
    let f := (100 - r.rd .CTL_ACTRL_BLIND_PCT) * 0x10000 / 100
    { r with alloc := { a with f := min a.f f } }
  else
    let due := match a.lastCut with | none => true | some z => decide (2 ^ 32 / 12 ≤ (v.now + 2 ^ 64 - z) % 2 ^ 64)
    if a.taken && decide ((a.part.pImport : Int) * (100 + r.rd .CTL_ACTRL_CUT_PCT) < pImp * 100) && due then
      let f := a.f * a.part.pImport * 98 / (100 * pImp.toNat)
      { (r.raise .CTL_AEVENT_IMPORT_CUT) with
          alloc := { a with f := f, cut := true, lastCut := some v.now, grants := Vector.replicate 24 0 } }
    else { r with alloc := a }

/-- The caps of a closure (R269) and the watch over them: 64 frame periods are 128 closures where every routed group runs at N/2 (R188, R271). -/
def Replica.capStep (r : Replica) (v : Env) (o : Nat) : Replica :=
  let i := r.iCapOf o
  let h := (i :: vget r.alloc.iCapHist o []).take 128
  let slow := r.groupsOf o ≠ [] && (r.groupsOf o).all v.half
  let worst := (h.take (if slow then 128 else 64)).foldl max 0
  let iout := signed 32 (r.rd .CTL_OIOUT_IOUT o)
  let run := vget r.alloc.breachRun o 0
  let run := if !(r.out o).freshNow then run
    else if decide ((worst : Int) * (100 + r.rd .CTL_INVTOL_TOL) < iout * 100) then run + 1 else 0
  r.withAlloc fun a => { a with iCap := vput a.iCap o i, iEcap := vput a.iEcap o (r.iEcapOf o), vCap := vput a.vCap o (r.vCapOf o),
                                iCapHist := vput a.iCapHist o h,
                                iCapMax := vput a.iCapMax o (max i (vget a.iCapMax o 0)), breachRun := vput a.breachRun o run }

def Replica.allocClosure (r : Replica) (v : Env) (plaus : Bool) (pImp : Int) : Replica :=
  ((r.importCut v plaus pImp).poolUpdate v).eachOut fun o r => r.capStep v o

/-- INV_BREACH: CYC fresh frame periods above the cap (R271); the runtime moves the outlet to STOPPING (R303). -/
def execInvBreach (o : Outlet) (s : State) : Result :=
  s.onLog fun t r =>
    if r.rd .CTL_INVTOL_CYC ≤ vget r.alloc.breachRun o.val 0 && 0 < vget r.alloc.breachRun o.val 0 then
      let r := (r.raise .CTL_AEVENT_INV_BREACH).journal t.now locOutletGuard o.val detected reLoopOpened 0x26
      let r := r.withAlloc fun a => { a with breachRun := vput a.breachRun o.val 0 }
      r.stopOutlet t.env o.val ocInvBreach
    else r

/-- LATE_RUN has reached LATE_FB: fallback (R263). -/
def execParterreFallback (s : State) : Result :=
  s.onLog fun _ r =>
    if r.rd .CTL_ACTRL_LATE_FB ≤ r.alloc.lateRun && !r.alloc.fallback then
      (r.raise .CTL_AEVENT_PARTERRE_FALLBACK).withAlloc fun a => { a with fallback := true, grants := Vector.replicate 24 0 }
    else r

/-! ### Cable thermal model (R278 to R282) -/

def Replica.cab (r : Replica) (o off n : Nat) : Nat := r.prm recCable o off n
/-- R(T) in 10^-9 Ω for a temperature in 0.001 °C (R279). -/
def Replica.rAt (r : Replica) (o : Nat) (t : Int) : Nat :=
  ((r.cab o 4 4 : Int) * 1000 + (r.cab o 4 4 : Int) * (r.cab o 8 2) * (t - 20000) / 1000000).toNat
/-- T_cool in 0.001 °C and whether flow counts (R279, R280). -/
def Replica.coolNow (r : Replica) (o : Nat) : Int × Bool :=
  let c := vget r.alloc.coolant o {}
  if !c.valid || c.stale then (signed 16 (r.cab o 28 2) * 100, false)
  else (max c.supply c.ret * 100, !c.pumpFault && r.cab o 24 2 ≤ c.flow)
/-- Rth in µK/W (R279). -/
def Replica.rth (r : Replica) (o : Nat) (flow : Bool) : Nat := if flow then r.cab o 12 4 else r.cab o 16 4
/-- exp(-k Δt / tau) for the nominal tick Δt, half a nominal mains cycle, and tau in µs (R279, R281). -/
def tickExp (nominal k tau : Nat) : Int := Config.expNeg (k * 1000000) (2 * nominal * tau)

/-- One tick of the conductor temperature (R279); `i2` is the mean square current in A², as a quotient. -/
def Replica.cableStep (r : Replica) (v : Env) (o : Nat) (i2 : Nat × Nat) : Replica :=
  let (tCool, flow) := r.coolNow o
  let rth := r.rth o flow
  let tc := (vget r.alloc.tc o none).getD tCool
  -- i2 × R(10^-9 Ω) × Rth(10^-6 K/W) in 0.001 K
  let tss : Int := tCool + (i2.1 * r.rAt o tc * rth / (10 ^ 12 * i2.2) : Nat)
  let e := tickExp v.nominal 1 (rth * r.cab o 20 4)
  let t := tss + (tc - tss) * e / 2 ^ 32
  let c := vget r.alloc.coolant o {}
  let t := match c.tMeas with | some m => if c.stale then t else max t (m * 100) | none => t
  r.withAlloc fun a => { a with tc := vput a.tc o (some t) }

/-- Integer square root, rounded down, by bisection over 32 bits. -/
def isqrt (n : Nat) : Nat := (List.range 32).foldl (fun a k => let b := a + 2 ^ (31 - k); if b * b ≤ n then b else a) 0

/-- I_head of R281 in 0.1 A. -/
def Replica.headroom (r : Replica) (v : Env) (o : Nat) : Nat :=
  let (tCool, flow) := r.coolNow o
  let rth := r.rth o flow
  let tl : Int := signed 16 (r.cab o 10 2) * 100
  let tc := (vget r.alloc.tc o none).getD tCool
  let e := tickExp v.nominal (r.cab o 26 2) (rth * r.cab o 20 4)
  let dT : Int := if e < 2 ^ 32 then (tl - tCool - (tc - tCool) * e / 2 ^ 32) * 2 ^ 32 / (2 ^ 32 - e) else 0
  -- dT in 0.001 K over Rth(10^-6 K/W) × R(10^-9 Ω), times 100 for 0.1 A
  min (r.cab o 30 2) (isqrt (dT.toNat * 10 ^ 14 / max 1 (rth * r.rAt o tl)))

/-- The headroom table as the framework writes it (R281). -/
def Replica.headBytes (r : Replica) (v : Env) (tick : Nat) : List Byte :=
  let b := leBytes 2 0x0803 ++ leBytes 2 116 ++ leBytes 4 0 ++ leBytes 8 tick ++
    ((List.range 24).map fun o => leBytes 2 (r.headroom v o) ++ leBytes 2 ((((vget r.alloc.tc o none).getD 0 / 100) % 65536).toNat)).flatten
  b ++ leBytes 4 (crc32c b).toNat

/-- The no-flow steady headroom of R282. -/
def Replica.staleHead (r : Replica) (o : Nat) : Nat :=
  let tl : Int := signed 16 (r.cab o 10 2) * 100
  let dT := (tl - signed 16 (r.cab o 28 2) * 100).toNat
  min (r.cab o 30 2) (isqrt (dT * 10 ^ 14 / max 1 (r.cab o 16 4 * r.rAt o tl)))

/-- 3 consecutive ticks without a table taken up (R282). -/
def execHeadStale (s : State) : Result :=
  s.onLog fun _ r =>
    if 3 ≤ r.alloc.headMiss then (r.raise .CTL_AEVENT_HEAD_STALE).eachOut fun o r => r.wr .CTL_OHEAD_HEAD (r.staleHead o) o
    else r

/-- The table read at the deadline is taken up at the tick (R282). -/
def Replica.takeHead (r : Replica) : Replica :=
  match r.alloc.headNext with
  | none => r.withAlloc fun a => { a with headMiss := a.headMiss + 1 }
  | some l =>
    let r := r.eachOut fun o r =>
      let e := l.getD o (0, 0)
      (r.wr .CTL_OHEAD_HEAD e.1 o).wr .CTL_OHEAD_TC ((e.2 % 65536).toNat) o
    r.withAlloc fun a => { a with headMiss := 0, headNext := none }

/-- Grants clipped at the take-up of a new Parterre (R273). -/
def Allocation.clipGrants (a : Allocation) : Allocation :=
  let (gs, _) := a.part.order.foldl (fun (x : Vector Nat 24 × Nat) o =>
    let g := min (min (vget a.grants o 0) (vget a.part.outlets o {}).poolMax) (a.part.pPool - x.2)
    (vput x.1 o g, x.2 + g)) (a.grants, 0)
  { a with grants := gs }

/-- A group with a new endpoint is named for no outlet until its link has been ACTIVE for one full tick (R267). -/
def Replica.watchEndpoints (r : Replica) : Replica :=
  r.withAlloc fun a => { a with newEndpoint := a.newEndpoint.mapFinIdx fun g x _ =>
    if x = 0 then 0 else if r.lstate g ≠ lsActive then 1 else if x = 1 then 2 else 0 }

/-- At the tick the accepted bank becomes the Parterre in force, or the tick counts as late (R262, R263, R273). -/
def Replica.takeUp (r : Replica) : Replica :=
  match r.alloc.accepted with
  | some p =>
    if r.noGroup p then
      ((r.wr .CTL_PSTAT_RESULT 8).raise .CTL_AEVENT_PARTERRE_REFUSED).withAlloc fun a => { a with accepted := none, lateRun := min 15 (a.lateRun + 1) }
    else
      let r := r.withAlloc fun a => ({ a with part := p, taken := true, accepted := none, bank := 1 - a.bank, lateRun := 0, fallback := false } : Allocation).clipGrants
      let r := r.wr .CTL_PSTAT_INFORCE r.alloc.bank
      (List.range 32).foldl (fun r g => r.nameOutlet g (if vget r.alloc.newEndpoint g 0 = 0 then vget p.groups g 31 else 31)) r
  | none =>
    let r := r.raise (if 2 ≤ r.rd .CTL_PSTAT_RESULT then .CTL_AEVENT_PARTERRE_REFUSED else .CTL_AEVENT_PARTERRE_LATE)
    r.withAlloc fun a => { a with lateRun := min 15 (a.lateRun + 1) }

/-- CUT_RELEASED and the rise of F at a tick (R276, R277). -/
def Replica.cutTick (r : Replica) : Replica :=
  let a := r.alloc
  let rel := a.cut && a.tickClean
  let r := if rel then r.raise .CTL_AEVENT_CUT_RELEASED else r
  let cut := a.cut && !rel
  r.withAlloc fun a => { a with cut := cut, tickClean := true, f := if cut || a.blind then a.f else min 0x10000 (a.f + 0x400) }

/-- The site limit in force in kW: the smallest of CTL_PCONN and every host site limit (R265). -/
def Replica.siteLimit (r : Replica) : Nat :=
  r.alloc.limits.foldl (fun m l => if l.outlet.isNone then min m (l.value / 1000) else m) (r.rd .CTL_PCONN_PCONN)

/-- The ASTAT word of Table CTL-16. -/
def Replica.astat (r : Replica) : Nat :=
  let a := r.alloc
  a.f + a.cut.toNat * 2 ^ 20 + a.blind.toNat * 2 ^ 21 + a.fallback.toNat * 2 ^ 22 + a.bank * 2 ^ 23 + a.lateRun * 2 ^ 24

/-- Ages of the allocation inputs advance at a tick (R264). -/
def Allocation.ageStep (a : Allocation) : Allocation :=
  { a with coolant := a.coolant.map fun c => { c with age := c.age + 1 }, cabinets := a.cabinets.map fun c => { c with age := c.age + 1 } }

/-- The front-end limit of a cabinet that stands for the allocation program (R264), in its own unit. -/
def Replica.cabLimit (r : Replica) (c : Cabinet) : Nat :=
  if !c.valid then 0 else if c.stale then c.limit * r.rd .CTL_FRESH_STALE_PCT / 100 else c.limit

/-- Age beyond CTL_FRESH.FE: the front-end limit is stale (R264). -/
def execFrontEndDataStale (cab : Fin 15) (s : State) : Result :=
  s.onLog fun _ r => r.withAlloc fun a =>
    let c := vget a.cabinets cab.val {}
    if r.rd .CTL_FRESH_FE < c.age then { a with cabinets := vput a.cabinets cab.val { c with stale := true } } else a
/-- Age beyond CTL_FRESH.COOL: T_cool = T_COOL_MAX with no flow (R280). -/
def execCoolantDataStale (o : Outlet) (s : State) : Result :=
  s.onLog fun _ r => r.withAlloc fun a =>
    let c := vget a.coolant o.val {}
    if r.rd .CTL_FRESH_COOL < c.age then { a with coolant := vput a.coolant o.val { c with stale := true } } else a

/-- A host limit's time to live runs out (R265): it drops out, and LIMIT_EXPIRED is sent (R440, R444). -/
def execHostLimitExpiry (limit : Nat) (s : State) : Result :=
  s.onLog fun _ r =>
    match r.alloc.limits[limit]? with
    | none => r
    | some l =>
      let r := r.withAlloc fun a => { a with limits := a.limits.eraseIdx limit }
      r.eventClass 6 evLimitExpired (match l.outlet with | some o => [1, o.val] | none => [0, 0xFF])

end Sys2Proof.Machine
end

