-- ==== Sys2Proof/Machine/Alu.lean ====
section
/-! DEFINITION. Ziljan classes 0x0 and 0x1: register and immediate ALU (R120 to R122). -/
namespace Sys2Proof.Machine

/-- A three-register operation without flags: D := f(S1, S2), then the next instruction. -/
def Engine.alu (en : Engine) (d s1 s2 : Gpr) (f : Word → Word → Word) : Engine := (en.setG d (f (en.g s1) (en.g s2))).next

/-- A saturating operation: D := sat32 of the exact value, Q set on saturation (R118). -/
def Engine.aluSat (en : Engine) (d : Gpr) (x : Int) : Engine := ((en.setG d (sat32 x)).stick flagQ (sat32Hit x)).next

/-- addc and subc: {C, D} := S1 + y + C. -/
def Engine.aluCarry (en : Engine) (d : Gpr) (x y : Word) : Engine :=
  ((en.setG d (x + y + BitVec.ofNat 32 (en.flag flagC).toNat)).setFlag flagC (carryOut x y (en.flag flagC))).next

/-- A division form: DZ set when the divisor is zero (R121). -/
def Engine.aluDiv (en : Engine) (d s1 s2 : Gpr) (f : Word → Word → Word) (q : Word → Word → Bool) : Engine :=
  ((en.alu d s1 s2 f).stick flagDZ (en.g s2 = 0)).stick flagQ (q (en.g s1) (en.g s2))

def boolWord (b : Bool) : Word := if b then 1 else 0

/-- Count of leading zeros of the low `n` bits. -/
def clzFrom (w : Word) : Nat → Nat
  | 0 => 0
  | n + 1 => if w.getLsbD n then 0 else clzFrom w n + 1
def clz32 (w : Word) : Word := BitVec.ofNat 32 (clzFrom w 32)

/-- div of R120 and R121. -/
def divS (x y : Word) : Word :=
  if y = 0 then (if 0 ≤ x.toInt then 0x7FFFFFFF else 0x80000000) else sat32 (Int.tdiv x.toInt y.toInt)
def divSatS (x y : Word) : Bool := y ≠ 0 && sat32Hit (Int.tdiv x.toInt y.toInt)
def divU (x y : Word) : Word := if y = 0 then 0xFFFFFFFF else BitVec.ofNat 32 (x.toNat / y.toNat)
/-- rem, with the sign of S1 (R120, R121). -/
def remS (x y : Word) : Word := if y = 0 then x else BitVec.ofInt 32 (Int.tmod x.toInt y.toInt)
def remU (x y : Word) : Word := if y = 0 then x else BitVec.ofNat 32 (x.toNat % y.toNat)

def noQ (_ _ : Word) : Bool := false

def execAdd (p : Pav) (e : Eng) (d s1 s2 : Gpr) (s : State) : Result :=
  s.engine p e fun en => en.alu d s1 s2 (· + ·)
def execSub (p : Pav) (e : Eng) (d s1 s2 : Gpr) (s : State) : Result :=
  s.engine p e fun en => en.alu d s1 s2 (· - ·)
def execAnd (p : Pav) (e : Eng) (d s1 s2 : Gpr) (s : State) : Result :=
  s.engine p e fun en => en.alu d s1 s2 (· &&& ·)
def execOr (p : Pav) (e : Eng) (d s1 s2 : Gpr) (s : State) : Result :=
  s.engine p e fun en => en.alu d s1 s2 (· ||| ·)
def execXor (p : Pav) (e : Eng) (d s1 s2 : Gpr) (s : State) : Result :=
  s.engine p e fun en => en.alu d s1 s2 (· ^^^ ·)
def execSll (p : Pav) (e : Eng) (d s1 s2 : Gpr) (s : State) : Result :=
  s.engine p e fun en => en.alu d s1 s2 fun x y => x <<< (y.toNat % 32)
def execSrl (p : Pav) (e : Eng) (d s1 s2 : Gpr) (s : State) : Result :=
  s.engine p e fun en => en.alu d s1 s2 fun x y => x >>> (y.toNat % 32)
def execSra (p : Pav) (e : Eng) (d s1 s2 : Gpr) (s : State) : Result :=
  s.engine p e fun en => en.alu d s1 s2 fun x y => x.sshiftRight (y.toNat % 32)
def execSlt (p : Pav) (e : Eng) (d s1 s2 : Gpr) (s : State) : Result :=
  s.engine p e fun en => en.alu d s1 s2 fun x y => boolWord (x.slt y)
def execSltu (p : Pav) (e : Eng) (d s1 s2 : Gpr) (s : State) : Result :=
  s.engine p e fun en => en.alu d s1 s2 fun x y => boolWord (x.ult y)
def execAddc (p : Pav) (e : Eng) (d s1 s2 : Gpr) (s : State) : Result :=
  s.engine p e fun en => en.aluCarry d (en.g s1) (en.g s2)
/-- {C, D} := S1 + (not S2) + C. -/
def execSubc (p : Pav) (e : Eng) (d s1 s2 : Gpr) (s : State) : Result :=
  s.engine p e fun en => en.aluCarry d (en.g s1) (~~~(en.g s2))
def execAdds (p : Pav) (e : Eng) (d s1 s2 : Gpr) (s : State) : Result :=
  s.engine p e fun en => en.aluSat d ((en.g s1).toInt + (en.g s2).toInt)
def execSubs (p : Pav) (e : Eng) (d s1 s2 : Gpr) (s : State) : Result :=
  s.engine p e fun en => en.aluSat d ((en.g s1).toInt - (en.g s2).toInt)
def execMin (p : Pav) (e : Eng) (d s1 s2 : Gpr) (s : State) : Result :=
  s.engine p e fun en => en.alu d s1 s2 fun x y => if x.slt y then x else y
def execMax (p : Pav) (e : Eng) (d s1 s2 : Gpr) (s : State) : Result :=
  s.engine p e fun en => en.alu d s1 s2 fun x y => if x.slt y then y else x
def execMinu (p : Pav) (e : Eng) (d s1 s2 : Gpr) (s : State) : Result :=
  s.engine p e fun en => en.alu d s1 s2 fun x y => if x.ult y then x else y
def execMaxu (p : Pav) (e : Eng) (d s1 s2 : Gpr) (s : State) : Result :=
  s.engine p e fun en => en.alu d s1 s2 fun x y => if x.ult y then y else x
/-- D := sat32(abs S1). -/
def execAbss (p : Pav) (e : Eng) (d s1 : Gpr) (s : State) : Result :=
  s.engine p e fun en => en.aluSat d ((en.g s1).toInt.natAbs : Int)
def execClz (p : Pav) (e : Eng) (d s1 : Gpr) (s : State) : Result :=
  s.engine p e fun en => en.alu d s1 s1 fun x _ => clz32 x
def execMul (p : Pav) (e : Eng) (d s1 s2 : Gpr) (s : State) : Result :=
  s.engine p e fun en => en.alu d s1 s2 (· * ·)
def execMulh (p : Pav) (e : Eng) (d s1 s2 : Gpr) (s : State) : Result :=
  s.engine p e fun en => en.alu d s1 s2 fun x y => BitVec.ofInt 32 (x.toInt * y.toInt / 2 ^ 32)
def execMulhu (p : Pav) (e : Eng) (d s1 s2 : Gpr) (s : State) : Result :=
  s.engine p e fun en => en.alu d s1 s2 fun x y => BitVec.ofNat 32 (x.toNat * y.toNat / 2 ^ 32)
/-- D := sat32((S1 × S2 + 2^30) >>s 31). -/
def execMulq (p : Pav) (e : Eng) (d s1 s2 : Gpr) (s : State) : Result :=
  s.engine p e fun en => en.aluSat d (mulqExact (en.g s1) (en.g s2))
def execDiv (p : Pav) (e : Eng) (d s1 s2 : Gpr) (s : State) : Result :=
  s.engine p e fun en => en.aluDiv d s1 s2 divS divSatS
def execDivu (p : Pav) (e : Eng) (d s1 s2 : Gpr) (s : State) : Result :=
  s.engine p e fun en => en.aluDiv d s1 s2 divU noQ
def execRem (p : Pav) (e : Eng) (d s1 s2 : Gpr) (s : State) : Result :=
  s.engine p e fun en => en.aluDiv d s1 s2 remS noQ
def execRemu (p : Pav) (e : Eng) (d s1 s2 : Gpr) (s : State) : Result :=
  s.engine p e fun en => en.aluDiv d s1 s2 remU noQ

/-- An immediate operation without flags: D := f(S1). -/
def Engine.aluImm (en : Engine) (d s1 : Gpr) (f : Word → Word) : Engine := (en.setG d (f (en.g s1))).next

def execAddi (p : Pav) (e : Eng) (d s1 : Gpr) (imm : BitVec 14) (s : State) : Result :=
  s.engine p e fun en => en.aluImm d s1 (· + sext14 imm)
def execAndi (p : Pav) (e : Eng) (d s1 : Gpr) (imm : BitVec 14) (s : State) : Result :=
  s.engine p e fun en => en.aluImm d s1 (· &&& zext14 imm)
def execOri (p : Pav) (e : Eng) (d s1 : Gpr) (imm : BitVec 14) (s : State) : Result :=
  s.engine p e fun en => en.aluImm d s1 (· ||| zext14 imm)
def execXori (p : Pav) (e : Eng) (d s1 : Gpr) (imm : BitVec 14) (s : State) : Result :=
  s.engine p e fun en => en.aluImm d s1 (· ^^^ zext14 imm)
def execSlti (p : Pav) (e : Eng) (d s1 : Gpr) (imm : BitVec 14) (s : State) : Result :=
  s.engine p e fun en => en.aluImm d s1 fun x => boolWord (x.slt (sext14 imm))
def execSltiu (p : Pav) (e : Eng) (d s1 : Gpr) (imm : BitVec 14) (s : State) : Result :=
  s.engine p e fun en => en.aluImm d s1 fun x => boolWord (x.ult (sext14 imm))
def execSlli (p : Pav) (e : Eng) (d s1 : Gpr) (sh : BitVec 5) (s : State) : Result :=
  s.engine p e fun en => en.aluImm d s1 (· <<< sh.toNat)
def execSrli (p : Pav) (e : Eng) (d s1 : Gpr) (sh : BitVec 5) (s : State) : Result :=
  s.engine p e fun en => en.aluImm d s1 (· >>> sh.toNat)
def execSrai (p : Pav) (e : Eng) (d s1 : Gpr) (sh : BitVec 5) (s : State) : Result :=
  s.engine p e fun en => en.aluImm d s1 fun x => x.sshiftRight sh.toNat
/-- D := (S1 << 14) or zext(IMM). -/
def execLhi (p : Pav) (e : Eng) (d s1 : Gpr) (imm : BitVec 14) (s : State) : Result :=
  s.engine p e fun en => en.aluImm d s1 fun x => (x <<< 14) ||| zext14 imm
def execAddsi (p : Pav) (e : Eng) (d s1 : Gpr) (imm : BitVec 14) (s : State) : Result :=
  s.engine p e fun en => en.aluSat d ((en.g s1).toInt + (sext14 imm).toInt)

end Sys2Proof.Machine
end

