-- ==== Sys2Proof/Machine/Branch.lean ====
section
/-! DEFINITION. Ziljan classes 0x4 and 0x5: branches, jumps and calls (R125, R126), and running off the end of ITCM. -/
namespace Sys2Proof.Machine

/-- A branch: taken, the pc goes to PC + sext(OFF) × 4, or FETCH is raised at the branch when that lies outside ITCM. -/
def Engine.branch (en : Engine) (taken : Bool) (off : BitVec 15) : EngRes :=
  if taken then
    (if inItcm (en.pc + branchOff off) then .ok { en with pc := en.pc + branchOff off } else .exc exFETCH (en.pc + branchOff off))
  else .ok en.next

def execBeq (p : Pav) (e : Eng) (d s1 : Gpr) (off : BitVec 15) (s : State) : Result :=
  s.engineX p e fun en => en.branch (en.g s1 = en.g d) off
def execBne (p : Pav) (e : Eng) (d s1 : Gpr) (off : BitVec 15) (s : State) : Result :=
  s.engineX p e fun en => en.branch (en.g s1 ≠ en.g d) off
def execBlt (p : Pav) (e : Eng) (d s1 : Gpr) (off : BitVec 15) (s : State) : Result :=
  s.engineX p e fun en => en.branch ((en.g s1).slt (en.g d)) off
def execBge (p : Pav) (e : Eng) (d s1 : Gpr) (off : BitVec 15) (s : State) : Result :=
  s.engineX p e fun en => en.branch (!(en.g s1).slt (en.g d)) off
def execBltu (p : Pav) (e : Eng) (d s1 : Gpr) (off : BitVec 15) (s : State) : Result :=
  s.engineX p e fun en => en.branch ((en.g s1).ult (en.g d)) off
def execBgeu (p : Pav) (e : Eng) (d s1 : Gpr) (off : BitVec 15) (s : State) : Result :=
  s.engineX p e fun en => en.branch (!(en.g s1).ult (en.g d)) off

/-- FLAGS as a program reads it: IE, EXC and PIE exist in the base profile only (R112). -/
def Engine.flagSeen (en : Engine) (e : Eng) (n : Nat) : Bool := en.flag n && !(loopProfile e && 8 ≤ n)

/-- bfs and bfc: a flag number above 10 raises ILLEGAL (R116). -/
def execBfs (p : Pav) (e : Eng) (flag : Gpr) (off : BitVec 15) (s : State) : Result :=
  s.engineX p e fun en => if 10 < flag.val then .exc exILLEGAL (encBranch 6 0 flag off) else en.branch (en.flagSeen e flag.val) off
def execBfc (p : Pav) (e : Eng) (flag : Gpr) (off : BitVec 15) (s : State) : Result :=
  s.engineX p e fun en => if 10 < flag.val then .exc exILLEGAL (encBranch 7 0 flag off) else en.branch (!en.flagSeen e flag.val) off

/-- jal: D := PC + 4, then PC := zext(IMM) × 4; the word address covers all of ITCM. -/
def execJal (p : Pav) (e : Eng) (d : Gpr) (imm : BitVec 16) (s : State) : Result :=
  s.engine p e fun en => { en.setG d (en.pc + 4) with pc := (imm.zeroExtend 32) <<< 2 }

/-- jalr: t := (S1 + sext(IMM)) and not 3, then D := PC + 4, then PC := t. -/
def jalrTarget (en : Engine) (s1 : Gpr) (imm : BitVec 16) : Word := (en.g s1 + imm.signExtend 32) &&& ~~~3#32
def execJalr (p : Pav) (e : Eng) (d s1 : Gpr) (imm : BitVec 16) (s : State) : Result :=
  s.engineX p e fun en =>
    if inItcm (jalrTarget en s1 imm) then .ok { en.setG d (en.pc + 4) with pc := jalrTarget en s1 imm }
    else .exc exFETCH (jalrTarget en s1 imm)

/-- Execution that passes the last word of ITCM raises FETCH at 0x0004_0000, EPC and EADDR both holding it (R126). An engine
whose pc lies in ITCM fetches there instead, and nothing is raised. -/
def execSequentialFetchBeyondItcm (p : Pav) (e : Eng) (s : State) : Result :=
  s.run fun t => if t.ready p e && !inItcm (t.eng p e).pc then t.exception p e exFETCH (t.eng p e).pc else t

end Sys2Proof.Machine
end

