-- ==== Sys2Proof/Machine/Meter.lean ====
section
/-! DEFINITION. Legal metering: sensor heads, blocks, energy, transactions, saves, the legal log and the test outputs
(R318 to R356). -/
namespace Sys2Proof.Machine

def Replica.withLegal (r : Replica) (f : Legal → Legal) : Replica := { r with legal := f r.legal }
def Replica.meter (r : Replica) (o : Nat) : Meter := vget r.legal.meters o {}
def Replica.setMeter (r : Replica) (o : Nat) (m : Meter) : Replica := r.withLegal fun l => { l with meters := vput l.meters o m }
def Replica.legalWrite (r : Replica) (addr : Nat) (data : List Byte) (forSave : Option Nat := none) : Replica :=
  r.withLegal fun l => { l with writes := l.writes ++ [{ addr, data, forSave }] }
def Replica.slot (r : Replica) (n : Nat) : LegalSlot := Sparse.get {} r.legal.slots n

def headNone : Nat := 0
def headIdent : Nat := 1
def headAuth : Nat := 2
def headStreaming : Nat := 3
def headLost : Nat := 4
def headRefused : Nat := 5
def Replica.head (r : Replica) (o : Nat) : Nat := r.rd .MET_OSTATE_HEAD o
/-- Outside AUTH and STREAMING a head session holds no context (R516). -/
def Replica.setHead (r : Replica) (o st : Nat) : Replica :=
  let r := r.wr .MET_OSTATE_HEAD st o
  if st = headAuth || st = headStreaming then r else r.setCtx 2 o none

/-! ### The legal log (R346 to R349) -/

/-- Body address of a slot, save record of an outlet and bank, event entry (Table MET-9; the order of the save records within their
area is log entry 50). -/
def bodyAddr (n : Nat) : Nat := 0x30020000 + 480 * n
def saveAddr (o bank : Nat) : Nat := 0x30001000 + 256 * o + 128 * bank
def eventAddr (e : Nat) : Nat := 0x30004000 + 64 * (e % 1024)

/-- The counters of the control area behind the slot directory (R346; their places are log entry 50). -/
def Replica.legalCounters (r : Replica) : Replica :=
  let b := leBytes 4 (r.rd .MET_TXNO_NEXT) ++ leBytes 4 (r.rd .MET_EVNO_NEXT) ++ leBytes 4 (r.rd .MET_PARAMCNT_COUNT) ++
    leBytes 4 (r.rd .MET_PROGCNT_COUNT)
  r.legalWrite 0x30000400 (b ++ leBytes 4 (crc32c b).toNat)

/-- An event entry (R349). -/
def Replica.legalEvent (r : Replica) (v : Env) (code outlet tx : Nat) (detail : List Byte) : Replica :=
  let e := r.rd .MET_EVNO_NEXT
  let b := leBytes 4 e ++ leBytes 8 v.now ++ leBytes 8 (r.utcMs v) ++ leBytes 4 v.boot ++ leBytes 1 code ++ leBytes 1 outlet ++ leBytes 2 0 ++
    leBytes 4 tx ++ padTo 24 detail ++ leBytes 4 0
  ((r.legalWrite (eventAddr e) (b ++ leBytes 4 (crc32c b).toNat)).wr .MET_EVNO_NEXT (e + 1)).legalCounters
/-- The transaction number an entry about an outlet carries. -/
def Replica.txOf (r : Replica) (o : Nat) : Nat := match (r.meter o).tx with | some t => t.txNo | none => 0xFFFFFFFF

/-- Reserved slots that hold no open transaction. -/
def Replica.reservedSlots (r : Replica) : List Nat := r.legal.meters.toList.filterMap fun m => if m.tx.isNone then m.slot else none
/-- Unreserved FREE or ACKED slots (R348). -/
def Replica.freeSlots (r : Replica) : Nat :=
  4096 - (r.legal.slots.filter fun s => s.2.state = 1 || s.2.state = 2).length - r.reservedSlots.length

/-- FREE, OPEN and FULL follow the directory; falling below 256 and reaching 0 raise their events (R348). -/
def Replica.countSlots (r : Replica) (v : Env) : Replica :=
  let old := r.rd .MET_STATUS_FREE
  let n := r.freeSlots
  let r := ((r.wr .MET_STATUS_FREE n).wr .MET_STATUS_OPEN (r.legal.meters.toList.filter (·.tx.isSome)).length).wr .MET_STATUS_FULL
    (decide (n = 0)).toNat
  let r := if n < 256 && 256 ≤ old then (r.raise .MET_EVENT_LOG_NEAR_FULL).eventClass 7 evLegalLog [n] else r
  if n = 0 && 0 < old then ((r.raise .MET_EVENT_LEGAL_LOG_FULL).legalEvent v 0x0C 0xFF 0xFFFFFFFF []).eventClass 7 evLegalLog [0] else r

/-- A slot's directory state, with its two bits written to the directory (R346, R347). -/
def Replica.putSlot (r : Replica) (v : Env) (n : Nat) (s : LegalSlot) : Replica :=
  let r := r.withLegal fun l => { l with slots := Sparse.put {} l.slots n s }
  let k := n / 4 * 4
  let byte := (r.slot k).state + 4 * (r.slot (k + 1)).state + 16 * (r.slot (k + 2)).state + 64 * (r.slot (k + 3)).state
  (r.legalWrite (0x30000000 + n / 4) (leBytes 1 byte)).countSlots v

/-- The FREE slot with the lowest index from `n` on that is not reserved. -/
def Replica.firstFree (r : Replica) : Nat → Nat → Option Nat
  | 0, _ => none
  | k + 1, n => if (r.slot n).state = 0 && !(r.reservedSlots.contains n) then some n else r.firstFree k (n + 1)
/-- The slot a reservation takes (R347). -/
def Replica.slotToReserve (r : Replica) : Option Nat :=
  match r.firstFree 4096 0 with
  | some n => some n
  | none =>
    let acked := r.legal.slots.filter fun s => s.2.state = 3 && !(r.reservedSlots.contains s.1)
    acked.foldl (fun (b : Option Nat) s => match b with
      | none => some s.1
      | some n => if s.2.txNo < (r.slot n).txNo then some s.1 else some n) none

/-- READY and NRC (R335), in the order in which R335 lists the conditions. -/
def Replica.meterReady (r : Replica) (o : Nat) : Replica :=
  let nrc :=
    if r.head o ≠ headStreaming then 2
    else if r.rd .MET_STATUS_SIGN_OK = 0 then 3
    else if r.rd .MET_STATUS_COPY_A = 0 && r.rd .MET_STATUS_COPY_B = 0 then 4
    else if (r.meter o).slot.isNone && r.freeSlots = 0 then 1 else 0
  (r.wr .MET_OSTATE_NRC nrc o).wr .MET_OSTATE_READY (decide (nrc = 0)).toNat o

/-! ### Parameter record and program in force (R353, R354) -/

def recMet : Nat := 5
/-- A staged activation stands before its tick T: the new programs do not act yet (R541). -/
def Replica.beforeHandover (r : Replica) : Bool := 2 ≤ r.rd .UPD_STATUS_PHASE && r.rd .UPD_STATUS_PHASE ≤ 5
/-- A committed record or program that differs is taken up while the outlet has neither a transaction nor a reservation. -/
def Replica.adoptMeter (r : Replica) (v : Env) (o : Nat) : Replica :=
  let m := r.meter o
  if m.tx.isSome || m.slot.isSome then r
  else
    let rec' := r.params.rdBytes (recMet * 2 ^ 16 + o * 2 ^ 10) 32
    let r := if r.committed && rec' ≠ m.record then
        let r := (r.setMeter o { m with record := rec' }).wr .MET_PARAMCNT_COUNT (r.rd .MET_PARAMCNT_COUNT + 1)
        (r.wr .MET_OPCHK_CHECK (fieldAt rec' 28 4) o).legalEvent v 0x09 o 0xFFFFFFFF ((m.record.drop 28).take 4 ++ (rec'.drop 28).take 4)
      else r
    let ver := r.layout.metVer
    if ver ≠ r.rd .MET_OPROG_VER o && !r.beforeHandover then
      let old := r.rd .MET_OPROG_VER o
      let r := (r.setMeter o { r.meter o with progHash := r.layout.metHash }).wr .MET_PROGCNT_COUNT (r.rd .MET_PROGCNT_COUNT + 1)
      let r := (r.wr .UPD_OLDPROG_OUTLETS (putBit (r.rd .UPD_OLDPROG_OUTLETS) o false)).raise .UPD_EVENT_SWITCHED
      (r.wr .MET_OPROG_VER ver o).legalEvent v 0x0A o 0xFFFFFFFF (leBytes 4 old ++ leBytes 4 ver ++ r.layout.metHash.take 16)
    else r

/-- A reservation at CABLE_CHECK entry, and its release (R335). -/
def Replica.reserveSlot (r : Replica) (v : Env) (o : Nat) : Replica :=
  match (r.meter o).slot with
  | some _ => r
  | none => ((r.setMeter o { r.meter o with slot := r.slotToReserve }).wr .MET_OSTATE_RESV r.slotToReserve.isSome.toNat o).countSlots v
def Replica.releaseSlot (r : Replica) (v : Env) (o : Nat) : Replica :=
  if (r.meter o).tx.isNone && (r.meter o).slot.isSome then
    (((r.setMeter o { r.meter o with slot := none }).wr .MET_OSTATE_RESV 0 o).countSlots v).adoptMeter v o
  else r

/-! ### Transactions (R336 to R342) -/

def Meter.rCable (m : Meter) : Nat := fieldAt m.record 4 4
def Meter.iStart (m : Meter) : Nat := fieldAt m.record 8 2
def Meter.tZc (m : Meter) : Nat := fieldAt m.record 10 2

/-- Bytes 0 to 383 of a record body (Table MET-6). -/
def Replica.recordBody (r : Replica) (o : Nat) (m : Meter) (t : Trans) (reason cause flags bootClose : Nat) : List Byte :=
  leBytes 2 0x0A02 ++ leBytes 2 480 ++ leBytes 4 t.txNo ++ leBytes 8 Config.unitId ++ leBytes 1 o ++ leBytes 1 reason ++ leBytes 1 cause ++
    leBytes 1 flags ++ leBytes 1 t.authKind ++ leBytes 1 (min 40 t.ident.length) ++ leBytes 2 0 ++ leBytes 8 t.openTime ++
    leBytes 8 t.closeTime ++ leBytes 8 t.openUtc ++ leBytes 8 t.closeUtc ++ leBytes 4 t.bootOpen ++ leBytes 4 bootClose ++
    leBytes 8 t.impOpen ++ leBytes 8 (if reason = 0 then 0 else m.imp) ++ leBytes 8 t.expOpen ++ leBytes 8 (if reason = 0 then 0 else m.exp) ++
    leBytes 4 t.unregImp ++ leBytes 4 t.unregExp ++ leBytes 4 t.gaps ++ leBytes 4 t.dirs ++ leBytes 4 m.pLast ++
    leBytes 4 (if reason = 4 || reason = 5 then r.rd .MET_TIMES_T_BOUND * 100 else 0) ++ leBytes 8 m.unit ++ leBytes 4 t.blockOpen ++
    leBytes 4 (if reason = 0 then 0 else m.next - 1) ++ leBytes 4 t.rCable ++ leBytes 2 t.iStart ++ leBytes 2 0 ++ leBytes 4 t.paramCheck ++
    leBytes 4 t.progVer ++ padTo 32 t.progHash ++ leBytes 4 (r.rd .MET_PARAMCNT_COUNT) ++ leBytes 4 (r.rd .MET_PROGCNT_COUNT) ++
    leBytes 4 t.eventOpen ++ leBytes 4 (if reason = 0 then 0 else r.rd .MET_EVNO_NEXT) ++ padTo 40 (t.ident.map (BitVec.ofNat 8)) ++
    padTo 16 (t.href.map (BitVec.ofNat 8)) ++ padTo 16 (if r.legal.prev = [] then [] else (Config.hash r.legal.prev).take 16) ++ leBytes 112 0

/-- Opening at the PRECHARGE to CHARGING position (R336). -/
def Replica.openTrans (r : Replica) (v : Env) (o authKind : Nat) (ident href : List Nat) : Replica :=
  let m := r.meter o
  match m.slot with
  | none => r
  | some n =>
    let no := r.rd .MET_TXNO_NEXT
    let t : Trans := { slot := n, txNo := no, openTime := v.now, openUtc := r.utcMs v, bootOpen := v.boot, impOpen := m.imp, expOpen := m.exp,
                       blockOpen := match m.highest with | some b => b + 1 | none => 0, authKind, ident, href, eventOpen := r.rd .MET_EVNO_NEXT,
                       rCable := m.rCable, iStart := m.iStart, paramCheck := fieldAt m.record 28 4, progVer := r.rd .MET_OPROG_VER o,
                       progHash := m.progHash }
    let body := r.recordBody o m t 0 0 (if t.openUtc = 0 then 64 else 0) 0
    let r := r.setMeter o { m with tx := some t }
    let r := ((((r.wr .MET_TXNO_NEXT (no + 1)).wr .MET_OSTATE_TXOPEN 1 o).wr .MET_OSTATE_RESV 0 o).wr .MET_OTX_TX_NO no o).wr .MET_OGAPS_GAPS 0 o
    ((r.legalWrite (bodyAddr n) (padTo 480 body)).putSlot v n { state := 1, txNo := no }).legalCounters

/-- The closed record is signed and committed (R337, R340); with both copies failed it is held for read-out (R350). -/
def Replica.commitTrans (r : Replica) (v : Env) (o : Nat) (t : Trans) (reason cause : Nat) : Replica :=
  let key := r.signSlot
  let r := if key.isNone then
      ((r.raise .MET_EVENT_SIGN_KEY_LOST).wr .MET_STATUS_SIGN_OK 0).legalEvent v 0x0D o t.txNo [] else r
  let m := r.meter o
  let flags := t.didImp.toNat + 2 * t.didExp.toNat + 4 * (decide (0 < t.gaps)).toNat + 8 * t.overRange.toNat + 16 * t.negBlock.toNat +
    32 * key.isNone.toNat + 64 * (decide (t.openUtc = 0)).toNat
  let body := padTo 384 (r.recordBody o m t reason cause flags v.boot)
  let body := body ++ match key with | some k => padTo 96 (Config.signature (r.keyVal k) body) | none => leBytes 96 0
  let r := r.setMeter o { m with tx := none, slot := none }
  let r := ((r.wr .MET_OSTATE_TXOPEN 0 o).wr .MET_OSTATE_RESV 0 o).wr .MET_OGAPS_GAPS t.gaps o
  let r := r.withLegal fun l => { l with prev := body, held := if r.rd .MET_STATUS_COPY_A = 0 && r.rd .MET_STATUS_COPY_B = 0 then
      (t.slot, body) :: l.held else l.held }
  (((r.legalWrite (bodyAddr t.slot) body).putSlot v t.slot { state := 2, txNo := t.txNo }).legalCounters).adoptMeter v o

/-- A closing position (R337): the readings take blocks up to B_c + 2 unless the stream has ended. -/
def Replica.closeTrans (r : Replica) (v : Env) (o reason cause : Nat) : Replica :=
  let m := r.meter o
  match m.tx with
  | none => r
  | some t =>
    match t.closing with
    | some (reason', cause', _) =>
      if reason' = 2 || reason' = 3 then
        -- the outlet enters WELD_CHECK or FAULT: the bound of R339
        let dt := (v.ticks - m.accTick) * 5 + 1000000
        let t := { t with unregImp := t.unregImp + (m.pLast * dt + 3599999999) / 3600000000,
                          unregExp := t.unregExp + (m.pLastX * dt + 3599999999) / 3600000000 }
        r.commitTrans v o t reason' (if cause' = 0 then cause else cause')
      else r
    | none =>
      let t := { t with closeTime := v.now, closeUtc := r.utcMs v }
      if r.head o = headStreaming then
        let bound := match m.highest with | some b => b + 2 | none => 1
        r.setMeter o { m with tx := some { t with closing := some (reason, cause, some bound) } }
      else r.commitTrans v o t reason cause

/-- The stream ends (R326, R327): its session is LOST, the outlet stops with AUTH_LOST, and an open transaction passes its closing
position. -/
def Replica.endStream (r : Replica) (v : Env) (o reason : Nat) (ev : Field) (code : Nat) (detail : List Byte) : Replica :=
  let r := ((r.raise ev).setHead o headLost).legalEvent v code o (r.txOf o) detail
  let r := r.journal v.now locSensorHead o detected reStreamLoss code
  let m := r.meter o
  let r := r.setMeter o { m with frags := [], taken := [], orphaned := false }
  let r := match m.tx with
    | none => r
    | some t => match t.closing with
      | some (rs, cs, some _) => r.commitTrans v o t rs cs
      | some _ => r
      | none => r.setMeter o { r.meter o with tx := some { t with closing := some (reason, 0, none), closeTime := v.now, closeUtc := r.utcMs v } }
  (r.stopOutlet v o ocAuthLost).meterReady o

/-! ### Energy (R328 to R334) -/

/-- The constants of R330. -/
def kVI (vLsb iLsb : Nat) : Nat := (vLsb * iLsb * 2 ^ 96 * 2 + 576 * 10 ^ 20) / (2 * (576 * 10 ^ 20))
def kII (iLsb rCable : Nat) : Nat := (iLsb * iLsb * rCable * 2 ^ 96 * 2 + 576 * 10 ^ 26) / (2 * (576 * 10 ^ 26))
/-- I_ST of R328 in head LSBs. -/
def Meter.iSt (m : Meter) : Int := ((m.iStart * 10 ^ 7 + m.iLsb - 1) / max 1 m.iLsb : Nat)

/-- The 64 sample pairs of a block (Table MET-3). -/
def samplePairs (b : List Byte) : List (Int × Int) :=
  (List.range 64).map fun k => (signed 24 (fieldAt b (16 + 6 * k) 3), signed 24 (fieldAt b (19 + 6 * k) 3))

/-- The sums of R329, and the direction of R331 as it passes through the samples. -/
structure BlockSums where
  vi : Int := 0
  ii : Int := 0
  viX : Int := 0
  iiX : Int := 0
  v : Int := 0
  all : Int := 0
  i2 : Nat := 0
  exporting : Option Bool
  idle : Nat
  dirs : Nat := 0
  deriving DecidableEq, Repr

def BlockSums.step (ist : Int) (tZc : Nat) (s : BlockSums) (p : Int × Int) : BlockSums :=
  let s := { s with v := s.v + p.1, all := s.all + p.1 * p.2, i2 := s.i2 + (p.2 * p.2).toNat }
  let turn (x : Bool) : Nat := if s.exporting = some (!x) && s.idle < tZc * 16 then 1 else 0
  if ist ≤ p.2 then { s with vi := s.vi + p.1 * p.2, ii := s.ii + p.2 * p.2, exporting := some false, idle := 0, dirs := s.dirs + turn false }
  else if p.2 ≤ -ist then
    { s with viX := s.viX + p.1 * p.2, iiX := s.iiX + p.2 * p.2, exporting := some true, idle := 0, dirs := s.dirs + turn true }
  else { s with idle := s.idle + 1 }

/-- E_imp and E_exp of R329 in 2^-32 mWh, before the clamp. -/
def eImp (s : BlockSums) (kvi kii : Nat) : Int := (s.vi * kvi - s.ii * kii + 2 ^ 63) / 2 ^ 64
def eExp (s : BlockSums) (kvi kii : Nat) : Int := (-s.viX * kvi + s.iiX * kii + 2 ^ 63) / 2 ^ 64

/-- A gain on a legal register: the fraction, and its carry (R333). An export energy may be negative; a register below 0 is a free value
(log entry 196). -/
def gain (reg frac : Nat) (e : Int) : Nat × Nat :=
  let y := (reg * 2 ^ 32 + frac : Nat) + e
  let x := if y < 0 then Config.registerUnder y else y.toNat
  (x / 2 ^ 32 % 2 ^ 64, x % 2 ^ 32)

/-- The registers, windows and epochs of Table MET-13 (R333, R334). -/
def Replica.showMeter (r : Replica) (o : Nat) : Replica :=
  let m := r.meter o
  let r := (((r.wr .MET_OIMP_LO_IMP m.imp o).wr .MET_OIMP_HI_IMP (m.imp / 2 ^ 32) o).wr .MET_OEXP_LO_EXP m.exp o).wr .MET_OEXP_HI_EXP (m.exp / 2 ^ 32) o
  let r := ((r.wr .MET_OWINI_WIN (m.imp / 1000) o).wr .MET_OWINE_WIN (m.exp / 1000) o).wr .MET_OEPOCH_EP_IMP (m.imp / (1000 * 2 ^ 32)) o
  (r.wr .MET_OEPOCH_EP_EXP (m.exp / (1000 * 2 ^ 32)) o).wr .MET_OBLOCK_BLOCK m.next o

/-- The test outputs that follow a register take its gain (R351). -/
def Replica.mtpGain (r : Replica) (o reg : Nat) (e : Int) : Replica :=
  (List.range 4).foldl (fun r n =>
    let k := r.rd .MET_MTP_K n
    if r.rd .MET_MTP_EN n = 1 && k ≠ 0 && r.rd .MET_MTP_OUTLET n = o && r.rd .MET_MTP_REG n = reg then
      let sum := vget r.legal.residue n 0 + e
      let pulses := (sum / (k * 2 ^ 32 : Nat)).toNat
      let back := r.rd .MET_MTPB_BACKLOG n + pulses
      let r := r.withLegal fun l => { l with residue := vput l.residue n (sum - (pulses * k * 2 ^ 32 : Nat)) }
      if 65535 < back then (r.raise .MET_EVENT_MTP_OVERRUN).wr .MET_MTP_EN 0 n else r.wr .MET_MTPB_BACKLOG back n
    else r) r

/-- A block that is lost adds its gap to an open transaction (R324, R339). -/
def Replica.countGap (r : Replica) (o : Nat) : Replica :=
  let m := r.meter o
  match m.tx with
  | none => r
  | some t =>
    (r.setMeter o { m with tx := some { t with gaps := t.gaps + 1, unregImp := t.unregImp + (m.pLast + 899) / 900,
                                               unregExp := t.unregExp + (m.pLastX + 899) / 900 } }).wr .MET_OGAPS_GAPS (t.gaps + 1) o

/-- The closing block has been registered or lost: the record is committed (R337). -/
def Replica.closeIfDue (r : Replica) (v : Env) (o n : Nat) : Replica :=
  match (r.meter o).tx with
  | some t => match t.closing with
    | some (reason, cause, some bound) => if bound ≤ n then r.commitTrans v o t reason cause else r
    | _ => r
  | none => r

/-- A block of an open transaction: one up to B_o moves its opening readings, a later one registers into it (R336). -/
def Trans.takeBlock (t : Trans) (n imp exp : Nat) (ei ee : Int) (above neg : Bool) (dirs : Nat) : Trans :=
  if n < t.blockOpen then { t with impOpen := imp, expOpen := exp }
  else { t with didImp := t.didImp || 0 < ei, didExp := t.didExp || 0 < ee, overRange := t.overRange || above, negBlock := t.negBlock || neg,
                dirs := t.dirs + dirs }
/-- The opening readings have moved: the body in the slot is written again (R336). -/
def Replica.rewriteOpen (r : Replica) (o n : Nat) : Replica :=
  let m := r.meter o
  match m.tx with
  | some t =>
    if n < t.blockOpen && t.closing.isNone then r.legalWrite (bodyAddr t.slot) (padTo 480 (r.recordBody o m t 0 0 (if t.openUtc = 0 then 64 else 0) 0))
    else r
  | none => r

/-- One block, with its acceptance, is registered (R328 to R334): energies, registers, flags, test outputs, the mean voltage for the safety
engine. -/
def Replica.registerBlock (r : Replica) (v : Env) (o : Nat) (acc : Nat × Nat) (b : List Byte) : Replica :=
  let m := r.meter o
  let s := (samplePairs b).foldl (BlockSums.step m.iSt m.tZc) { exporting := m.exporting, idle := m.idle }
  let kvi := kVI m.vLsb m.iLsb
  let kii := kII m.iLsb m.rCable
  let neg := decide (eImp s kvi kii < 0)
  let ei : Int := max 0 (eImp s kvi kii)
  let ee := eExp s kvi kii
  let (imp, impFrac) := gain m.imp m.impFrac ei
  let (exp, expFrac) := gain m.exp m.expFrac ee
  let above := fieldAt b 12 2 % 4 ≠ 0
  let first (f : Trans → Bool) : Bool := match m.tx with | some t => !(f t) && t.blockOpen ≤ m.next | none => false
  let tx := m.tx.map fun t => t.takeBlock m.next imp exp ei ee above neg s.dirs
  let r := r.setMeter o { m with imp, impFrac, exp, expFrac, next := m.next + 1, exporting := s.exporting, idle := s.idle, tAcc := acc.1,
                                 accTick := acc.2, i2 := m.i2 + s.i2 * m.iLsb * m.iLsb, i2n := m.i2n + 64, tx }
  let power := roundInt (s.all * (m.vLsb * m.iLsb : Nat)) (64 * 10 ^ 18)
  let r := (r.wr .MET_OPOWER_P (power % 2 ^ 32).toNat o).wr .MET_OSTATE_DIR (s.exporting = some true : Bool).toNat o
  let r := (r.mtpGain o 0 ei).mtpGain o 1 ee
  let r := if above && first (·.overRange) then (r.raise .MET_EVENT_OVERRANGE).legalEvent v 0x07 o (r.txOf o) [] else r
  let r := if neg && first (·.negBlock) then (r.raise .MET_EVENT_NEG_BLOCK).legalEvent v 0x08 o (r.txOf o) [] else r
  (((r.showMeter o).headMean o (s.v * (m.vLsb * 1310720 : Nat))).rewriteOpen o m.next).closeIfDue v o m.next

/-- Taken blocks are registered in ascending number (R323). The fuel bounds how many may be waiting. -/
def Replica.workBlocks (r : Replica) (v : Env) (o : Nat) : Nat → Replica
  | 0 => r
  | k + 1 =>
    let m := r.meter o
    if r.head o ≠ headStreaming then r
    else match m.taken.find? fun x => x.1 = m.next with
      | none => r
      | some (n, acc, b) =>
        ((r.setMeter o { m with taken := m.taken.filter fun x => x.1 ≠ n, missed := m.missed.filter (· ≠ n) }).registerBlock v o acc b).workBlocks v o k

/-- The lowest block not yet taken. -/
def Meter.lowest (m : Meter) : Nat → Nat → Nat
  | 0, n => n
  | k + 1, n => if m.taken.any fun x => x.1 = n then m.lowest k (n + 1) else n

/-- The lowest block not yet taken is missed once a higher one is taken (R324). -/
def Replica.missLowest (r : Replica) (o : Nat) : Replica :=
  let m := r.meter o
  if r.head o ≠ headStreaming || m.taken = [] || m.missed.contains m.next then r
  else (r.setMeter o { m with missed := m.next :: m.missed }).raise .MET_EVENT_BLOCK_MISSED

/-- A lost block is a gap and ends the stream (R324, R326). -/
def Replica.loseBlock (r : Replica) (v : Env) (o n : Nat) : Replica :=
  ((r.countGap o).closeIfDue v o n).endStream v o 3 .MET_EVENT_STREAM_LOST 0x03 (leBytes 4 n)

/-- A fragment of a block is accepted (R321, R323, R327); a block with a converter fault is lost as soon as it is taken (R324). -/
def Replica.headFragment (r : Replica) (v : Env) (o : Nat) (body : List Byte) (macOk : Bool) : Replica :=
  let m := r.meter o
  let n := fieldAt body 0 4
  let f := byteAt body 4
  if r.head o ≠ headStreaming || n < m.next || (m.taken.any fun x => x.1 = n) then r
  else if m.orphaned then r.endStream v o 2 .MET_EVENT_KEY_ORPHANED 0x04 []
  else
    let fr := (n, f % 128, body.drop 5) :: m.frags.filter fun x => !(x.1 = n && x.2.1 = f % 128)
    let part (k : Nat) : Option (List Byte) := (fr.find? fun x => x.1 = n && x.2.1 = k).map fun x => x.2.2
    match part 0, part 1, part 2 with
    | some a, some b, some c =>
      let block := a ++ b ++ c
      let r := r.setMeter o { m with frags := fr.filter fun x => x.1 ≠ n }
      if !macOk || fieldAt block 0 2 ≠ 0x0A01 || fieldAt block 4 4 ≠ n then
        (r.raise .MET_EVENT_MAC_FAIL).wr .MET_OGAPS_MACF (r.rd .MET_OGAPS_MACF o + 1) o
      else
        let r := r.setMeter o { r.meter o with highest := some (match m.highest with | some h => max h n | none => n) }
        if bitOf (fieldAt block 12 2) 2 then r.loseBlock v o n
        else ((r.setMeter o { r.meter o with taken := (n, (v.now, v.ticks), block) :: m.taken }).workBlocks v o (m.taken.length + 1)).missLowest o
    | _, _, _ => r.setMeter o { m with frags := fr }

/-- 4 ms past its due instant the lowest block not yet taken is missed (R324). -/
def execBlockMissed (o : Outlet) (s : State) : Result :=
  s.onLog fun _ r =>
    let m := r.meter o
    let n := m.lowest 64 m.next
    if r.head o ≠ headStreaming || m.missed.contains n then r
    else (r.setMeter o { m with missed := n :: m.missed }).raise .MET_EVENT_BLOCK_MISSED

/-- T_LOSS after it was missed, a block not taken is lost, and the stream ends (R324, R326). -/
def execBlockLost (o : Outlet) (s : State) : Result :=
  s.onLog fun t r =>
    let m := r.meter o
    if r.head o = headStreaming && m.missed.contains m.next && !(m.taken.any fun x => x.1 = m.next) then
      (r.setMeter o { m with missed := m.missed.filter (· ≠ m.next) }).loseBlock t.env o m.next
    else r

/-! ### Saves (R343 to R345) -/

/-- A save record (Table MET-7). -/
def Replica.saveBytes (r : Replica) (v : Env) (o : Nat) : List Byte :=
  let m := r.meter o
  let t : Nat × Nat × Nat × Nat × Nat := match m.tx with
    | some t => (t.txNo, t.gaps, t.dirs, t.unregImp, t.unregExp)
    | none => (0, 0, 0, 0, 0)
  let st := m.tx.isSome.toNat + 2 * (m.slot.isSome && m.tx.isNone).toNat + 4 * (m.exporting = some true : Bool).toNat +
    8 * (decide (r.head o = headLost)).toNat
  let b := leBytes 2 0x0A05 ++ leBytes 2 128 ++ leBytes 1 o ++ leBytes 1 st ++ leBytes 2 (m.slot.getD (Config.noSlot o m.saveNo).toNat) ++ leBytes 8 m.saveNo ++ leBytes 8 v.now ++
    leBytes 8 m.imp ++ leBytes 8 m.exp ++ leBytes 4 m.impFrac ++ leBytes 4 m.expFrac ++ leBytes 4 t.1 ++ leBytes 4 m.next ++ leBytes 8 m.tAcc ++
    leBytes 4 m.pLast ++ leBytes 4 m.pLastX ++ leBytes 4 (r.rd .MET_TIMES_T_BOUND * 100) ++ leBytes 4 t.2.1 ++ leBytes 4 t.2.2.1 ++
    leBytes 4 t.2.2.2.1 ++ leBytes 4 t.2.2.2.2 ++ leBytes 32 0
  b ++ leBytes 4 (crc32c b).toNat
/-- One outlet saved into the bank not written last. -/
def Replica.saveOutlet (r : Replica) (v : Env) (o : Nat) (forVeh : Bool) : Replica :=
  let r := r.setMeter o { r.meter o with saveNo := (r.meter o).saveNo + 1, saveBank := 1 - (r.meter o).saveBank }
  r.legalWrite (saveAddr o (r.meter o).saveBank) (r.saveBytes v o) (if forVeh then some o else none)

/-- The SAVE slot at a tick whose half-cycle count is a multiple of SAVE_INT (R343). -/
def execMetrologySave (s : State) : Result :=
  s.onLog fun t r => if t.now / 2 ^ 31 % r.rd .MET_CTRL_SAVE_INT = 0 then r.eachOut fun o r => r.saveOutlet t.env o false else r

/-- P_LAST and P_LASTX of R344 in W, from PMAX in kW, VMAX in 0.025 V, IMAX and IEXP in 0.1 A. -/
def lastBounds (pMax iMax vMax iExp : Nat) : Nat × Nat :=
  (min 3750000 (min (pMax * 1000) (vMax * iMax / 400)), min 3750000 (vMax * iExp / 400))

/-- The vehicle maxima of an outlet as CTL holds them (R268). -/
def Replica.writeVeh (r : Replica) (o : Nat) (x : Nat × Nat × Nat × Nat) : Replica :=
  (((r.wr .CTL_OVEH_PMAX x.1 o).wr .CTL_OVEH_IMAX x.2.1 o).wr .CTL_OVEHV_VMAX x.2.2.1 o).wr .CTL_OVEHV_IEXP x.2.2.2 o

/-- A session event brings the vehicle's maxima: raised bounds are saved first, and the write to CTL waits for that save (R344). -/
def Replica.takeMaxima (r : Replica) (v : Env) (o : Nat) (x : Nat × Nat × Nat × Nat) : Replica :=
  let (p, px) := lastBounds x.1 x.2.1 x.2.2.1 x.2.2.2
  let m := r.meter o
  let raised := m.pLast < p || m.pLastX < px
  let r := r.setMeter o { m with pLast := p, pLastX := px }
  if raised then (r.setVs o { r.vs o with vehDue := some x }).saveOutlet v o true else r.writeVeh o x

/-! ### Writes to the legal MRAM (R25, R42, R350) -/

/-- A copy goes out of service. -/
def Replica.copyFail (r : Replica) (v : Env) (f : Field) (inst : Nat) : Replica :=
  let r := ((r.wr f 0).raise .MET_EVENT_COPY_FAIL).fault v.now locLegalCopy inst masked reOtherPath 0
  r.legalEvent v 0x0B 0xFF 0xFFFFFFFF (leBytes 1 inst)

/-- The front write has been made to the copies in service and read back with the given results. A failing copy leaves service; with
both gone every outlet with an open transaction stops as under R326. -/
def Replica.legalDone (r : Replica) (v : Env) (okA okB : Bool) : Replica :=
  match r.legal.writes with
  | [] => r
  | w :: rest =>
    let r := r.withLegal fun l => { l with writes := rest }
    let a := r.rd .MET_STATUS_COPY_A
    let b := r.rd .MET_STATUS_COPY_B
    let r := if a = 1 && !okA then r.copyFail v .MET_STATUS_COPY_A 0 else r
    let r := if b = 1 && !okB then r.copyFail v .MET_STATUS_COPY_B 1 else r
    let r := if (a = 1 || b = 1) && r.rd .MET_STATUS_COPY_A = 0 && r.rd .MET_STATUS_COPY_B = 0 then
        r.eachOut fun o r => if (r.meter o).tx.isSome && r.head o = headStreaming then
          r.endStream v o 3 .MET_EVENT_STREAM_LOST 0x03 (leBytes 4 (r.meter o).next) else r
      else r
    let r := match w.forSave with
      | none => r
      | some o => match (r.vs o).vehDue with
        | some x => (r.setVs o { r.vs o with vehDue := none }).writeVeh o x
        | none => r
    r.eachOut fun o r => r.meterReady o

/-- A legal-log write, taken by the common block from the pavilion with the higher claim (R25, R89). -/
def execLegalMramWrite (okA okB : Bool) (s : State) : Result :=
  s.run fun t =>
    match t.leader with
    | none => t
    | some p =>
      let r := (t.pav p).rep
      match r.legal.writes with
      | [] => t
      | w :: _ =>
        if !t.privOpen then t
        else
          let t := t.modCom fun c =>
            { c with legalA := if okA && r.rd .MET_STATUS_COPY_A = 1 then c.legalA.wrBytes w.addr w.data else c.legalA
                     legalB := if okB && r.rd .MET_STATUS_COPY_B = 1 then c.legalB.wrBytes w.addr w.data else c.legalB }
          t.onLog fun r => r.legalDone t.env okA okB

/-! ### Test outputs (R351, R355, R356) -/

/-- The Lodge writes MET_MTPn; enabling or disabling enters TEST_OUTPUT. K = 0 makes EN ignored. -/
def Replica.mtpWrite (r : Replica) (v : Env) (n w : Nat) : Replica :=
  let old := r.rd .MET_MTP_EN n
  let r := (((r.wr .MET_MTP_OUTLET w n).wr .MET_MTP_REG (w / 32) n).wr .MET_MTP_EN (w / 64) n).wr .MET_MTP_K (w / 65536) n
  if r.rd .MET_MTP_EN n ≠ old then r.legalEvent v 0x0F (w % 32) 0xFFFFFFFF (leBytes 4 w) else r
def execMetMtpWrite (n : Fin 4) (value : Word) (s : State) : Result := s.onLog fun t r => r.mtpWrite t.env n value.toNat

/-- One pulse, high for 250 µs, from the backlog. -/
def execMtpPulse (n : Fin 4) (s : State) : Result :=
  s.onLog fun _ r =>
    let b := r.rd .MET_MTPB_BACKLOG n
    if r.rd .MET_MTP_EN n = 1 && 0 < b then (r.wr .MET_MTPB_BACKLOG (b - 1) n).send (.mtpPulse n.val) else r

end Sys2Proof.Machine
end

