-- ==== Sys2Proof/Machine/Safe.lean ====
section
/-! DEFINITION. The safety engine's acts and the safety inputs: trips, gates, diagnostics, SAFE_RESET (R357 to R396). -/
namespace Sys2Proof.Machine

def Replica.so (r : Replica) (o : Nat) : SafetyOutlet := vget r.safety.outs o {}
def Replica.setSo (r : Replica) (o : Nat) (x : SafetyOutlet) : Replica :=
  { r with safety := { r.safety with outs := vput r.safety.outs o x } }
def Replica.withSafety (r : Replica) (f : Safety → Safety) : Replica := { r with safety := f r.safety }

/-! ### The safety parameter set in force (R384, R387) -/

/-- A field of the header, of an input's entry and of an outlet's entry. An outlet reads the set before the last confirmation until it
has taken up the new one. -/
def Replica.safSet (r : Replica) (o : Nat) : List Byte := if (r.so o).oldSet then r.safety.before else r.safety.inForce
def Replica.safH (r : Replica) (off n : Nat) : Nat := fieldAt r.safety.inForce off n
def Replica.safHO (r : Replica) (o off n : Nat) : Nat := fieldAt (r.safSet o) off n
def Replica.safIn (r : Replica) (o i off n : Nat) : Nat := fieldAt (r.safSet o) (64 + 8 * i + off) n
def Replica.safOut (r : Replica) (o off n : Nat) : Nat := fieldAt (r.safSet o) (192 + 16 * o + off) n
def Replica.classL (r : Replica) : Bool := r.rd .SAF_STATUS_CLASS = 1
def Replica.inService (r : Replica) (o : Nat) : Bool := bitOf (r.safHO o 8 4) o
/-- The safety channel of an outlet in service (R365). -/
def Replica.channelOf (r : Replica) (o : Nat) : Option Nat :=
  if r.inService o && r.safOut o 0 1 < 32 then some (r.safOut o 0 1) else none
def Replica.gateOf (r : Replica) (o : Nat) : Bool := match r.channelOf o with | some c => bitOf r.safety.gates c | none => false

/-- A voltage in V in the units of v_out. -/
def qVolt (v : Nat) : Nat := v * 1310720

/-! ### Inputs (R360 to R364) -/

/-- Demand as the functions see it: not healthy, or faulted where faulted inputs count as demand (R389, R391). -/
def Replica.demand (r : Replica) (i : Nat) : Bool :=
  !bitOf r.safety.siset i || (bitOf r.safety.siset (16 + i) && (r.classL || r.safety.expired))
/-- The inputs of a function that hold the outlet in scope and show demand. -/
def Replica.demanding (r : Replica) (o func : Nat) : List Nat :=
  (List.range 16).filter fun i => r.safIn o i 0 1 = func && bitOf (r.safIn o i 4 4) o && r.demand i
/-- A diagnostic fault in the outlet's scope. -/
def Replica.scopeFault (r : Replica) (o : Nat) : Bool :=
  (List.range 16).any fun i => r.safIn o i 0 1 ≠ 0 && bitOf (r.safIn o i 4 4) o && bitOf r.safety.siset (16 + i)

def siPulse : Nat := 1
def siCross : Nat := 2
def siDiscrep : Nat := 3
def siTpFault : Nat := 4

/-- A diagnostic fault of an input: its code, its FAULT bit and its event (R363). -/
def Common.inputFault (c : Common) (i code : Nat) (ev : Field) : Common :=
  { (c.wr .SIO_IN_FAULT (putBit (c.rd .SIO_IN_FAULT) i true)).raise ev with sio := { c.sio with code := vput c.sio.code i code } }
def Site.journalFault (t : Site) (loc inst outcome reaction cause : Nat) : Site :=
  t.onLog fun r => r.fault t.now loc inst outcome reaction cause

/-- Either sampler has read the input low for SI_DEB outside the windows of its TP (R362); and healthy again. -/
def execSafetyInputDemand (i : SafeIn) (s : State) : Result :=
  s.run fun t => t.modCom fun c => c.wr .SIO_IN_IN (putBit (c.rd .SIO_IN_IN) i.val false)
def execSafetyInputHealthy (i : SafeIn) (s : State) : Result :=
  s.run fun t => t.modCom fun c => c.wr .SIO_IN_IN (putBit (c.rd .SIO_IN_IN) i.val true)

/-- The TP that feeds an input (SIO_TPSEL). -/
def Common.tpOf (c : Common) (i : Nat) : Nat := c.rd .SIO_TPSEL_TP / 4 ^ i % 4

/-- One input judged at the end of a pulse of TP k (R363): `stayed` high in its own window, or `fell` in another TP's. -/
def Common.judgeInput (c : Common) (k i : Nat) (stayed fell : Bool) : Common :=
  if c.tpOf i = k then
    let n := if stayed then vget c.sio.stayRun i 0 + 1 else 0
    let c := { c with sio := { c.sio with stayRun := vput c.sio.stayRun i n } }
    if n = 2 then c.inputFault i siPulse .SIO_EVENT_SI_PULSE else c
  else
    let n := if fell then vget c.sio.fellRun i 0 + 1 else 0
    let c := { c with sio := { c.sio with fellRun := vput c.sio.fellRun i n } }
    if n = 2 then c.inputFault i siCross .SIO_EVENT_SI_CROSS else c

/-- A TP off-pulse ends (R361, R363): which inputs stayed high in it, which went low in it, and whether the ball read back as
commanded. A TP that does not run its pattern is not judged. -/
def execTestPulse (k : TestOut) (stayed fell : BitVec 16) (tpOk : Bool) (s : State) : Result :=
  s.run fun t =>
    if !bitOf (t.com.rd .SIO_TPEN_EN) k then t
    else
      let before := t.com.rd .SIO_IN_FAULT
      let t := t.modCom fun c =>
        let c := (List.range 16).foldl (fun c i => c.judgeInput k i (stayed.getLsbD i) (fell.getLsbD i)) c
        let n := if tpOk then 0 else vget c.sio.tpRun k.val 0 + 1
        let c := { c with sio := { c.sio with tpRun := vput c.sio.tpRun k.val n } }
        if n = 2 then
          let c := (c.wr .SIO_TPSTAT_FAULT (putBit (c.rd .SIO_TPSTAT_FAULT) k true)).raise .SIO_EVENT_TP_FAULT
          (List.range 16).foldl (fun c i => if c.tpOf i = k then
            { c.wr .SIO_IN_FAULT (putBit (c.rd .SIO_IN_FAULT) i true) with sio := { c.sio with code := vput c.sio.code i siTpFault } } else c) c
        else c
      (List.range 16).foldl (fun t i =>
        if bitOf (t.com.rd .SIO_IN_FAULT) i && !bitOf before i then
          t.journalFault locSafetyInput i detected reSafeState (vget t.com.sio.code i 0) else t) t

/-- The two samplers differed for 10 ms (R363). -/
def execSiDiscrep (i : SafeIn) (s : State) : Result :=
  s.run fun t => (t.modCom fun c => c.inputFault i siDiscrep .SIO_EVENT_SI_DISCREP).journalFault locSafetyInput i detected reSafeState siDiscrep

/-- 10 s of passed pulse checks clear a faulted input (R363). -/
def execSiFaultClear (i : SafeIn) (s : State) : Result :=
  s.run fun t => t.modCom fun c =>
    let c := { c.wr .SIO_IN_FAULT (putBit (c.rd .SIO_IN_FAULT) i false) with sio := { c.sio with code := vput c.sio.code i.val 0 } }
    let k := c.tpOf i
    if (List.range 16).any fun j => c.tpOf j = k && vget c.sio.code j 0 = siTpFault then c
    else c.wr .SIO_TPSTAT_FAULT (putBit (c.rd .SIO_TPSTAT_FAULT) k false)

/-- A press: a filtered rise and fall within 5 s; it acts at the next closure (R393). -/
def execSafeResetPress (s : State) : Result :=
  s.run fun t => t.modCom fun c =>
    if c.rd .SIO_RESET_JAM = 1 then c
    else { ((c.wr .SIO_RESET_PRESSES (c.rd .SIO_RESET_PRESSES + 1)).wr .SIO_RESET_LEVEL 0).raise .SIO_EVENT_RESET_PRESS with
             sio := { c.sio with pressed := true } }
/-- A level held high for more than 5 s (R393). -/
def execResetJam (s : State) : Result :=
  s.run fun t => (t.modCom fun c => ((c.wr .SIO_RESET_LEVEL 1).wr .SIO_RESET_JAM 1).raise .SIO_EVENT_RESET_JAM).journalFault
    locSafetyInput 0xFF detected reSafeState 5
/-- 1 s low clears the jam (R393). -/
def execResetJamClear (s : State) : Result :=
  s.run fun t => t.modCom fun c => (c.wr .SIO_RESET_LEVEL 0).wr .SIO_RESET_JAM 0

/-! ### Trips and gates (R358, R369, R376, R377) -/

def ocLatching (c : Nat) : Bool := c = 0x32 || c = 0x33 || c = 0x36
def Replica.energised (r : Replica) (o : Nat) : Bool :=
  let st := r.ostate o
  st = osCableCheck || st = osPrecharge || st = osCharging || st = osStopping || st = osCommission
/-- From T on, an outlet that is not energised runs under the new SAFETY part; the move is journalled (R541; log entry 51). -/
def Replica.moveSafety (r : Replica) (v : Env) (o : Nat) : Replica :=
  if bitOf (r.rd .UPD_OLDSAF_OUTLETS) o && !r.energised o then
    ((r.wr .UPD_OLDSAF_OUTLETS (putBit (r.rd .UPD_OLDSAF_OUTLETS) o false)).raise .UPD_EVENT_SWITCHED).journal
      v.now locSafetyInput o detected reLogged 0
  else r
def Replica.stopped (r : Replica) (o : Nat) : Bool := bitOf (r.rd .SAF_STOP_STOP) o

def Replica.withholdGrants (r : Replica) (o : Nat) : Replica :=
  ((r.wr .SAF_GRANT_CC_GRANT (putBit (r.rd .SAF_GRANT_CC_GRANT) o false)).wr .SAF_GRANT_PC_GRANT
    (putBit (r.rd .SAF_GRANT_PC_GRANT) o false)).wr .SAF_GRANT_CH_GRANT (putBit (r.rd .SAF_GRANT_CH_GRANT) o false)

def sfEvent : Nat → Field
  | 1 => .SAF_EVENT_SF1_TRIP
  | 2 => .SAF_EVENT_SF2_TRIP
  | 3 => .SAF_EVENT_SF3_TRIP
  | 4 => .SAF_EVENT_SF4_TRIP
  | 5 => .SAF_EVENT_SF5_TRIP
  | 6 => .SAF_EVENT_SF6_TRIP
  | _ => .SAF_EVENT_SF7_TRIP

def Replica.safEvent (r : Replica) (f : Field) (outlet : Nat) : Replica := (r.raise f).eventClass 5 evSafety [f.info.lo, outlet]

/-- The gate of an outlet is cleared, and the post-open test begins with its wait (R377, R379). -/
def Replica.clearGate (r : Replica) (o : Nat) : Replica :=
  let r := match r.channelOf o with
    | some c => r.withSafety fun x => { x with gates := putBit x.gates c false }
    | none => r
  r.setSo o { r.so o with clearing := false, weld := .drop, preOk := false }

/-- The cause a set of triggers writes: a latching one first, otherwise that of the lowest function (R394). -/
def tripCause (ts : List (Nat × Nat × Nat)) : Nat × Nat × Nat :=
  let low := ts.foldl (fun (b : Option (Nat × Nat × Nat)) t => match b with | none => some t | some x => if t.1 < x.1 then some t else b) none
  let l := low.getD (0, 0, 0)
  match ts.find? fun t => ocLatching t.2.2 with | some t => (l.1, l.2.1, t.2.2) | none => l

/-- A trip at the closure of its decision (R377, R389, R390). Triggers are (function, DETAIL, cause); a T_STOP lapse has cause 0 and
leads on by R302 instead of to FAULT (R376). An outlet already stopped keeps its first trip, but SF7 still clears its gate. -/
def Replica.trip (r : Replica) (v : Env) (o : Nat) (ts : List (Nat × Nat × Nat)) : Replica :=
  let sf7 := ts.any fun t => t.1 = 7
  if ts = [] || !r.energised o then r
  else if r.stopped o then (if sf7 && r.gateOf o then r.clearGate o else r)
  else
    let (func, detail, cause) := tripCause ts
    let r := ts.foldl (fun r t => r.safEvent (sfEvent t.1) o) r
    let r := (r.wr .SAF_STOP_STOP (putBit (r.rd .SAF_STOP_STOP) o true)).withholdGrants o
    let r := ((r.wr .SAF_OTRIP_FUNC func o).wr .SAF_OTRIP_DETAIL detail o).wr .SAF_BLOCK_BLOCK (putBit (r.rd .SAF_BLOCK_BLOCK) o true)
    let due := (r.out o).faultDue
    let r := r.stopNow v o coSafetyStop
    let r := r.setOut o { r.out o with faultDue := if cause = 0 then due else some cause }
    let r := r.setSo o { r.so o with clearing := true, zcRun := 0 }
    if sf7 then r.clearGate o else r

/-- A trigger reported between closures waits for the next one (R357). -/
def Replica.report (r : Replica) (o func detail cause : Nat) : Replica :=
  r.setSo o { r.so o with reports := (r.so o).reports ++ [(func, detail, cause)] }

/-- T_CDLY has passed since the decision: the gate is cleared without waiting for zero current (R377). -/
def execGateClearTimeout (o : Outlet) (s : State) : Result :=
  s.onLog fun _ r => if (r.so o).clearing then r.clearGate o else r

/-- T_DROP has passed: the comparison starts (R379). -/
def execPostOpenDropWait (o : Outlet) (s : State) : Result :=
  s.onLog fun _ r => if (r.so o).weld = .drop then r.setSo o { r.so o with weld := .comparing [] } else r

/-- The insulation report under continuous monitoring is older than T_IMD (R372). -/
def execImdStale (o : Outlet) (s : State) : Result :=
  s.onLog fun _ r =>
    let st := r.ostate o
    if st = osPrecharge || st = osCharging || st = osStopping then
      (r.setVs o { r.vs o with imdFresh := false }).report o 5 0x16 ocSafetyTrip
    else r

/-- COOL_STATUS older than T_TSTALE, with a T_COND source (R373). -/
def execTCondStale (o : Outlet) (s : State) : Result :=
  s.onLog fun _ r =>
    if r.inService o && (r.safOut o 1 1 = 0 || r.safOut o 1 1 = 2) && r.energised o then r.report o 6 0x16 ocSafetyTrip else r

/-! ### Checks of the safety channels (R367, R368) -/

/-- A failed check waits for the closure; a passed one is on record. -/
def Replica.channelCheck (r : Replica) (c : Nat) (pass : Bool) : Replica :=
  let r := r.eachOut fun o r => if r.channelOf o = some c then r.setSo o { r.so o with checkOk := pass } else r
  if pass then r else r.withSafety fun x => { x with checkFail := c :: x.checkFail }
def Replica.isSafetyChannel (r : Replica) (c : Nat) : Bool := (List.range 24).any fun o => r.channelOf o = some c

/-- The off-pulse check of a channel that is on (R367). -/
def execOffPulseCheck (c : Chan) (pass : Bool) (s : State) : Result :=
  s.run fun t => t.onLog fun r =>
    if r.isSafetyChannel c && bitOf (t.com.rd .SIO_GATE_GATE) c then
      let r := if pass then r else r.fault t.now locLoadSwitch c detected reBankOff 6
      r.channelCheck c pass
    else r
/-- The check of a channel that is off (R367). -/
def execOffChannelCheck (c : Chan) (pass : Bool) (s : State) : Result :=
  s.run fun t => t.onLog fun r =>
    if r.isSafetyChannel c && !bitOf (t.com.rd .SIO_GATE_GATE) c then
      let r := if pass then r else r.fault t.now locLoadSwitch c detected reBankOff 6
      r.channelCheck c pass
    else r

/-! ### Degraded mode, blocks, confirmation (R387 to R392) -/

/-- DEG_TIME runs out: faulted inputs count as demand from then on (R391). -/
def execDegExpired (s : State) : Result :=
  s.onLog fun _ r =>
    if r.rd .SAF_STATUS_DEGRADED = 1 then
      (((r.wr .SAF_STATUS_DEGRADED 0).wr .SAF_DEG_REMAIN 0).safEvent .SAF_EVENT_DEG_EXPIRED 0xFF).withSafety fun x => { x with expired := true }
    else r

/-- 1 s after its last trigger has cleared, a block of class S clears by itself (R390). -/
def execClassSBlockClear (o : Outlet) (s : State) : Result :=
  s.onLog fun _ r =>
    if !r.classL && !(r.so o).trigger then r.wr .SAF_BLOCK_BLOCK (putBit (r.rd .SAF_BLOCK_BLOCK) o false) else r

/-- 60 s without a press: the confirmation lapses (R388). -/
def execConfirmLapse (s : State) : Result := s.onLog fun _ r => r.withSafety fun x => { x with confirm := none }

/-- 10 s after UNPLUG_WAIT entry the unlock is still withheld (R370). -/
def execUnlockHeld (o : Outlet) (s : State) : Result :=
  s.onLog fun _ r =>
    if r.ostate o = osUnplugWait && !bitOf (r.rd .SAF_UNLOCK_UNLOCK) o then r.safEvent .SAF_EVENT_UNLOCK_HELD o else r

def safEvents : List Field :=
  [.SAF_EVENT_SF1_TRIP, .SAF_EVENT_SF2_TRIP, .SAF_EVENT_SF3_TRIP, .SAF_EVENT_SF4_TRIP, .SAF_EVENT_SF5_TRIP, .SAF_EVENT_SF6_TRIP,
   .SAF_EVENT_SF7_TRIP, .SAF_EVENT_DIAG_FAULT, .SAF_EVENT_DEG_ENTER, .SAF_EVENT_DEG_EXPIRED, .SAF_EVENT_RESET_OK,
   .SAF_EVENT_RESET_REFUSED, .SAF_EVENT_CONFIRMED, .SAF_EVENT_WELD_FAIL, .SAF_EVENT_UNLOCK_HELD, .SAF_EVENT_ISO_WARNING]
/-- A 1 in SAF_EVSET counts as the hardware setting that bit (R395). -/
def Replica.evset (r : Replica) (value : Nat) : Replica := safEvents.foldl (fun r f => if bitOf value f.info.lo then r.raise f else r) r
def execSafEvsetWrite (value : Word) (s : State) : Result := s.onLog fun _ r => r.evset value.toNat

/-- A confirmed set comes into force: at once for outlets that are not energised, later for the others (R387, R388). -/
def Replica.confirmSet (r : Replica) (v : Env) (check : Nat) : Replica :=
  let set := r.params.rdBytes (recSafety * 2 ^ 16) 580
  let r := r.withSafety fun x => { x with before := x.inForce, inForce := set, confirm := none }
  let r := r.eachOut fun o r => r.setSo o { r.so o with oldSet := r.energised o }
  let r := (((r.wr .SAF_CONFIRMED_CHECK check).wr .SAF_STATUS_CONF 1).wr .SAF_STATUS_PENDING 0).wr .SAF_STATUS_CLASS (byteAt set 4)
  (r.safEvent .SAF_EVENT_CONFIRMED 0xFF).journal v.now locSafetyInput 0xFF detected reLogged 0

/-- A SAFE_RESET press at its closure (R388, R389, R390, R394). -/
def Replica.takePress (r : Replica) (v : Env) : Replica :=
  let r := match r.safety.confirm with | some c => r.confirmSet v c | none => r
  if !r.classL then r
  else
    let blocked := (List.range 24).filter fun o => bitOf (r.rd .SAF_BLOCK_BLOCK) o
    let ok := blocked.filter fun o => !(r.so o).trigger && !r.scopeFault o
    let r := ok.foldl (fun r o => r.wr .SAF_BLOCK_BLOCK (putBit (r.rd .SAF_BLOCK_BLOCK) o false)) r
    let r := if ok = [] then r else r.safEvent .SAF_EVENT_RESET_OK 0xFF
    if ok.length = blocked.length then r else r.safEvent .SAF_EVENT_RESET_REFUSED 0xFF

/-- In class L a new diagnostic fault of an input blocks every outlet in its scope (R389). -/
def Replica.blockScope (r : Replica) (fresh : Nat → Bool) : Replica :=
  if !r.classL then r
  else r.eachOut fun o r =>
    if (List.range 16).any fun i => fresh i && r.safIn o i 0 1 ≠ 0 && bitOf (r.safIn o i 4 4) o then
      r.wr .SAF_BLOCK_BLOCK (putBit (r.rd .SAF_BLOCK_BLOCK) o true)
    else r
/-- Diagnostic faults at a closure: DIAG_FAULT, in class L the blocks, and in class S the start or end of degraded mode (R363, R389 to
R391). -/
def Replica.diagStep (r : Replica) : Replica :=
  let now := r.safety.siset / 2 ^ 16
  let old := r.safety.faults
  let new (i : Nat) : Bool := bitOf now i && !bitOf old i
  let fresh := (List.range 16).any new
  let r := (r.wr .SAF_DEG_FAULTS now).withSafety fun x => { x with faults := now }
  let r := if fresh then (r.safEvent .SAF_EVENT_DIAG_FAULT 0xFF).blockScope new else r
  if now = 0 then
    ((r.wr .SAF_STATUS_DEGRADED 0).wr .SAF_DEG_REMAIN 0).withSafety fun x => { x with expired := false }
  else if !r.classL && r.rd .SAF_STATUS_DEGRADED = 0 && !r.safety.expired then
    (((r.wr .SAF_STATUS_DEGRADED 1).wr .SAF_DEG_REMAIN (r.safH 16 1 * 60)).safEvent .SAF_EVENT_DEG_ENTER 0xFF).withSafety fun x => { x with degTicks := 0 }
  else r

end Sys2Proof.Machine
end

