-- ==== Sys2Proof/Machine/Outlet.lean ====
section
/-! DEFINITION. Outlet states and their transitions, what the dispenser is sent, and the safety evaluation at a closure
(R291, R301 to R314, R369 to R380). -/
namespace Sys2Proof.Machine

/-! ### Sending on a dispenser link (R288, R291) -/

def Replica.dl (r : Replica) (d : Nat) : DispLink := vget r.disps d {}
def Replica.setDl (r : Replica) (d : Nat) (x : DispLink) : Replica := { r with disps := vput r.disps d x }

def dsDown : Nat := 0
def dsHello : Nat := 1
def dsAuth : Nat := 2
def dsConfig : Nat := 3
def dsActive : Nat := 4
def dsFault : Nat := 5
def dsDisabled : Nat := 6
def Replica.dstate (r : Replica) (d : Nat) : Nat := r.rd .DLK_LSTATE_STATE d

/-- A PDU goes out with the next SEQ, on both lanes or on the one named. -/
def Replica.dlpOut (r : Replica) (d type outlet flags : Nat) (body : List Nat) (lane : Option Pav) : Replica :=
  let x := r.dl d
  let b := x.seqNo :: outlet :: flags :: body
  let r := r.setDl d { x with seqNo := (x.seqNo + 1) % 2 ^ 32, sentA := x.sentA || lane ≠ some .B, sentB := x.sentB || lane ≠ some .A }
  match lane with
  | none => r.send (.dlp d type b)
  | some p => r.send (.dlpLane p d type b)

/-- A REL PDU: it waits while one of its TYPE and OUTLET is unacknowledged (R291). -/
def Replica.dlpSend (r : Replica) (d type outlet : Nat) (body : List Nat) (lane : Option Pav := none) : Replica :=
  let x := r.dl d
  let p : OutPdu := { seq := x.seqNo, type, outlet, body, lane, left := r.rd .DLK_CTRL_RCNT }
  if x.unacked.any fun q => q.type = type && q.outlet = outlet && q.lane = lane then r.setDl d { x with waiting := x.waiting ++ [p] }
  else (r.setDl d { x with unacked := x.unacked ++ [p] }).dlpOut d type outlet 1 body lane

/-- A PDU for one outlet. -/
def Replica.outSend (r : Replica) (o type : Nat) (body : List Nat) : Replica := r.dlpSend (o / 2) type (o % 2) body

def pduPilotSet : Nat := 0x11
def pduLockSet : Nat := 0x12
def pduImdSet : Nat := 0x14
def pduHeadMsg : Nat := 0x31
def pduDisplay : Nat := 0x40
def pduCardResult : Nat := 0x43

/-- KIND of an outlet: 0 none, 1 CCS, 2 MCS; and whether the version in use supports it (R299). -/
def Replica.kindOf (r : Replica) (o : Nat) : Nat := r.rd (if o % 2 = 0 then .DLK_LSTATE_KIND0 else .DLK_LSTATE_KIND1) (o / 2)
def Replica.supported (r : Replica) (o : Nat) : Bool := r.kindOf o = 1 || (r.kindOf o = 2 && 2 ≤ r.rd .DLK_LSTATE_VER (o / 2))

/-- DISPLAY names a page when it changes (R294, R313). -/
def Replica.display (r : Replica) (o page : Nat) : Replica :=
  if (r.vs o).page = page then r else (r.setVs o { r.vs o with page }).outSend o pduDisplay [page]

/-! ### Entering a state (R302) -/

/-- The runtime starts a sensor-head session (R322); no passage of the current reaches back over it (R331, T_ZC at most 1,000 ms). -/
def Replica.startHead (r : Replica) (o : Nat) : Replica :=
  let m := r.meter o
  (((r.setMeter o { m with next := 0, frags := [], taken := [], missed := [], highest := none, orphaned := false, keep := 0, idle := 16000 }).setHead o headIdent).wr
    .MET_OBLOCK_BLOCK 0 o).outSend o pduHeadMsg [0x01, 0x01]
/-- A session LOST, or past block 2^30 at an IDLE entry, is started again while the outlet is not energised (R322). -/
def Replica.renewHead (r : Replica) (o st : Nat) : Replica :=
  if r.dstate (o / 2) = dsActive && !r.energised o &&
      (r.head o = headLost || (st = osIdle && r.head o = headStreaming && 2 ^ 30 < (r.meter o).next)) then r.startHead o else r

/-- What the session held is gone: maxima, authorisation and protocol state (R268, R344). Reports of the dispenser and orders of the
host stay. -/
def Replica.endSession (r : Replica) (v : Env) (o : Nat) : Replica :=
  let x := r.vs o
  let r := r.setVs o { conn := x.conn, pilot := x.pilot, pp := x.pp, lock := x.lock, outOfService := x.outOfService, reqNo := x.reqNo,
                       entered := x.entered, page := x.page, pump := x.pump, fan := x.fan, coolTicks := x.coolTicks }
  let r := (r.setCtx 0 (2 * o) none).setCtx 0 (2 * o + 1) none
  let r := ((((r.writeVeh o (0, 0, 0, 0)).wr .CTL_OVTGT_VTGT 0 o).wr .CTL_OILIM_VEHI 0 o).wr .DLK_OSTATE_PROTO 0 o).wr .DLK_OSTATE_PNC 0 o
  (r.setMeter o { r.meter o with pLast := 0, pLastX := 0 }).releaseSlot v o

/-- The new safety set is taken up at an entry into WELD_CHECK, FAULT or UNAVAILABLE (R387). -/
def Replica.adoptSafety (r : Replica) (o : Nat) : Replica := r.setSo o { r.so o with oldSet := false }

/-- What entering a state brings besides the state, the MODE and the event. -/
def Replica.entryEffects (r : Replica) (v : Env) (o old st cause : Nat) : Replica :=
  let x := r.vs o
  if st = osPlugged then
    let r := (r.setVs o { x with pluggedAt := v.ticks }).display o 1
    if r.kindOf o = 1 then r.outSend o pduPilotSet [2] else r
  else if st = osCableCheck then
    let volts := vget r.alloc.vCap o 0 / 32768
    let r := (r.reserveSlot v o).wr .CTL_OVTGT_VTGT volts o
    let r := r.setVs o { r.vs o with testV := volts, imd := none, imdFresh := false, wantPre := false, wantPower := none }
    let r := r.setSo o { r.so o with weld := .pre 0, preOk := false, isoOk := false, reports := [], ovRun := 0, hot := 0 }
    r.outSend o pduImdSet (1 :: [volts / 4 % 256, volts / 1024])
  else if st = osPrecharge then r.outSend o pduImdSet (2 :: [x.testV / 4 % 256, x.testV / 1024])
  else if st = osCharging then r.openTrans v o (if x.held then x.kind else 0) x.ident x.href
  else if st = osWeldCheck then (r.closeTrans v o 1 (r.rd .DLK_OSTATE_CAUSE o)).adoptSafety o
  else if st = osUnplugWait then r.endSession v o
  else if st = osIdle then
    let r := if old = osPlugged || old = osNegotiating then
        let r := if r.kindOf o = 1 then r.outSend o pduPilotSet [1] else r
        if x.lockCmd then r.outSend o pduLockSet [0] else r
      else r
    r.endSession v o
  else if st = osFault then
    let r := if old = osCharging || old = osStopping then r.closeTrans v o 1 cause else r
    let r := if r.gateOf o && !(r.so o).clearing then r.setSo o { r.so o with clearing := true, zcRun := 0 } else r
    (r.releaseSlot v o).adoptSafety o
  else if st = osUnavailable then (r.endSession v o).adoptSafety o
  else r

/-- A transition of R302 at its log position. Leaving FAULT clears the outlet's SAF_STOP bit (R377) and the weld failure on record (R375; log
entry 197). -/
def Replica.goto (r : Replica) (v : Env) (o st : Nat) (cause : Option Nat := none) : Replica :=
  let old := r.ostate o
  let r := if old = osFault && st ≠ osFault then
      (r.wr .SAF_STOP_STOP (putBit (r.rd .SAF_STOP_STOP) o false)).setSo o { r.so o with weldFailed := false }
    else r
  let r := r.setOstate v o st cause
  let r := r.setOut o { r.out o with faultDue := none, stopRun := 0 }
  let r := r.setSo o { r.so o with unlockSent := false }
  ((r.entryEffects v o old st (cause.getD 0)).renewHead o st).moveSafety v o

def Replica.grantCc (r : Replica) (o : Nat) : Bool := bitOf (r.rd .SAF_GRANT_CC_GRANT) o
def Replica.grantPc (r : Replica) (o : Nat) : Bool := bitOf (r.rd .SAF_GRANT_PC_GRANT) o
def Replica.grantCh (r : Replica) (o : Nat) : Bool := bitOf (r.rd .SAF_GRANT_CH_GRANT) o

/-- Authorisation (R313), with the start button where START_REQ asks for it. -/
def Replica.authorised (r : Replica) (o : Nat) : Bool := (r.vs o).held || r.rd .DLK_OPROT_FREE o = 1
def Replica.startMet (r : Replica) (o : Nat) : Bool := r.authorised o && (r.rd .DLK_OPROT_START_REQ o = 0 || (r.vs o).startBtn)

/-- IMD_STATE 0 or 1 with R_ISO ≥ ISO_FAULT × U_T (R372). -/
def Replica.isoGood (r : Replica) (o : Nat) : Bool :=
  match (r.vs o).imd with
  | some (st, iso) => st ≤ 1 && r.safOut o 10 2 * (r.vs o).testV ≤ iso * 40
  | none => false
/-- R_ISO below ISO_WARN × U_T. -/
def Replica.isoLow (r : Replica) (o iso : Nat) : Bool := decide (iso * 40 < r.safOut o 8 2 * (r.vs o).testV)

/-- Fresh v_out within PRE_TOL of the vehicle's voltage. -/
def Replica.preTol (r : Replica) (o volts : Nat) : Bool :=
  let a := r.rd .CTL_OVOUT_VOUT o
  let b := volts * 32768
  (r.out o).freshNow && decide (max a b - min a b ≤ qVolt (r.rd .DLK_OTIME2_PRE_TOL o))

/-- The transitions of R302 that a log entry about the outlet may complete. -/
def Replica.advance (r : Replica) (v : Env) (o : Nat) : Replica :=
  let x := r.vs o
  let st := r.ostate o
  if st = osPlugged then (if x.linkUp && x.shook then r.goto v o osNegotiating else r)
  else if st = osNegotiating then
    let r := r.meterReady o
    if r.rd .MET_OSTATE_NRC o = 1 then r.display o 8
    else if r.startMet o && x.params && !x.lockCmd then (r.setVs o { x with lockCmd := true }).outSend o pduLockSet [1]
    else r
  else if st = osCableCheck then
    if (r.so o).isoOk && x.wantPre && r.grantPc o then r.goto v o osPrecharge else r
  else if st = osPrecharge then
    match x.wantPower with
    | some volts => if r.preTol o volts && r.grantCh o then r.goto v o osCharging else r
    | none => r
  else r

/-- NEGOTIATING to CABLE_CHECK at a tick meeting R263: the Parterre taken up names a group for the outlet, HOLD_START is clear, and
there is no fallback. -/
def Replica.negotiationTick (r : Replica) (v : Env) (o : Nat) : Replica :=
  let x := r.vs o
  let r := if r.ostate o = osNegotiating then r.advance v o else r
  if r.ostate o = osNegotiating && r.startMet o && x.params && r.rd .MET_OSTATE_READY o = 1 && x.lock = some 1 && !r.alloc.fallback &&
      r.alloc.part.groups.toList.contains o && !(r.entry o).holdStart && r.grantCc o then r.goto v o osCableCheck
  else r

/-! ### Weld results (R378 to R380) -/

/-- A result: 1 pass, 2 fail, 3 inconclusive. -/
def Replica.weldResult (r : Replica) (v : Env) (o res : Nat) : Replica :=
  let st := r.ostate o
  let r := (r.wr .SAF_OTRIP_WELD res o).setSo o { r.so o with weld := .idle, weldFailed := res = 2 || ((r.so o).weldFailed && res = 3) }
  if res = 2 then
    let r := r.safEvent .SAF_EVENT_WELD_FAIL o
    if st = osFault then (if ocLatching (r.rd .DLK_OSTATE_CAUSE o) then r else r.wr .DLK_OSTATE_CAUSE ocWelded o)
    else r.goto v o osFault (some ocWelded)
  else
    let r := r.wr .DLK_OSTATE_WELD_OWED (decide (res = 3)).toNat o
    if st = osWeldCheck then r.goto v o (if (r.vs o).conn then osUnplugWait else osIdle) else r

/-- WT_TIME is over (R379). -/
def execPostOpenTestEnd (o : Outlet) (s : State) : Result :=
  s.onLog fun t r =>
    match (r.so o).weld with
    | .comparing l => r.weldResult t.env o (if l.length = 2 && l.all id then 2 else 3)
    | _ => r

/-- One registered head block in the weld checks: the mean head voltage against the mean fresh v_out of the block, all of it times the
number of fresh periods and headDen. -/
def Replica.weldBlock (r : Replica) (v : Env) (o : Nat) (head : Int) (vSum n : Nat) : Replica :=
  let den := n * headDen
  let diff := qVolt (r.safHO o 20 2) * den
  let vmin := qVolt (r.safHO o 22 2) * den
  let mean := head * n
  let vOut : Int := (vSum * headDen : Nat)
  let d := max mean vOut - min mean vOut
  match (r.so o).weld with
  | .pre run =>
    if vOut < vmin + diff then r.setSo o { r.so o with weld := .pre 0 }
    else if mean + diff ≤ vOut then
      let r := r.setSo o { r.so o with weld := .idle, preOk := true }
      let r := match r.channelOf o with
        | some c => r.withSafety fun x => { x with gates := putBit x.gates c true }
        | none => r
      (r.wr .DLK_OSTATE_WELD_OWED 0 o).wr .SAF_OTRIP_WELD 1 o
    else if d < diff then (if run = 1 then r.weldResult v o 2 else r.setSo o { r.so o with weld := .pre (run + 1) })
    else r.setSo o { r.so o with weld := .pre 0 }
  | .comparing l =>
    if diff ≤ d then r.weldResult v o 1
    else r.setSo o { r.so o with weld := .comparing ((decide (vmin ≤ max mean vOut) :: l).take 2) }
  | _ => r

/-- R209 on one block: a run of BLK bad blocks declares the disagreement. Both sides of the comparison are taken times 100,000, the number of
fresh periods and headDen. -/
def Replica.xcheckBlock (r : Replica) (v : Env) (o : Nat) (head : Int) (vSum : Nat) (iSum : Int) (n : Nat) : Replica :=
  if r.mode o < 1 || 4 < r.mode o then r
  else
    let dev : Int := (vSum * headDen * 100000 : Nat) - iSum * (r.rd .CTL_ORBUS_RBUS o * 32 * headDen : Nat) - head * (n * 100000 : Nat)
    let bad := decide (r.rd .CTL_XCHK_TOL * vSum * headDen * 100 + qVolt (r.rd .CTL_XCHK_OFS) * n * headDen * 100000 < dev.natAbs)
    let run := if bad then (r.so o).badRun + 1 else 0
    let r := r.setSo o { r.so o with badRun := run }
    if bad && run = r.rd .CTL_XCHK_BLK then (r.raise .CTL_EVENT_VOLTAGE_DISAGREE).openRamp v o coDisagree none else r

/-! ### The evaluation at a closure (R357, R369 to R375) -/

/-- v_out and i_out of this closure enter the block means (R209, R378). -/
def Replica.safetySample (r : Replica) (o : Nat) : Replica :=
  if (r.out o).freshNow then
    let x := r.so o
    r.setSo o { x with vSum := x.vSum + r.rd .CTL_OVOUT_VOUT o, iSum := x.iSum + signed 32 (r.rd .CTL_OIOUT_IOUT o), vN := x.vN + 1 }
  else r

/-- The overvoltage threshold of R371, times 100. -/
def Replica.ovLimit (r : Replica) (o : Nat) : Nat :=
  let st := r.ostate o
  if st = osCableCheck || st = osCommission then (r.rd .CTL_OVTGT_VTGT o * 32768 + qVolt (r.safOut o 6 2)) * 100
  else r.rd .CTL_OVEHV_VMAX o * 32768 * (100 + r.safOut o 4 1)

/-- SF4 on the cabinet side, and the zero-current run of R377. -/
def Replica.runStep (r : Replica) (o : Nat) : Replica :=
  if !(r.out o).freshNow then r
  else
    let x := r.so o
    let above := decide (r.ovLimit o < r.rd .CTL_OVOUT_VOUT o * 100)
    let gs := r.groupsOf o
    let zc := gs.all fun g => r.rd .CTL_GFEED_FRESH g = 1 && (r.grp g).iph.all fun i => i.natAbs ≤ r.rd .STG_ZC_ZC_LIM
    r.setSo o { x with ovRun := if above && r.energised o then x.ovRun + 1 else 0, zcRun := if zc then x.zcRun + 1 else 0 }

/-- DETAIL of a demand: the input's number, or where a diagnostic fault stands for it 0x17 in class L, 0x18 once DEG_TIME has run out. -/
def Replica.inputDetail (r : Replica) (i : Nat) : Nat :=
  if !bitOf r.safety.siset (16 + i) then i else if r.classL then 0x17 else if r.safety.expired then 0x18 else i
def Replica.inputTriggers (r : Replica) (o func sf cause : Nat) : List (Nat × Nat × Nat) :=
  ((r.demanding o func).take 1).map fun i => (sf, r.inputDetail i, cause)

/-- The triggers present at a closure: inputs, overvoltage, temperature, and those reported since the last one. -/
def Replica.triggers (r : Replica) (o : Nat) (head : List Int) : List (Nat × Nat × Nat) :=
  let x := r.so o
  let en := r.energised o
  r.inputTriggers o 1 1 ocSafetyTrip ++ r.inputTriggers o 2 5 ocIsolation ++ r.inputTriggers o 3 6 ocSafetyTrip ++
    (if en && r.safOut o 5 1 ≤ x.ovRun && 0 < x.ovRun then [(4, 0x14, ocSafetyTrip)] else []) ++
    (if en && head.any (fun m => decide ((r.ovLimit o * headDen : Nat) < m * 100)) then [(4, 0x15, ocSafetyTrip)] else []) ++
    (if 2 ≤ x.hot then [(6, 0x13, ocSafetyTrip)] else []) ++ x.reports

/-- T_COND is known and at least 5 K below T_CONN_MAX where SF6SRC takes it (R373). -/
def Replica.condOk (r : Replica) (o : Nat) : Bool :=
  if r.safOut o 1 1 = 0 || r.safOut o 1 1 = 2 then
    match (r.so o).tCond with | some t => decide (t < signed 16 (r.safOut o 2 2) - 50) | none => false
  else true

/-- The conditions of the grants (R375). The head voltage, the lock, the plug and the temperature bind the CABLE_CHECK grant alone: a
closed contactor would otherwise bar every later one (DEDUCED, log entry 52). -/
def Replica.grantBase (r : Replica) (o : Nat) : Bool :=
  let x := r.so o
  r.rd .SAF_STATUS_CONF = 1 && r.inService o && !bitOf (r.rd .SAF_BLOCK_BLOCK) o && !x.trigger &&
    (r.classL || r.rd .SAF_STATUS_DEGRADED = 0) && x.checkOk && !x.weldFailed && !r.stopped o
def Replica.grantStart (r : Replica) (o : Nat) : Bool :=
  let s := r.vs o
  (match (r.so o).headV with | some h => decide (h ≤ (qVolt (r.safHO o 14 1) * headDen : Nat)) | none => false) && s.lock = some 1 && s.conn &&
    (r.kindOf o ≠ 1 || s.pilot = 3 || s.pilot = 4) && r.condOk o
def Replica.grants (r : Replica) (o : Nat) : Replica :=
  let cc := r.grantBase o && r.grantStart o
  let pc := r.grantBase o && (r.so o).preOk && r.gateOf o && (r.so o).isoOk
  let ch := pc && r.isoGood o && (r.vs o).imdFresh && (r.so o).ovRun = 0
  ((r.wr .SAF_GRANT_CC_GRANT (putBit (r.rd .SAF_GRANT_CC_GRANT) o cc)).wr .SAF_GRANT_PC_GRANT (putBit (r.rd .SAF_GRANT_PC_GRANT) o pc)).wr
    .SAF_GRANT_CH_GRANT (putBit (r.rd .SAF_GRANT_CH_GRANT) o ch)

/-- The unlock of R370: the bit follows the taken-up gate and the head voltage, and the runtime sends LOCK_SET while the outlet waits. -/
def Replica.unlockStep (r : Replica) (o : Nat) : Replica :=
  let ok := r.rd .SAF_OTRIP_GATE o = 0 && match (r.so o).headV with | some h => decide (h ≤ (qVolt (r.safHO o 14 1) * headDen : Nat)) | none => false
  let r := r.wr .SAF_UNLOCK_UNLOCK (putBit (r.rd .SAF_UNLOCK_UNLOCK) o ok)
  if ok && r.ostate o = osUnplugWait && !(r.so o).unlockSent then (r.setSo o { r.so o with unlockSent := true }).outSend o pduLockSet [0] else r

/-- Degraded overcurrent (R391): every fresh frame period of this tick above (DEG_PCT + 5) % of I_RATE. -/
def Replica.degSample (r : Replica) (o : Nat) : Replica :=
  if !(r.out o).freshNow then r
  else
    let above := decide (((r.safH 15 1 + 5) * r.cab o 30 2 * 40960 : Int) < signed 32 (r.rd .CTL_OIOUT_IOUT o) * 100)
    r.setSo o { r.so o with degOver := some (above && (r.so o).degOver.getD true) }

/-- One outlet at a closure. -/
def Replica.safetyOutlet (r : Replica) (v : Env) (o : Nat) : Replica :=
  let r := ((r.safetySample o).runStep o).degSample o
  let blocks := (r.so o).headNew
  let r := r.setSo o { r.so o with headNew := [] }
  let r := blocks.foldl (fun r b => match b.2 with
    | some (vo, io, n) => (r.xcheckBlock v o b.1 vo io n).weldBlock v o b.1 vo n
    | none => r) r
  let ts := r.triggers o (blocks.map (·.1))
  let r := r.setSo o { r.so o with trigger := ts ≠ [], reports := [] }
  -- an outlet in STOPPING runs on at the end of DEG_TIME (R394)
  let r := r.trip v o (if r.ostate o = osStopping then ts.filter (·.2.1 ≠ 0x18) else ts)
  let r := if (r.so o).clearing && 2 ≤ (r.so o).zcRun then r.clearGate o else r
  (r.grants o).unlockStep o

/-- Failed channel checks trip every outlet of the bank (R368). -/
def Replica.checkFailures (r : Replica) (v : Env) : Replica :=
  let banks := (r.safety.checkFail.map (· / 8)).eraseDups
  let r := r.withSafety fun x => { x with checkFail := [], bankFail := banks.foldl (fun m b => putBit m b true) x.bankFail }
  let r := if banks = [] then r else r.safEvent .SAF_EVENT_DIAG_FAULT 0xFF
  banks.foldl (fun r b => r.eachOut fun o r => match r.channelOf o with
    | some c => if c / 8 = b then r.trip v o [(2, 0x17, ocSafetyTrip)] else r
    | none => r) r

/-- The safety engine's evaluation: SISET and SRSET as CTL has written them, diagnostics, every outlet, then a press (R357, R364,
R394). -/
def Replica.safetyClosure (r : Replica) (v : Env) (siset srset : Nat) : Replica :=
  let jam := bitOf srset 2 && !bitOf r.safety.srset 2
  let r := r.withSafety fun x => { x with siset, srset }
  let r := if jam then r.safEvent .SAF_EVENT_DIAG_FAULT 0xFF else r
  let r := (r.diagStep).checkFailures v
  let r := r.eachOut fun o r => r.safetyOutlet v o
  if bitOf srset 1 then r.takePress v else r

/-- The gates the common block has taken up (R89, R395). -/
def Replica.gatesTaken (r : Replica) : Replica := r.eachOut fun o r => r.wr .SAF_OTRIP_GATE (r.gateOf o).toNat o

end Sys2Proof.Machine
end

