-- ==== Sys2Proof/Machine/Dispenser.lean ====
section
/-! DEFINITION. Dispenser links, vehicle sessions, the person at the dispenser, and the sensor-head messages a dispenser carries
(R286 to R317, R319 to R322). -/
namespace Sys2Proof.Machine

/-! ### Receiving a PDU (R287 to R292, R294) -/

/-- R290: accepted if above H - 64 and not accepted yet. -/
def DispLink.fresh (x : DispLink) (seq : Nat) : Bool :=
  match x.high with
  | none => true
  | some h => h < seq || (decide (h < seq + 64) && seq ≠ h && !bitOf x.seen (h - 1 - seq))
def DispLink.note (x : DispLink) (seq : Nat) : DispLink :=
  match x.high with
  | none => { x with high := some seq, seen := 0 }
  | some h =>
    if h < seq then { x with high := some seq, seen := (x.seen * 2 ^ (seq - h) + 2 ^ (seq - h - 1)) % 2 ^ 64 }
    else { x with seen := putBit x.seen (h - 1 - seq) true }

/-- A discarded frame is counted (R287, R289). -/
def Replica.countErr (r : Replica) (d : Nat) (lane : Lane) : Replica :=
  let f : Field := match lane with | .A => .DLK_LERR_ERR_A | .B => .DLK_LERR_ERR_B
  r.wr f (r.rd f d + 1) d

/-- ERROR with the offending TYPE and a code; sending or receiving one raises PROTO_ERR (R294, R315). -/
def Replica.sendError (r : Replica) (d type code : Nat) : Replica := (r.dlpOut d 0xFF 0xFF 0 [type, code] none).raise .DLK_EVENT_PROTO_ERR

/-- Lanes in use (R286). -/
def Replica.lanesOf (r : Replica) (d : Nat) : Nat := if r.rd .DLK_LCFG_LANES d = 1 then 1 else 2
def DispLink.authed (x : DispLink) (lane : Lane) : Bool := match lane with | .A => x.authA | .B => x.authB

/-- A lane's place among the lane contexts (R516). -/
def laneIx (d : Nat) (lane : Lane) : Nat := match lane with | .A => 2 * d | .B => 2 * d + 1

/-- Whether R289 lets a PDU pass: 0 accepted, 1 discarded, 2 discarded with AUTH_FAIL. A lane whose
session key is orphaned passes nothing (R507). -/
def Replica.tagRule (r : Replica) (d : Nat) (lane : Lane) (h : DlpHdr) (type : Nat) : Nat :=
  let tagged := bitOf h.flags 2
  let early := type = 0x01 || type = 0x02 || type = 0x03 || type = 0x05 || type = 0xFF
  if r.rd .DLK_CTRL_AUTHREQ = 1 then
    if (r.dl d).authed lane then (if tagged && h.tagOk && (r.ctx 3 (laneIx d lane)).isSome && !r.ctxOrphaned 3 (laneIx d lane) then 0 else 2) else if early then 0 else 1
  else if tagged then 1
  else if early || r.dstate d = dsConfig || r.dstate d = dsActive then 0 else 1

/-- The link becomes ACTIVE: the outlets' sensor heads are started (R300, R322). -/
def Replica.linkActive (r : Replica) (d : Nat) : Replica :=
  let r := (r.wr .DLK_LSTATE_STATE dsActive d).wr .DLK_ACTIVE_ACT (putBit (r.rd .DLK_ACTIVE_ACT) d true)
  [0, 1].foldl (fun r j => if r.supported (2 * d + j) then r.startHead (2 * d + j) else r) r

/-- LINK_CONFIG (R294); COOL_INT and the display language have no register: 1 s and the letters en (log entry 53). -/
def Replica.enterConfig (r : Replica) (d : Nat) : Replica :=
  (r.wr .DLK_LSTATE_STATE dsConfig d).dlpSend d 0x04 0xFF [r.rd .DLK_CTRL_RTO, r.rd .DLK_CTRL_RCNT, 100, 0x65, 0x6E]

/-- An acknowledgement of a PDU the device sent moves the link on (R300), and frees a waiting PDU of its TYPE and OUTLET (R291). -/
def Replica.acked (r : Replica) (d : Nat) (p : OutPdu) : Replica :=
  let x := r.dl d
  let r := r.setDl d { x with unacked := x.unacked.filter fun q => q.seq ≠ p.seq }
  let r :=
    if p.type = 0x02 && r.dstate d = dsHello then
      (if r.rd .DLK_CTRL_AUTHREQ = 1 then r.wr .DLK_LSTATE_STATE dsAuth d else r.enterConfig d)
    else if p.type = 0x04 && r.dstate d = dsConfig then r.linkActive d else r
  match (r.dl d).waiting.find? fun q => q.type = p.type && q.outlet = p.outlet && q.lane = p.lane with
  | none => r
  | some q =>
    let x := r.dl d
    let q' := { q with seq := x.seqNo }
    (r.setDl d { x with waiting := x.waiting.erase q, unacked := x.unacked ++ [q'] }).dlpOut d q.type q.outlet 1 q.body q.lane
def Replica.takeAcks (r : Replica) (d : Nat) (h : DlpHdr) : Replica :=
  ((r.dl d).unacked.filter fun p => p.seq = h.ackSeq || (p.seq < h.ackSeq && h.ackSeq - 1 - p.seq < 32 && bitOf h.ackMap (h.ackSeq - 1 - p.seq))).foldl
    (fun r p => r.acked d p) r

/-- A PDU of a TYPE the device takes: R287 to R290, the minimum version and the length of R294, then its effect. -/
def Replica.dlpIn (r : Replica) (d : Nat) (lane : Lane) (h : DlpHdr) (type minVer : Nat) (lenOk : Bool) (f : Replica → Replica) : Replica :=
  if r.rd .DLK_LCFG_EN_LINK d = 0 || (lane = .B && r.lanesOf d = 1) then r
  else if !h.valid then r.countErr d lane
  else match r.tagRule d lane h type with
    | 1 => r.countErr d lane
    | 2 =>
      let r := if r.ctxOrphaned 3 (laneIx d lane) then r.setCtx 3 (laneIx d lane) none else r
      (r.countErr d lane).raise .DLK_EVENT_AUTH_FAIL
    | _ =>
      let x := r.dl d
      let r := r.setDl d (match lane with | .A => { x with heardA := true } | .B => { x with heardB := true })
      if !(r.dl d).fresh h.seq then r
      else
        let r := (r.setDl d ((r.dl d).note h.seq)).takeAcks d h
        if r.rd .DLK_LSTATE_VER d < minVer then r.sendError d type 2
        else if !lenOk then r.sendError d type 3
        else f r

/-- A PDU row: its lane must be driven, and it is sequenced once (R75, R81, R290). -/
def State.dlp (s : State) (d : DLink) (lane : Lane) (h : DlpHdr) (type minVer : Nat) (lenOk : Bool) (f : Env → Replica → Replica) : Result :=
  s.run fun t => if t.drives lane then { t.onLog (fun r => r.dlpIn d lane h type minVer lenOk (f t.env)) with free := t.free + 1 } else t

/-- The outlet a PDU names, if it names one. -/
def hdrOutlet (d : DLink) (h : DlpHdr) : Option Nat := if h.outlet < 2 then some (2 * d.val + h.outlet) else none
def State.dlpOutlet (s : State) (d : DLink) (lane : Lane) (h : DlpHdr) (type minVer : Nat) (lenOk : Bool)
    (f : Env → Replica → Nat → Replica) : Result :=
  s.dlp d lane h type minVer lenOk fun v r => match hdrOutlet d h with | some o => f v r o | none => r

/-! ### Link states (R300, R292, R293, R304) -/

/-- A link leaves ACTIVE or discovery: its contexts and pending PDUs go. -/
def Replica.linkDown (r : Replica) (d st : Nat) : Replica :=
  let r := (r.wr .DLK_LSTATE_STATE st d).wr .DLK_ACTIVE_ACT (putBit (r.rd .DLK_ACTIVE_ACT) d false)
  let r := (r.setCtx 3 (2 * d) none).setCtx 3 (2 * d + 1) none
  r.setDl d { r.dl d with unacked := [], waiting := [], authA := false, authB := false, unitA := none, unitB := none }

/-- An outlet at LINK_LOST (R302, R304): an energised session stops with DISPENSER_LOST and will owe its weld test; STOPPING and
COMMISSION run to their own end; FAULT stays. -/
def Replica.outletLost (r : Replica) (v : Env) (o : Nat) : Replica :=
  let st := r.ostate o
  let r := if r.head o ≠ headNone then r.setHead o (if r.head o = headStreaming then headStreaming else headNone) else r
  if st = osCableCheck || st = osPrecharge || st = osCharging then
    (r.setVs o { r.vs o with lost := true, lock := none, imd := none }).stopOutlet v o ocDispenserLost
  else if st = osStopping then r.setVs o { r.vs o with lost := true, lock := none, imd := none }
  else if st = osFault || st = osUnavailable then r
  else if st = osCommission then
    ((r.wr .DLK_OSTATE_WELD_OWED 1 o).goto v o osFault (some ocDispenserLost))
  else r.goto v o osUnavailable

def Replica.linkLost (r : Replica) (v : Env) (d : Nat) : Replica :=
  let r := (r.raise .DLK_EVENT_LINK_LOST).linkDown d dsDown
  [0, 1].foldl (fun r j => r.outletLost v (2 * d + j)) r

/-- No valid PDU for SUP (R293). -/
def execDlpSupervisionTimeout (d : DLink) (s : State) : Result :=
  s.onLog fun t r => if r.dstate d = dsDown || r.dstate d = dsDisabled || r.dstate d = dsFault then r else r.linkLost t.env d

/-- FAULT is left for DOWN after 10 s, or at once on RESTART (R300, R316). -/
def execDlkFaultExit (d : DLink) (s : State) : Result := s.onLog fun _ r => if r.dstate d = dsFault then r.linkDown d dsDown else r
def Replica.dlkRestart (r : Replica) (d : Nat) : Replica := if r.dstate d = dsFault then r.linkDown d dsDown else r
def execDlkLinkRestart (d : DLink) (s : State) : Result := s.onLog fun _ r => r.dlkRestart d

/-- A REL PDU is sent again with RETX, or the final failure is declared (R291). -/
def execDlpRetxTimeout (d : DLink) (seq : Nat) (s : State) : Result :=
  s.onLog fun t r =>
    match (r.dl d).unacked.find? fun p => p.seq = seq with
    | none => r
    | some p =>
      if 0 < p.left then
        let x := r.dl d
        let r := r.setDl d { x with unacked := x.unacked.map fun q => if q.seq = seq then { q with left := q.left - 1 } else q,
                                    sentA := x.sentA || p.lane ≠ some .B, sentB := x.sentB || p.lane ≠ some .A }
        let r := r.wr .DLK_LRETX_RETX (r.rd .DLK_LRETX_RETX d + 1) d
        match p.lane with
        | none => r.send (.dlp d p.type (p.seq :: p.outlet :: 3 :: p.body))
        | some l => r.send (.dlpLane l d p.type (p.seq :: p.outlet :: 3 :: p.body))
      else
        let r := r.raise .DLK_EVENT_DLP_FAIL
        if r.dstate d = dsActive then r.linkLost t.env d
        else if r.dstate d = dsDown || r.dstate d = dsDisabled then r else r.linkDown d dsFault

/-- A send point: a KEEPALIVE on every lane silent since the previous one (R292). -/
def Replica.sendPoint (r : Replica) : Replica :=
  (List.range 12).foldl (fun r d =>
    let x := r.dl d
    let live := r.rd .DLK_LCFG_EN_LINK d = 1 && r.dstate d ≠ dsDown && r.dstate d ≠ dsDisabled
    let r := if live && !x.sentA then r.dlpOut d 0x05 0xFF 0 [] (some .A) else r
    let r := if live && !x.sentB && r.lanesOf d = 2 then r.dlpOut d 0x05 0xFF 0 [] (some .B) else r
    r.setDl d { r.dl d with sentA := false, sentB := false }) r
def execDlpSendPoint (s : State) : Result := s.onLog fun _ r => r.sendPoint

/-- A lane's status bit, its event and its journal entry. -/
def Replica.dispLane (r : Replica) (v : Env) (d : Nat) (lane : Lane) (up : Bool) : Replica :=
  let f : Field := match lane with | .A => .DLK_LANEA_UP | .B => .DLK_LANEB_UP
  let x := r.dl d
  let lost := match lane with | .A => x.lostA | .B => x.lostB
  let r := r.wr f (putBit (r.rd f) d up)
  let r := r.setDl d (match lane with | .A => { x with lostA := !up, upA := 0 } | .B => { x with lostB := !up, upB := 0 })
  if up then
    let r := r.raise .DLK_EVENT_LANE_UP
    if lost then r.journal v.now locDispLane d restored reLogged 0 else r
  else (r.raise .DLK_EVENT_LANE_DOWN).fault v.now locDispLane d masked reOtherPath 0

/-- Silent for 30 ms while the other lane has carried (R292). -/
def execDlpLaneDown (d : DLink) (lane : Lane) (s : State) : Result :=
  s.onLog fun t r =>
    if bitOf (r.rd (match lane with | .A => .DLK_LANEA_UP | .B => .DLK_LANEB_UP)) d && r.lanesOf d = 2 then r.dispLane t.env d lane false else r

/-- An interval of a tick: 16 in a row with valid PDUs bring a lane up (R292; the interval is log entry 54). -/
def Replica.laneTick (r : Replica) (v : Env) (d : Nat) : Replica :=
  let x := r.dl d
  let upA := if x.heardA then x.upA + 1 else 0
  let upB := if x.heardB then x.upB + 1 else 0
  let r := r.setDl d { x with upA, upB, heardA := false, heardB := false }
  let r := if 16 ≤ upA && !bitOf (r.rd .DLK_LANEA_UP) d then r.dispLane v d .A true else r
  if 16 ≤ upB && !bitOf (r.rd .DLK_LANEB_UP) d then r.dispLane v d .B true else r

/-! ### Discovery (R298 to R300) -/

/-- HELLO_ACK on its lane, with the challenge of that lane; without authentication, or without a usable slot, KEYREF 0xFF and a zero
challenge (R509; log entry 55). -/
def Replica.helloAck (r : Replica) (v : Env) (d : Nat) (lane : Lane) (ver : Nat) : Replica :=
  let none' := List.replicate 16 0
  let (key, chal) := match r.authSlot 2 with
    | some k => if r.rd .DLK_CTRL_AUTHREQ = 1 then (k, (Config.freeBytes v.free 16).map BitVec.toNat) else (0xFF, none')
    | none => (0xFF, none')
  r.dlpSend d 0x02 0xFF (ver :: key :: chal) (some lane)

/-- A unit other than the one last seen on the link raises NEW_DISPENSER and takes every outlet of the link through UNAVAILABLE; the
first since a whole-device reset does not (R300). -/
def Replica.noteDispenser (r : Replica) (v : Env) (d unit : Nat) : Replica :=
  let x := r.dl d
  let r := r.setDl d { x with lastUnit := some unit }
  if x.lastUnit = none || x.lastUnit = some unit then r
  else
    [0, 1].foldl (fun r j => if r.ostate (2 * d + j) = osFault || r.energised (2 * d + j) then r else r.goto v (2 * d + j) osUnavailable)
      (r.raise .DLK_EVENT_NEW_DISPENSER)

/-- The highest version common to both (R299). -/
def commonVer (a b : Nat) : Nat := let m := a &&& b; if bitOf m 2 then 3 else if bitOf m 1 then 2 else if bitOf m 0 then 1 else 0

def Replica.hello (r : Replica) (v : Env) (d : Nat) (lane : Lane) (h : DlpHdr) (b : List Byte) : Replica :=
  let ver := commonVer (byteAt b 0) (r.rd .DLK_CTRL_VERS)
  let unit := fieldAt b 6 8
  let x := r.dl d
  let other := match lane with | .A => x.unitB | .B => x.unitA
  if r.dstate d = dsFault || r.dstate d = dsDisabled then r
  else if lane = .B && (match other with | some u => u ≠ unit | none => false) then r.raise .DLK_EVENT_LANE_MISMATCH
  else
    let r := r.noteDispenser v d unit
    if (byteAt b 1 = 1) ≠ (r.lanesOf d = 1) then r.linkDown d dsFault
    else if ver = 0 then (r.raise .DLK_EVENT_NO_VERSION).linkDown d dsFault
    else
      let r := if lane = .A && (match other with | some u => u ≠ unit | none => false) then
          ((r.raise .DLK_EVENT_LANE_MISMATCH).setCtx 3 (2 * d + 1) none).setDl d { r.dl d with unitB := none, authB := false } else r
      let x := { r.dl d with maker := fieldAt b 2 2, model := fieldAt b 4 2, fwVer := fieldAt b 14 2, imax0 := fieldAt b 20 2, imax1 := fieldAt b 22 2 }
      let r := r.setDl d (match lane with | .A => { x with unitA := some unit, srcA := h.src } | .B => { x with unitB := some unit, srcB := h.src })
      let r := (((r.wr .DLK_LSTATE_VER ver d).wr .DLK_LSTATE_KIND0 (byteAt b 16) d).wr .DLK_LSTATE_KIND1 (byteAt b 17) d).wr .DLK_LSTATE_CAPS (fieldAt b 18 2) d
      let r := (r.wr .DLK_LUNIT_LO_UNIT unit d).wr .DLK_LUNIT_HI_UNIT (unit / 2 ^ 32) d
      let r := if r.dstate d = dsDown then r.wr .DLK_LSTATE_STATE dsHello d else r
      if (r.dl d).unacked.any fun p => p.type = 0x02 && p.lane = some lane then r else r.helloAck v d lane ver
def execDlpHello (d : DLink) (lane : Lane) (h : DlpHdr) (body : List Byte) (s : State) : Result :=
  s.dlp d lane h 0x01 0 (body.length = 24) fun v r => r.hello v d lane h body

/-- A verified response authenticates its lane, and acknowledges its HELLO_ACK; once every lane in use has passed, CONFIG (R300). -/
def Replica.authResp (r : Replica) (d : Nat) (lane : Lane) (verified : Bool) : Replica :=
  let r := match (r.dl d).unacked.find? fun p => p.type = 0x02 && p.lane = some lane with | some p => r.acked d p | none => r
  if r.dstate d ≠ dsHello && r.dstate d ≠ dsAuth then r
  else if !verified then (r.raise .DLK_EVENT_AUTH_FAIL).linkDown d dsFault
  else
    let x := r.dl d
    let x := match lane with | .A => { x with authA := true } | .B => { x with authB := true }
    let unit := (match lane with | .A => x.unitA | .B => x.unitB).getD 0
    let r := (r.setDl d x).setCtx 3 (laneIx d lane) (some { cls := 3, slot := (r.authSlot 2).getD 0xFF, peer := unit })
    if x.authA && (x.authB || r.lanesOf d = 1) then r.enterConfig d else r
def execDlpAuthResp (d : DLink) (lane : Lane) (h : DlpHdr) (body : List Byte) (verified : Bool) (s : State) : Result :=
  s.dlp d lane h 0x03 0 (body.length = 16) fun _ r => if r.rd .DLK_CTRL_AUTHREQ = 1 then r.authResp d lane verified else r

/-- KEEPALIVE: its acknowledgements, and supervision (R291 to R293). -/
def execDlpKeepalive (d : DLink) (lane : Lane) (h : DlpHdr) (body : List Byte) (s : State) : Result :=
  s.dlp d lane h 0x05 0 (body.length = 0) fun _ r => r
/-- WAKE in running has no further effect; as a wake source it acts through WAKE_DETECT (R294, R563). -/
def execDlpWake (d : DLink) (lane : Lane) (h : DlpHdr) (body : List Byte) (s : State) : Result :=
  s.dlp d lane h 0x0F 3 (body.length = 1) fun _ r => r
def execDlpError (d : DLink) (lane : Lane) (h : DlpHdr) (body : List Byte) (s : State) : Result :=
  s.dlp d lane h 0xFF 0 (body.length = 2) fun _ r => r.raise .DLK_EVENT_PROTO_ERR

/-- An unknown TYPE is answered with ERROR code 0, one of the wrong direction with code 1; a tagged frame, or one of another EtherType,
is discarded and counted (R287, R294). -/
def execDlpUnknownPdu (d : DLink) (lane : Lane) (h : DlpHdr) (type : Byte) (_body : List Byte) (s : State) : Result :=
  s.dlp d lane h type.toNat 0 true fun _ r =>
    let down := [0x02, 0x04, 0x11, 0x12, 0x14, 0x40, 0x43, 0x51].contains type.toNat
    r.sendError d type.toNat (if down then 1 else 0)

/-! ### The connector, the lock and the insulation monitor (R302, R313, R370, R372, R374) -/

/-- AUTH_REQ to the owner's sessions (R313, R444): kind 1 card, 2 EMAID. -/
def Replica.askOwner (r : Replica) (o : Nat) (pnc : Bool) (ident : List Nat) : Replica :=
  let x := r.vs o
  let q := x.reqNo + 1
  (r.setVs o { x with asked := some (q, pnc, ident), reqNo := q }).eventOwner o evAuthReq ([o, q, if pnc then 2 else 1] ++ ident)

/-- A card presented at an outlet that awaits authorisation: refused at once without an owner (R446), pending otherwise. -/
def Replica.presentCard (r : Replica) (o : Nat) (card : List Nat) : Replica :=
  match vget r.owners o none with
  | none => r.outSend o pduCardResult [1]
  | some _ => (r.outSend o pduCardResult [2]).askOwner o false card

/-- A pre-authorisation card held on the dispenser is used at the plug-in. -/
def Replica.usePreauth (r : Replica) (o : Nat) : Replica :=
  match (r.dl (o / 2)).preauth with
  | none => r
  | some c => (r.setDl (o / 2) { r.dl (o / 2) with preauth := none }).presentCard o c

/-- PLUG (R302, R313, R374). -/
def Replica.plug (r : Replica) (v : Env) (o conn pilot pp : Nat) : Replica :=
  let st := r.ostate o
  let cause := r.rd .DLK_OSTATE_CAUSE o
  let r := r.setVs o { r.vs o with conn := conn ≠ 0, pilot, pp }
  let lost := conn = 0 || (r.kindOf o = 1 && (pilot = 1 || pilot = 5 || pilot = 6))
  let r := if lost && r.energised o then r.report o 7 0x12 ocPlugOutLive else r
  if conn ≠ 0 then
    if st = osIdle then (r.goto v o osPlugged).usePreauth o
    else if st = osUnavailable || (st = osFault && ocLatching cause) then r.display o 9
    else r
  else if st = osPlugged || st = osNegotiating || st = osUnplugWait then r.goto v o osIdle
  else if st = osFault then
    if ocLatching cause then r.display o 9
    else if r.rd .DLK_OSTATE_WELD_OWED o = 1 then
      (if r.dstate (o / 2) = dsActive then (r.goto v o osWeldCheck).setSo o { r.so o with weld := .drop } else r)
    else r.goto v o osIdle
  else r
def execDlpPlug (d : DLink) (lane : Lane) (h : DlpHdr) (body : List Byte) (s : State) : Result :=
  s.dlpOutlet d lane h 0x10 0 (body.length = 4) fun v r o => (r.plug v o (byteAt body 0) (byteAt body 1) (fieldAt body 2 2)).advance v o

/-- LOCK_STATE: a fault in NEGOTIATING is LOCK_FAIL; anything but locked while energised trips SF3 (R302, R369). -/
def Replica.lockState (r : Replica) (v : Env) (o l : Nat) : Replica :=
  let r := r.setVs o { r.vs o with lock := some l }
  if l = 3 && r.ostate o = osNegotiating then r.goto v o osFault (some ocLockFail)
  else if l ≠ 1 && r.energised o then r.report o 3 0x11 ocLockFail
  else r.advance v o
def execDlpLockState (d : DLink) (lane : Lane) (h : DlpHdr) (body : List Byte) (s : State) : Result :=
  s.dlpOutlet d lane h 0x13 0 (body.length = 1) fun v r o => r.lockState v o (byteAt body 0)

/-- IMD_STATE (R372). -/
def Replica.imdState (r : Replica) (v : Env) (o st iso : Nat) : Replica :=
  let r := r.setVs o { r.vs o with imd := some (st, iso), imdFresh := true }
  let os := r.ostate o
  let monitored := os = osPrecharge || os = osCharging || os = osStopping
  if !r.energised o then r
  else if st = 2 || decide (iso * 40 < r.safOut o 10 2 * (r.vs o).testV) && st ≤ 1 then r.report o 5 0x10 ocIsolation
  else if st = 3 then (if monitored then r.report o 5 0x16 ocSafetyTrip else r)
  else if os = osCableCheck && r.isoGood o then
    let r := if r.isoLow o iso && !(r.so o).isoOk then r.safEvent .SAF_EVENT_ISO_WARNING o else r
    (r.setSo o { r.so o with isoOk := true }).advance v o
  else r.advance v o
def execDlpImdState (d : DLink) (lane : Lane) (h : DlpHdr) (body : List Byte) (s : State) : Result :=
  s.dlpOutlet d lane h 0x15 0 (body.length = 5) fun v r o => r.imdState v o (byteAt body 0) (fieldAt body 1 4)

/-! ### The vehicle (R296, R306 to R311) -/

/-- A broken protocol: STOPPING from CHARGING, FAULT from any earlier state of the session (R309). -/
def Replica.protocolError (r : Replica) (v : Env) (o : Nat) : Replica :=
  let st := r.ostate o
  if st = osCharging then r.stopOutlet v o ocProtocolError
  else if st = osPlugged || st = osNegotiating || st = osCableCheck || st = osPrecharge then r.goto v o osFault (some ocProtocolError) else r

/-- The precharge target becomes VTGT in PRECHARGE (R201). -/
def Replica.preTarget (r : Replica) (o volts : Nat) : Replica := if r.ostate o = osPrecharge then r.wr .CTL_OVTGT_VTGT volts o else r
/-- The protocol chosen in the handshake: the first of ISO 15118-20, ISO 15118-2, DIN SPEC 70121 that both enable; an MCS outlet knows
ISO 15118-20 alone (R306). 0 is none. -/
def Replica.chooseProto (r : Replica) (o offered : Nat) : Nat :=
  let m := (if r.kindOf o = 2 then offered &&& 1 else offered) &&& r.rd .DLK_OPROT_EN o
  if bitOf m 0 then 1 else if bitOf m 1 then 2 else if bitOf m 2 then 3 else 0

def Replica.vehicle (r : Replica) (v : Env) (o : Nat) (m : VehMsg) : Replica :=
  let x := r.vs o
  if r.ctxOrphaned 0 (2 * o) || r.ctxOrphaned 0 (2 * o + 1) then
    (((r.setCtx 0 (2 * o) none).setCtx 0 (2 * o + 1) none).setVs o { x with contexts := 0 }).protocolError v o
  else match m with
  | .connect =>
    if x.contexts < 2 then (r.setVs o { x with contexts := x.contexts + 1 }).setCtx 0 (2 * o + x.contexts)
      (some { cls := 0, slot := ((r.keyOf 8).orElse fun _ => r.keyOf 9).getD 0xFF, peer := o }) else r
  | .disconnect => (r.setVs o { x with contexts := x.contexts - 1 }).setCtx 0 (2 * o + (x.contexts - 1)) none
  | .handshake offered =>
    let p := r.chooseProto o offered
    if p = 0 then r.protocolError v o else ((r.setVs o { x with shook := true }).wr .DLK_OSTATE_PROTO p o).advance v o
  | .chargeParams pMax iMax vMax iExp =>
    if 2 ≤ r.ostate o && r.ostate o ≤ 6 then
      let r := r.setVs o { x with params := true }
      let bpt := r.rd .DLK_OPROT_BPT o = 1 && 3 ≤ r.rd .DLK_LSTATE_VER (o / 2) && bitOf (r.rd .DLK_LSTATE_CAPS (o / 2)) 3 && 0 < (r.entry o).pExp
      (r.takeMaxima v o (pMax, iMax, vMax, if bpt then iExp else 0)).advance v o
    else r
  | .contract chainOk emaid =>
    let proto := r.rd .DLK_OSTATE_PROTO o
    if chainOk && (proto = 1 || proto = 2) && r.utcSet && (vget r.owners o none).isSome && !x.held then r.askOwner o true emaid else r
  | .certRequest request =>
    match vget r.owners o none with
    | none => r
    | some _ =>
      let q := x.reqNo + 1
      (r.setVs o { x with certAsked := some q, reqNo := q }).eventOwner o evCertReq ([o, q] ++ request)
  | .precharge volts amps =>
    if r.ostate o = osCableCheck then
      (((r.setVs o { x with wantPre := true }).wr .CTL_OILIM_VEHI amps o).advance v o).preTarget o volts
    else if r.ostate o = osPrecharge then (r.preTarget o volts).advance v o else r
  | .powerStart volts => (r.setVs o { x with wantPower := some volts }).advance v o
  | .loop => r.advance v o
  | .stop => r.stopOutlet v o ocVehicleStop
  | .violation => r.protocolError v o
  | .other => r

/-- A vehicle-side frame of 14 to 1,294 bytes, as the communication engine reads it (R296; log entry 56). -/
def execDlpVehFrame (d : DLink) (lane : Lane) (h : DlpHdr) (len : Nat) (msg : VehMsg) (s : State) : Result :=
  s.dlpOutlet d lane h 0x20 0 (decide (14 ≤ len) && decide (len ≤ 1294)) fun v r o => r.vehicle v o msg
/-- VEH_LINK (R302). -/
def execDlpVehLink (d : DLink) (lane : Lane) (h : DlpHdr) (body : List Byte) (s : State) : Result :=
  s.dlpOutlet d lane h 0x21 0 (body.length = 2) fun v r o => (r.setVs o { r.vs o with linkUp := byteAt body 0 = 1 }).advance v o

/-! ### Buttons and cards (R303, R313, R314) -/

/-- An outlet awaits authorisation in PLUGGED or NEGOTIATING. -/
def Replica.awaits (r : Replica) (o : Nat) : Bool := (r.ostate o = osPlugged || r.ostate o = osNegotiating) && !(r.authorised o)
/-- The outlet a card, or a button for the dispenser as a whole, applies to. -/
def Replica.target (r : Replica) (v : Env) (d : Nat) (h : DlpHdr) : Option Nat :=
  if h.outlet < 2 then some (2 * d + h.outlet)
  else
    let wait := match r.awaits (2 * d), r.awaits (2 * d + 1) with
      | true, true => some (if (r.vs (2 * d + 1)).pluggedAt < (r.vs (2 * d)).pluggedAt then 2 * d + 1 else 2 * d)
      | true, false => some (2 * d)
      | false, true => some (2 * d + 1)
      | false, false => none
    match (r.dl d).selected with
    | some (j, at') => if v.ticks - at' ≤ 30 * 200000000 then some (2 * d + j) else wait
    | none => wait

def Replica.button (r : Replica) (v : Env) (d : Nat) (h : DlpHdr) (key : Nat) : Replica :=
  if key = 3 || key = 4 then r.setDl d { r.dl d with selected := some (key - 3, v.ticks) }
  else match r.target v d h with
    | none => r
    | some o =>
      if key = 1 && r.ostate o = osNegotiating && r.authorised o then (r.setVs o { r.vs o with startBtn := true }).advance v o
      else if key = 2 then r.stopOutlet v o ocButton else r
def execDlpButton (d : DLink) (lane : Lane) (h : DlpHdr) (body : List Byte) (s : State) : Result :=
  s.dlp d lane h 0x41 0 (body.length = 1) fun v r => r.button v d h (byteAt body 0)

/-- An outlet in CABLE_CHECK to CHARGING that this card authorised. -/
def Replica.authorisedBy (r : Replica) (o : Nat) (card : List Nat) : Bool :=
  4 ≤ r.ostate o && r.ostate o ≤ 6 && (r.vs o).held && (r.vs o).kind = 1 && (r.vs o).ident = card

def Replica.card (r : Replica) (v : Env) (d : Nat) (h : DlpHdr) (card : List Nat) : Replica :=
  let cands := match r.target v d h with | some o => [o] | none => [2 * d, 2 * d + 1]
  match cands.find? fun o => r.authorisedBy o card with
  | some o => r.stopOutlet v o ocCard
  | none =>
    match cands.find? r.awaits with
    | some o => if (r.vs o).asked.isSome then r else r.presentCard o card
    | none =>
      if !(r.vs (2 * d)).conn && !(r.vs (2 * d + 1)).conn then r.setDl d { r.dl d with preauth := some card }
      else match cands.find? fun o => r.energised o && !((r.vs o).held && (r.vs o).kind = 1 && (r.vs o).ident = card) with
        | some o => r.outSend o pduCardResult [1]
        | none => r
def execDlpCard (d : DLink) (lane : Lane) (h : DlpHdr) (body : List Byte) (s : State) : Result :=
  s.dlp d lane h 0x42 0 (decide (6 ≤ body.length) && body.length = 2 + byteAt body 1 && decide (byteAt body 1 ≤ 10)) fun v r =>
    r.card v d h ((body.drop 2).map BitVec.toNat)

/-- No answer within 10 s refuses the card; an EMAID goes on under EIM (R313). -/
def execCardAnswerTimeout (o : Outlet) (s : State) : Result :=
  s.onLog fun _ r => match (r.vs o).asked with
    | some (_, pnc, _) =>
      let r := r.setVs o { r.vs o with asked := none }
      if pnc then r else r.outSend o pduCardResult [1]
    | none => r
/-- No answer within 30 s: the certificate request is reported as failed and the session goes on under EIM (R311). -/
def execCertAnswerTimeout (o : Outlet) (s : State) : Result := s.onLog fun _ r => r.setVs o { r.vs o with certAsked := none }
/-- A pre-authorisation lapses after 60 s (R313). -/
def execPreauthExpiry (d : DLink) (s : State) : Result := s.onLog fun _ r => r.setDl d { r.dl d with preauth := none }

/-! ### Coolant (R297, R312, R280, R373) -/

def Replica.coolStatus (r : Replica) (o : Nat) (b : List Byte) : Replica :=
  let cond := fieldAt b 6 2
  let bad := fieldAt b 10 2 % 32 ≠ 0
  let old := vget r.alloc.coolant o {}
  let r := if bad && !old.pumpFault then r.raise .DLK_EVENT_COOL_FAULT else r
  let tm : Option Int := if cond = 0x8000 then none else some (signed 16 cond)
  let c : Coolant := { valid := true, supply := signed 16 (fieldAt b 0 2), ret := signed 16 (fieldAt b 2 2), flow := fieldAt b 4 2,
                       pumpFault := bad, tMeas := tm, age := 0, stale := false }
  let r := r.withAlloc fun a => { a with coolant := vput a.coolant o c }
  let hot := match tm with
    | some t => decide (signed 16 (r.safOut o 2 2) ≤ t) && r.inService o && (r.safOut o 1 1 = 0 || r.safOut o 1 1 = 2)
    | none => false
  r.setSo o { r.so o with tCond := tm, hot := if hot then (r.so o).hot + 1 else 0 }
def execDlpCoolStatus (d : DLink) (lane : Lane) (h : DlpHdr) (body : List Byte) (s : State) : Result :=
  s.dlpOutlet d lane h 0x50 2 (body.length = 12) fun _ r o => r.coolStatus o body

/-- FLOW below F_MIN for 2 s with the pump on counts as no flow (R312). -/
def execCoolFlowLow (o : Outlet) (s : State) : Result :=
  s.onLog fun _ r =>
    let c := vget r.alloc.coolant o.val {}
    if c.flow < r.cab o 24 2 && (match (r.vs o).pump with | some p => 0 < p | none => false) && !c.pumpFault then
      (r.raise .DLK_EVENT_COOL_FAULT).withAlloc fun a => { a with coolant := vput a.coolant o.val { c with pumpFault := true } }
    else r

/-- COOL_SET at a tick (R312), for an outlet with a coolant loop; temperatures in 0.1 °C. -/
def Replica.coolTick (r : Replica) (o : Nat) : Replica :=
  if !bitOf (r.rd .DLK_LSTATE_CAPS (o / 2)) 0 || r.dstate (o / 2) ≠ dsActive || !r.supported o then r
  else
    let tc : Int := (vget r.alloc.tc o none).getD (r.coolNow o).1
    let ton : Int := (r.rd .DLK_OCOOL_T_ON o * 10 : Nat)
    let fon : Int := (r.rd .DLK_OCOOL_F_ON o * 10 : Nat)
    let ffull : Int := (r.rd .DLK_OCOOL_F_FULL o * 10 : Nat)
    let c := vget r.alloc.coolant o {}
    let tret : Int := if c.valid && !c.stale then c.ret else signed 16 (r.cab o 28 2)
    let span : Nat := (max 1 (signed 16 (r.cab o 10 2) - 50 - ton)).toNat
    let idle := r.rd .DLK_OCOOL_P_IDLE o
    let pump : Nat := if (r.ostate o = osIdle || r.ostate o = osUnavailable) && tc < ton * 100 then 0
      else idle + roundDiv ((100 - idle) * min (span * 100) (tc - ton * 100).toNat) (span * 100)
    let width := (max 1 (ffull - fon)).toNat
    let fan : Nat := roundDiv (100 * min width (tret - fon).toNat) width
    let x := r.vs o
    let far (a b : Nat) : Bool := 2 ≤ max a b - min a b
    let due := match x.pump with | none => true | some p => far p pump || far x.fan fan || 99 ≤ x.coolTicks
    if due then (r.setVs o { x with pump := some pump, fan, coolTicks := 0 }).outSend o 0x51 [pump, fan]
    else r.setVs o { x with coolTicks := x.coolTicks + 1 }

/-! ### Timers of the outlet states (R302, R309, R376) -/

def execTLinkExpiry (o : Outlet) (s : State) : Result :=
  s.onLog fun t r => if r.ostate o = osPlugged then r.goto t.env o osFault (some ocNoVehicleLink) else r
/-- T_AUTH waits for authorisation; it also ends a wait for a full legal log or a withheld grant (R302, R314; log entry 195). -/
def execTAuthExpiry (o : Outlet) (s : State) : Result :=
  s.onLog fun t r => if r.ostate o = osNegotiating && (!r.startMet o || r.rd .MET_OSTATE_NRC o = 1 || !r.grantCc o) then r.goto t.env o osUnplugWait (some ocAuthTimeout) else r
def execTLockExpiry (o : Outlet) (s : State) : Result :=
  s.onLog fun t r =>
    if r.ostate o = osNegotiating && (r.vs o).lockCmd && (r.vs o).lock ≠ some 1 then r.goto t.env o osFault (some ocLockFail) else r
def execTCcExpiry (o : Outlet) (s : State) : Result :=
  s.onLog fun t r => if r.ostate o = osCableCheck then r.goto t.env o osFault (some ocCableCheckTimeout) else r
def execTPreExpiry (o : Outlet) (s : State) : Result :=
  s.onLog fun t r => if r.ostate o = osPrecharge then r.goto t.env o osFault (some ocPrechargeTimeout) else r
/-- No valid charge-loop request for T_LOOP (R309). -/
def execTLoopExpiry (o : Outlet) (s : State) : Result :=
  s.onLog fun t r => if r.ostate o = osCharging then r.stopOutlet t.env o ocProtocolTimeout else r
/-- A sequence timeout of the protocol in use (R309). -/
def execProtocolSequenceTimeout (o : Outlet) (s : State) : Result := s.onLog fun t r => r.stopOutlet t.env o ocProtocolTimeout

/-- The end of STOPPING: WELD_CHECK, or after LINK_LOST FAULT with the weld test owed (R302, R304). -/
def Replica.endStopping (r : Replica) (v : Env) (o : Nat) : Replica :=
  if (r.vs o).lost then (r.wr .DLK_OSTATE_WELD_OWED 1 o).goto v o osFault (some ocDispenserLost) else r.goto v o osWeldCheck

/-- i_out ≤ I_STOP in 4 consecutive fresh frame periods: the gate is cleared and STOPPING ends (R302, R376). A trip under way replaces
it (R394). -/
def execStopCurrentReached (o : Outlet) (s : State) : Result :=
  s.onLog fun t r =>
    if r.ostate o = osStopping && 4 ≤ (r.out o).stopRun && !r.stopped o then (r.clearGate o).endStopping t.env o else r
/-- T_STOP lapses: STOP under SF2, and the transition follows (R302, R376; log entry 57). -/
def execTStopExpiry (o : Outlet) (s : State) : Result :=
  s.onLog fun t r =>
    if r.ostate o = osStopping && !r.stopped o then (r.trip t.env o [(2, 0xFF, 0)]).endStopping t.env o else r

/-! ### Sensor-head messages (R319 to R322, R295, R323) -/

def execDlpHeadBlock (d : DLink) (lane : Lane) (h : DlpHdr) (body : List Byte) (macOk : Bool) (s : State) : Result :=
  s.dlpOutlet d lane h 0x30 0 (decide (5 ≤ body.length) && decide (body.length ≤ 197)) fun v r o => r.headFragment v o body macOk

/-- Refusal of a head on one of the grounds of R320: REFUSED with its event and legal entry. -/
def Replica.refuseHead (r : Replica) (v : Env) (o unit ground : Nat) : Replica :=
  ((r.raise .MET_EVENT_HEAD_REFUSED).setHead o headRefused).legalEvent v 0x06 o (r.txOf o) (leBytes 8 unit ++ leBytes 1 (Config.refusalCode ground).toNat)

/-- The slot KEYREF names in the outlet's record, while it can authenticate a head (R509). -/
def Replica.headKey (r : Replica) (o : Nat) : Option Nat :=
  let k := fieldAt (r.meter o).record 20 1
  if r.keyUsage k = 14 && r.keyUsable k then some k else none
/-- HEAD_CHAL; with no usable slot the session stays in IDENT (R509). -/
def Replica.headChal (r : Replica) (v : Env) (o : Nat) : Replica :=
  match r.headKey o with
  | some k => (r.setHead o headAuth).outSend o pduHeadMsg (0x02 :: k :: (Config.freeBytes v.free 16).map BitVec.toNat)
  | none => r

/-- HEAD_IDENT (Table MET-2): refused under R320, otherwise HEAD_CHAL with the record's KEYREF. -/
def Replica.headIdentMsg (r : Replica) (v : Env) (o : Nat) (b : List Byte) : Replica :=
  let r := r.adoptMeter v o
  let m := r.meter o
  let unit := fieldAt b 6 8
  let vl := fieldAt b 16 4
  let il := fieldAt b 20 4
  let bound := fieldAt m.record 12 8
  if r.head o ≠ headIdent then r
  else if byteAt b 1 = 0 then r.refuseHead v o unit 0
  else if fieldAt b 24 4 ≠ 62500 then r.refuseHead v o unit 1
  else if byteAt b 28 < 3 then r.refuseHead v o unit 2
  else if 2 ^ 64 ≤ kVI vl il || 2 ^ 64 ≤ kII il m.rCable then r.refuseHead v o unit 3
  else if bound ≠ 0 && bound ≠ unit then r.refuseHead v o unit 4
  else
    (r.setMeter o { m with unit, vLsb := vl, iLsb := il, keep := byteAt b 28, headClass := byteAt b 29 }).headChal v o

/-- The first HEAD_RESP, with the Gatehouse's verdict; HEAD_CHANGED when another UNIT authenticates (R322, R349). A failed response ends the
session (log entry 58). -/
def Replica.headRespMsg (r : Replica) (v : Env) (o : Nat) (verified : Bool) : Replica :=
  if r.head o ≠ headAuth || (r.ctx 2 o).isSome then r
  else if !verified then r.setHead o headNone
  else
    let m := r.meter o
    let r := match m.lastUnit with
      | some u => if u = m.unit then r else r.legalEvent v 0x05 o (r.txOf o) (leBytes 8 u ++ leBytes 8 m.unit)
      | none => r
    let r := r.setCtx 2 o (some { cls := 2, slot := fieldAt m.record 20 1, peer := m.unit })
    (r.setMeter o { m with lastUnit := some m.unit, orphaned := false }).outSend o pduHeadMsg [0x03, r.rd .MET_CTRL_REP]

def State.headMsg (s : State) (d : DLink) (lane : Lane) (h : DlpHdr) (lenOk : Bool) (f : Env → Replica → Nat → Replica) : Result :=
  s.dlpOutlet d lane h 0x31 0 lenOk fun v r o => (f v r o).meterReady o
def execHeadIdent (d : DLink) (lane : Lane) (h : DlpHdr) (body : List Byte) (s : State) : Result :=
  s.headMsg d lane h (body.length = 32) fun v r o => r.headIdentMsg v o body
def execHeadResp (d : DLink) (lane : Lane) (h : DlpHdr) (body : List Byte) (verified : Bool) (s : State) : Result :=
  s.headMsg d lane h (body.length = 17) fun v r o => r.headRespMsg v o verified
def execHeadStarted (d : DLink) (lane : Lane) (h : DlpHdr) (body : List Byte) (s : State) : Result :=
  s.headMsg d lane h (body.length = 1) fun _ r o => if r.head o = headAuth && (r.ctx 2 o).isSome then r.setHead o headStreaming else r
/-- The head confirms the end of its session (R319). -/
def execHeadStopped (d : DLink) (lane : Lane) (h : DlpHdr) (body : List Byte) (s : State) : Result :=
  s.headMsg d lane h (body.length = 1) fun _ r o => r.setHead o headNone
def execHeadStat (d : DLink) (lane : Lane) (h : DlpHdr) (body : List Byte) (s : State) : Result :=
  s.headMsg d lane h (body.length = 9) fun _ r o => r.setMeter o { r.meter o with stat := [fieldAt body 1 2, fieldAt body 3 2, fieldAt body 5 4] }
/-- HEAD_ERR is reported; in IDENT or AUTH the session ends (R319, R322; log entry 58). -/
def execHeadErr (d : DLink) (lane : Lane) (h : DlpHdr) (body : List Byte) (s : State) : Result :=
  s.headMsg d lane h (body.length = 3) fun _ r o =>
    let r := r.setMeter o { r.meter o with stat := [byteAt body 1, byteAt body 2] }
    if r.head o = headIdent || r.head o = headAuth then r.setHead o headNone else r

/-! ### What a tick does to an outlet (R302) -/

/-- Moves tied to a tick: the FAULT that falls due within 1 tick (R204, R211, R377), UNAVAILABLE to IDLE or UNPLUG_WAIT,
and the out-of-service order on an outlet that has come to rest (log entry 90). -/
def Replica.outletTick (r : Replica) (v : Env) (o : Nat) : Replica :=
  let st := r.ostate o
  match (r.out o).faultDue with
  | some c => if st = osFault then r.setOut o { r.out o with faultDue := none } else r.goto v o osFault (some c)
  | none =>
    if st = osUnavailable && r.dstate (o / 2) = dsActive && r.supported o && r.rd .SAF_STATUS_CONF = 1 && !(r.vs o).outOfService then
      r.goto v o (if (r.vs o).conn then osUnplugWait else osIdle)
    else if (r.vs o).outOfService && (st = osIdle || st = osPlugged || st = osUnplugWait) then r.goto v o osUnavailable
    else (r.negotiationTick v o).advance v o

/-- Degraded running at a tick: the trip on overcurrent, from the second tick on (R391). -/
def Replica.degradedTick (r : Replica) (v : Env) : Replica :=
  if r.rd .SAF_STATUS_DEGRADED = 0 then r.eachOut fun o r => r.setSo o { r.so o with degOver := none }
  else
    let r := r.withSafety fun x => { x with degTicks := x.degTicks + 1 }
    let gone := r.safety.degTicks / (2 * max 1 v.nominal)
    let r := r.wr .SAF_DEG_REMAIN (r.safH 16 1 * 60 - gone)
    r.eachOut fun o r =>
      let r := if 2 ≤ r.safety.degTicks && (r.so o).degOver = some true then r.trip v o [(2, 0x19, ocSafetyTrip)] else r
      r.setSo o { r.so o with degOver := none }

end Sys2Proof.Machine
end

