-- ==== Sys2Proof/Machine/Switch.lean ====
section
/-! DEFINITION. The protected load switch channels (R397 to R424). Channel states live in the common block; the commands come from the
pavilion with the higher claim (R416). -/
namespace Sys2Proof.Machine

def chOff : Nat := 0
def chOn : Nat := 1
def chWarmup : Nat := 2
def chStart : Nat := 3
def chPull : Nat := 4
def chHold : Nat := 5
def chRetryWait : Nat := 6
def chFault : Nat := 7

def caShort : Nat := 1
def caInrush : Nat := 2
def caOverload : Nat := 3
def caThermal : Nat := 4
def caBankLimit : Nat := 5
def caBankOverload : Nat := 6
def caVbankLow : Nat := 7
def caBankOut : Nat := 8
def caNoClaim : Nat := 9

def tyCoil : Nat := 1
def tyLamp : Nat := 2
def tyMotor : Nat := 4

def Common.sw (c : Common) (i : Nat) : Switch := vget c.lsw.chans i {}
def Common.setSw (c : Common) (i : Nat) (x : Switch) : Common := { c with lsw := { c.lsw with chans := vput c.lsw.chans i x } }
def Common.chState (c : Common) (i : Nat) : Nat := c.rd .LSW_CSTAT_STATE i
def Common.chType (c : Common) (i : Nat) : Nat := c.rd .LSW_CCFG_TYPE i
def Common.chSafety (c : Common) (i : Nat) : Bool := c.rd .LSW_CSTAT_SAFETY i = 1
def Common.chRetry (c : Common) (i : Nat) : Nat := if c.chSafety i then 0 else c.rd .LSW_CCFG_RETRY i
/-- Conducting states. -/
def Common.conducts (c : Common) (i : Nat) : Bool := 1 ≤ c.chState i && c.chState i ≤ 5
/-- A state, with the ON and FAULT maps (R422); FAULT waits for ON to be written 0 (R421). -/
def Common.setCh (c : Common) (i st : Nat) : Common :=
  let c := if st = chFault then c.setSw i { c.sw i with zeroed := false } else c
  let c := c.wr .LSW_CSTAT_STATE st i
  let c := c.wr .LSW_ON_ON (putBit (c.rd .LSW_ON_ON) i (1 ≤ st && st ≤ 5))
  c.wr .LSW_FAULTMAP_FAULT (putBit (c.rd .LSW_FAULTMAP_FAULT) i (decide (st = chFault)))

/-- A switch-on is possible: a used type, the bank in service and within range, and Tj low enough (R399, R400, R402, R406). -/
def Common.supplied (c : Common) (i : Nat) : Bool :=
  1 ≤ c.chType i && c.chType i ≤ 4 && bitOf (c.rd .LSW_STATUS_BANK_IN) (i / 8) && bitOf (c.rd .LSW_STATUS_VB_OK) (i / 8)
def Common.canSwitch (c : Common) (i : Nat) : Bool := c.supplied i && !(c.sw i).hot
/-- The channel is commanded on: its gate for a safety channel, its ON bit for any other (R366, R414). -/
def Common.commanded (c : Common) (i : Nat) : Bool :=
  if c.chSafety i then bitOf (c.rd .SIO_GATE_GATE) i else c.rd .LSW_CCTRL_ON i = 1

/-- A switch-on by type (R400, R401, R409). `new` opens a LAMP's warm-up window with LEFT at 7; a retry stays in an open window. A hot
channel waits for Tj (R402). -/
def Common.switchOn (c : Common) (now i : Nat) (new : Bool) : Common :=
  let x := c.sw i
  if !c.supplied i then c.setCh i chOff
  else if x.hot then (c.setSw i { x with due := true, fresh := new, attrWait := false }).setCh i chRetryWait
  else
    let ty := c.chType i
    let c := c.setSw i { x with onAt := now, due := false, fresh := false, attrWait := false, lampFrom := if new && ty = tyLamp then some now else x.lampFrom }
    let c := if new && ty = tyLamp && !c.chSafety i then c.wr .LSW_CSTAT_LEFT 7 i else c
    c.setCh i (if ty = tyCoil then chPull
      else if ty = tyLamp && (new || x.lampFrom.isSome) then chWarmup
      else if ty = tyMotor then chStart else chOn)

/-- ON written 0 or 1, as the controller takes it (R407). In FAULT a 1 counts only after a 0. -/
def Common.writeOn (c : Common) (now i : Nat) (on : Bool) : Common :=
  let old := c.rd .LSW_CCTRL_ON i = 1
  let c := c.wr .LSW_CCTRL_ON on.toNat i
  if c.chSafety i || c.chType i = 0 || c.rd .LSW_STATUS_LATCHED = 1 then c
  else if c.chState i = chFault && !on then c.setSw i { c.sw i with zeroed := true }
  else if c.chState i = chFault && !(c.sw i).zeroed then c
  else if on && !old then (c.wr .LSW_CSTAT_LEFT (c.chRetry i) i).switchOn now i true
  else if !on then (c.setSw i { c.sw i with pending := none, attrWait := false, due := false, lampFrom := none }).setCh i chOff
  else c

/-- A gate bit as the controller takes it: a safety channel conducts while its gate is set (R366). Setting the gate of a channel in FAULT
switches it on anew, as ON 0 and then 1 would (log entry 60). -/
def Common.writeGate (c : Common) (now i : Nat) (on : Bool) : Common :=
  let old := bitOf (c.rd .SIO_GATE_GATE) i
  let c := c.wr .SIO_GATE_GATE (putBit (c.rd .SIO_GATE_GATE) i on)
  if !c.chSafety i || old = on then c
  else if on then (c.wr .LSW_CSTAT_LEFT 0 i).switchOn now i true
  else if c.chState i = chFault then c else (c.setSw i { c.sw i with pending := none, attrWait := false }).setCh i chOff

/-- The privileged outputs of the load switches are taken up from the leader's copy (R89, R416). -/
def Site.takeSwitches (t : Site) : Site :=
  match t.leader with
  | none => t
  | some p =>
    let l := (t.pav p).loc
    let gates := (t.pav p).rep.safety.gates
    let safe (i : Nat) : Bool := (t.pav p).rep.isSafetyChannel i
    let t := t.modCom fun c => (List.range 32).foldl (fun c i =>
      let c := c.wr .LSW_CSTAT_SAFETY (safe i).toNat i
      let on := l.rd .LSW_CCTRL_ON i = 1
      let c := if (c.rd .LSW_CCTRL_ON i = 1) = on then c else c.writeOn t.ticks i on
      if bitOf (c.rd .SIO_GATE_GATE) i = bitOf gates i then c else c.writeGate t.ticks i (bitOf gates i)) c
    t.onLog fun r => r.gatesTaken

/-- The Lodge writes ON in executing a log entry: both copies take it, and the controller follows the leader's (R416). -/
def execLswChannelOnWrite (c : Chan) (on : Bool) (s : State) : Result :=
  s.run fun t =>
    let t := t.onStep fun v => { v with loc := v.loc.wr .LSW_CCTRL_ON on.toNat c }
    if t.privOpen then t.modCom fun k => k.writeOn t.ticks c on else t

/-! ### Trips (R402 to R410) -/

/-- A trip is counted: a try is used, or the channel goes to FAULT (R407 to R409). -/
def Common.countTrip (c : Common) (i : Nat) : Common :=
  let c := (c.wr .LSW_CSTAT_ATTR 0 i).setSw i { c.sw i with pending := none, attrRun := 0, attrWait := false }
  let c := if c.chSafety i then { c with lsw := { c.lsw with safetyTrips := i :: c.lsw.safetyTrips } } else c
  let left := c.rd .LSW_CSTAT_LEFT i
  if 0 < left then (c.wr .LSW_CSTAT_LEFT (left - 1) i).setCh i chRetryWait
  else (c.setCh i chFault).raise .LSW_EVENT_RETRY_EXHAUSTED

/-- A trip is attributed: it uses no try (R410). The fourth in a row counts as an ordinary one unless the channel has conducted for
100 ms since the first. -/
def Common.attribute (c : Common) (i : Nat) : Common :=
  let n := (c.sw i).attrRun + 1
  if 4 ≤ n then c.countTrip i
  else
    let c := c.setSw i { c.sw i with pending := none, attrRun := n, attrWait := true }
    let c := ((c.wr .LSW_CSTAT_ATTR 1 i).wr .LSW_CCNT_ATTRIB (c.rd .LSW_CCNT_ATTRIB i + 1) i).raise .LSW_EVENT_ATTRIBUTED
    c.setCh i chRetryWait

/-- Two instants within 50 µs. -/
def near (a b : Nat) : Bool := max a b - min a b ≤ 10000
def bankChans (b : Nat) : List Nat := (List.range 8).map (8 * b + ·)

/-- A channel is switched off by a protection. While latched it goes to FAULT without retry (R418). A short detection is counted and
attributes the pending trips of its bank; a THERMAL trip is counted; any other is attributed to a short detection within the last
50 µs, or held pending (R410). -/
def Common.tripChan (c : Common) (now i cause : Nat) : Common :=
  if !c.conducts i then c
  else
    let x := c.sw i
    let c := c.setSw i { x with attrRun := if 20000000 ≤ now - x.onAt then 0 else x.attrRun, hot := x.hot || cause = caThermal,
                                shortAt := if cause = caShort then some now else x.shortAt }
    let c := (c.wr .LSW_CSTAT_CAUSE cause i).wr .LSW_CCNT_TRIPS (c.rd .LSW_CCNT_TRIPS i + 1) i
    let c := if cause = caShort then c.raise .LSW_EVENT_SHORT else if cause = caOverload then c.raise .LSW_EVENT_OVERLOAD
      else if cause = caThermal then c.raise .LSW_EVENT_THERMAL else if cause = caBankLimit then c.raise .LSW_EVENT_BANK_LIMIT else c
    if c.rd .LSW_STATUS_LATCHED = 1 then (c.setCh i chFault).raise .LSW_EVENT_LATCH_TRIP
    else if cause = caShort then
      let c := c.countTrip i
      (bankChans (i / 8)).foldl (fun c j => match (c.sw j).pending with
        | some (at', _) => if j ≠ i && near at' now then c.attribute j else c
        | none => c) c
    else if cause = caThermal then c.countTrip i
    else if (bankChans (i / 8)).any fun j => j ≠ i && (match (c.sw j).shortAt with | some a => near a now | none => false) then c.attribute i
    else (c.setSw i { c.sw i with pending := some (now, cause) }).setCh i chRetryWait

/-- I_SC is crossed: SHORT, or INRUSH in LAMP warm-up (R402, R403). -/
def execFastThresholdTrip (c : Chan) (s : State) : Result :=
  s.run fun t => t.modCom fun k => k.tripChan t.ticks c (if k.chState c = chWarmup then caInrush else caShort)
/-- Ten 1 ms means above I_OL; neither WARMUP nor PULL has this protection (R402). -/
def execOverloadTrip (c : Chan) (s : State) : Result :=
  s.run fun t => t.modCom fun k => if k.chState c = chWarmup || k.chState c = chPull then k else k.tripChan t.ticks c caOverload
def execThermalTrip (c : Chan) (s : State) : Result := s.run fun t => t.modCom fun k => k.tripChan t.ticks c caThermal

/-- The rank in which the bank limiter takes a channel (R404). -/
def Common.limitRank (c : Common) (i current : Nat) : Nat :=
  if 6000 ≤ current then 0 else if c.chState i = chWarmup then 1 else if !c.chSafety i then 2 else 3
/-- The bank limiter cuts one channel (R404); `currents` are those of the bank's eight channels in mA. -/
def execBankLimit (b : Bank) (currents : List Nat) (s : State) : Result :=
  s.run fun t => t.modCom fun c =>
    let cands := (bankChans b).filter c.conducts
    let cur (i : Nat) : Nat := currents.getD (i % 8) 0
    let best := cands.foldl (fun (x : Option Nat) i => match x with
      | none => some i
      | some j =>
        let ri := c.limitRank i (cur i)
        let rj := c.limitRank j (cur j)
        if ri < rj || (ri = rj && cur j < cur i) then some i else some j) none
    match best with
    | none => c
    | some i => c.tripChan t.ticks i (if 6000 ≤ cur i then (if c.chState i = chWarmup then caInrush else caShort) else caBankLimit)

/-- The 1 s mean of a bank exceeds 6 A (R405), and the cut that repeats every 10 ms until the mean has fallen. -/
def execBankOverload (b : Bank) (s : State) : Result :=
  s.run fun t => t.modCom fun c =>
    { c.raise .LSW_EVENT_BANK_OVERLOAD with lsw := { c.lsw with cutting := putBit c.lsw.cutting b true } }
def execBankOverloadCut (b : Bank) (s : State) : Result :=
  s.run fun t => t.modCom fun c =>
    if !bitOf c.lsw.cutting b then c
    else match ((bankChans b).filter fun i => c.conducts i && !c.chSafety i).getLast? with
      | some i => ((c.setSw i { c.sw i with pending := none }).wr .LSW_CSTAT_CAUSE caBankOverload i).setCh i chFault
      | none => { c with lsw := { c.lsw with cutting := putBit c.lsw.cutting b false } }

/-- VBANK below 16 V for 100 µs: the bank is held off; ON bits stay (R406). -/
def execVbankLow (b : Bank) (s : State) : Result :=
  s.run fun t => t.modCom fun c =>
    let c := (c.wr .LSW_STATUS_VB_OK (putBit (c.rd .LSW_STATUS_VB_OK) b false)).raise .LSW_EVENT_VBANK_LOW
    (bankChans b).foldl (fun c i => if c.chState i = chFault then c
      else ((c.setSw i { c.sw i with pending := none, attrWait := false }).wr .LSW_CSTAT_CAUSE caVbankLow i).setCh i chOff) c
/-- VBANK at or above 17.5 V for 10 ms: each held channel that is commanded on, or latched on, switches on again, with its budget unchanged
(R406, R418, R421). -/
def execVbankRestore (b : Bank) (s : State) : Result :=
  s.run fun t => t.modCom fun c =>
    let c := c.wr .LSW_STATUS_VB_OK (putBit (c.rd .LSW_STATUS_VB_OK) b true)
    let want (c : Common) (i : Nat) : Bool := if c.rd .LSW_STATUS_LATCHED = 1 then bitOf (c.rd .LSW_LATCHED_STATE) i else c.commanded i
    (bankChans b).foldl (fun c i => if c.chState i = chOff && want c i && c.rd .LSW_CSTAT_CAUSE i = caVbankLow then
      c.switchOn t.ticks i true else c) c

/-- 10 ms after VBANK has come within range the bank reads back and enters service (R399). -/
def execBankEnterService (b : Bank) (pass : Bool) (s : State) : Result :=
  s.run fun t =>
    if bitOf t.com.lsw.out b || bitOf (t.com.rd .LSW_STATUS_BANK_IN) b then t
    else
      let t := t.modCom fun c =>
        let c := c.wr .LSW_STATUS_VB_OK (putBit (c.rd .LSW_STATUS_VB_OK) b true)
        if pass then c.wr .LSW_STATUS_BANK_IN (putBit (c.rd .LSW_STATUS_BANK_IN) b true)
        else { c.raise .LSW_EVENT_SWITCH_FAULT with lsw := { c.lsw with out := putBit c.lsw.out b true } }
      if pass then t else t.journalFault locLoadSwitch b detected reBankOff 0

/-! ### Waits and windows -/

/-- A further try, unless a LAMP's 30 ms are over (R409). -/
def Common.tryAgain (c : Common) (now i : Nat) : Common :=
  match (c.sw i).lampFrom with
  | some z => if z + 6000000 < now then (c.setCh i chFault).raise .LSW_EVENT_RETRY_EXHAUSTED else c.switchOn now i false
  | none => c.switchOn now i false
/-- The wait of T_RETRY is over: a new try, unless Tj is still high (R407). -/
def Common.retry (c : Common) (now i : Nat) : Common :=
  let x := c.sw i
  if c.chState i ≠ chRetryWait || x.pending.isSome || x.attrWait then c
  else if x.hot then c.setSw i { x with due := true }
  else if x.fresh then c.switchOn now i true
  else c.tryAgain now i
def execRetryWaitExpiry (c : Chan) (s : State) : Result := s.run fun t => t.modCom fun k => k.retry t.ticks c
/-- Tj has fallen to 150 °C after T_RETRY had run out (R407). -/
def execThermalRecovered (c : Chan) (s : State) : Result :=
  s.run fun t => t.modCom fun k =>
    let x := k.sw c
    let k := k.setSw c { x with hot := false }
    if x.due then k.retry t.ticks c else k

/-- The warm-up window ends with the channel conducting: ON, and LEFT becomes RETRY (R409). -/
def execWarmupEnd (c : Chan) (s : State) : Result :=
  s.run fun t => t.modCom fun k =>
    if k.chState c = chWarmup then
      ((k.setSw c { k.sw c with lampFrom := none }).wr .LSW_CSTAT_LEFT (k.chRetry c) c).setCh c chOn
    else k
/-- T_PULL is over: the economiser holds (R400, R401). -/
def execPullEnd (c : Chan) (s : State) : Result := s.run fun t => t.modCom fun k => if k.chState c = chPull then k.setCh c chHold else k
/-- T_START is over (R400). -/
def execStartWindowEnd (c : Chan) (s : State) : Result := s.run fun t => t.modCom fun k => if k.chState c = chStart then k.setCh c chOn else k
/-- 10 s of on-time without a trip refill the budget (R407). -/
def execBudgetRefresh (c : Chan) (s : State) : Result :=
  s.run fun t => t.modCom fun k => if k.conducts c && k.chState c ≠ chWarmup then k.wr .LSW_CSTAT_LEFT (k.chRetry c) c else k
/-- 50 µs without a short detection: the held trip is counted (R410). -/
def execAttributionPendingExpiry (c : Chan) (s : State) : Result :=
  s.run fun t => t.modCom fun k => if (k.sw c).pending.isSome then k.countTrip c else k
/-- The switch-on that follows an attributed trip (R410), a try within the warm-up window (R409). -/
def execAttributedRestart (c : Chan) (s : State) : Result :=
  s.run fun t => t.modCom fun k => if (k.sw c).attrWait && k.chState c = chRetryWait then k.tryAgain t.ticks c else k

/-- Eight 1 ms means below I_OPEN mark a channel in ON, HOLD or START; eight at or above I_OPEN + 10 mA clear it (R411). -/
def execOpenLoad (c : Chan) (low : Bool) (s : State) : Result :=
  s.run fun t => t.modCom fun k =>
    let mark (k : Common) (b : Bool) : Common := (k.wr .LSW_CSTAT_OPEN b.toNat c).wr .LSW_OPENMAP_OPEN (putBit (k.rd .LSW_OPENMAP_OPEN) c b)
    let st := k.chState c
    if k.rd .LSW_STATUS_LATCHED = 1 then k
    else if low then
      if (st = chOn || st = chHold || st = chStart) && k.rd .LSW_CSTAT_OPEN c = 0 then (mark k true).raise .LSW_EVENT_OPEN_LOAD else k
    else mark k false

/-! ### Banks out of service (R412, R413) -/

/-- A bank goes out of service: its disconnect opens and every channel is OFF. -/
def Common.bankOff (c : Common) (b : Nat) : Common :=
  let c := { c.wr .LSW_STATUS_BANK_IN (putBit (c.rd .LSW_STATUS_BANK_IN) b false) with lsw := { c.lsw with out := putBit c.lsw.out b true } }
  (bankChans b).foldl (fun c i => if c.chState i = chOff then c
    else ((c.setSw i {}).wr .LSW_CSTAT_CAUSE caBankOut i).setCh i chOff) c
/-- Some gate of the bank is set. -/
def Common.bankGated (c : Common) (b : Nat) : Bool := (bankChans b).any fun i => c.chSafety i && bitOf (c.rd .SIO_GATE_GATE) i

/-- A switch or sense fault: the bank goes out at once, or after the trips of R368 once its gates are clear (R412). Detection is
suspended while latched (R418). -/
def execSwitchFault (c : Chan) (s : State) : Result :=
  s.run fun t =>
    if t.com.rd .LSW_STATUS_LATCHED = 1 then t
    else
      let gated := t.com.bankGated (c / 8)
      let t := t.modCom fun k => k.raise .LSW_EVENT_SWITCH_FAULT
      let t := t.journalFault locLoadSwitch c detected reBankOff 0
      if gated then t.onLog fun r => r.withSafety fun x => { x with checkFail := c.val :: x.checkFail }
      else t.modCom fun k => k.bankOff (c / 8)

/-- Banks of failed checks open once their gates are clear (R368, R412). -/
def Site.openBanks (t : Site) : Site :=
  (List.range 4).foldl (fun t b =>
    let due := (match t.leader with | some p => bitOf (t.pav p).rep.safety.bankFail b | none => false)
    if due && !t.com.bankGated b then
      (t.modCom fun c => c.bankOff b).onLog fun r => r.withSafety fun x => { x with bankFail := putBit x.bankFail b false }
    else t) t

/-- RESTORE repeats the read-back of R399 (R413). -/
def Site.restoreBank (t : Site) (b : Bank) (pass : Bool) : Site :=
  if !bitOf t.com.lsw.out b then t
  else if pass then t.modCom fun c =>
    let c := { c.wr .LSW_STATUS_BANK_IN (putBit (c.rd .LSW_STATUS_BANK_IN) b true) with lsw := { c.lsw with out := putBit c.lsw.out b false } }
    (bankChans b).foldl (fun c i => c.setCh i chOff) c
  else t.modCom fun c => c.raise .LSW_EVENT_SWITCH_FAULT
def execLswBankRestore (b : Bank) (pass : Bool) (s : State) : Result := s.run fun t => t.restoreBank b pass

/-- Neither pavilion has presented a claim for 1 ms: every channel goes to FAULT (R417). -/
def execNoClaim (s : State) : Result :=
  s.run fun t =>
    if t.com.lsw.claimSeen && t.leader.isNone then t.modCom fun c =>
      ((List.range 32).foldl (fun c i => ((c.setSw i {}).wr .LSW_CSTAT_CAUSE caNoClaim i).setCh i chFault) c).raise .LSW_EVENT_NO_CLAIM
    else t

/-- RELEASE: the latch ends and every channel takes up its register state; one that tripped stays in FAULT (R419). -/
def Common.latchRelease (c : Common) (now : Nat) : Common :=
  if c.rd .LSW_STATUS_LATCHED = 0 then c
  else (List.range 32).foldl (fun c i =>
    if c.chState i = chFault then c
    else if c.commanded i then (if c.conducts i then c else c.switchOn now i true)
    else c.setCh i chOff) (c.wr .LSW_STATUS_LATCHED 0)
def Site.latchRelease (t : Site) : Site :=
  let t := match t.leader with
    | some p => t.modCom fun c => (List.range 32).foldl (fun c i => c.wr .LSW_CCTRL_ON ((t.pav p).loc.rd .LSW_CCTRL_ON i) i) c
    | none => t
  t.modCom fun c => c.latchRelease t.ticks
def execLswLatchRelease (s : State) : Result := s.run Site.latchRelease

/-- Trips of safety channels reach the safety engine at a closure: the outlet trips, its gate cleared at once (R414). -/
def Replica.channelTrips (r : Replica) (v : Env) (chans : List Nat) : Replica :=
  chans.foldl (fun r c => r.eachOut fun o r =>
    if r.channelOf o = some c then
      let r := r.trip v o [(2, 0x17, ocSafetyTrip)]
      if r.gateOf o then r.clearGate o else r
    else r) r

end Sys2Proof.Machine
end

