-- ==== Sys2Proof/Machine/Host.lean ====
section
/-! DEFINITION. The Ronzar host protocol: connections, sessions, events, the frame of every command, and the commands on sessions,
operations, limits, outlets, tuning, captures and logs (R425 to R455). -/
namespace Sys2Proof.Machine

/-! ### Status codes (Table HST-5) -/

def hsOk : Nat := 0x00
def hsAccepted : Nat := 0x01
def hsBadFormat : Nat := 0x10
def hsUnknown : Nat := 0x11
def hsBadValue : Nat := 0x12
def hsNotPermitted : Nat := 0x20
def hsNotOwner : Nat := 0x21
def hsOwned : Nat := 0x22
def hsLocked : Nat := 0x23
def hsNoLock : Nat := 0x24
def hsQuota : Nat := 0x30
def hsBusy : Nat := 0x31
def hsWrongState : Nat := 0x32
def hsExpired : Nat := 0x33
def hsStale : Nat := 0x40
def hsCancelled : Nat := 0x41
def hsFailed : Nat := 0x42
def hsCommit : Nat := 0x50
def hsMismatch : Nat := 0x51
def hsOrphaned : Nat := 0x52
def hsNoVersion : Nat := 0x60
def hsRoleRefused : Nat := 0x61

/-- Message kinds (Table HST-4). -/
def mkOpenAck : Nat := 0x02
def mkResponse : Nat := 0x11
def mkPing : Nat := 0x30
def mkPong : Nat := 0x31
def mkClose : Nat := 0x3F

/-- What a command answers. -/
structure Resp where
  status : Nat := 0
  detail : Nat := 0
  handle : Nat := 0
  body : List Byte := []
def refuse (status : Nat) (detail : Nat := 0) : Resp := { status, detail }

/-! ### Sessions and their end (R426, R432 to R435, R445, R448) -/

/-- The end of the configuration lock: staged writes are discarded, COMMISSION ends, a pending confirmation lapses (R448). -/
def Replica.lockEnd (r : Replica) (v : Env) : Replica :=
  let r := (r.wr .HST_STATUS_LOCKSES 31).withHosts fun h => { h with staged := none }
  let r := r.withSafety fun x => { x with confirm := none }
  r.eachOut fun o r => if r.ostate o = osCommission then r.goto v o osIdle else r

def Replica.countSessions (r : Replica) : Replica := r.wr .HST_STATUS_SESSIONS (r.sessions fun _ => true).length

/-- A connection or session ends: its context is free, its lock and its priorities end, and what its principal would still be told is
held in major 2 (R264, R430, R445, R448). -/
def Replica.endSes (r : Replica) (v : Env) (n : Nat) (lost : Bool) : Replica :=
  let x := r.ses n
  if x.phase = 0 then r
  else if x.phase < 3 then (r.setSes n {}).setCtx 1 n none
  else
    let r := (r.setSes n { x with phase := 0, retx := 0, unacked := [], dropped := 0 }).setCtx 1 n none
    let r := r.countSessions
    let r := if lost then r.raise .HST_EVENT_SESSION_LOST else r
    let r := if r.rd .HST_STATUS_LOCKSES = n then r.lockEnd v else r
    let r := r.eachOut fun o r =>
      if vget r.hosts.prioBy o none = some n then
        (r.withAlloc fun a => { a with prio := vput a.prio o 128 }).withHosts fun h => { h with prioBy := vput h.prioBy o none }
      else r
    if (r.sessions fun y => y.principal = x.principal) ≠ [] then r
    else r.withHosts fun h => { h with
      lastSeen := (x.principal, v.ticks) :: h.lastSeen.filter fun e => e.1 ≠ x.principal
      absent := if x.major = 2 then
          { principal := x.principal, mask := x.mask, events := x.unacked.map (fun e => (e.2.1, e.2.2)), dropped := x.dropped } ::
            h.absent.filter (fun e => e.principal ≠ x.principal)
        else h.absent }

/-- The device ends a session itself: CLOSE, then the end. -/
def Replica.closeSes (r : Replica) (v : Env) (n : Nat) : Replica :=
  if (r.ses n).phase = 3 then (r.send (.rhp n mkClose 0 0 0 0 0 [])).endSes v n false else r

/-- Stored responses: the last 32 of each principal (R439). -/
def keepTags (tags : List TagEntry) (e : TagEntry) : List TagEntry :=
  let tags := if 32 ≤ (tags.filter fun x => x.principal = e.principal).length then tags.eraseP fun x => x.principal = e.principal else tags
  tags ++ [e]

/-- The response to a sequenced request, sent while its session is open, stored in major 2 (R437, R439). -/
def Replica.respond (r : Replica) (n tag code : Nat) (x : Resp) : Replica :=
  let s := r.ses n
  let body := leBytes 4 x.detail ++ x.body
  let r := r.setSes n { s with waiting := s.waiting - 1 }
  let e : TagEntry := { principal := s.principal, tag, code, status := x.status, handle := x.handle, body }
  let r := if s.major = 2 then r.withHosts fun h => { h with tags := keepTags h.tags e } else r
  if s.phase = 3 then r.send (.rhp n mkResponse 0 tag code x.status x.handle body) else r

def rolesAll : List Nat := [0, 1, 2]
def rolesAny : List Nat := [0, 1, 2, 3]
def rolesOp : List Nat := [1]
def rolesOem : List Nat := [2]
def rolesBoth : List Nat := [1, 2]

/-- The checks common to every command: a session, its role, and the configuration lock where one is needed (R440, R448). Another
session's lock answers NO_LOCK (log entry 64). -/
def Replica.admits (r : Replica) (n : Nat) (roles : List Nat) (lock : Bool) : Option Nat :=
  if !roles.contains (r.ses n).role then some hsNotPermitted
  else if lock && !((r.ses n).phase = 3 && r.rd .HST_STATUS_LOCKSES = n) then some hsNoLock
  else none
/-- A request of this session can stand in the log: the session is open, or ended with requests still to execute (R449). -/
def Session.live (x : Session) : Bool := x.phase = 3 || 0 < x.waiting
/-- One command at its log position (R437): a refusal has no effect but its response. -/
def Replica.command (r : Replica) (n tag code : Nat) (roles : List Nat) (lock : Bool) (f : Replica → Replica × Resp) : Replica :=
  if !(r.ses n).live then r
  else match r.admits n roles lock with
    | some st => r.respond n tag code (refuse st)
    | none => let x := f r; x.1.respond n tag code x.2
def State.host (s : State) (n : Sess) (tag code : Nat) (roles : List Nat) (lock : Bool) (f : Site → Replica → Replica × Resp) : Result :=
  s.onLog fun t r => r.command n tag code roles lock (f t)
/-- A command on one outlet: its number is checked first. -/
def onOutlet (o : Nat) (f : Replica → Replica × Resp) (r : Replica) : Replica × Resp :=
  if 24 ≤ o then (r, refuse hsBadValue 16) else f r
/-- A command that needs the outlet's owner (R446). -/
def onOwned (n o : Nat) (f : Replica → Replica × Resp) : Replica → Replica × Resp :=
  onOutlet o fun r => if vget r.owners o none = some (r.ses n).principal then f r else (r, refuse hsNotOwner)

/-! ### Connections (R425 to R429, R432) -/

/-- The address set of a lane (R455). -/
def laneSet (p : Pav) (port : Nat) : Nat := 2 * port + match p with | .A => 0 | .B => 1
def Replica.hasIp4 (r : Replica) (k : Nat) : Bool := r.rd .HST_ADDR4_IP4 k ≠ 0
def Replica.hasIp6 (r : Replica) (k : Nat) : Bool := (List.range 4).any fun w => r.rd .HST_ADDR6_IP6 (4 * k + w) ≠ 0

/-- What a lane sends below RHP: 0 an ARP, neighbour-discovery or echo answer, 1 a TCP reset, 2 a TLS alert, 3 a TCP accept. -/
def Site.net (t : Site) (p : Pav) (port what : Nat) (body : List Nat) : Site := t.modLoc p fun l => l.send (.net port what body)

/-- Port 4718 alone is served, by a lane that drives and has an address; the lowest free context is taken (R425, R432). -/
def execTcpConnect (p : Pav) (port : Fin 2) (dport : Nat) (s : State) : Result :=
  s.run fun t =>
    let k := laneSet p port
    let r := (t.pav p).rep
    if !t.drives p || !(r.hasIp4 k || r.hasIp6 k) then t
    else if dport ≠ 4718 then t.net p port 1 [dport]
    else match (List.range 16).find? fun n => (r.ses n).phase = 0 && (r.ses n).waiting = 0 with
      | none => (t.onLog fun r => r.raise .HST_EVENT_SESSION_REFUSED).net p port 1 [dport]
      | some n => (t.onLog fun r => r.setSes n { phase := 1, port, lane := p }).net p port 3 [n]

/-- ARP (0), neighbour discovery (1), ICMP echo over IPv4 (2) or IPv6 (3), answered where the lane has the address. -/
def execNetEchoRequest (p : Pav) (port : Fin 2) (kind : Fin 4) (s : State) : Result :=
  s.run fun t =>
    let k := laneSet p port
    let has := if kind.val % 2 = 0 then (t.pav p).rep.hasIp4 k else (t.pav p).rep.hasIp6 k
    if t.drives p && has then t.net p port 0 [kind] else t

/-- The roles of R429 in the life-cycle states that permit them. -/
def Replica.anchorOk (r : Replica) (k : Nat) : Bool :=
  let lc := r.lifeCycle
  r.keyUsage k = 5 && r.keyUsable k &&
    (if r.keyRole k = 3 then lc = 0 || lc = 3 else (r.keyRole k = 1 || r.keyRole k = 2) && (lc = 1 || lc = 2))
/-- The certificate lies in its validity, which is not checked before UTC is set (R429). -/
def Replica.certValid (r : Replica) (v : Env) (before after : Nat) : Bool :=
  !r.utcSet || (before ≤ r.utcMs v && r.utcMs v ≤ after)

/-- The TLS handshake ends (R428, R429): without a certificate by alert, otherwise with the chain checked. -/
def execTlsHandshakeDone (n : Sess) (cert : Option ClientCert) (s : State) : Result :=
  s.run fun t =>
    match t.leader with
    | none => t
    | some p =>
      let r := (t.pav p).rep
      let x := r.ses n
      if x.phase ≠ 1 then t
      else match cert with
        | none => (t.onLog fun r => r.setSes n {}).net x.lane x.port 2 [116]
        | some c =>
          if c.chainOk && r.anchorOk c.anchor && r.certValid t.env c.notBefore c.notAfter && (r.keyOf 7).isSome && !r.gate.noRandom then
            let y := { x with phase := 2, principal := c.principal, anchor := c.anchor, notBefore := c.notBefore, notAfter := c.notAfter }
            t.onLog fun r => (r.setSes n y).setCtx 1 n (some { cls := 1, slot := c.anchor, peer := c.principal })
          else (t.onLog fun r => (r.setSes n {}).raise .HST_EVENT_SESSION_REFUSED).net x.lane x.port 1 [4718]

/-- 10 s for the handshake, 5 s for OPEN: the connection is reset (R432). -/
def Site.resetConnection (t : Site) (n phase : Nat) : Site :=
  match t.leader with
  | none => t
  | some p =>
    let x := (t.pav p).rep.ses n
    if x.phase = phase then (t.onLog fun r => (r.setSes n {}).setCtx 1 n none).net x.lane x.port 1 [4718] else t
def execTlsHandshakeTimeout (n : Sess) (s : State) : Result := s.run fun t => t.resetConnection n 1
def execOpenTimeout (n : Sess) (s : State) : Result := s.run fun t => t.resetConnection n 2

/-! ### RHP messages (R430 to R435, R439, R445) -/

def Replica.quotaOf (r : Replica) (role : Nat) : Nat :=
  r.rd (match role with | 0 => .HST_QUOTA_OBS | 1 => .HST_QUOTA_OPR | 2 => .HST_QUOTA_OEM | _ => .HST_QUOTA_VND)
/-- The highest major both offer; 0 for none (R433). -/
def Replica.majorOf (r : Replica) (majors : Nat) : Nat :=
  if bitOf majors 1 && r.rd .HST_CTRL_MAJ2 = 1 then 2 else if bitOf majors 0 && r.rd .HST_CTRL_MAJ1 = 1 then 1 else 0

/-- OPEN_ACK's body (R434). Bit 1 of FLAGS is set in major 2 (log entry 65). -/
def Replica.openAckBody (r : Replica) (n major role principal : Nat) : List Byte :=
  leBytes 1 major ++ leBytes 1 role ++ leBytes 1 n ++ leBytes 1 ((!r.utcSet).toNat + 2 * (decide (major = 2)).toNat) ++ leBytes 8 Config.unitId ++
    leBytes 8 principal ++ leBytes 2 (r.quotaOf role) ++ leBytes 2 (r.rd .HST_CTRL_KA) ++ leBytes 1 r.lifeCycle ++ leBytes 3 0 ++ leBytes 4 0

/-- The events held for a principal go first, under new numbers (R445). -/
def Replica.redeliver (r : Replica) (n : Nat) : Replica :=
  let p := (r.ses n).principal
  match r.hosts.absent.find? fun a => a.principal = p with
  | none => r
  | some a =>
    let r := r.withHosts fun h => { h with absent := h.absent.filter fun a => a.principal ≠ p }
    let r := a.events.foldl (fun r e => r.sessionEvent n e.1 e.2) r
    if a.dropped = 0 then r else r.sessionEvent n evEventsLost ((leBytes 4 a.dropped).map BitVec.toNat)

def execRhpOpen (n : Sess) (majors role : Nat) (name : List Byte) (s : State) : Result :=
  s.onLog fun _ r =>
    let x := r.ses n
    if x.phase ≠ 2 then r
    else
      let major := r.majorOf majors
      let st := if major = 0 then hsNoVersion else if role = 0 || (r.keyRole x.anchor = role && r.anchorOk x.anchor) then hsOk else hsRoleRefused
      if st ≠ hsOk then
        let r := (r.send (.rhp n mkOpenAck 0 0 0 st 0 (r.openAckBody n 0 role x.principal))).send (.rhp n mkClose 0 0 0 0 0 [])
        ((r.setSes n {}).setCtx 1 n none).raise .HST_EVENT_SESSION_REFUSED
      else
        let r := r.setSes n { x with phase := 3, role, major, name := padTo 32 name, mask := 0, evNext := 0, unacked := [], dropped := 0,
                                     waiting := 0, retx := 0 }
        let r := (r.countSessions.raise .HST_EVENT_SESSION_OPEN).send (.rhp n mkOpenAck 0 0 0 hsOk 0 (r.openAckBody n major role x.principal))
        if major = 2 then r.redeliver n else r

/-- A message of the host has come: retransmission ends, and a session whose anchor is invalidated ends with KEY_ORPHANED (R427, R429,
R507). -/
def Replica.hostMessage (r : Replica) (v : Env) (n : Nat) (f : Replica → Replica) : Replica :=
  let x := r.ses n
  if x.phase ≠ 3 then r
  else
    let r := r.setSes n { x with retx := 0 }
    let gone := r.keyState x.anchor ≠ 1 || !((r.keyChain 4 x.anchor).all fun k => r.keyState k = 1)
    if gone then (r.send (.rhp n mkResponse 0 0 0 hsOrphaned 0 (leBytes 4 0))).closeSes v n else f r

/-- BAD_FORMAT with TAG 0, and the session ends (R431). -/
def Replica.malformed (r : Replica) (v : Env) (n : Nat) : Replica :=
  (r.send (.rhp n mkResponse 0 0 0 hsBadFormat 0 (leBytes 4 0))).closeSes v n

/-- The commands of Table HST-6. -/
def commandCodes : List Nat :=
  [0x0101, 0x0102, 0x0103, 0x0104, 0x0105, 0x0106, 0x0107, 0x0108, 0x0201, 0x0202, 0x0301, 0x0302, 0x0303, 0x0304, 0x0305, 0x0306, 0x0307,
   0x0308, 0x0309, 0x030A, 0x030B, 0x030C, 0x0311, 0x0401, 0x0402, 0x0403, 0x0404, 0x0405, 0x0406, 0x0501, 0x0502, 0x0503, 0x0504, 0x0505,
   0x0601, 0x0602, 0x0603, 0x0701, 0x0702, 0x0801, 0x0802, 0x0901, 0x0902, 0x0903, 0x0904]

/-- A complete REQUEST (R426, R431, R439): a known TAG is answered from the store, an eighth waiting one stops the reading, an unknown
code is refused; any other goes to the leader for sequencing. Of image.data only OFFSET, length and hash enter the log (R453). -/
def execRhpRequestRx (n : Sess) (tag code : Nat) (payload : List Byte) (wellFormed : Bool) (s : State) : Result :=
  s.run fun t =>
    let lane := match t.leader with | some p => ((t.pav p).rep.ses n).lane | none => .A
    let fresh (r : Replica) : Bool := (r.ses n).phase = 3 && wellFormed && (r.ses n).waiting < 8 && commandCodes.contains code &&
      !((r.ses n).major = 2 && r.hosts.tags.any fun e => e.principal = (r.ses n).principal && e.tag = tag) &&
      r.keyState (r.ses n).anchor = 1 && (r.keyChain 4 (r.ses n).anchor).all fun k => r.keyState k = 1
    let sends := match t.leader with | some p => fresh (t.pav p).rep | none => false
    let body := if code = 0x0902 then payload.take 4 ++ leBytes 2 (payload.length - 4) ++ Config.hash (payload.drop 4) else payload
    let t := t.onLog fun r => r.hostMessage t.env n fun r =>
      let x := r.ses n
      if !wellFormed then r.malformed t.env n
      else match (if x.major = 2 then r.hosts.tags.find? fun e => e.principal = x.principal && e.tag = tag else none) with
        | some e => r.send (.rhp n mkResponse 1 tag e.code e.status e.handle e.body)
        | none =>
          if 8 ≤ x.waiting then r
          else
            let r := r.setSes n { x with waiting := x.waiting + 1 }
            if commandCodes.contains code then r else r.respond n tag code (refuse hsUnknown)
    if sends then t.modLoc lane fun l => l.send (.input lane 0x01 n (leBytes 4 tag ++ leBytes 2 code ++ body)) else t

/-- EVENT_ACK (R445); in major 1 an unknown KIND (R430, R431; log entry 66). -/
def execRhpEventAck (n : Sess) (upTo : Nat) (s : State) : Result :=
  s.onLog fun t r => r.hostMessage t.env n fun r =>
    let x := r.ses n
    if x.major ≠ 2 then r.malformed t.env n
    else
      let x := { x with unacked := x.unacked.filter fun e => upTo < e.1 }
      if x.dropped = 0 || 256 ≤ x.unacked.length then r.setSes n x
      else (r.setSes n { x with dropped := 0 }).sessionEvent n evEventsLost ((leBytes 4 x.dropped).map BitVec.toNat)

def execRhpPing (n : Sess) (s : State) : Result :=
  s.onLog fun t r => r.hostMessage t.env n fun r => r.send (.rhp n mkPong 0 0 0 0 0 [])
/-- PONG keeps the session alive (R435). -/
def execRhpPong (n : Sess) (s : State) : Result := s.onLog fun t r => r.hostMessage t.env n fun r => r
def execRhpClose (n : Sess) (s : State) : Result := s.onLog fun t r => r.endSes t.env n false
/-- Nothing sent for KA / 3 (R435). -/
def execRhpPingTimer (n : Sess) (s : State) : Result :=
  s.onLog fun _ r => if (r.ses n).phase = 3 then r.send (.rhp n mkPing 0 0 0 0 0 []) else r
/-- No complete message for KA seconds (R435). -/
def execRhpKeepaliveTimeout (n : Sess) (s : State) : Result := s.onLog fun t r => r.endSes t.env n true
/-- TCP gives up after TCP_RETRIES retransmissions and one further timeout (R427). -/
def execTcpRetransmitTimeout (n : Sess) (s : State) : Result :=
  s.onLog fun t r =>
    let x := r.ses n
    if x.phase = 0 then r
    else if r.rd .HST_CTRL_TCP_RETRIES ≤ x.retx then r.endSes t.env n true
    else r.setSes n { x with retx := x.retx + 1 }
/-- A lane is down for 10 ms: its sessions end without a close, a masked fault (R42, R426). -/
def execHostLaneDown (p : Pav) (port : Fin 2) (s : State) : Result :=
  s.onLog fun t r =>
    let r := (List.range 16).foldl (fun r n => if (r.ses n).lane = p && (r.ses n).port = port.val then r.endSes t.env n true else r) r
    r.fault t.now locHostLane (laneSet p port) masked reOtherPath 0

/-! ### Operations and handles (R441 to R443) -/

def HostOp.handle (x : HostOp) : Nat := x.gen * 2 ^ 16 + x.index
def Replica.countHandles (r : Replica) : Replica := r.wr .HST_STATUS_HANDLES r.hosts.ops.length
def Replica.freeOp (r : Replica) (index : Nat) : Replica :=
  (r.withHosts fun h => { h with ops := h.ops.filter fun x => x.index ≠ index }).countHandles

/-- A new operation takes the lowest free index, within the quota of its session's role (R441). -/
def Replica.newOp (r : Replica) (v : Env) (n : Nat) (kind : OpKind) : Replica × Resp :=
  let s := r.ses n
  let free := (List.range 512).find? fun i => !(r.hosts.ops.any fun x => x.index = i)
  let held := (r.hosts.ops.filter fun x => x.principal = s.principal).length
  match free with
  | none => (r.raise .HST_EVENT_QUOTA_REFUSED, refuse hsQuota)
  | some i =>
    if r.quotaOf s.role ≤ held then (r.raise .HST_EVENT_QUOTA_REFUSED, refuse hsQuota)
    else
      let c := Sparse.get 0 r.hosts.counters i % 255 + 1
      let x : HostOp := { index := i, gen := c * 256 + v.boot % 256, principal := s.principal, kind }
      let r := r.withHosts fun h => { h with ops := h.ops ++ [x], counters := Sparse.put 0 h.counters i c }
      (r.countHandles, { status := hsAccepted, handle := x.handle })
/-- The operation a handle names (R441). -/
def Replica.opOf (r : Replica) (handle : Nat) : Option HostOp := r.hosts.ops.find? fun x => x.handle = handle
/-- A command on an operation of the session's own principal (R440; log entry 67). -/
def onOwnOp (n handle : Nat) (f : HostOp → Replica → Replica × Resp) (r : Replica) : Replica × Resp :=
  match r.opOf handle with
  | none => (r, refuse hsStale)
  | some x => if x.principal = (r.ses n).principal then f x r else (r, refuse hsNotOwner)

/-- A completed handle, its principal without a session, is freed (R443). -/
def execHandleExpiry (index : Fin 512) (s : State) : Result :=
  s.onLog fun _ r =>
    match r.hosts.ops.find? fun x => x.index = index.val with
    | some x => if x.done && (r.sessions fun y => y.principal = x.principal) = [] then (r.freeOp index).raise .HST_EVENT_HANDLE_EXPIRED else r
    | none => r
/-- 60 s after the principal's last session nothing is held any more (R445); 60 s after its request a TAG is forgotten (R439). -/
def execEventHoldExpiry (k : Nat) (s : State) : Result := s.onLog fun _ r => r.withHosts fun h => { h with absent := h.absent.eraseIdx k }
def execRequestTagExpiry (k : Nat) (s : State) : Result := s.onLog fun _ r => r.withHosts fun h => { h with tags := h.tags.eraseIdx k }
/-- LOCK_IDLE seconds without a command that needs the lock (R448). -/
def execLockIdleExpiry (s : State) : Result :=
  s.onLog fun t r =>
    let n := r.rd .HST_STATUS_LOCKSES
    if n = 31 then r else ((r.lockEnd t.env).raise .HST_EVENT_LOCK_LAPSED).eventClass 6 evLockLapsed [n]
/-- 600 s without the other role (R450). -/
def execReturnRequestExpiry (s : State) : Result := s.onLog fun _ r => r.withHosts fun h => { h with ret := none }

/-! ### Session commands (Table HST-6) -/

def execSessionClose (n : Sess) (tag : Nat) (s : State) : Result :=
  s.onLog fun t r =>
    let ok := (r.ses n).live
    let r := r.command n tag 0x0101 rolesAny false fun r => (r, {})
    if ok then r.closeSes t.env n else r
def execEventSubscribe (n : Sess) (tag : Nat) (mask : Word) (s : State) : Result :=
  s.host n tag 0x0102 rolesAny false fun _ r => (r.setSes n { r.ses n with mask := mask.toNat }, {})
def execOpStatus (n : Sess) (tag handle : Nat) (s : State) : Result :=
  s.host n tag 0x0103 rolesAny false fun _ r =>
    match r.opOf handle with
    | none => (r, refuse hsStale)
    | some x =>
      let res := if x.done then x.result else 0
      (r, { handle := handle, detail := if x.done then x.detail else 0,
            body := leBytes 1 (if x.done then 2 else 1) ++ leBytes 2 x.progress ++ leBytes 2 res ++ leBytes 4 (if x.done then x.bytes.length else 0) })
def execOpList (n : Sess) (tag : Nat) (s : State) : Result :=
  s.host n tag 0x0104 rolesAny false fun _ r =>
    let l := r.hosts.ops.filter fun x => x.principal = (r.ses n).principal
    (r, { body := leBytes 2 l.length ++ (l.map fun x => leBytes 4 x.handle).flatten })
def execOpRelease (n : Sess) (tag handle : Nat) (s : State) : Result :=
  s.host n tag 0x0106 rolesAny false fun _ => onOwnOp n handle fun x r =>
    if x.done then (r.freeOp x.index, { handle := handle }) else (r, refuse hsWrongState)
def execOpRead (n : Sess) (tag handle offset count : Nat) (s : State) : Result :=
  s.host n tag 0x0107 rolesAny false fun _ => onOwnOp n handle fun x r =>
    if !x.done then (r, refuse hsWrongState)
    else if x.bytes.length < offset then (r, refuse hsBadValue 16)
    else if 4096 < count then (r, refuse hsBadValue 20)
    else (r, { handle := handle, body := (x.bytes.drop offset).take count })

/-- time.set (R429, R349, R449): each one is entered as TIME_SET with the old and the new time; sessions whose certificate lies outside its validity are closed at this position. -/
def execTimeSet (n : Sess) (tag utc : Nat) (s : State) : Result :=
  s.onLog fun t r =>
    let ok := (r.ses n).live && (r.admits n rolesBoth false).isNone
    let r := r.command n tag 0x0108 rolesBoth false fun r =>
      let old := r.utcMs t.env
      let r := r.legalEvent t.env 0x0E 0xFF 0xFFFFFFFF (leBytes 8 old ++ leBytes 8 utc)
      (r.withHosts fun h => { h with utc := some (utc, t.ticks) }, {})
    if ok then (r.sessions fun y => !r.certValid t.env y.notBefore y.notAfter).foldl (fun r k => r.closeSes t.env k) r else r

/-! ### Limits and status (R265, R440) -/

/-- A host's limit replaces the one it set before. -/
def Replica.putLimit (r : Replica) (x : HostLimit) : Replica :=
  r.withAlloc fun a => { a with limits := a.limits.filter (fun y => !(y.principal = x.principal && y.outlet = x.outlet)) ++ [x] }
def execSiteLimitSet (n : Sess) (tag power ttl : Nat) (s : State) : Result :=
  s.host n tag 0x0201 rolesOp false fun _ r =>
    let p := (r.ses n).principal
    if power = 0 then (r.withAlloc fun a => { a with limits := a.limits.filter fun y => !(y.principal = p && y.outlet.isNone) }, {})
    else if ttl = 0 || 86400 < ttl then (r, refuse hsBadValue 20)
    else (r.putLimit { principal := p, outlet := none, value := power, seconds := ttl }, {})
/-- outlet.limit.set; major 2 adds the export fields (R433). -/
def execOutletLimitSet (n : Sess) (tag o power amps ttl pExp iExp : Nat) (s : State) : Result :=
  s.host n tag 0x0301 rolesOp false fun _ => onOutlet o fun r =>
    let m2 := (r.ses n).major = 2
    if ttl = 0 || 86400 < ttl then (r, refuse hsBadValue 23)
    else (r.putLimit { principal := (r.ses n).principal, outlet := some (Fin.ofNat 24 o), value := power, amps, seconds := ttl,
                       pExp := if m2 then pExp else 0, iExp := if m2 then iExp else 0 }, {})

def execSiteStatusRead (n : Sess) (tag : Nat) (s : State) : Result :=
  s.host n tag 0x0202 rolesAll false fun t r =>
    (r, { body := leBytes 4 (r.rd .CTL_PSITE_LIMIT) ++ leBytes 4 r.astat ++ leBytes 4 ((r.alloc.pImp % 2 ^ 32).toNat) ++
            leBytes 4 r.alloc.part.serial ++ leBytes 4 (t.a.loc.regs.word .FBR 0x0C) ++ leBytes 4 (t.b.loc.regs.word .FBR 0x0C) ++
            ((List.range 24).map fun o => leBytes 1 (r.ostate o)).flatten })
def execOutletStatusRead (n : Sess) (tag o : Nat) (s : State) : Result :=
  s.host n tag 0x030B rolesAll false fun _ => onOutlet o fun r =>
    (r, { body := leBytes 4 (r.regs.word .DLK (0x400 + 0x20 * o)) ++ leBytes 4 (r.regs.word .MET (0x11C + 0x40 * o)) ++
            leBytes 4 (r.regs.word .CTL (0x400 + 0x20 * o)) ++ leBytes 4 (vget r.alloc.iCap o 0) ++ leBytes 4 (vget r.alloc.iEcap o 0) ++
            leBytes 4 (vget r.alloc.vCap o 0) ++ leBytes 4 (vget r.alloc.grants o 0) ++ leBytes 8 ((vget r.owners o none).getD 0) })
def execGroupStatusRead (n : Sess) (tag g : Nat) (s : State) : Result :=
  s.host n tag 0x0311 rolesAll false fun _ r =>
    if 32 ≤ g then (r, refuse hsBadValue 16)
    else (r, { body := r.statusRecord g ++ leBytes 4 (r.regs.word .CTL (0x800 + 4 * g)) })

/-! ### Ownership and the lock (R446 to R448) -/

/-- Requests to the old owner stay unanswered: their REQ_IDs no longer name anything (R447). -/
def Replica.setOwner (r : Replica) (o : Nat) (new : Option Nat) : Replica :=
  let old := vget r.owners o none
  let x := r.vs o
  let r := r.setVs o { x with asked := x.asked.map (fun a => (0, a.2.1, a.2.2)), certAsked := x.certAsked.map fun _ => 0 }
  ({ r with owners := vput r.owners o new } : Replica).eventClass 6 evOwnerChanged
    (o :: (leBytes 8 (old.getD 0) ++ leBytes 8 (new.getD 0)).map BitVec.toNat)
/-- No session of a principal has been open for 300 s. -/
def Replica.longGone (r : Replica) (v : Env) (p : Nat) : Bool :=
  (r.sessions fun y => y.principal = p) = [] &&
    match r.hosts.lastSeen.find? fun e => e.1 = p with | some e => 300 * 200000000 ≤ v.ticks - e.2 | none => true
def execOutletOwn (n : Sess) (tag o : Nat) (force : Bool) (s : State) : Result :=
  s.host n tag 0x0302 rolesOp false fun t => onOutlet o fun r =>
    let p := (r.ses n).principal
    match vget r.owners o none with
    | none => (r.setOwner o (some p), {})
    | some q => if q = p then (r, {}) else if force && r.longGone t.env q then (r.setOwner o (some p), {}) else (r, refuse hsOwned)
def execOutletDisown (n : Sess) (tag o : Nat) (s : State) : Result :=
  s.host n tag 0x0303 rolesOp false fun _ => onOwned n o fun r => (r.setOwner o none, {})
def execOutletPrioritySet (n : Sess) (tag o prio : Nat) (s : State) : Result :=
  s.host n tag 0x0304 rolesOp false fun _ => onOwned n o fun r =>
    if 255 < prio then (r, refuse hsBadValue 17)
    else ((r.withAlloc fun a => { a with prio := vput a.prio o prio }).withHosts fun h => { h with prioBy := vput h.prioBy o (some n.val) }, {})
def execConfigLockAcquire (n : Sess) (tag : Nat) (s : State) : Result :=
  s.host n tag 0x0501 rolesBoth false fun _ r =>
    let h := r.rd .HST_STATUS_LOCKSES
    if h = n.val then (r, {})
    else if h ≠ 31 then (r, refuse hsLocked)
    else if (r.ses n).phase ≠ 3 then (r, refuse hsWrongState)
    else (r.wr .HST_STATUS_LOCKSES n, {})
def execConfigLockRelease (n : Sess) (tag : Nat) (s : State) : Result :=
  s.host n tag 0x0501 rolesBoth false fun t r => if r.rd .HST_STATUS_LOCKSES = n.val then (r.lockEnd t.env, {}) else (r, refuse hsNoLock)

/-! ### Outlets (R302, R303, R311, R313, R440) -/

def execOutletStart (n : Sess) (tag o : Nat) (ref : List Byte) (s : State) : Result :=
  s.host n tag 0x0305 rolesOp false fun t => onOwned n o fun r =>
    if !r.awaits o then (r, refuse hsWrongState)
    else ((r.setVs o { r.vs o with held := true, kind := 3, ident := [], href := (padTo 16 ref).map BitVec.toNat }).advance t.env o, {})
/-- STOPPING with HOST_STOP; WRONG_STATE if not energised (R303, R449). -/
def execOutletStop (n : Sess) (tag o : Nat) (s : State) : Result :=
  s.host n tag 0x0306 rolesBoth false fun t => onOutlet o fun r =>
    let st := r.ostate o
    if osCableCheck ≤ st && st ≤ osCharging then (r.stopOutlet t.env o ocHostStop, {})
    else if st = osStopping then (r, {}) else (r, refuse hsWrongState)
/-- The owner's answer to AUTH_REQ (R313, R314). -/
def execOutletAuthAnswer (n : Sess) (tag o reqId result : Nat) (ref : List Byte) (s : State) : Result :=
  s.host n tag 0x0307 rolesOp false fun t => onOwned n o fun r =>
    let x := r.vs o
    if reqId = 0 || x.reqNo < reqId then (r, refuse hsBadValue 17)
    else if 1 < result then (r, refuse hsBadValue 21)
    else match x.asked with
      | some (q, pnc, ident) =>
        if q ≠ reqId then (r, refuse hsExpired)
        else
          let late := !r.awaits o
          let r := r.setVs o { x with asked := none }
          let r := if pnc then r else r.outSend o pduCardResult [if late then 1 else result]
          if late then (r, refuse hsExpired)
          else if result = 1 then (r, {})
          else
            let r := r.setVs o { r.vs o with held := true, kind := if pnc then 2 else 1, ident, href := (padTo 16 ref).map BitVec.toNat }
            ((if pnc then r.wr .DLK_OSTATE_PNC 1 o else r).advance t.env o, {})
      | none => (r, refuse hsExpired)
/-- The owner's answer to CERT_REQ is relayed to the vehicle (R311). -/
def execOutletCertAnswer (n : Sess) (tag o reqId : Nat) (answer : List Byte) (s : State) : Result :=
  s.host n tag 0x0308 rolesOp false fun _ => onOwned n o fun r =>
    let x := r.vs o
    if reqId = 0 || x.reqNo < reqId then (r, refuse hsBadValue 17)
    else if 4000 < answer.length then (r, refuse hsBadValue 21)
    else if x.certAsked ≠ some reqId then (r, refuse hsExpired)
    else ((r.setVs o { x with certAsked := none }).dlpOut (o / 2) 0x20 (o % 2) 0 (answer.map BitVec.toNat) none, {})
/-- outlet.fault.clear: FAULT to IDLE, or to the weld test owed (R302, R304, R449). -/
def execOutletFaultClear (n : Sess) (tag o : Nat) (s : State) : Result :=
  s.host n tag 0x0309 rolesBoth false fun t => onOutlet o fun r =>
    if r.ostate o ≠ osFault then (r, refuse hsWrongState)
    else if r.rd .DLK_OSTATE_WELD_OWED o = 0 then (r.goto t.env o osIdle, {})
    else if r.dstate (o / 2) ≠ dsActive then (r, refuse hsWrongState)
    else
      let r := r.goto t.env o osWeldCheck
      (r.setSo o { r.so o with weld := .drop }, {})
/-- The out-of-service order: an energised outlet stops first (R302; log entry 90). -/
def execOutletServiceSet (n : Sess) (tag o value : Nat) (s : State) : Result :=
  s.host n tag 0x030A rolesOp false fun t => onOutlet o fun r =>
    if 1 < value then (r, refuse hsBadValue 17)
    else
      let r := r.setVs o { r.vs o with outOfService := value = 1 }
      let st := r.ostate o
      let r := if value = 0 then r
        else if osCableCheck ≤ st && st ≤ osCharging then r.stopOutlet t.env o ocHostStop
        else if st = osIdle || st = osPlugged || st = osNegotiating || st = osUnplugWait then r.goto t.env o osUnavailable else r
      (r, {})
def execOutletCommission (n : Sess) (tag o value : Nat) (s : State) : Result :=
  s.host n tag 0x030C rolesOem true fun t => onOutlet o fun r =>
    if 1 < value then (r, refuse hsBadValue 17)
    else if value = 1 && r.ostate o = osIdle then (r.goto t.env o osCommission, {})
    else if value = 0 && r.ostate o = osCommission then (r.goto t.env o osIdle, {})
    else (r, refuse hsWrongState)

/-! ### Safety confirmation (R388) -/

def execSafetyCheckRead (n : Sess) (tag : Nat) (s : State) : Result :=
  s.host n tag 0x0504 rolesAll false fun _ r =>
    (r, { body := leBytes 4 (r.rd .SAF_CHECK_CHECK) ++ leBytes 4 (r.rd .SAF_CONFIRMED_CHECK) ++ leBytes 4 (r.regs.word .SAF 0x00) })
def execSafetyConfirm (n : Sess) (tag : Nat) (check : Word) (s : State) : Result :=
  s.host n tag 0x0505 rolesBoth true fun _ r =>
    if check.toNat ≠ r.rd .SAF_CHECK_CHECK then (r, refuse hsMismatch)
    else (r.withSafety fun x => { x with confirm := some check.toNat }, {})

/-! ### Tuning and captures (R192, R218, R224) -/

def execTuneCoeffLoad (n : Sess) (tag o apply : Nat) (set : List Byte) (s : State) : Result :=
  s.host n tag 0x0601 rolesOem true fun _ => onOutlet o fun r =>
    if set.length ≠ 176 then (r, refuse hsBadFormat)
    else
      let r := { r.wr .CTL_OSWAP_APPLY apply o with blkMem := if r.rd .CTL_OSWCTL_PEND o = 1 then r.blkMem else r.blkMem.wrBytes (ctlStaging o) set }
      let r := r.swapGo o
      let code := r.rd .CTL_OSWCTL_RESULT o
      (r, if code = 0 then {} else refuse hsFailed code)

/-- The fields of a generator and of a capture unit as tune.run carries them: six words, and CAPCTRL, CAPSIZE, CAPTRIG and eight
CAPSRC words. The run itself sets OUTLET and TRIG = INJECTION (R218). -/
def Replica.tuneFields (r : Replica) (i o : Nat) (inj cap : List Byte) : Replica :=
  let w (k : Nat) : Nat := fieldAt inj (4 * k) 4
  let c (k : Nat) : Nat := fieldAt cap (4 * k) 4
  let r := ((r.wr .CTL_INJCTRL_OUTLET o i).wr .CTL_INJCTRL_POINT (w 0 / 64) i).wr .CTL_INJCTRL_WAVE (w 0 / 256) i
  let r := (((r.wr .CTL_INJAMP_AMP (w 1) i).wr .CTL_INJFREQ_FREQ (w 2) i).wr .CTL_INJSTEP_STEP (w 3) i).wr .CTL_INJSTART_START (w 4) i
  let r := (r.wr .CTL_INJLEN_LEN (w 5) i).wr .CTL_CAPCTRL_TRIG 2 i
  let r := ((r.wr .CTL_CAPCTRL_EDGE (c 0 / 128) i).wr .CTL_CAPCTRL_DEC (c 0 / 256) i).wr .CTL_CAPCTRL_GOUTLET (c 0 / 2 ^ 24) i
  let r := (r.wr .CTL_CAPSIZE_PRE (c 1 / 2 ^ 16) i).wr .CTL_CAPTRIG_TRIG (c 2) i
  (List.range 8).foldl (fun r k =>
    ((r.wr .CTL_CAPSRC_KIND (c (3 + k)) (8 * i + k)).wr .CTL_CAPSRC_IDX (c (3 + k) / 16) (8 * i + k)).wr .CTL_CAPSRC_HW (c (3 + k) / 512) (8 * i + k)) r
/-- ARM with the fields in place. -/
def Replica.capArm (r : Replica) (i : Nat) : Replica :=
  let src := (List.range 8).map fun c =>
    r.rd .CTL_CAPSRC_KIND (i * 8 + c) + r.rd .CTL_CAPSRC_IDX (i * 8 + c) * 16 + r.rd .CTL_CAPSRC_HW (i * 8 + c) * 512
  { (r.wr .CTL_CAPCTRL_STATE 1 i).wr .CTL_CAPCOUNT_COUNT 0 i with caps := vput r.caps i { src := src } }
/-- Running operations of a kind. -/
def Replica.running (r : Replica) (p : OpKind → Bool) : List HostOp := r.hosts.ops.filter fun x => !x.done && p x.kind
def isTune : OpKind → Bool | .tune _ _ _ => true | _ => false

/-- tune.run takes the lowest generator whose capture unit has a region and which neither injects nor captures (log entry 68). -/
def execTuneRun (n : Sess) (tag o : Nat) (inj cap : List Byte) (s : State) : Result :=
  s.host n tag 0x0602 rolesOem true fun t => onOutlet o fun r =>
    if inj.length ≠ 24 || cap.length ≠ 44 then (r, refuse hsBadFormat)
    else if 4 < fieldAt inj 0 4 / 256 % 8 then (r, refuse hsBadValue 17)
    else if fieldAt cap 0 4 / 256 % 256 = 0 then (r, refuse hsBadValue 41)
    else if r.running (fun k => match k with | .tune q _ _ => q = o | _ => false) ≠ [] || 4 ≤ (r.running isTune).length then (r, refuse hsBusy)
    else if r.mode o ≠ modeCharging && r.mode o ≠ modeCommission then (r, refuse hsWrongState)
    else match (List.range 4).find? fun i => r.rd .CTL_INJCTRL_ACTIVE i = 0 && !(vget r.injs i {}).armed && r.rd .CTL_CAPSIZE_SIZE i ≠ 0 &&
        (r.rd .CTL_CAPCTRL_STATE i = 0 || r.rd .CTL_CAPCTRL_STATE i = 4) with
      | none => (r, refuse hsBusy)
      | some i =>
        let clash := (List.range 4).any fun j => r.rd .CTL_INJCTRL_OUTLET j = o && (r.rd .CTL_INJCTRL_ACTIVE j = 1 || (vget r.injs j {}).armed)
        if clash then (r, refuse hsBusy)
        else
          let x := r.newOp t.env n (.tune o i i)
          if x.2.status = hsAccepted then (((x.1.tuneFields i o inj cap).capArm i).injGo i, x.2) else x

/-- Bytes of the result area in use or promised (R442). -/
def OpKind.promised (r : Replica) : OpKind → Nat
  | .capture u => 64 + 32 * r.rd .CTL_CAPCOUNT_COUNT u
  | .log l _ c => c * (if l = 0 then 512 else if l = 4 then 2048 else 64)
  | _ => 0
def Replica.resultUsed (r : Replica) : Nat :=
  r.hosts.ops.foldl (fun a x => a + if x.done then x.bytes.length else x.kind.promised r) 0
def Replica.resultFits (r : Replica) (k : OpKind) : Bool := r.resultUsed + k.promised r ≤ r.layout.resultArea

def execCaptureRead (n : Sess) (tag unit : Nat) (s : State) : Result :=
  s.host n tag 0x0603 rolesBoth false fun t r =>
    if 4 ≤ unit then (r, refuse hsBadValue 16)
    else if r.rd .CTL_CAPCTRL_STATE unit ≠ 4 then (r, refuse hsWrongState)
    else if !r.resultFits (.capture unit) then (r, refuse hsBusy)
    else r.newOp t.env n (.capture unit)
/-- The header, then the samples from FIRST onwards (R223, R224). -/
def Pavilion.captureBytes (v : Pavilion) (u : Nat) : List Byte :=
  let base := v.rep.capBase u
  let h := v.loc.sram.rdBytes base 64
  let count := fieldAt h 4 4
  let first := fieldAt h 20 4
  let cap := v.rep.capSize u
  h ++ ((List.range count).map fun k => v.loc.sram.rdBytes (base + 64 + 32 * ((first + k) % max 1 cap)) 32).flatten
def execCaptureReadComplete (index : Fin 512) (s : State) : Result :=
  s.run fun t => t.onStep fun v =>
    match v.rep.hosts.ops.find? fun x => x.index = index.val with
    | some x => match x.kind with
      | .capture u => { v with rep := v.rep.completeOp (fun y => y.index = x.index) hsOk 0 (v.captureBytes u) }
      | _ => v
    | none => v

/-! ### Logs (R342, R347, R349, R253, R255) -/

/-- log.read: LOG 0 legal records from a slot, 1 metrological events, 2 and 3 the journals by entry number, 4 last-fault records by
group (log entry 69). -/
def execLogRead (n : Sess) (tag log start count : Nat) (s : State) : Result :=
  s.host n tag 0x0701 rolesAny false fun t r =>
    let limit := if log = 0 then 4096 else if log = 4 then 32 else 2 ^ 32
    if 4 < log then (r, refuse hsBadValue 16)
    else if limit ≤ start then (r, refuse hsBadValue 17)
    else if 512 < count then (r, refuse hsBadValue 21)
    else if !r.resultFits (.log log start count) then (r, refuse hsBusy)
    else r.newOp t.env n (.log log start count)

/-- The envelope of Table MET-5. -/
def envelope (n copies : Nat) (x : LegalSlot) : List Byte :=
  let b := leBytes 2 0x0A03 ++ leBytes 2 512 ++ leBytes 2 n ++ leBytes 1 x.state ++ leBytes 1 copies ++ leBytes 4 x.txNo ++ leBytes 4 x.readouts ++
    leBytes 8 x.ackSeq ++ leBytes 4 0
  b ++ leBytes 4 (crc32c b).toNat
/-- One record as read out, from the copy in service, or held after both copies failed (R350). -/
def Site.recordOut (t : Site) (r : Replica) (n : Nat) : List Byte :=
  let a := r.rd .MET_STATUS_COPY_A
  let b := r.rd .MET_STATUS_COPY_B
  let body := match r.legal.held.find? fun h => h.1 = n with
    | some h => h.2
    | none => (if a = 1 then t.com.legalA else t.com.legalB).rdBytes (bodyAddr n) 480
  envelope n (a + 2 * b) (r.slot n) ++ padTo 480 body
def Site.logBytes (t : Site) (r : Replica) (log start count : Nat) : List Byte :=
  let mem (p : Pav) : Mem := (t.pav p).loc.mram
  let lead := (t.leader).getD .A
  if log = 0 then ((List.range (min count (4096 - start))).map fun k => t.recordOut r (start + k)).flatten
  else if log = 1 then ((List.range count).map fun k =>
    (if r.rd .MET_STATUS_COPY_A = 1 then t.com.legalA else t.com.legalB).rdBytes (eventAddr (start + k)) 64).flatten
  else if log = 4 then ((List.range (min count (32 - start))).map fun k => (mem lead).rdBytes (0x21C00000 + 2048 * (start + k)) 2048).flatten
  else ((List.range count).map fun k => (mem (if log = 2 then .A else .B)).rdBytes (0x21C10040 + 64 * ((start + k) % 256)) 64).flatten
/-- A read-out completes; each record read out counts it (R347). -/
def execLogReadComplete (index : Fin 512) (s : State) : Result :=
  s.onLog fun t r =>
    match r.hosts.ops.find? fun x => x.index = index.val with
    | some x => match x.kind with
      | .log l a c =>
        if x.done then r
        else
          let r := if l = 0 then (List.range (min c (4096 - a))).foldl (fun r k =>
              let z := r.slot (a + k)
              if z.state = 0 then r else r.withLegal fun g => { g with slots := Sparse.put {} g.slots (a + k) { z with readouts := z.readouts + 1 } }) r
            else r
          r.completeOp (fun y => y.index = x.index) hsOk 0 (t.logBytes r l a c)
      | _ => r
    | none => r
/-- log.ack (R347): a CLOSED record that has been read out becomes ACKED. -/
def execLogAck (n : Sess) (tag slot txNo : Nat) (s : State) : Result :=
  s.host n tag 0x0702 rolesOp false fun t r =>
    let z := r.slot slot
    if 4096 ≤ slot then (r, refuse hsBadValue 16)
    else if z.txNo ≠ txNo then (r, refuse hsWrongState)
    else if z.state = 3 then (r, {})
    else if z.state ≠ 2 || z.readouts = 0 then (r, refuse hsWrongState)
    else (r.putSlot t.env slot { z with state := 3, ackSeq := t.logSeq }, {})

end Sys2Proof.Machine
end

