-- ==== Sys2Proof/Machine/Keys.lean ====
section
/-! DEFINITION. The Gatehouse: key update messages, what a key change brings with it, requests from engines, its self-test, and
attestation (R495 to R522, R451). -/
namespace Sys2Proof.Machine

/-! ### Slots (R496 to R499) -/

/-- An attribute word from its fields. -/
def attrWord (usage state role lcmask parent counter div : Nat) : Nat :=
  usage + state * 16 + role * 128 + lcmask * 512 + parent * 16384 + counter * 2097152 + div * 2147483648
def Replica.setState (r : Replica) (n st : Nat) : Replica := r.wr .KEY_SATTR_ATTR (r.keyAttr n - r.keyState n * 16 + st * 16) n
def Replica.setMaterial (r : Replica) (n : Nat) (m : List Byte) : Replica :=
  { r with gate := { r.gate with material := Sparse.put [] r.gate.material n m } }
/-- CHILDREN: the filled slots, other than the slot itself, that name it as PARENT (log entry 72). -/
def Replica.countChildren (r : Replica) : Replica :=
  (List.range 128).foldl (fun r n =>
    r.wr .KEY_SINFO_CHILDREN ((List.range 128).filter fun k => k ≠ n && r.keyState k ≠ 0 && r.keyParent k = n).length n) r
def Replica.keyAlg (r : Replica) (n : Nat) : Nat := r.rd .KEY_SINFO_ALG n

/-- Table KEY-2: the algorithms a usage admits, whether its material is public, and the engines that may use it. -/
def usageAlgs (u : Nat) : List Nat :=
  match u with
  | 1 => [3] | 2 => [0] | 5 => [2, 3] | 6 => [3] | 7 => [3] | 8 => [4, 5] | 9 => [2] | 10 => [3] | 11 => [1] | 12 => [1] | 13 => [1] | 14 => [1]
  | 15 => [1] | _ => []
def usagePublic (u : Nat) : Bool := u = 1 || u = 5 || u = 6
def usageEngines (u : Nat) : List Nat :=
  match u with
  | 5 => [8, 9] | 6 => [0] | 7 => [8, 9] | 8 => [8, 9] | 9 => [8, 9] | 10 => [7] | 11 => [0] | 12 => [0] | 13 => [8, 9] | 14 => [7]
  | 15 => [8, 9] | _ => []
/-- KLEN of an algorithm's material (R503). -/
def materialLen (alg : Nat) (pub : Bool) : Nat :=
  match alg with
  | 1 => 32
  | 2 => if pub then 65 else 32
  | 3 => if pub then 97 else 48
  | 4 => if pub then 133 else 66
  | 5 => 57
  | _ => 0

/-! ### What a key change brings (R506, R507, R509) -/

/-- A slot of a waiting usage has become usable: the challenge goes to every link, lane and head that waits for it (R509). -/
def Replica.wakeAuth (r old : Replica) (v : Env) : Replica :=
  let r := if (old.authSlot 1).isNone && (r.authSlot 1).isSome then
      r.eachGrp fun g r => if r.lstate g = lsAuth && r.rd .STG_LMSG_BUSY g = 0 then r.sendAuthChal { v with free := v.free + 1 + g } g else r
    else r
  let r := if (old.authSlot 2).isNone && (r.authSlot 2).isSome && r.rd .DLK_CTRL_AUTHREQ = 1 then
      (List.range 12).foldl (fun r d => [Pav.A, Pav.B].foldl (fun r lane =>
        let known := match lane with | .A => (r.dl d).unitA.isSome | .B => (r.dl d).unitB.isSome
        if (r.dstate d = dsHello || r.dstate d = dsAuth) && known && !(r.dl d).authed lane then r.helloAck { v with free := v.free + 40 + 2 * d + (if lane = .A then 0 else 1) } d lane (r.rd .DLK_LSTATE_VER d)
        else r) r) r
    else r
  r.eachOut fun o r => if r.head o = headIdent && (r.meter o).keep ≠ 0 && (old.headKey o).isNone then r.headChal { v with free := v.free + 70 + o } o else r
/-- SIGN_OK and READY follow the signing key (R335, R340). -/
def Replica.signStatus (r : Replica) : Replica := (r.wr .MET_STATUS_SIGN_OK r.signSlot.isSome.toNat).eachOut fun o r => r.meterReady o
/-- Contexts whose key is no longer ACTIVE up its chain end at their next boundary (R506, R507). -/
def Replica.markOrphans (r : Replica) : Replica :=
  let dead (k : Nat) : Bool := k < 128 && (r.keyState k ≠ 1 || !((r.keyChain 4 k).all fun j => r.keyState j = 1))
  let cs := r.gate.contexts.map fun c => c.map fun c => if dead c.slot then { c with orphaned := true } else c
  let r := { r with gate := { r.gate with contexts := cs } }
  r.eachOut fun o r => if r.ctxOrphaned 2 o then r.setMeter o { r.meter o with orphaned := true } else r
def Replica.keysChanged (r old : Replica) (v : Env) : Replica := (((r.countChildren).markOrphans).signStatus).wakeAuth old v

/-- A slot becomes INVALID: its material is erased, and every slot whose parent chain holds it becomes ORPHANED (R498, R506). -/
def Replica.invalidate (r : Replica) (n : Nat) : Replica :=
  let below := (List.range 128).filter fun k => k ≠ n && r.keyState k = 1 && (r.keyChain 4 k).contains n
  let r := (r.setState n 2).setMaterial n []
  let r := below.foldl (fun r k => (r.setState k 3).setMaterial k []) r
  if below = [] then r else r.raise .KEY_EVENT_ORPHANED

/-! ### Key update messages (R500 to R506) -/

/-- The fields of a message (Table KEY-4). -/
structure KeyMsg where
  op : Nat
  slot : Nat
  signer : Nat
  alg : Nat
  counter : Nat
  attr : Nat
  klen : Nat
  data : List Byte
def keyMsg (m : List Byte) : KeyMsg :=
  let k := fieldAt m 28 2
  { op := byteAt m 4, slot := byteAt m 5, signer := byteAt m 6, alg := byteAt m 7, counter := fieldAt m 20 4, attr := fieldAt m 24 4, klen := k,
    data := (m.drop 144).take k }

/-- The slot roles a root may write, and whether it may sign at all (R500). -/
def Replica.mayWrite (r : Replica) (signer role : Nat) : Bool :=
  let lc := r.lifeCycle
  let oper := (List.range 128).any fun k => r.keyUsage k = 1 && r.keyRole k = 1 && r.keyState k = 1
  if lc = 0 then signer = 3 && (role = 3 || role = 2)
  else if lc = 1 then (signer = 3 && role = 3) || (signer = 2 && (role = 2 || role = 1))
  else if lc = 2 then (signer = 3 && role = 3) || (signer = 2 && (role = 2 || (role = 1 && !oper))) || (signer = 1 && role = 1)
  else lc = 3 && signer = 3 && role = 3
def Replica.maySign (r : Replica) (signer : Nat) : Bool :=
  let lc := r.lifeCycle
  (lc = 0 && signer = 3) || (lc = 1 && (signer = 3 || signer = 2)) || (lc = 2 && 1 ≤ signer) || (lc = 3 && signer = 3)

/-- Table KEY-5, code 3, for every OP but READPUB. -/
def Replica.noAuthority (r : Replica) (m : KeyMsg) : Bool :=
  let signs := m.signer < 128 && r.keyUsage m.signer = 1 && r.keyUsable m.signer
  let role := r.keyRole m.signer
  if !signs then true
  else if m.op = 5 then !r.maySign role
  else
    let present := r.keyState m.slot = 0 || r.mayWrite role (r.keyRole m.slot)
    let new := m.op = 3 || r.mayWrite role (m.attr / 128 % 4)
    !present || !new || m.slot = 0 || m.slot = 2 || m.slot = 3 || (m.slot = 1 && (m.op ≠ 3 || m.signer = 1))

/-- Table KEY-5, code 6. -/
def Replica.badAttr (r : Replica) (m : KeyMsg) : Bool :=
  let usage := m.attr % 16
  let role := m.attr / 128 % 4
  let parent := m.attr / 16384 % 128
  let roots := (List.range 128).filter fun k => k ≠ m.slot && r.keyUsage k = 1 && r.keyRole k = role && r.keyState k = 1
  !(usageAlgs usage).contains m.alg || m.attr / 512 % 32 = 0 || m.attr / 16 % 8 ≠ 0 || m.attr / 2097152 % 1024 ≠ 0 ||
    (if usage = 1 then parent ≠ m.slot || 2 ≤ roots.length
     else parent = m.slot || r.keyState parent ≠ 1 || !(r.keyUsage parent = 1 || r.keyUsage parent = 2) || r.keyRole parent ≠ role ||
       (r.keyChain 4 parent).contains m.slot || 4 < 2 + (r.keyChain 4 parent).length)

/-- The conditions of R501. -/
def Replica.advanceOk (r : Replica) (signer : Nat) : Bool :=
  let active (u : Nat) (roles : List Nat) : Bool := (List.range 128).any fun k => r.keyUsage k = u && r.keyState k = 1 && roles.contains (r.keyRole k)
  let role := r.keyRole signer
  let lc := r.lifeCycle
  if lc = 0 then role = 3 && active 1 [2]
  else if lc = 1 then role = 2 && active 7 [0, 1, 2, 3] && active 10 [0, 1, 2, 3] && active 5 [1, 2]
  else lc = 3 && role = 3

/-- The first failure in the order of Table KEY-5; 0 for none. `sigOk`, `cipherOk` and `keyOk` are the verdicts on SIGNATURE, GCM_TAG and the
material (log entry 30). -/
def Replica.keyCheck (r : Replica) (op : Nat) (b : List Byte) (sigOk cipherOk keyOk : Bool) : Nat :=
  let m := keyMsg b
  let usage := m.attr % 16
  let secret := m.op = 1 && usage ≠ 2 && !usagePublic usage
  if fieldAt b 0 2 ≠ 0x0F01 || fieldAt b 2 2 ≠ 256 + m.klen || b.length ≠ 256 + m.klen || 133 < m.klen || fieldAt b 30 2 ≠ 0 ||
      fieldAt b 129 3 ≠ 0 || m.op ≠ op || (m.op ≠ 1 && m.klen ≠ 0) || (m.op = 1 && usage = 2 && m.klen ≠ 0) ||
      (if m.op = 5 then m.slot ≠ 0xFF else 128 ≤ m.slot) || (m.op = 4 && m.signer ≠ 0xFF) then 1
  else if fieldAt b 8 8 ≠ Config.unitId || fieldAt b 16 4 ≠ 0x24480002 then 2
  else if m.op ≠ 4 && r.noAuthority m then 3
  else if m.op ≠ 4 && !sigOk then 4
  else if (if m.op = 5 then m.counter ≠ r.lifeCycle + 1 else if m.op = 4 then m.counter ≠ 0
      else m.counter ≠ r.keyCounter m.slot + 1 || 1023 < m.counter) then 5
  else if (m.op = 1 || m.op = 2) && r.badAttr m then 6
  else if secret && !cipherOk then 7
  else if m.op = 1 && (m.klen ≠ materialLen m.alg (usagePublic usage) || (usage ≠ 2 && !keyOk)) then 8
  else if (m.op = 3 && r.keyState m.slot ≠ 1) || (m.op = 2 && (usagePublic usage || usage = 2)) ||
      (m.op = 4 && (r.keyAlg m.slot < 2 || r.keyState m.slot ≠ 1)) || (m.op = 5 && !r.advanceOk m.signer) then 9
  else 0

/-- A slot filled by INSTALL or GENERATE. -/
def Replica.fillSlot (r : Replica) (m : KeyMsg) (material : List Byte) : Replica :=
  ((r.wr .KEY_SATTR_ATTR (m.attr + 16 + m.counter * 2097152) m.slot).wr .KEY_SINFO_ALG m.alg m.slot).setMaterial m.slot material
def pubKey (alg val : Nat) : List Byte := padTo (materialLen alg true) (Config.publicKey val)

/-- The effect of an accepted message, and what its result carries behind the code (R506). -/
def Replica.keyEffect (r : Replica) (v : Env) (b material : List Byte) : Replica × List Byte :=
  let m := keyMsg b
  if m.op = 1 then (r.fillSlot m (if usagePublic (m.attr % 16) then m.data else if m.attr % 16 = 2 then [] else padTo m.klen material), [])
  else if m.op = 2 then
    let k := Config.freeBytes v.free (materialLen m.alg false)
    (r.fillSlot m k, leBytes 1 m.alg ++ if m.alg = 1 then [] else pubKey m.alg (ofLe k))
  else if m.op = 3 then
    let r := r.invalidate m.slot
    (r.wr .KEY_SATTR_ATTR (r.keyAttr m.slot - r.keyCounter m.slot * 2097152 + m.counter * 2097152) m.slot, [])
  else if m.op = 4 then
    (r, leBytes 1 (r.keyAlg m.slot) ++ if usagePublic (r.keyUsage m.slot) then r.material m.slot else pubKey (r.keyAlg m.slot) (r.keyVal m.slot))
  else
    let r := (r.wr .KEY_STATUS_LC m.counter).raise .KEY_EVENT_LC_ADVANCE
    (if m.counter = 4 then (List.range 128).foldl (fun r k => (r.setState k 4).setMaterial k []) r else r, [])

/-- key.update at its position (R506): checked and executed; the operation completes later, in the order of KEY_UPDATE_COMPLETE. One
update per slot may run (R442), and a Gatehouse alone with a failed random source generates nothing (R515). -/
def State.keyUpdate (s : State) (n : Sess) (tag op : Nat) (b : List Byte) (sigOk cipherOk keyOk : Bool) (material : List Byte) : Result :=
  s.run fun t =>
    let v := t.env
    let t := t.onLog fun r => r.command n tag 0x0802 [1, 2, 3] false fun r =>
      let slot := byteAt b 5
      if r.running (fun k => match k with | .keyUpdate q => q = slot | _ => false) ≠ [] || (op = 2 && r.gate.noRandom) then (r, refuse hsBusy)
      else
        let x := r.newOp v n (.keyUpdate slot)
        if x.2.status ≠ hsAccepted then x
        else
          let code := x.1.keyCheck op b sigOk cipherOk keyOk
          let e := if code = 0 then x.1.keyEffect v b material else (x.1, [])
          let r := if code = 0 && op ≠ 4 then e.1.keysChanged x.1 v else e.1
          let r := r.withHosts fun h => { h with ops := h.ops.map fun y =>
            if y.handle = x.2.handle then { y with result := if code = 0 then hsOk else hsFailed, detail := code, bytes := leBytes 1 code ++ e.2 } else y }
          (r.wr .KEY_STATUS_BUSY 1, x.2)
    { t with free := t.free + 128 }
def execKuInstall (n : Sess) (tag : Nat) (msg : List Byte) (sigOk cipherOk keyOk : Bool) (material : List Byte) (s : State) : Result :=
  s.keyUpdate n tag 1 msg sigOk cipherOk keyOk material
def execKuGenerate (n : Sess) (tag : Nat) (msg : List Byte) (sigOk : Bool) (s : State) : Result := s.keyUpdate n tag 2 msg sigOk true true []
def execKuInvalidate (n : Sess) (tag : Nat) (msg : List Byte) (sigOk : Bool) (s : State) : Result := s.keyUpdate n tag 3 msg sigOk true true []
def execKuReadpub (n : Sess) (tag : Nat) (msg : List Byte) (s : State) : Result := s.keyUpdate n tag 4 msg true true true []
def execKuAdvance (n : Sess) (tag : Nat) (msg : List Byte) (sigOk : Bool) (s : State) : Result := s.keyUpdate n tag 5 msg sigOk true true []

/-- Both Gatehouses have completed an update: KEY_RESULT, the event and OP_DONE (R506, R521). -/
def execKeyUpdateComplete (index : Fin 512) (s : State) : Result :=
  s.onLog fun _ r =>
    match r.hosts.ops.find? fun x => x.index = index.val && !x.done with
    | some x => match x.kind with
      | .keyUpdate slot =>
        let r := r.completeOp (fun y => y.index = x.index) x.result x.detail x.bytes
        let r := (r.wr .KEY_RESULT_CODE x.detail).wr .KEY_RESULT_SLOT slot
        let r := r.wr .KEY_STATUS_BUSY (decide (r.running (fun k => match k with | .keyUpdate _ => true | _ => false) ≠ [])).toNat
        r.raise (if x.detail = 0 then .KEY_EVENT_UPDATE_DONE else .KEY_EVENT_UPDATE_REFUSED)
      | _ => r
    | none => r

/-! ### Requests from engines (R497, R509 to R511, R518, R519) -/

def ghOk : Nat := 0
def ghNotPermitted : Nat := 1
def ghOrphaned : Nat := 2
def ghNoKey : Nat := 3
def ghCtxFull : Nat := 4
def ghBadRequest : Nat := 5
def ghAuthFail : Nat := 6
def ghNotReady : Nat := 7

/-- What a descriptor names. PARAM begins with PEER (8) and LANE (1) for CHALLENGE and CHECK_RESP (log entry 70). -/
structure GhReq where
  slot : Nat
  ctx : Nat
  input : List Byte
  outLen : Nat
  param : List Byte

/-- Checks of a request before its own effect: readiness, form, the engine's right to the key, and the key's state (R497, R507, R515). -/
def Replica.ghCheck (r : Replica) (e op : Nat) (d : List Byte) (q : GhReq) : Nat :=
  let keyOf' (k : Nat) : Nat :=
    if 128 ≤ k then ghBadRequest
    else if !(usageEngines (r.keyUsage k)).contains e then ghNotPermitted
    else if r.keyUsable k then ghOk
    else if r.keyState k = 0 || r.keyState k = 4 then ghNoKey
    else ghOrphaned
  if r.rd .KEY_STATUS_SELFTEST_OK = 0 then ghNotReady
  else if fieldAt d 0 2 ≠ op || fieldAt d 5 3 ≠ 0 || fieldAt d 26 2 ≠ 0 || 8 ≤ byteAt d 4 then ghBadRequest
  else if q.slot ≠ 0xFF then keyOf' q.slot
  else if q.ctx ≠ 0xFF then
    match vget r.gate.contexts q.ctx none with
    | some c => if c.slot < 128 && !(usageEngines (r.keyUsage c.slot)).contains e then ghNotPermitted else if c.orphaned then ghOrphaned else ghOk
    | none => ghOk
  else ghOk

/-- A request reaches the Gatehouse of a pavilion. Its message leaves queue 0 where it stands at the head; its result waits for
GH_REQUEST_DONE in arrival order. An orphaned context is freed (R507, R518). -/
def State.gh (s : State) (p : Pav) (e : Eng) (desc : Word) (op : Nat) (f : GhReq → Env → Replica → Nat × List Byte × Replica) : Result :=
  s.run fun t =>
    let v := t.pav p
    if !v.loc.powered || v.loc.inReset then t
    else
      let a := desc.toNat
      let d := v.loc.sram.rdBytes a 64
      let q : GhReq := { slot := byteAt d 2, ctx := byteAt d 3, input := v.loc.sram.rdBytes (fieldAt d 8 4) (min 65536 (fieldAt d 12 4)),
                         outLen := fieldAt d 20 4, param := d.drop 28 }
      let st := v.rep.ghCheck e op d q
      let x := if st = ghOk then f q t.env v.rep else (st, [], v.rep)
      let x := if x.1 = ghOk && q.outLen < x.2.1.length then (ghBadRequest, [], v.rep) else x
      let r := if x.1 = ghNotPermitted then x.2.2.raise .KEY_EVENT_REQ_REFUSED else if x.1 = ghCtxFull then x.2.2.raise .KEY_EVENT_CTX_FULL else x.2.2
      let r := if x.1 = ghOrphaned && q.slot = 0xFF && q.ctx < 192 then
          { r with gate := { r.gate with contexts := vput r.gate.contexts q.ctx none } } else r
      let w : GateRequest := { desc := a, engine := e.val, replyQ := byteAt d 4 % 8, status := x.1, out := x.2.1, outAddr := fieldAt d 16 4 }
      let r := { r with gate := { r.gate with work := r.gate.work ++ [w] } }
      let t := { t.modRep p (fun _ => r) with free := t.free + 128 }
      t.modEng p gatehouse fun en => match en.queues.get 0 with
        | m :: ms => if m.data.toNat % 2 ^ 32 = a && m.src.toNat = e.val then { en with queues := en.queues.set 0 ms } else en
        | [] => en

/-- The class of a context index, and a context set there; a class without the place is full (R516). -/
def classOf (i : Nat) : Nat := ((List.range 6).find? fun c => ctxBase c ≤ i && i < ctxBase c + ctxSize c).getD 6
def Replica.takeCtx (r : Replica) (cls i slot peer : Nat) (key : List Byte) : Option Replica :=
  if classOf i ≠ cls || (vget r.gate.contexts i none).isSome then none
  else some (r.setCtx cls (i - ctxBase cls) (some { cls, slot, peer, key }))
/-- LABEL and class of the session a challenge key authenticates (R510, R516). -/
def authLabel (usage : Nat) : Nat := if usage = 12 then 1 else if usage = 13 then 2 else if usage = 14 then 3 else 4
def authClass (usage : Nat) : Nat := if usage = 14 then 2 else if usage = 13 then 3 else 4

def sigLen (alg : Nat) : Nat := match alg with | 2 => 64 | 3 => 96 | 4 => 132 | 5 => 114 | _ => 0
def execGhSign (p : Pav) (e : Eng) (desc : Word) (s : State) : Result :=
  s.gh p e desc 1 fun q _ r =>
    if 128 ≤ q.slot || usagePublic (r.keyUsage q.slot) || r.keyAlg q.slot < 2 then (ghBadRequest, [], r)
    else (ghOk, padTo (sigLen (r.keyAlg q.slot)) (Config.signature (r.keyVal q.slot) q.input), r)
def execGhVerify (p : Pav) (e : Eng) (desc : Word) (good : Bool) (s : State) : Result :=
  s.gh p e desc 2 fun q _ r =>
    if 128 ≤ q.slot || r.keyAlg q.slot < 2 then (ghBadRequest, [], r) else (if good then ghOk else ghAuthFail, [], r)
/-- KEY_AGREE forms the traffic key of a TLS session in CTX (R514). -/
def execGhKeyAgree (p : Pav) (e : Eng) (desc : Word) (s : State) : Result :=
  s.gh p e desc 3 fun q v r =>
    if 128 ≤ q.slot then (ghBadRequest, [], r)
    else
      let k := Config.agreed (r.keyVal q.slot + v.free) q.input
      match r.takeCtx (classOf q.ctx) q.ctx q.slot 0 k with
      | some r => (ghOk, [], r)
      | none => (ghCtxFull, [], r)
/-- CHALLENGE: a fresh C for a peer under a challenge key (R509, R512). -/
def execGhChallenge (p : Pav) (e : Eng) (desc : Word) (s : State) : Result :=
  s.gh p e desc 4 fun q v r =>
    let u := r.keyUsage q.slot
    if 128 ≤ q.slot || !(u = 12 || u = 13 || u = 14 || u = 15) then (ghBadRequest, [], r)
    else if r.gate.noRandom then (ghNotReady, [], r)
    else
      let c := Config.freeBytes v.free 16
      let h : Challenge := { ctx := q.ctx, slot := q.slot, peer := fieldAt q.param 0 8, label := authLabel u, lane := byteAt q.param 8, c }
      (ghOk, c, { r with gate := { r.gate with challenges := h :: r.gate.challenges.filter fun x => !(x.slot = h.slot && x.peer = h.peer && x.lane = h.lane) } })
/-- CHECK_RESP: one comparison; on success the session key of R511 stands in CTX. A stage endpoint has no session key (R507). -/
def execGhCheckResp (p : Pav) (e : Eng) (desc : Word) (good : Bool) (s : State) : Result :=
  s.gh p e desc 5 fun q _ r =>
    let u := r.keyUsage q.slot
    match r.gate.challenges.find? fun x => x.slot = q.slot && x.peer = fieldAt q.param 0 8 && x.lane = byteAt q.param 8 with
    | none => (ghBadRequest, [], r)
    | some h =>
      let r := { r with gate := { r.gate with challenges := r.gate.challenges.erase h } }
      if !good then (ghAuthFail, [], r)
      else if u = 12 then (ghOk, [], r)
      else
        let m := leBytes 1 (h.label + 0x80) ++ leBytes 8 Config.unitId ++ leBytes 8 h.peer ++ leBytes 1 h.lane ++ h.c ++ padTo 16 q.input
        let sk := padTo 16 (Config.mac (r.keyVal q.slot) (leBytes 1 1 ++ m)) ++ padTo 16 (Config.mac (r.keyVal q.slot) (leBytes 1 2 ++ m))
        match r.takeCtx (authClass u) q.ctx q.slot h.peer sk with
        | some r => (ghOk, [], r)
        | none => (ghCtxFull, [], r)
/-- The key a MAC, SEAL or OPEN works under: that of CTX. -/
def Replica.ctxKey (r : Replica) (q : GhReq) : Option Nat := (vget r.gate.contexts q.ctx none).map fun c => ofLe c.key
def execGhMac (p : Pav) (e : Eng) (desc : Word) (s : State) : Result :=
  s.gh p e desc 6 fun q _ r =>
    if q.slot < 128 then (ghOk, padTo 16 (Config.mac (r.keyVal q.slot) q.input), r)
    else match r.ctxKey q with
      | some k => (ghOk, padTo 16 (Config.mac k q.input), r)
      | none => (ghNoKey, [], r)
def execGhSeal (p : Pav) (e : Eng) (desc : Word) (s : State) : Result :=
  s.gh p e desc 7 fun q _ r => match r.ctxKey q with
    | some k => (ghOk, padTo (q.input.length + 16) (Config.sealed k q.input), r)
    | none => (ghNoKey, [], r)
def execGhOpen (p : Pav) (e : Eng) (desc : Word) (good : Bool) (s : State) : Result :=
  s.gh p e desc 7 fun q _ r => match r.ctxKey q with
    | some k => if good then (ghOk, padTo (q.input.length - 16) (Config.opened k q.input), r) else (ghAuthFail, [], r)
    | none => (ghNoKey, [], r)
def execGhHash (p : Pav) (e : Eng) (desc : Word) (s : State) : Result :=
  s.gh p e desc 8 fun q _ r => (ghOk, (Config.hash q.input).take q.outLen, r)
def execGhRandom (p : Pav) (e : Eng) (desc : Word) (s : State) : Result :=
  s.gh p e desc 9 fun q v r =>
    if r.gate.noRandom then (ghNotReady, [], r) else (ghOk, Config.freeBytes v.free (min 65536 q.outLen), r)
def execGhCtxFree (p : Pav) (e : Eng) (desc : Word) (s : State) : Result :=
  s.gh p e desc 10 fun q _ r =>
    if 192 ≤ q.ctx then (ghBadRequest, [], r) else (ghOk, [], r.setCtx (classOf q.ctx) (q.ctx - ctxBase (classOf q.ctx)) none)
/-- READ_STATE returns the registers of Tables KEY-8 and KEY-9 as they stand at their offsets (R519, R521). -/
def execGhReadState (p : Pav) (e : Eng) (desc : Word) (s : State) : Result :=
  s.gh p e desc 11 fun q _ r => (ghOk, (((List.range 320).map fun k => leBytes 4 (r.regs.word .KEY (4 * k))).flatten).take q.outLen, r)

/-- The oldest request is done: the output and its length, STATUS last, and the reply message; it waits while the queue is full. -/
def execGhRequestDone (p : Pav) (s : State) : Result :=
  s.run fun t =>
    match (t.pav p).rep.gate.work with
    | [] => t
    | w :: ws =>
      let e : Eng := Fin.ofNat 12 w.engine
      let q : Fin 8 := Fin.ofNat 8 w.replyQ
      if t.queueFull p e q then t
      else
        let t := t.modPav p fun v =>
          let m := if w.status = ghOk then v.loc.sram.wrBytes w.outAddr w.out else v.loc.sram
          let m := (m.wrN (w.desc + 20) 4 w.out.length).wrN (w.desc + 24) 2 w.status
          { loc := { v.loc with sram := m }, rep := { v.rep with gate := { v.rep.gate with work := ws } } }
        t.enqueue p e q ⟨BitVec.ofNat 64 w.desc, BitVec.ofNat 8 gatehouse.val⟩

/-! ### Start and attestation (R451, R499, R513, R515) -/

/-- K0 and K2 are created at the first start in MANUFACTURE, alike in both Gatehouses (R495, R499). -/
def Replica.createDeviceKeys (r : Replica) (v : Env) (other : Replica) : Replica :=
  if r.keyState 0 ≠ 0 || r.lifeCycle ≠ 0 then r
  else
    let m (n k : Nat) : List Byte := if other.keyState 0 = 1 then Sparse.get [] other.gate.material n else Config.freeBytes (v.free + n) k
    let r := ((r.wr .KEY_SATTR_ATTR (attrWord 3 1 0 0x0F 0 0 0) 0).wr .KEY_SINFO_ALG 3 0).setMaterial 0 (m 0 48)
    ((r.wr .KEY_SATTR_ATTR (attrWord 4 1 0 0x0F 2 0 0) 2).wr .KEY_SINFO_ALG 1 2).setMaterial 2 (m 2 32)
/-- The known-answer and start-up health tests end (R515). -/
def execGhSelftestDone (p : Pav) (pass : Bool) (s : State) : Result :=
  s.run fun t =>
    if (t.pav p).loc.inReset || !(t.pav p).loc.powered then t
    else if pass then
      { t.modRep p (fun r => (((r.createDeviceKeys t.env (t.pav p.other).rep).wr .KEY_STATUS_SELFTEST_OK 1).wr .KEY_STATUS_RNG_OK 1).signStatus)
        with free := t.free + 128 }
    else t.modRep p fun r => (r.wr .KEY_STATUS_SELFTEST_OK 0).raise .KEY_EVENT_SELFTEST_FAIL

/-- device.attest (R451, R513). -/
def execDeviceAttest (n : Sess) (tag : Nat) (nonce : List Byte) (s : State) : Result :=
  s.host n tag 0x0401 rolesAny false fun t r =>
    match r.keyOf 11 with
    | none => (r, refuse hsFailed 0x0B)
    | some k =>
      let claim := match t.leader with | some p => (t.pav p).loc.rd .FBR_PRESENT_OWN | none => 0
      let body := leBytes 8 Config.unitId ++ leBytes 4 0x24480002 ++ leBytes 1 r.lifeCycle ++ leBytes 3 0 ++ leBytes 4 (r.rd .UPD_BUILD_BUILD (t.a.loc.rd .UPD_STATUS_BOOTED)) ++
        leBytes 4 (r.rd .UPD_BUILD_BUILD (t.b.loc.rd .UPD_STATUS_BOOTED)) ++ leBytes 4 (paramCheck t.a.loc r) ++ leBytes 4 (r.rd .SAF_CONFIRMED_CHECK) ++
        leBytes 4 claim ++ leBytes 4 t.env.boot ++ leBytes 8 t.now
      let text := leBytes 4 tag ++ leBytes 2 0x0401 ++ leBytes 2 0 ++ leBytes 4 0 ++ leBytes 4 0 ++ body
      (r, { body := body ++ padTo 16 (Config.mac (r.keyVal k) (padTo 16 nonce ++ text)) })

end Sys2Proof.Machine
end

