-- ==== Sys2Proof/Machine/Image.lean ====
section
/-! DEFINITION. Images: the SZI container in the MRAM slots, its checks, and what loading it leaves (R523 to R528, R539). -/
namespace Sys2Proof.Machine

def updOk : Nat := 0x00
def updBadHeader : Nat := 0x01
def updWrongHw : Nat := 0x02
def updWrongUnit : Nat := 0x03
def updNoKey : Nat := 0x04
def updBadSignature : Nat := 0x05
def updBlockCheck : Nat := 0x06
def updRollback : Nat := 0x07
def updBaseMismatch : Nat := 0x08
def updDeltaForm : Nat := 0x09
def updDigest : Nat := 0x0A
def updSequence : Nat := 0x0B
def updPartSize : Nat := 0x0C
def updSingleLane : Nat := 0x0D
def updStartFail : Nat := 0x0E
def updCommit : Nat := 0x0F
def updNoPrevious : Nat := 0x10

def lcReturn : Nat := 3

/-- The address of an image slot (R24). -/
def slotBase (s : Nat) : Nat := if s = 0 then 0x20000000 else 0x20C00000
def Local.img (l : Local) (s off n : Nat) : Nat := l.mram.rdN (slotBase s + off) n
def Local.imgBytes (l : Local) (s off n : Nat) : List Byte := l.mram.rdBytes (slotBase s + off) n

/-- A part entry of Table UPD-2, with its place in block 0. -/
structure PartEntry where
  ix : Nat
  code : Nat
  signer : Nat
  keySlot : Nat
  flags : Nat
  version : Nat
  rollback : Nat
  first : Nat
  count : Nat
  stateId : Nat
  hash : List Byte
  deriving DecidableEq, Repr

def Local.partAt (l : Local) (s i : Nat) : PartEntry :=
  let o := 64 + 160 * i
  { ix := i, code := l.img s o 1, signer := l.img s (o + 1) 1, keySlot := l.img s (o + 2) 1, flags := l.img s (o + 3) 1
    version := l.img s (o + 4) 4, rollback := l.img s (o + 8) 4, first := l.img s (o + 12) 4, count := l.img s (o + 16) 4
    stateId := l.img s (o + 20) 4, hash := l.imgBytes s (o + 24) 32 }
def Local.parts (l : Local) (s : Nat) : List PartEntry := (List.range 10).map fun i => l.partAt s i
def Local.part (l : Local) (s code : Nat) : Option PartEntry := (l.parts s).find? fun x => x.code = code
/-- Signer of each part code (R524). -/
def partSigner (code : Nat) : Nat := [1, 0, 1, 1, 1, 0, 1, 0, 0, 0, 1].getD code 1
def partMet : Nat := 7
def partSaf : Nat := 8
def partLayout : Nat := 10
def partLodge : List Nat := [1, 2]

/-- A load record (R527): its data stand at `off` of the image. -/
structure LoadRec where
  engines : Nat
  mem : Nat
  flags : Nat
  addr : Nat
  len : Nat
  off : Nat
  deriving DecidableEq, Repr

/-- The load records from an offset on, at most `k`. -/
def Local.loadRecs (l : Local) (s : Nat) : Nat → Nat → List LoadRec
  | 0, _ => []
  | k + 1, o =>
    let e := l.img s o 2
    let n := l.img s (o + 8) 4
    if e = 0 && n = 0 then []
    else { engines := e, mem := l.img s (o + 2) 1, flags := l.img s (o + 3) 1, addr := l.img s (o + 4) 4, len := n, off := o + 12 } ::
      l.loadRecs s k (o + 12 + n)
def Local.partRecs (l : Local) (s : Nat) (x : PartEntry) : List LoadRec := l.loadRecs s (x.count * 342) (4096 * x.first)

/-- Blocks of the check table (R526). -/
def tableBlocks (blocks : Nat) : Nat := (blocks + 127) / 128
def Local.checkEntry (l : Local) (s i : Nat) : List Byte := l.imgBytes s (4096 + 32 * i) 32

/-- A part entry keeps to Tables UPD-1 and UPD-2. -/
def Local.entryOk (l : Local) (s : Nat) (x : PartEntry) : Bool :=
  let blocks := l.img s 24 4
  1 ≤ x.code && x.code ≤ 10 && ((l.parts s).filter fun y => y.code = x.code).length = 1 && x.signer = partSigner x.code &&
    (x.flags = if x.code = partMet || x.code = partSaf then 1 else 0) && 1 + tableBlocks blocks ≤ x.first && x.first + x.count ≤ blocks &&
    l.img s (64 + 160 * x.ix + 56) 8 = 0
/-- A METROLOGY or SAFETY part fits twice (R525). -/
def Local.sizeOk (l : Local) (s : Nat) (x : PartEntry) : Bool :=
  let used (mem : Nat) : Nat := ((l.partRecs s x).filter fun y => y.mem = mem).foldl (fun a y => a + y.len) 0
  x.flags % 2 = 0 || (used 0 ≤ 128 * 1024 && used 1 ≤ 48 * 1024)
/-- The part's blocks against the check table, and its entries against PART_HASH. -/
def Local.blocksOk (l : Local) (s : Nat) (x : PartEntry) : Bool :=
  let ix := (List.range x.count).map (x.first + ·)
  x.hash = Config.sha256 (ix.flatMap fun i => l.checkEntry s i) &&
    ix.all fun i => l.checkEntry s i = Config.sha256 (l.imgBytes s (4096 * i) 4096)

/-- The parts a start takes: in RETURN the vendor-signed ones only (R594). -/
def Local.startParts (l : Local) (r : Replica) (s : Nat) : List PartEntry :=
  (l.parts s).filter fun x => r.lifeCycle ≠ lcReturn || x.signer = 0
/-- R528: the first failure with the part concerned, or (0, 0). -/
def Local.checkImage (l : Local) (r : Replica) (s : Nat) : Nat × Nat :=
  let head := l.imgBytes s 0 64
  let blocks := l.img s 24 4
  let bad (p : PartEntry → Bool) : Option PartEntry := (l.startParts r s).find? fun x => !p x
  let key (x : PartEntry) : Bool :=
    x.keySlot < 128 && r.keyUsage x.keySlot = 6 && r.keyUsable x.keySlot && r.keyRole x.keySlot = (if x.signer = 0 then 3 else 2)
  let sig (x : PartEntry) : Bool :=
    Config.verifies (r.material x.keySlot) (head ++ l.imgBytes s (64 + 160 * x.ix) 64) (l.imgBytes s (64 + 160 * x.ix + 64) 96)
  if l.img s 0 2 ≠ 0x1001 || l.img s 2 2 ≠ 10 || l.img s 60 4 ≠ (crc32c (head.take 60)).toNat || blocks < 2 || 3072 < blocks then
    (updBadHeader, 0)
  else if l.img s 8 4 ≠ 0x24480002 then (updWrongHw, 0)
  else if l.img s 16 8 ≠ 0 && l.img s 16 8 ≠ Config.unitId then (updWrongUnit, 0)
  else match bad (l.entryOk s) with
    | some x => (updBadHeader, x.code)
    | none =>
      match bad key with
      | some x => (updNoKey, x.code)
      | none =>
        match bad sig with
        | some x => (updBadSignature, x.code)
        | none =>
          match bad fun x => r.rd .UPD_RB_COUNTER x.code ≤ x.rollback with
          | some x => (updRollback, x.code)
          | none =>
            match bad (l.blocksOk s) with
            | some x => (updBlockCheck, x.code)
            | none =>
              match bad (l.sizeOk s) with
              | some x => (updPartSize, x.code)
              | none => (updOk, 0)

/-- What the LAYOUT part and the header of a slot declare (R524, R526; log entry 71). -/
def Local.layoutOf (l : Local) (s : Nat) : Layout :=
  let b := match l.part s partLayout with | some x => l.imgBytes s (4096 * x.first) (4096 * x.count) | none => []
  let n (k : Nat) : Nat := Config.layoutNum b k
  let eng (k : Nat) : Option Eng := if h : k < 12 then some ⟨k, h⟩ else none
  { twoCycle := n 0 ≠ 0, offClose := n 1 % 65536, offRelease := n 2 % 65536, upChars := n 3, downChars := n 4, captureUnits := n 5
    statusBase := n 6, resultArea := n 7, build := l.img s 4 4
    groupEngine := Vector.ofFn fun g => eng (n (16 + g.val))
    work := (List.range 12).map fun e => n (64 + e)
    workClose := (List.range 12).map fun e => n (80 + e)
    pbase := n 8
    swapEngine := (List.range 24).map fun o => n (100 + o)
    swapAddr := (List.range 24).map fun o => n (124 + o)
    metVer := match l.part s partMet with | some x => x.version | none => 0
    metHash := match l.part s partMet with | some x => x.hash | none => []
    safVer := match l.part s partSaf with | some x => x.version | none => 0 }
/-- The registers that show what the image declares (R227, R254). -/
def Replica.takeLayout (r : Replica) (x : Layout) : Replica :=
  let r := ({ r with layout := x } : Replica).wr .CTL_PBASE_BASE x.pbase
  r.eachOut fun o r => (r.wr .CTL_OSWCTL_ENGINE (x.swapEngine.getD o 0) o).wr .CTL_OSWCTL_ADDR (x.swapAddr.getD o 0) o

/-- One load record taken up: data into each named engine's memory or into shared SRAM, or a start address (R527). -/
def Local.loadRec (l : Local) (s : Nat) (x : LoadRec) : Local :=
  let data := l.imgBytes s x.off x.len
  let named (e : Nat) : Bool := bitOf x.engines e
  if x.flags % 2 = 1 then
    { l with entries := l.entries.mapFinIdx fun e w _ => if named e then BitVec.ofNat 32 x.addr else w }
  else if x.flags ≠ 0 then l
  else if x.mem = 0 then { l with engines := l.engines.mapFinIdx fun e en _ => if named e then { en with itcm := en.itcm.wrBytes x.addr data } else en }
  else if x.mem = 1 then { l with engines := l.engines.mapFinIdx fun e en _ => if named e then { en with dtcm := en.dtcm.wrBytes x.addr data } else en }
  else { l with sram := l.sram.wrBytes x.addr data }
/-- Every part of a slot loaded (R531 steps 3 and 4). -/
def Local.loadImage (l : Local) (r : Replica) (s : Nat) : Local :=
  (l.startParts r s).foldl (fun m x => (l.partRecs s x).foldl (fun m y => m.loadRec s y) m) l

/-- The address at which an engine's state is converted when the new slot's part keeps its state in another layout (R539). -/
def convertAt (old new : Local) (so sn e : Nat) : Option Nat :=
  ((new.parts sn).filter fun x => match old.part so x.code with | some y => y.stateId ≠ x.stateId | none => true).findSome? fun x =>
    ((new.partRecs sn x).find? fun y => y.flags / 2 % 2 = 1 && bitOf y.engines e).map (·.addr)

end Sys2Proof.Machine
end

