-- ==== Sys2Proof/Machine/Params.lean ====
section
/-! DEFINITION. The parameter set: what a commit checks, what it derives and how a set comes into force (R38 to R41, R599). -/
namespace Sys2Proof.Machine

def coOk : Nat := 0
def coTimeoutLayering : Nat := 1
def coLoadBudget : Nat := 2
def coFieldRange : Nat := 3
def coSetCheck : Nat := 4
def coPavMismatch : Nat := 5

/-- A set up for commit: the RWL values of a pavilion's own and of its replicated registers, and the records. -/
structure Cand where
  loc : Regs
  rep : Regs
  recs : Mem

/-- RWL values written and not yet committed, in their places. -/
def Regs.written (r : Regs) (w : List (Field × Nat × Nat)) : Regs := w.foldl (fun r x => r.wr x.1 x.2.2 x.2.1) r
def Pavilion.cand (v : Pavilion) : Cand :=
  { loc := v.loc.regs.written v.loc.rwl, rep := v.rep.regs.written v.rep.rwl, recs := v.rep.hosts.staged.getD v.rep.params }
/-- A field of the set, wherever its register is kept. -/
def Cand.rd (c : Cand) (f : Field) (i : Nat := 0) : Nat := if f.info.home = .rep then c.rep.rd f i else c.loc.rd f i
/-- A field of a record. -/
def Cand.prm (c : Cand) (kind ix off n : Nat) : Nat := c.recs.rdN (kind * 2 ^ 16 + ix * 2 ^ 10 + off) n
def Cand.record (c : Cand) (kind ix n : Nat) : List Byte := c.recs.rdBytes (kind * 2 ^ 16 + ix * 2 ^ 10) n
def Cand.nomf (c : Cand) : Nat := if c.rd .SDL_CTRL_NOMF = 0 then 50 else 60
def Cand.fLo (c : Cand) : Nat := if c.rd .SDL_CTRL_NOMF = 0 then 45 else 54
def Cand.fUp (c : Cand) : Nat := if c.rd .SDL_CTRL_NOMF = 0 then 55 else 66
def Cand.mult (c : Cand) : Nat := c.rd .SDL_MULT_N
/-- Groups whose link is in use, and outlets in service. -/
def Cand.used (c : Cand) (g : Nat) : Bool := c.rd .STG_LCFG_EN_LINK g = 1
def Cand.outlet (c : Cand) (o : Nat) : Bool := bitOf (c.prm recSafety 0 8 4) o

/-- Instances of a field, and the offset of one of them in its block. -/
def instances (dims : List (Nat × Nat)) : Nat := dims.foldl (fun m d => m * d.2) 1
def instOffset : List (Nat × Nat) → Nat → Nat
  | [], _ => 0
  | (s, _) :: rest, i => i / max 1 (instances rest) * s + instOffset rest (i % max 1 (instances rest))
def Field.offset (f : Field) (i : Nat) : Nat := f.info.base + instOffset f.info.dims i

/-! ### Field ranges -/

/-- The stated ranges of RWL register fields whose width admits more: GSP to FBR, STG, CTL. -/
def rangesA : List (Field × Nat × Nat) :=
  [(.GSP_CTRL_DIV, 10, 25), (.GSP_CTRL_OSR, 0, 2), (.FBR_HOLD_HOLD, 10, 6000), (.FBR_VWIN_VWIN, 500, 20000), (.STG_CTRL_LEASE, 2, 8),
   (.STG_CTRL_VERS, 1, 3), (.STG_MAXDLY_DLY, 0, 200), (.STG_RETRY_RTO, 16, 255), (.STG_RETRY_RCNT, 0, 7), (.STG_ZC_ZC_CYC, 2, 255),
   (.CTL_CTRL_LOST_CYC, 2, 8), (.CTL_SHORT_FRAC, 1, 50), (.CTL_SHORT_TIME, 10, 1000), (.CTL_SHORT_ATLIM, 50, 100),
   (.CTL_SS_ILIM, 10, 10000), (.CTL_SS2_OC, 110, 250), (.CTL_SS2_RATE, 1, 1000), (.CTL_XCHK_BLK, 2, 15), (.CTL_CAPSIZE_SIZE, 0, 16),
   (.CTL_ACTRL_CUT_PCT, 1, 20), (.CTL_ACTRL_FB_PCT, 25, 100), (.CTL_ACTRL_LATE_FB, 2, 10), (.CTL_ACTRL_BLIND_PCT, 0, 50),
   (.CTL_PCONN_PCONN, 1, 65535), (.CTL_POOLRATE_RATE, 1, 1000), (.CTL_INVTOL_TOL, 1, 50), (.CTL_INVTOL_CYC, 4, 255),
   (.CTL_FRESH_FE, 1, 15), (.CTL_FRESH_COOL, 1, 255), (.CTL_FRESH_STALE_PCT, 0, 100)]
/-- The same for DLK, MET, LSW, HST, KEY, UPD, MCC. -/
def rangesB : List (Field × Nat × Nat) :=
  [(.DLK_CTRL_VERS, 1, 7), (.DLK_CTRL_RTO, 5, 100), (.DLK_CTRL_RCNT, 0, 7), (.DLK_SUP_SUP, 20, 10000), (.DLK_OTIME1_T_LINK, 5, 60),
   (.DLK_OTIME1_T_AUTH, 10, 255), (.DLK_OTIME1_T_LOCK, 5, 100), (.DLK_OTIME1_T_CC, 5, 120), (.DLK_OTIME2_T_PRE, 10, 255),
   (.DLK_OTIME2_T_STOP, 5, 100), (.DLK_OTIME2_T_LOOP, 2, 100), (.DLK_OTIME2_PRE_TOL, 5, 100), (.DLK_OSTOP_I_STOP, 10, 500),
   (.DLK_OCOOL_P_IDLE, 0, 100), (.DLK_OCOOL_T_ON, 0, 100), (.DLK_OCOOL_F_ON, 0, 100), (.MET_CTRL_SAVE_INT, 1, 8), (.MET_CTRL_REP, 0, 3),
   (.MET_CTRL_T_LOSS, 2, 100), (.LSW_CCFG_TYPE, 0, 4), (.LSW_CCFG_T_RETRY, 1, 255), (.LSW_CCFG_I_OL, 4, 36), (.LSW_CCFG_I_OPEN, 1, 100),
   (.LSW_CCFG2_T_PULL, 1, 100), (.LSW_CCFG2_I_HOLD, 5, 150), (.LSW_CCFG2_T_START, 1, 200), (.HST_CTRL_KA, 5, 600),
   (.HST_CTRL_TCP_RETRIES, 1, 7), (.HST_QUOTA_OBS, 1, 255), (.HST_QUOTA_OPR, 1, 255), (.HST_QUOTA_OEM, 1, 255), (.HST_QUOTA_VND, 1, 255),
   (.HST_TIMES_LOCK_IDLE, 60, 3600), (.KEY_SPARE_OPS, 0, 16), (.UPD_CTRL_WARM, 10, 6000), (.UPD_CTRL_SL_WAIT, 1, 600),
   (.MCC_CTRL_SLOT_HC, 4, 15), (.MCC_CTRL_NSLOT, 8, 64), (.MCC_CTRL_GUARD, 5, 30), (.MCC_CTRL_SLOT_OFS, 0, 179), (.MCC_RETRY_RTRY, 1, 7),
   (.MCC_RETRY_ALT, 0, 4), (.MCC_RETRY_MAXHOP, 1, 4), (.MCC_RETRY_JOIN, 1, 3), (.MCC_REACH_REACH, 2, 3600), (.MCC_MASK_MASK_BW, 0, 100),
   (.CAN_CCTRL_WAKE, 0, 2), (.CAN_CNBT_NTSEG1, 1, 127), (.CAN_CNBT_NTSEG2, 1, 31), (.CAN_CDBT_DTSEG1, 0, 31)]

/-- A rule over one field: a place where it fails gives the register's offset. -/
def failAt (f : Field) (n : Nat) (ok : Nat → Bool) : Option Nat := ((List.range n).find? fun i => !ok i).map f.offset

/-- Bit times in 12.5 ns (R461). -/
def Cand.tNom (c : Cand) (n : Nat) : Nat := (3 + c.rd .CAN_CNBT_NTSEG1 n + c.rd .CAN_CNBT_NTSEG2 n) * (c.rd .CAN_CNBT_NBRP n + 1)
def Cand.tData (c : Cand) (n : Nat) : Nat := (3 + c.rd .CAN_CDBT_DTSEG1 n + c.rd .CAN_CDBT_DTSEG2 n) * (c.rd .CAN_CDBT_DBRP n + 1)

/-- The first register field out of its range or against a rule of its chapter, as an offset (R49, R53, R29, R220, R284, R309, R317,
R461, R462, R471, R475, R494, R454, R455, R568). -/
def Cand.badField (c : Cand) (lay : Layout) : Option Nat :=
  let table := (rangesA ++ rangesB).findSome? fun x => failAt x.1 (instances x.1.info.dims) fun i => x.2.1 ≤ c.rd x.1 i && c.rd x.1 i ≤ x.2.2
  let n := c.mult
  let half := (List.range 32).any fun g => bitOf (c.rd .SDL_HALFMASK_HALF) g && c.used g
  let multOk := n % 2 = 0 && n * c.fUp ≤ 160000 && 16000 ≤ n * c.fLo && (!half || 32000 ≤ n * c.fLo) && (lay.twoCycle || n * c.fUp ≤ 100000)
  let size (i : Nat) : Nat := c.rd .CTL_CAPSIZE_SIZE i
  let base (i : Nat) : Nat := c.rd .CTL_CAPBASE_BASE i
  let capOk (i : Nat) : Bool := size i = 0 || (base i + size i ≤ lay.captureUnits &&
    (List.range 4).all fun j => j = i || size j = 0 || base i + size i ≤ base j || base j + size j ≤ base i)
  let wire (g b : Nat) : Nat := c.rd (match b with | 0 => .CTL_GWIRE_BUS0 | 1 => .CTL_GWIRE_BUS1 | 2 => .CTL_GWIRE_BUS2 | _ => .CTL_GWIRE_BUS3) g
  let wireOk (g : Nat) : Bool := (List.range 4).all fun b => (wire g b < 24 || wire g b = 31) &&
    (wire g b = 31 || (List.range 4).all fun d => d = b || wire g d ≠ wire g b)
  let coolOk (o : Nat) : Bool := c.rd .DLK_OCOOL_F_ON o < c.rd .DLK_OCOOL_F_FULL o &&
    (!c.outlet o || ((c.rd .DLK_OCOOL_T_ON o * 10 : Nat) : Int) < signed 16 (c.prm recCable o 10 2) - 50)
  let payload (m : Nat) : Bool := m ≤ 8 || [12, 16, 20, 24, 32, 48, 64].contains m
  let canOk (k : Nat) : Bool := 80 ≤ c.tNom k && c.tNom k ≤ 640 && 10 ≤ c.tData k && c.tData k ≤ c.tNom k &&
    c.rd .CAN_CNBT_NSJW k ≤ c.rd .CAN_CNBT_NTSEG2 k && c.rd .CAN_CDBT_DSJW k ≤ c.rd .CAN_CDBT_DTSEG2 k &&
    (c.rd .CAN_CCTRL_TDC k = 1 || 80 ≤ c.tData k)
  let ip6 (k : Nat) : List Nat := (List.range 4).map fun w => c.rd .HST_ADDR6_IP6 (4 * k + w)
  let has4 (k : Nat) : Bool := c.rd .HST_ADDR4_IP4 k ≠ 0
  let has6 (k : Nat) : Bool := (ip6 k).any (· ≠ 0)
  let laneUsed (k : Nat) : Bool := has4 k || has6 k || c.rd .HST_NET_PFX4 k ≠ 0 || c.rd .HST_NET_PFX6 k ≠ 0 || c.rd .HST_GW4_GW4 k ≠ 0 ||
    (List.range 4).any fun w => c.rd .HST_GW6_GW6 (4 * k + w) ≠ 0
  let laneOk (k : Nat) : Bool := !laneUsed k || ((has4 k || has6 k) &&
    (!has4 k || (1 ≤ c.rd .HST_NET_PFX4 k && c.rd .HST_NET_PFX4 k ≤ 30)) && (!has6 k || (1 ≤ c.rd .HST_NET_PFX6 k && c.rd .HST_NET_PFX6 k ≤ 128)))
  let pairOk (p : Nat) : Bool := !((has4 (2 * p) && c.rd .HST_ADDR4_IP4 (2 * p) = c.rd .HST_ADDR4_IP4 (2 * p + 1)) ||
    (has6 (2 * p) && ip6 (2 * p) = ip6 (2 * p + 1)))
  table.or <| (failAt .SDL_MULT_N 1 fun _ => multOk).or <|
    (failAt .CTL_CAPSIZE_SIZE 4 fun i => capOk i && size 0 + size 1 + size 2 + size 3 ≤ 16).or <|
    (failAt .CTL_GWIRE_BUS0 32 wireOk).or <| (failAt .DLK_OCOOL_F_FULL 24 coolOk).or <|
    (failAt .CAN_CCTRL_MAXP 2 fun k => payload (c.rd .CAN_CCTRL_MAXP k)).or <| (failAt .CAN_CNBT_NBRP 2 canOk).or <|
    (failAt .MCC_CTRL_NSLOT 1 fun _ => c.rd .MCC_RETRY_MAXHOP * c.rd .MCC_RETRY_RTRY + 1 + c.rd .MCC_RETRY_JOIN ≤ c.rd .MCC_CTRL_NSLOT).or <|
    (failAt .HST_CTRL_MAJ1 1 fun _ => c.rd .HST_CTRL_MAJ1 = 1 || c.rd .HST_CTRL_MAJ2 = 1).or <|
    (failAt .HST_NET_PFX4 4 laneOk).or <| (failAt .HST_ADDR4_IP4 2 fun p => pairOk p).or <|
    failAt .AON_CTRL_IDLE_T 1 fun _ => c.rd .AON_CTRL_IDLE_T = 0 || 10 ≤ c.rd .AON_CTRL_IDLE_T

def within (lo hi v : Nat) : Bool := lo ≤ v && v ≤ hi

/-- A phase-management record (R231). -/
def Cand.phaseOk (c : Cand) (g : Nat) : Bool :=
  let f (off n : Nat) : Nat := c.prm recPhase g off n
  let sec (i : Nat) : Int := signed 32 (f (20 + 4 * i) 4)
  f 0 2 = 0x0701 && f 2 2 = 64 && within 50 32767 (f 4 2) && within 10 10000 (f 6 2) && within 50 100 (f 8 1) && within 10 90 (f 9 1) &&
    16 ≤ f 10 2 && within 4 64 (f 12 1) && within 1 16 (f 13 1) && within 1 8 (f 14 1) && f 15 1 ≤ 1 &&
    (f 16 2 = 0 || within 10 60000 (f 16 2)) && f 19 1 = 0 && within 1 1000 (f 52 2) && within 1 1000 (f 54 2) && within 1 10000 (f 56 2) &&
    f 58 2 = 0 && f 9 1 + 10 ≤ f 8 1 && stableSection (sec 3) (sec 4) (f 48 4 % 2 = 1) && sec 5 = -(sec 6)
/-- A cable record (R278). -/
def Cand.cableOk (c : Cand) (o : Nat) : Bool :=
  let f (off n : Nat) : Nat := c.prm recCable o off n
  let tLim := signed 16 (f 10 2)
  f 0 2 = 0x0802 && f 2 2 = 48 && within 1 100000 (f 4 4) && f 8 2 ≤ 6000 && 400 ≤ tLim && tLim ≤ 1200 && within 100 10000000 (f 12 4) &&
    f 12 4 ≤ f 16 4 && within 10 1000000 (f 20 4) && within 100 30000 (f 26 2) && f 30 2 ≤ 30000 && f 32 8 = 0 && f 40 4 = 0 &&
    tLim + 50 ≤ signed 16 (c.prm recSafety 0 (192 + 16 * o + 2) 2)
/-- A metrology record (R353). -/
def Cand.meterOk (c : Cand) (o : Nat) : Bool :=
  let f (off n : Nat) : Nat := c.prm recMet o off n
  f 0 2 = 0x0A04 && f 2 2 = 32 && f 4 4 ≤ 100000 && within 10 500 (f 8 2) && within 10 1000 (f 10 2) && f 21 7 = 0
/-- The safety parameter set (R384, R385): every entry is checked, in service or not (R599). -/
def Cand.safetyOk (c : Cand) : Bool :=
  let f (off n : Nat) : Nat := c.prm recSafety 0 off n
  let ins := List.range 16
  let outs := List.range 24
  let out (o off n : Nat) : Nat := f (192 + 16 * o + off) n
  let inp (i off n : Nat) : Nat := f (64 + 8 * i + off) n
  let head := f 0 2 = 0x0B01 && f 2 2 = 580 && f 4 1 ≤ 1 && within 5 100 (f 5 1) && within 1 100 (f 6 2) && f 8 4 < 2 ^ 24 &&
    within 5 500 (f 12 2) && within 30 60 (f 14 1) && within 10 50 (f 15 1) && within 1 15 (f 16 1) && f 17 1 = 0 && within 200 5000 (f 18 2) &&
    within 20 200 (f 20 2) && within 50 400 (f 22 2) && within 500 5000 (f 24 2) && within 10 100 (f 26 2) && f 28 36 = 0
  let inOk (i : Nat) : Bool := inp i 0 1 ≤ 3 && inp i 1 1 ≤ 3 && inp i 2 2 = 0 &&
    (inp i 0 1 = 0 || (inp i 4 4 ≠ 0 && (outs.all fun o => !bitOf (inp i 4 4) o || c.outlet o) && inp i 4 4 < 2 ^ 24))
  let named (o : Nat) : Bool := out o 0 1 ≠ 0xFF
  let outOk (o : Nat) : Bool := (named o || !c.outlet o) &&
    (!named o || (out o 0 1 < 32 && c.rd .LSW_CCFG_TYPE (out o 0 1) = 1 && outs.all fun q => q = o || out q 0 1 ≠ out o 0 1)) &&
    out o 1 1 ≤ 3 && within 400 1300 (out o 2 2) && within 1 10 (out o 4 1) && within 2 16 (out o 5 1) && within 10 200 (out o 6 2) &&
    within 100 1000 (out o 8 2) && within 100 500 (out o 10 2) && out o 10 2 < out o 8 2 && out o 12 4 = 0 &&
    ((out o 1 1 ≠ 1 && out o 1 1 ≠ 2) || ins.any fun i => inp i 0 1 = 3 && bitOf (inp i 4 4) o)
  head && ins.all inOk && outs.all outOk && (f 4 1 = 1 || (outs.filter c.outlet).length ≤ 8)

/-- Records whose own CHECK does not fit them (R38; log entry 79): those that are checked and used. -/
def Cand.badCheck (c : Cand) : Bool :=
  !crcGood (c.record recSafety 0 580) || ((List.range 32).any fun g => c.used g && !crcGood (c.record recPhase g 64)) ||
    (List.range 24).any fun o => (c.outlet o && !crcGood (c.record recCable o 48)) || !crcGood (c.record recMet o 32)
def Cand.badRecord (c : Cand) : Bool :=
  !c.safetyOk || ((List.range 32).any fun g => c.used g && !c.phaseOk g) ||
    (List.range 24).any fun o => (c.outlet o && !c.cableOk o) || !c.meterOk o

/-! ### Layers and load (R39 to R41, R150, R151, R600) -/

def ceilDiv (a b : Nat) : Nat := (a + b - 1) / b
/-- Bits of the longest frame of a CAN channel (R469). -/
def Cand.canBits (c : Cand) (k : Nat) : Nat :=
  if c.rd .CAN_CCTRL_FD k = 1 then
    let m := c.rd .CAN_CCTRL_MAXP k
    let n := 41 + 8 * m
    n + (n - 1) / 4 + (if m ≤ 16 then 27 else 32) + 13
  else 118 + 117 / 4 + 13
/-- L of a CAN channel in 0.1 ms (R469), of TCP in 0.1 s (R427), of DLP and of the block repeat in ms (R293, R325), LSUB (R210). -/
def Cand.lCan (c : Cand) (k : Nat) : Nat := ceilDiv ((1408 + c.canBits k) * c.tNom k) 8000
def Cand.lTcp (c : Cand) : Nat := (List.range (c.rd .HST_CTRL_TCP_RETRIES + 1)).foldl (fun a i => a + min (2 * 2 ^ i) 32) 0
def Cand.lDlp (c : Cand) : Nat := (c.rd .DLK_CTRL_RCNT + 1) * c.rd .DLK_CTRL_RTO
def Cand.lMet (c : Cand) : Nat := c.rd .MET_CTRL_REP * 4 + 1
def Cand.lSub (lay : Layout) : Nat := ceilDiv lay.offClose 256
/-- L of the mains carrier as a fraction of seconds: half cycles of its slots, and half cycles per second (R486). -/
def Cand.lMcc (c : Cand) : Nat × Nat :=
  ((1 + c.rd .MCC_RETRY_ALT) * (c.rd .MCC_CTRL_NSLOT + c.rd .MCC_RETRY_MAXHOP * c.rd .MCC_RETRY_RTRY) * c.rd .MCC_CTRL_SLOT_HC, 2 * c.fLo)

/-- The first pair of R41, in its order, whose upper timeout is too short. -/
def Cand.badLayer (c : Cand) (lay : Layout) : Option Nat :=
  let ls := ((List.range 2).filter fun k => c.rd .CAN_CCTRL_EN k = 1).map c.lCan
  let lc := ls.foldl max 0
  let tick := if c.nomf = 50 then 300 else 250
  let m := c.lMcc
  let oks : List Bool :=
    [ls = [] || 60 * lc + max (3 * lc) (10 * tick) ≤ 10 * c.rd .CTL_FRESH_FE * tick,
     20 * m.1 + max m.1 (10 * m.2) ≤ c.rd .MCC_REACH_REACH * 10 * m.2,
     2 * c.lDlp + max (ceilDiv c.lDlp 10) 1 ≤ c.rd .DLK_SUP_SUP,
     20 * c.lTcp + max c.lTcp 100 ≤ c.rd .HST_CTRL_KA * 100,
     2 * c.lMet + max (ceilDiv c.lMet 10) 1 ≤ c.rd .MET_CTRL_T_LOSS,
     2 * Cand.lSub lay + 256 ≤ c.rd .CTL_CTRL_LOST_CYC * 256]
  (List.range 6).find? fun i => !(oks.getD i true)

/-- The load and placement tests (R150, R151, R600). -/
def Cand.overload (c : Cand) (lay : Layout) : Bool :=
  let nf := c.mult * c.fUp
  let cyc := 200000000 / nf
  let loops := (List.finRange 12).filter loopProfile
  let writes (e : Eng) : Bool := lay.groupEngine.any fun x => x = some e
  let span := (lay.offRelease - if lay.twoCycle then 0 else lay.offClose) * cyc / 65536
  let d := 5 * c.rd .STG_MAXDLY_DLY
  loops.any (fun e => 70 * cyc < lay.work.getD e.val 0 * 100 || (writes e && span < lay.workClose.getD e.val 0 + 1)) ||
    lay.offClose * 10 ^ 9 < 65536 * nf * (d + 20 * lay.upChars + 500) ||
    (65536 - lay.offRelease) * 10 ^ 9 < 65536 * nf * (20 * lay.downChars + d + 1000)

/-- The commit checks in their order: the code and DETAIL (R38). Where the spec lays down no DETAIL (a record, a layer pair, the load) it is
the free value `k`. -/
def Cand.check (c : Cand) (lay : Layout) (crcOk same : Bool) (k : Nat) : Nat × Nat :=
  let open' := Config.freeNat k % 2 ^ 16
  if !crcOk || c.badCheck then (coSetCheck, open')
  else if !same then (coPavMismatch, open')
  else match c.badField lay with
    | some off => (coFieldRange, off % 2 ^ 16)
    | none =>
      if c.badRecord then (coFieldRange, open')
      else if (c.badLayer lay).isSome then (coTimeoutLayering, open')
      else if c.overload lay then (coLoadBudget, open')
      else (coOk, 0)

/-! ### A set comes into force -/

/-- The figures derived at commit (R203, R210, R293, R325, R345, R427, R469, R486). A CAN figure or the MCC figure that is no whole
number of its units rounds to a neighbour the spec does not name: `k` decides. -/
def Replica.derive (r : Replica) (c : Cand) (k : Nat) : Replica :=
  let lay := r.layout
  let near (num den : Nat) : Nat := if num % den = 0 then num / den else num / den + Config.freeNat k % 2
  let nl := 2 * c.mult * c.fLo
  let per := if (List.range 32).any fun g => bitOf (c.rd .SDL_HALFMASK_HALF) g && c.used g then 2 else 1
  let det := (10 + c.rd .MET_CTRL_T_LOSS) * 10 * nl + 2 * c.rd .STG_CTRL_LEASE * per * 10 ^ 4
  let r := (r.wr .CTL_LAYER_LSUB (Cand.lSub lay)).wr .CTL_LAYER_SHORT_CYC (ceilDiv (c.rd .CTL_SHORT_TIME * c.mult * c.nomf) 10000)
  let r := ((r.wr .DLK_SUP_L c.lDlp).wr .HST_LAYER_L c.lTcp).wr .MET_TIMES_L c.lMet
  let r := (r.wr .MET_TIMES_T_DET (ceilDiv det nl)).wr .MET_TIMES_T_BOUND (ceilDiv (det + c.rd .MET_CTRL_SAVE_INT * 10 ^ 4 * c.mult) nl)
  let r := r.wr .MCC_REACH_L (near (10 * c.lMcc.1) c.lMcc.2)
  (List.range 2).foldl (fun r n => (r.wr .CAN_CLAYER_L (c.lCan n) n).wr .CAN_CLAYER_TMAX (near (c.canBits n * c.tNom n) 80) n) r

/-- Links whose EN_LINK is 0 are DISABLED, others leave DISABLED for DOWN (R177, R299). -/
def Replica.enableLinks (r : Replica) (v : Env) : Replica :=
  let r := r.eachGrp fun g r =>
    if r.rd .STG_LCFG_EN_LINK g = 0 then (if r.lstate g = lsDisabled then r else r.setLink' v g lsDisabled)
    else if r.lstate g = lsDisabled then r.setLink' v g lsDown else r
  (List.range 12).foldl (fun r d =>
    if r.rd .DLK_LCFG_EN_LINK d = 0 then (if r.dstate d = dsDisabled then r else r.linkDown d dsDisabled)
    else if r.dstate d = dsDisabled then r.linkDown d dsDown else r) r

/-- A commit lets refused sensor heads try again (R322). -/
def Replica.retryHeads (r : Replica) : Replica :=
  r.eachOut fun o r => if r.head o = headRefused && r.dstate (o / 2) = dsActive && r.supported o then r.startHead o else r

/-- The records in force, with what hangs on them: the safety set's check value, pending until it is confirmed (R387). -/
def Replica.takeRecords (r : Replica) (m : Mem) : Replica :=
  let r : Replica := { r with params := m, committed := true, hosts := { r.hosts with staged := none } }
  let check := m.rdN (recSafety * 2 ^ 16 + 576) 4
  (r.wr .SAF_CHECK_CHECK check).wr .SAF_STATUS_PENDING
    (!(r.rd .SAF_STATUS_CONF = 1 && r.rd .SAF_CONFIRMED_CHECK = check)).toNat

/-- A set takes effect in one pavilion, all of it at once (R38). -/
def Pavilion.takeCand (v : Pavilion) (e : Env) (c : Cand) : Pavilion :=
  let r := ({ v.rep with regs := c.rep, paramRegs := c.rep.only isRwl, rwl := [] } : Replica).takeRecords c.recs
  { loc := { v.loc with regs := c.loc, paramRegs := c.loc.only isRwl, rwl := [] }
    rep := ((r.derive c e.free).enableLinks e).retryHeads }
/-- The common block acts on the values both copies hold, or on the leader's alone (R20, R21). -/
def Site.copyUp (t : Site) (p : Pav) : Site :=
  let l := (t.pav p).loc
  t.modCom fun c => { c with regs := c.regs.take (fun x => x.acc = .RWL && x.home = .copy) l.regs }

/-- Two sets are the same (R38). -/
def Cand.same (a b : Cand) : Bool := a.loc.only isRwl = b.loc.only isRwl && a.rep.only isRwl = b.rep.only isRwl && a.recs = b.recs

/-- A set may take effect at once: none is in force, or no group is ACTIVE and no outlet is energised (R534). -/
def Replica.mayCommit (r : Replica) : Bool :=
  !r.committed || ((List.range 32).all (fun g => r.lstate g ≠ lsActive) && (List.range 24).all fun o => !r.energised o)

/-- The checks of a commit ordered of every pavilion in step: code and DETAIL. -/
def Site.commitCheck (t : Site) (crcOk : Bool) : Nat × Nat :=
  match t.leader with
  | none => (coSetCheck, 0)
  | some p =>
    let c := (t.pav p).cand
    c.check (t.pav p).rep.layout crcOk (!t.redundant || Cand.same c (t.pav p.other).cand) t.free
/-- A commit that has passed its checks: in force at once, or held as the pending set (R534). -/
def Site.commitTake (t : Site) : Site :=
  let now := match t.leader with | some p => (t.pav p).rep.mayCommit | none => false
  let t := t.onStep fun v =>
    if now then v.takeCand t.env v.cand
    else { v with rep := { v.rep.wr .UPD_STATUS_PENDING_PARAM 1 with hosts := { v.rep.hosts with pending := some v.cand.recs, staged := none } } }
  match t.leader with | some p => if now then t.copyUp p else t | none => t

/-- The pending set takes effect in one pavilion (R534, R537). -/
def Pavilion.takePending (v : Pavilion) (e : Env) : Pavilion :=
  match v.rep.hosts.pending with
  | none => v
  | some m =>
    let v := v.takeCand e { v.cand with recs := m }
    { v with rep := { v.rep.wr .UPD_STATUS_PENDING_PARAM 0 with hosts := { v.rep.hosts with pending := none } } }

end Sys2Proof.Machine
end

