-- ==== Sys2Proof/Machine/Pavilion.lean ====
section
/-! DEFINITION. Twin pavilions: the input log, the lease and claims, divergence, the referee, joining and handback (R74 to R108). -/
namespace Sys2Proof.Machine

def caSelfcheckFail : Nat := 1
def caUnresolved : Nat := 2
def caReferee : Nat := 3
def caDigestMissing : Nat := 4
def caLogGap : Nat := 5
def caFootbridgeLost : Nat := 6
def caJoinRefused : Nat := 7
def caSupply : Nat := 8
def caIndicatorAlone : Nat := 9

/-! ### The input log (R81 to R83) -/

/-- The site-cycle boundaries are numbered from Sundial time 0; the latest one, and the time of boundary `n` (R14, R52). -/
def Site.boundaryNo (t : Site) : Nat := t.cycle * t.mult + t.siteIndex
def boundaryTime (mult n : Nat) : Nat := n / max 1 mult * 2 ^ 32 + ceilDiv (n % max 1 mult * 2 ^ 32) (max 1 mult)

/-- EFFECTIVE of a group of `m` entries sequenced now: at least two boundaries and 20 µs (4,000 ticks) ahead, never below that of an
earlier entry, with at most 64 entries at one boundary (R82). -/
def Site.effective (t : Site) (log : List LogEntry) (m : Nat) : Nat :=
  let first := max (t.boundaryNo + 2) (ceilDiv ((t.com.sun.a.pos + 4000 * t.com.sun.a.rate) * t.mult) (2 ^ 64))
  let e := log.foldl (fun e x => max e x.effective) (boundaryTime t.mult first)
  if (log.filter fun x => x.effective = e).length + m ≤ 64 then e else boundaryTime t.mult (e * t.mult / 2 ^ 32 + 1)

/-- FBR_SEQ shows the next SEQ (R107). -/
def Local.showSeq (l : Local) : Local :=
  (l.wr .FBR_SEQ_LO_SEQ (l.nextSeq % 2 ^ 32)).wr .FBR_SEQ_HI_SEQ (l.nextSeq / 2 ^ 32)

/-- SOURCE of a CAN frame's entry, and its payload: identifier, flags, DLC, timestamp and data (R459; log entry 74). -/
def canSource (ch : Nat) : Nat := 0x20 + ch
def mccSource : Nat := 0x30
def canPayload (f : CanFrame) (wake : Bool) : List Byte :=
  leBytes 4 f.ident ++ leBytes 1 (f.ide.toNat + 2 * f.fdf.toNat + 4 * f.brs.toNat + 8 * f.esi.toNat + 16 * wake.toNat) ++ leBytes 1 f.dlc ++
    leBytes 8 f.time ++ f.data
/-- The timestamp of the last CAN frame sequenced is kept by channel (R459). -/
def Local.noteCan (l : Local) (source : Nat) (payload : List Byte) : Local :=
  if source = canSource 0 then { l with canSeq := vput l.canSeq 0 (fieldAt payload 6 8) }
  else if source = canSource 1 then { l with canSeq := vput l.canSeq 1 (fieldAt payload 6 8) } else l

/-- Entries a payload needs: a longer one is a group whose entries share one EFFECTIVE (R82). -/
def groupSize (payload : List Byte) : Nat := max 1 (ceilDiv payload.length 228)

/-- The leader sequences an input when the ring has room for the whole group (R82). -/
def Site.sequence (t : Site) (p : Pav) (kind source : Nat) (payload : List Byte) (switching : Bool) : Option Site :=
  let l := (t.pav p).loc
  let m := groupSize payload
  if 2048 < l.log.length + m then none
  else
    let e := t.effective l.log m
    let es := (List.range m).map fun k =>
      { seq := l.nextSeq + k, effective := e, kind, source, payload := (payload.drop (228 * k)).take 228, switching : LogEntry }
    some (t.modLoc p fun l =>
      ({ l with log := l.log ++ es, nextSeq := l.nextSeq + m, tx := l.tx ++ es.map (.logEntry p) } : Local).showSeq.noteCan source payload)

/-- Sequencing is held, and LOG_HELD raised once for the episode (R82). -/
def Site.holdLog (t : Site) (p : Pav) : Site :=
  t.modLoc p fun l => if l.logHeld then l else { l.raise .FBR_EVENT_LOG_HELD with logHeld := true }

/-- Waiting inputs are sequenced in their order of arrival while there is room; at most `k` of them. -/
def Site.drainInputs (t : Site) (p : Pav) : Nat → Site
  | 0 => t
  | k + 1 => match (t.pav p).loc.inputs with
    | [] => t.modLoc p fun l => { l with logHeld := false }
    | (kind, source, payload, switching) :: rest => match t.sequence p kind source payload switching with
      | some t => (t.modLoc p fun l => { l with inputs := rest, logHeld := false }).drainInputs p k
      | none => t.holdLog p
def Site.drain (t : Site) (p : Pav) : Site := t.drainInputs p ((t.pav p).loc.inputs.length + 1)

/-- An input reaches the leader, behind those that wait. -/
def Site.input (t : Site) (kind source : Nat) (payload : List Byte) (switching : Bool := false) : Site :=
  match t.leader with
  | none => t
  | some p => (t.modLoc p fun l => { l with inputs := l.inputs ++ [(kind, source, payload, switching)] }).drain p
/-- An entry the leader makes itself, which needs no place among waiting inputs: where the ring is full, sequencing is held instead. -/
def Site.entry (t : Site) (p : Pav) (kind : Nat) (payload : List Byte) : Option Site :=
  if (t.pav p).loc.inputs = [] then t.sequence p kind 0 payload false else none

/-- R81, R82. An input of more than 19 entries does not occur: no group holds more. -/
def execLogEntrySequence (kind source : Nat) (payload : List Byte) (switching : Bool) (s : State) : Result :=
  s.run fun t => if 19 < groupSize payload then t else t.input kind source payload switching

/-! ### Setting aside and takeover (R85 to R90, R96) -/

/-- A pavilion is set aside: it drives nothing, presents no claim and has released the lease; it writes its local last-fault data; the
third time within an hour holds it (R96). The survivor journals the fault, the sessions the pavilion carried end (R426), and a divergence
procedure ends. -/
def Site.setAside (t : Site) (p : Pav) (cause : Nat) : Site :=
  let red := t.redundant
  let t := t.firstFails p
  let t := (t.setRole p roleSetAside).present p 0
  let t := t.modLoc p fun l =>
    let recent := t.ticks :: l.setAsides.filter fun x => t.ticks < x + 720000000000
    let l := (((l.wr .FBR_CAUSE_CAUSE cause).raise .FBR_EVENT_YIELD).wr .FBR_SETASIDE_COUNT recent.length).wr .FBR_STATUS_DIVERGENT 0
    ({ l with setAsides := recent, heldOut := l.heldOut || 3 ≤ recent.length, div := none, join := .idle, handbackAt := none } : Local).journal
      p red { time := t.now, location := locPavLogic, instNo := 0xFF, outcome := masked, reaction := reSetAside, cause, localTo := true }
  t.modPav p.other fun v =>
    let v := { v with loc := { v.loc.wr .FBR_STATUS_DIVERGENT 0 with div := none, handbackAt := none } }
    if !v.inStep then v
    else
      let r : Replica := { v.rep with now := t.now }
      let r := (List.range 16).foldl (fun r n => if (r.ses n).lane = p then r.endSes t.env n true else r) r
      ({ v with rep := r.fault t.now locPavLogic 0xFF masked reSetAside cause } : Pavilion).flush p.other red

/-- Steps 1 to 3 of R87: the larger of the stored claim and the last one the peer presented, plus 1, stored and presented. -/
def Local.nextClaim (l : Local) : Nat := max (l.rd .FBR_CLAIM_STORED) l.peerClaim + 1
def Site.renew (t : Site) (p : Pav) : Site :=
  t.modLoc p fun l =>
    ({ l.wr .FBR_LEASEAGE_AGE 0 with live := !l.live, liveAt := t.ticks, renewedAt := t.ticks } : Local).send
      (.renewal p (l.rd .FBR_PRESENT_OWN) ((l.nextSeq + 2 ^ 64 - 1) % 2 ^ 64))
def Site.takeClaim (t : Site) (p : Pav) : Site :=
  let c := (t.pav p).loc.nextClaim
  let t := (t.modLoc p fun l => { l.wr .FBR_CLAIM_STORED c with join := .idle }).setRole p roleLeader
  (t.present p c).renew p

/-- The version of a part in a slot, 0 where it stands in none. -/
def Local.partVersion (l : Local) (s code : Nat) : Nat := match l.part s code with | some x => x.version | none => 0

/-- Every outlet's program at T (R541, R542): where a PER_OUTLET part differs in VERSION its bit is set, and an outlet that may move does. -/
def Pavilion.switchPrograms (v : Pavilion) (e : Env) (old new : Nat) : Pavilion :=
  let differs (code : Nat) : Bool := v.loc.partVersion old code ≠ v.loc.partVersion new code
  let r := if differs partMet then v.rep.wr .UPD_OLDPROG_OUTLETS (2 ^ 24 - 1) else v.rep
  let r := if differs partSaf then r.wr .UPD_OLDSAF_OUTLETS (2 ^ 24 - 1) else r
  { v with rep := r.eachOut fun o r => (r.adoptMeter e o).moveSafety e o }

/-- T of a staged activation (R537): the pending set takes effect, the new slot is ACTIVE, the other one valid, and the outlets' programs
begin to move; phase SECOND. -/
def Pavilion.atT (v : Pavilion) (e : Env) : Pavilion :=
  let v := v.takePending e
  let old := v.rep.rd .UPD_STATUS_ACTIVE
  let u := v.rep.upd
  let r := ({ v.rep with upd := { u with slWait := false } } : Replica).wr .UPD_STATUS_PHASE 6
  if u.paramOnly then { v with rep := r }
  else
    let r := ((r.wr .UPD_STATUS_ACTIVE u.target).wr .UPD_STATUS_PREV_VALID 1).wr .UPD_STATUS_STAGED 0
    ({ v with rep := r } : Pavilion).switchPrograms e old u.target
/-- Both take it; the register of outlets still on the old programs reads alike in L, which restarts. -/
def Site.atT (t : Site) (f : Pav) : Site :=
  let t := t.onStep fun v => v.atT t.env
  let r := (t.pav f).rep
  let t := t.modRep f.other fun q =>
    (q.wr .UPD_OLDPROG_OUTLETS (r.rd .UPD_OLDPROG_OUTLETS)).wr .UPD_OLDSAF_OUTLETS (r.rd .UPD_OLDSAF_OUTLETS)
  { t with free := t.free + 1 }

/-- The inputs that wait pass to the new leader, and with them the CAN frames it kept whose timestamps are later than that of the last
one sequenced (R87, R459). -/
def Site.passInputs (t : Site) (p : Pav) : Site :=
  let old := (t.pav p.other).loc.inputs
  let l := (t.pav p).loc
  let can (n : Nat) : List (Nat × Nat × List Byte × Bool) :=
    ((vget l.canRx n []).filter fun f => vget l.canSeq n 0 < f.time).map fun f => (2, canSource n, canPayload f false, false)
  let t := t.modLoc p.other fun l => { l with inputs := [], logHeld := false }
  (t.modLoc p fun l => { l with inputs := l.inputs ++ old ++ can 0 ++ can 1, canRx := Vector.replicate 2 [] }).drain p

/-- A takeover (R87), refused where the claim would pass 0xFFFF_FFFF (R88). In a staged activation F's takeover goes on at phase SECOND;
before its restart it ends the activation (R536, R540, R544). -/
def Site.takeover (t : Site) (p : Pav) : Site :=
  if 0xFFFFFFFF < (t.pav p).loc.nextClaim then t.modLoc p fun l => l.raise .FBR_EVENT_CLAIM_EXHAUSTED
  else
    let t := (t.takeClaim p).modLoc p fun l => { l.raise .FBR_EVENT_TAKEOVER with handbackAt := none }
    let ph := (t.pav p).rep.rd .UPD_STATUS_PHASE
    let t := if 3 ≤ ph && ph ≤ 5 then t.atT p
             else if ph = 2 then t.onLog fun r => r.actFail 0x0E 0 else t
    (t.passInputs p).takeSwitches

/-- A pavilion that may take the lease over: FOLLOWER, or JOINING from its boundary B on (R101 step 6). -/
def Pavilion.mayTake (v : Pavilion) : Bool := v.role = roleFollower || (v.role = roleJoining && v.inStep)
/-- A joiner that has not reached B restarts when the lease goes (R101 step 6). -/
def Pavilion.earlyJoiner (v : Pavilion) : Bool := v.role = roleJoining && !v.inStep

def execLeaseReleaseSeen (p : Pav) (s : State) : Result :=
  s.run fun t =>
    if t.role p.other = roleLeader then t
    else if (t.pav p).mayTake then t.takeover p
    else if (t.pav p).earlyJoiner then t.pavReset p pcSetAside else t

/-- R86: `live` says that the peer's LIVE bit has toggled within 300 µs. -/
def execLeaseExpiry (p : Pav) (live : Bool) (s : State) : Result :=
  s.run fun t =>
    let v := t.pav p
    if v.mayTake then
      let t := t.modLoc p fun l => (l.raise .FBR_EVENT_LEASE_EXPIRED).wr .FBR_STATUS_LEASE_VALID 0
      if live then t.setAside p caFootbridgeLost else t.takeover p
    else if v.earlyJoiner then t.pavReset p pcSetAside else t

/-- R84. -/
def execLeaseRenewalSend (s : State) : Result :=
  s.run fun t => match t.leader with | some p => t.renew p | none => t
def execLeaseRenewalRx (p : Pav) (s : State) : Result :=
  s.run fun t =>
    if t.role p = roleLeader || t.role p.other ≠ roleLeader || (t.pav p).loc.inReset then t
    else t.modLoc p fun l => { (l.wr .FBR_LEASEAGE_AGE 0).wr .FBR_STATUS_LEASE_VALID 1 with renewedAt := t.ticks }

/-- R90. In a handback the old leader becomes FOLLOWER without being set aside (R104); in a staged activation L restarts from the staged
slot (R537). The cause of any other such yield is not stated: a free value (log entry 76). -/
def execPeerClaimHigher (p : Pav) (s : State) : Result :=
  s.run fun t =>
    let l := (t.pav p).loc
    let r := (t.pav p).rep
    if t.role p ≠ roleLeader || l.rd .FBR_PEERCLAIM_PEER ≤ l.rd .FBR_PRESENT_OWN then t
    else if r.rd .UPD_STATUS_PHASE = 6 && r.upd.lead = p && l.handbackAt.isSome then t.pavReset p pcActivation
    else if l.handbackAt.isSome then
      ((t.setRole p roleFollower).present p 0).modLoc p fun l => { l.raise .FBR_EVENT_YIELD with handbackAt := none, healthyAt := t.ticks }
    else { t.setAside p (Config.freeNat t.free % 256) with free := t.free + 1 }

/-- R83: a bad CHECK is no entry; a gap, or an entry after its EFFECTIVE boundary, sets the follower aside. -/
def execLogEntryRx (p : Pav) (seq effective kind source : Nat) (payload : List Byte) (checkOk switching : Bool) (s : State) : Result :=
  s.run fun t =>
    let v := t.pav p
    if !checkOk || !v.inStep || v.role = roleLeader then t
    else if seq ≠ v.loc.nextSeq || effective ≤ t.now then (t.modLoc p fun l => l.raise .FBR_EVENT_LOG_GAP).setAside p caLogGap
    else t.modLoc p fun l =>
      ({ l with log := l.log ++ [{ seq, effective, kind, source, payload, switching }], nextSeq := l.nextSeq + 1 } : Local).showSeq.noteCan
        source payload

/-! ### Divergence (R91 to R95) -/

/-- A sticky fault indicator of R92 is set. -/
def Local.indicated (l : Local) : Bool := l.ind.ecc || l.ind.bus || l.ind.engine || l.ind.supply || l.ind.beat

/-- Both pavilions start the procedure in the same cycle, complete their self-checks (`katA`, `katB`: the second CRC unit and the
known-answer tests) and exchange them; under REFEREE the verdict request opens a window (R91, R92, R98). -/
def Site.startDivergence (t : Site) (katA katB : Bool) : Site :=
  if !t.redundant || (t.pav .A).loc.div.isSome || (t.pav .B).loc.div.isSome then t
  else
    let referee := match t.leader with | some p => (t.pav p).loc.rd .FBR_CTRL_MODE = 1 | none => false
    let go (t : Site) (p : Pav) (kat : Bool) : Site := t.modLoc p fun l =>
      let own := kat && !l.indicated
      let l := ((l.raise .FBR_EVENT_DIVERGE).wr .FBR_STATUS_DIVERGENT 1).wr .FBR_HEALTHY_TIME 0
      ({ l with div := some { start := t.ticks, own, window := referee }, healthyAt := t.ticks } : Local).send (.selfCheck p own)
    let t := go (go t .A katA) .B katB
    if referee then t.modCom fun c => { c with tx := c.tx ++ [.refereeRequest] } else t

/-- The table of R94, for the pavilion that decides. -/
def outcomeOf (leads own peer : Bool) : Verdict :=
  match leads, own, peer with
  | _, false, false => .controlledStop
  | true, true, _ => .continues
  | true, false, true => .yields
  | false, true, false => .takesOver
  | false, true, true => .setAside caUnresolved
  | false, false, true => .setAside caSelfcheckFail

/-- A pavilion that holds both results decides (R94). -/
def Site.decideOutcome (t : Site) (p : Pav) (peer : Bool) : Site :=
  match (t.pav p).loc.div with
  | some d =>
    if d.peer.isSome then t
    else t.modLoc p fun l => { l with div := some { d with
      peer := some peer, outcome := some (outcomeOf (t.role p = roleLeader) d.own peer), decided := t.ticks } }
  | none => t
def execSelfcheckResultRx (p : Pav) (pass : Bool) (s : State) : Result := s.run fun t => t.decideOutcome p pass
def execSelfcheckResultTimeout (p : Pav) (s : State) : Result := s.run fun t => t.decideOutcome p false

/-- A pavilion whose outputs are withheld while the referee decides (R97). -/
def Site.hold (t : Site) (p : Pav) : Site :=
  ((t.setRole p roleHeld).present p 0).modLoc p fun l => l.raise .FBR_EVENT_YIELD
def Site.clearDiv (t : Site) : Site :=
  (t.modLoc .A fun l => { l.wr .FBR_STATUS_DIVERGENT 0 with div := none }).modLoc .B fun l => { l.wr .FBR_STATUS_DIVERGENT 0 with div := none }
/-- The controlled stop of R42, after which a pavilion restarts (R94). -/
def Site.stopOne (t : Site) (p : Pav) : Site :=
  let red := t.redundant
  t.modPav p fun v =>
    let r := (({ v.rep with now := t.now } : Replica).fault t.now locPavLogic 0xFF detected reControlledStop caSelfcheckFail).controlledStop t.env
    ({ loc := { v.loc.wr .FBR_STATUS_DIVERGENT 0 with div := none, restartDue := true }, rep := r } : Pavilion).flush p red
def Site.stopBoth (t : Site) : Site := (t.stopOne .A).stopOne .B

/-- A pavilion the outcome sets aside: HELD while a verdict window is open (R97). -/
def Site.outOf (t : Site) (p : Pav) (d : Divergence) (cause : Nat) : Site := if d.window then t.hold p else t.setAside p cause
/-- One pavilion carries its outcome out, 1 µs (200 ticks) after the exchange at the earliest (R94, R95, R97). -/
def Site.applyOne (t : Site) (p : Pav) (d : Divergence) : Site :=
  let done (t : Site) : Site := if d.window then t else t.modLoc p fun l => { l.wr .FBR_STATUS_DIVERGENT 0 with div := none }
  if t.ticks < d.decided + 200 then t
  else match d.outcome with
    | none => t
    | some .continues => done t
    | some .yields => if t.role p = roleLeader then t.outOf p d caSelfcheckFail else t
    | some (.setAside c) => if t.role p = roleFollower then t.outOf p d c else t
    | some .takesOver => if t.role p = roleFollower then done (t.takeover p) else t
    | some .controlledStop => t.stopOne p
/-- At a command release the decided outcomes take effect, and the privileged outputs held are taken from the survivor (R95). -/
def Site.applyOutcome (t : Site) : Site :=
  match t.leader with
  | none => t
  | some p =>
    let one (t : Site) (p : Pav) (d : Option Divergence) : Site := match d with | some d => t.applyOne p d | none => t
    let t' := one (one t p (t.pav p).loc.div) p.other (t.pav p.other).loc.div
    if !t.privOpen && t'.privOpen then t'.takeSwitches else t'

/-- Mirrored digests agree or not: privileged outputs are taken up and sticky indicators cleared on a match; a mismatch starts the
divergence procedure, or sets a joiner aside (R30, R89, R92, R101). A joiner of a staged activation is not compared (R536). -/
def execPeerDigestRx (katA katB : Bool) (s : State) : Result :=
  s.run fun t =>
    let dig (p : Pav) : Nat := (t.pav p).loc.rd .FBR_DIG_OWN_DIGEST
    let show' (t : Site) (p : Pav) : Site := t.modLoc p fun l => { l.wr .FBR_DIG_PEER_DIGEST (dig p.other) with digMiss := 0 }
    if !(t.pav .A).loc.ownDigest || !(t.pav .B).loc.ownDigest then t
    else if t.redundant then
      let t := show' (show' t .A) .B
      if dig .A ≠ dig .B then t.startDivergence katA katB
      else if !t.privOpen then t
      else
        let clean (t : Site) (p : Pav) : Site := t.modLoc p fun l =>
          { l with ind := {}, healthyAt := if l.indicated then t.ticks else l.healthyAt }
        (clean (clean t .A) .B).takeSwitches
    else match t.leader with
      | none => t
      | some p =>
        match (t.pav p.other).loc.join with
        | .joining k =>
          if t.role p.other ≠ roleJoining || t.actFirst = some p.other then t
          else if dig .A = dig .B then t.modLoc p.other fun l => { l with join := .joining (k + 1) }
          else t.setAside p.other caUnresolved
        | _ => t

/-- A follower's digest missing for 2 cycles while the leader's own was produced and a channel carries traffic (R106). -/
def execDigestMissing (p : Pav) (s : State) : Result :=
  s.run fun t =>
    let l := (t.pav p).loc
    let q := (t.pav p.other).loc
    let channel := (l.rd .FBR_STATUS_CH0_OK = 1 && q.rd .FBR_STATUS_CH0_OK = 1) || (l.rd .FBR_STATUS_CH1_OK = 1 && q.rd .FBR_STATUS_CH1_OK = 1)
    if t.redundant && t.role p = roleFollower && q.ownDigest && channel then t.setAside p caDigestMissing else t

/-! ### The referee (R97 to R100) -/

def Site.referee (t : Site) : Bool := match t.leader with | some p => (t.pav p).loc.rd .FBR_CTRL_MODE = 1 | none => false
/-- The filtered levels of the two pins (R98). -/
def Site.refLevels (t : Site) (lowA lowB : Bool) : Site :=
  let both (t : Site) (p : Pav) : Site := t.modLoc p fun l => (l.wr .FBR_STATUS_REF_A (!lowA).toNat).wr .FBR_STATUS_REF_B (!lowB).toNat
  both (both t .A) .B
/-- The pavilion a verdict condemns leaves; a FOLLOWER or HELD peer takes over from a leader (R98, R99). -/
def Site.condemn (t : Site) (p : Pav) : Site :=
  let q := t.role p.other
  if t.role p = roleLeader then
    if q = roleFollower || q = roleHeld then (t.setAside p caReferee).takeover p.other
    else t.modLoc p fun l => l.raise .FBR_EVENT_REF_IGNORED
  else if t.role p = roleFollower || t.role p = roleHeld then (t.setAside p caReferee).takeSwitches else t
def Site.runs (t : Site) (p : Pav) : Bool := t.drives p || t.role p = roleHeld
/-- Step 4 of R98. -/
def Site.verdict (t : Site) (lowA lowB : Bool) : Site :=
  if lowA && lowB && t.runs .A && t.runs .B then t.stopBoth
  else
    let t := if lowA && t.runs .A then t.condemn .A else t
    if lowB && t.runs .B then t.condemn .B else t
def Site.windowOpen (t : Site) : Bool :=
  [Pav.A, .B].any fun p => match (t.pav p).loc.div with | some d => d.window | none => false
def execRefereeVerdict (lowA lowB : Bool) (s : State) : Result :=
  s.run fun t =>
    if !t.referee || !t.windowOpen then t
    else
      let t := t.refLevels lowA lowB
      if lowA || lowB then (t.verdict lowA lowB).clearDiv else t
/-- Step 5 of R98: the provisional outcome is final. -/
def execRefereeWindowTimeout (s : State) : Result :=
  s.run fun t =>
    if !t.windowOpen then t
    else
      let close (t : Site) (p : Pav) : Site := t.modLoc p fun l =>
        if l.div.isSome then { l.raise .FBR_EVENT_REF_TIMEOUT with div := l.div.map fun d => { d with window := false } } else l
      let t := close (close t .A) .B
      let cause (p : Pav) : Nat := match (t.pav p).loc.div with
        | some d => match d.outcome with | some (.setAside c) => c | _ => caSelfcheckFail
        | none => caSelfcheckFail
      if t.role .A = roleHeld then t.setAside .A (cause .A) else if t.role .B = roleHeld then t.setAside .B (cause .B) else t
/-- R99; with both pins read high again the levels alone change. In SELF mode the pins are ignored (R100). -/
def execUnsolicitedVerdict (lowA lowB : Bool) (s : State) : Result :=
  s.run fun t => if !t.referee || t.windowOpen then t else (t.refLevels lowA lowB).verdict lowA lowB

/-! ### Restarts (R94, R96, R105) -/

def execSetAsideReset (p : Pav) (s : State) : Result :=
  s.run fun t => if t.role p = roleSetAside && !(t.pav p).loc.inReset then t.pavReset p pcSetAside else t
/-- R105. -/
def execIndicatorAlone (p : Pav) (s : State) : Result :=
  s.run fun t =>
    if t.alone p && (t.pav p).loc.indicated && !(t.pav p).loc.restartDue then
      let t := (t.onLog fun r => r.fault t.now locPavLogic 0xFF detected reControlledStop caIndicatorAlone).controlledStop
      t.modLoc p fun l => { l.wr .FBR_CAUSE_CAUSE caIndicatorAlone with restartDue := true }
    else t
/-- R94, R105: the follower restarts after the stop, a leader once the follower has joined or 1 s after the stop. -/
def execControlledStopRestart (p : Pav) (s : State) : Result :=
  s.run fun t => if (t.pav p).loc.restartDue && !(t.pav p).loc.inReset then t.pavReset p pcSetAside else t

/-! ### The Footbridge and the copies (R21, R76) -/

/-- R76; 8 bad beats set the beat indicator of R92, silence does not. -/
def execFootbridgeChannelFail (p : Pav) (ch : Fin 2) (beats : Bool) (s : State) : Result :=
  s.run fun t =>
    let f : Field := if ch = 0 then .FBR_STATUS_CH0_OK else .FBR_STATUS_CH1_OK
    let g : Field := if ch = 0 then .FBR_STATUS_CH1_OK else .FBR_STATUS_CH0_OK
    if (t.pav p).loc.rd f = 0 then t
    else
      let t := t.modLoc p fun l => { (l.wr f 0).raise .FBR_EVENT_CH_FAULT with ind := { l.ind with beat := l.ind.beat || beats } }
      let other := (t.pav p).loc.rd g = 1
      t.onLog fun r => r.fault t.now locFootbridge ch.val (if other then masked else detected) (if other then reOtherPath else reLogged) 0

/-- The block keeps its setting; `f` is the register's place among the fields (R21, R42). -/
def execCopyMismatch (f : Nat) (s : State) : Result :=
  s.run fun t =>
    if !t.redundant then t
    else
      let t := (t.modLoc .A fun l => l.raise .FBR_EVENT_COPY_MISMATCH).modLoc .B fun l => l.raise .FBR_EVENT_COPY_MISMATCH
      t.onLog fun r => r.journal t.now locCopyCompare 0xFF detected reLogged 0 (leBytes 4 f)

/-! ### Joining (R101, R102) -/

/-- What the joiner must be to ask: started, not held out, its Gatehouse sound, its referee pin released (R96, R99, R515). -/
def Site.canAsk (t : Site) (p : Pav) : Bool :=
  let v := t.pav p
  v.role = roleSetAside && !v.loc.inReset && v.loc.powered && v.loc.booted && !v.loc.heldOut && v.rep.rd .KEY_STATUS_SELFTEST_OK = 1 &&
    !(t.referee && (t.pav p.other).loc.rd (match p with | .A => .FBR_STATUS_REF_A | .B => .FBR_STATUS_REF_B) = 0)
/-- The leader accepts with no divergence or handback in progress, in the phases of an activation that call for a join, and with key
counters and a life cycle not lower than the joiner's (R101, R517). -/
def Site.accepts (t : Site) (q p : Pav) : Bool :=
  let l := (t.pav q).loc
  let r := (t.pav q).rep
  let j := (t.pav p).rep
  let ph := r.rd .UPD_STATUS_PHASE
  l.div.isNone && l.handbackAt.isNone && (ph ≤ 1 || ph = 3 || ph = 6) && j.lifeCycle ≤ r.lifeCycle &&
    (List.range 128).all fun n => j.keyCounter n ≤ r.keyCounter n
def Site.askJoin (t : Site) (p : Pav) : Site :=
  match t.leader with
  | none => t
  | some q =>
    if !t.canAsk p then t
    else
      let t := t.modLoc p fun l => l.send (.joinRequest p)
      if t.accepts q p then (t.modLoc p fun l => { l with join := .mirroring }).setRole p roleJoining
      else (t.modLoc p fun l => { l.wr .FBR_CAUSE_CAUSE caJoinRefused with join := .refused }).modLoc q fun l => l.send (.joinRefused q)
def execJoinRequest (p : Pav) (s : State) : Result := s.run fun t => t.askJoin p
def execJoinRetry (p : Pav) (s : State) : Result := s.run fun t => if (t.pav p).loc.join = .refused then t.askJoin p else t

/-- Step 4 of R101: the SYNC entry, whose EFFECTIVE is boundary B; the joiner stores the leader's claim (R88). -/
def execBackgroundCopyDone (p : Pav) (s : State) : Result :=
  s.run fun t =>
    match t.leader with
    | none => t
    | some q =>
      if t.role p ≠ roleJoining || (t.pav p).loc.join ≠ .mirroring || q = p then t
      else match t.entry q 7 [] with
        | none => t.holdLog q
        | some t =>
          let b := (t.pav q).loc.log.foldl (fun b x => max b x.effective) 0
          t.modLoc p fun l => { l.wr .FBR_CLAIM_STORED ((t.pav q).loc.rd .FBR_CLAIM_STORED) with join := .syncLogged b }
def execSyncBoundary (s : State) : Result :=
  s.run fun t =>
    match t.leader with
    | none => t
    | some q => match (t.pav q.other).loc.join with
      | .syncLogged b => t.modLoc q fun l => l.send (.handover q b l.nextSeq)
      | _ => t

/-- An engine of the joiner takes the context of the leader's (R102): PC, FLAGS, g and a registers, with the DTCM copied; it starts at
its resumption point, or at its converter (R539). -/
def Engine.handed (en lead : Engine) (convert : Option Nat) : Engine :=
  { en with run := lead.run, wait := .none, flags := lead.flags, gpr := lead.gpr, acc := lead.acc, dtcm := lead.dtcm
            pc := match convert with | some a => BitVec.ofNat 32 a | none => lead.pc }

/-- What a joiner holds from boundary B on: the leader's shared SRAM, DTCMs, contexts, log, windows and replicated state, and the
leader's values in its own copies of the common block's registers (R21, R101); its anti-rollback counters never fall (R532). In a
staged activation it keeps what its own image declares (R536). -/
def Pavilion.handed (v lead : Pavilion) (act : Bool) : Pavilion :=
  let so := lead.loc.rd .UPD_STATUS_BOOTED
  let sn := v.loc.rd .UPD_STATUS_BOOTED
  let convert (e : Nat) : Option Nat := if act then convertAt lead.loc v.loc so sn e else none
  let r : Replica := { lead.rep with layout := if act then v.rep.layout else lead.rep.layout }
  let r := if act then r.takeLayout v.rep.layout else r
  let r := (List.range 11).foldl (fun r k => r.wr .UPD_RB_COUNTER (max (r.rd .UPD_RB_COUNTER k) (v.rep.rd .UPD_RB_COUNTER k)) k) r
  let l := { v.loc with
    regs := v.loc.regs.take (fun x => x.home = Home.copy) lead.loc.regs
    engines := Vector.ofFn fun e => (v.loc.engines.get e).handed (lead.loc.engines.get e) (convert e.val)
    sram := lead.loc.sram, inWin := lead.loc.inWin, inNext := lead.loc.inNext, outWin := lead.loc.outWin
    log := lead.loc.log, nextSeq := lead.loc.nextSeq, canSeq := lead.loc.canSeq, canRx := Vector.replicate 2 []
    inputs := [], logHeld := false, join := .joining 0, digMiss := 0, ownDigest := false, div := none, ind := {} }
  { loc := l.showSeq, rep := { r with gate := { r.gate with copyKey := true } } }

def execHandoverRecordRx (p : Pav) (checkOk : Bool) (s : State) : Result :=
  s.run fun t =>
    let v := t.pav p
    let q := t.pav p.other
    let synced := match v.loc.join with | .syncLogged _ => true | _ => false
    let act := t.actFirst = some p
    if !synced || v.role ≠ roleJoining || t.leader ≠ some p.other then t
    else if !checkOk || (!act && (v.rep.layout.build ≠ q.rep.layout.build || paramCheck v.loc v.rep ≠ paramCheck q.loc q.rep)) then
      t.setAside p caJoinRefused
    else
      let t := t.modPav p fun v => v.handed q act
      if act && (t.pav p).rep.rd .UPD_STATUS_PHASE = 3 then
        t.onLog fun r => { r.wr .UPD_STATUS_PHASE 4 with upd := { r.upd with warmTicks := 0 } }
      else t

/-- The end of a staged activation (R540): the counters are raised to the new parts' ROLLBACK, ACT_DONE, and the operation ends OK. -/
def Pavilion.actDone (v : Pavilion) : Pavilion :=
  let s := v.rep.rd .UPD_STATUS_ACTIVE
  let r := if v.rep.upd.paramOnly then v.rep
    else (v.loc.parts s).foldl (fun r x => r.wr .UPD_RB_COUNTER (max (r.rd .UPD_RB_COUNTER x.code) x.rollback) x.code) v.rep
  let r := (((r.wr .UPD_STATUS_PHASE 0).wr .UPD_RESULT_CODE updOk).wr .UPD_RESULT_PART 0).raise .UPD_EVENT_ACT_DONE
  let r := { r with upd := { r.upd with act := none, paramOnly := false, warmTicks := 0, slWait := false, slOut := false } }
  { v with rep := r.completeOp (fun x => match x.kind with | .activate => true | .rollback => true | _ => false) hsOk 0 [] }

/-- Step 6 of R101. A leader whose restart a controlled stop left due restarts now (R94). -/
def execJoinerBecomesFollower (p : Pav) (s : State) : Result :=
  s.run fun t =>
    let v := t.pav p
    let ready := match v.loc.join with | .joining k => 16 ≤ k | _ => false
    if !ready || v.role ≠ roleJoining || t.actFirst = some p then t
    else
      let t := (t.modLoc p fun l => { l with join := .idle, healthyAt := t.ticks }).setRole p roleFollower
      let t := t.onLog fun r => r.journal t.now locPavLogic 0xFF restored reLogged 0
      let t := if v.rep.rd .UPD_STATUS_PHASE = 6 then t.onStep fun v => v.actDone else t
      if (t.pav p.other).loc.restartDue then t.pavReset p.other pcSetAside else t

/-! ### Handback (R103, R104) -/

/-- The leader sequences a HANDBACK entry that names the second allocation tick after it (R104). -/
def Site.orderHandback (t : Site) : Site :=
  match t.leader with
  | none => t
  | some p =>
    let at' := (nextTickOf t.now + 2 ^ 31) % 2 ^ 64
    match t.entry p 8 (leBytes 8 at') with
    | none => t.holdLog p
    | some t => (t.modLoc .A fun l => { l with handbackAt := some at' }).modLoc .B fun l => { l with handbackAt := some at' }
def Site.handbackFree (t : Site) : Bool :=
  t.redundant && [Pav.A, .B].all fun p => (t.pav p).loc.handbackAt.isNone && (t.pav p).loc.div.isNone
/-- R103: the home pavilion, FOLLOWER and healthy for HOLD, asks for the lease. -/
def execHoldElapsed (p : Pav) (s : State) : Result :=
  s.run fun t =>
    let l := (t.pav p).loc
    let home := l.rd .FBR_CTRL_HOME = (if p = .A then 0 else 1)
    if home && l.rd .FBR_CTRL_REVERT = 1 && t.role p = roleFollower && !l.indicated && t.handbackFree && (t.pav p).rep.rd .UPD_STATUS_PHASE ≤ 1 then
      t.orderHandback
    else t
/-- FBR_CMD.YIELD at its log position; ignored unless the peer is FOLLOWER (R104, R107). -/
def Site.yield (t : Site) : Site := if t.handbackFree then t.orderHandback else t
def execFbrYield (s : State) : Result := s.run fun t => t.yield
/-- FBR_CMD.REJOIN: a pavilion held out under R96 is released (R107). -/
def Site.rejoin (t : Site) (p : Pav) : Site := t.modLoc p fun l => { l with heldOut := false }
def execFbrRejoin (p : Pav) (s : State) : Result := s.run fun t => t.rejoin p

/-- Every single-lane group has been sent EN = 0 for 2 frame periods (R538). -/
def Replica.singleQuiet (r : Replica) : Bool := (List.range 32).all fun g => r.rd .STG_LCFG_LANES g ≠ 1 || 2 ≤ (r.ph g).enZero

/-- At T the follower takes steps 1 to 3 of R87 and sequences from then on (R104); in a staged activation F does so, and the new image
takes effect (R537). A leader that is A waits for the single-lane groups first, from tick to tick (R538). -/
def execHandbackTick (s : State) : Result :=
  s.run fun t =>
    match t.leader with
    | none => t
    | some p =>
      let q := p.other
      let act := t.actFirst = some q
      if (t.pav p).loc.handbackAt.isNone || (t.pav q).loc.handbackAt.isNone || !(t.role q = roleFollower || (act && (t.pav q).mayTake)) then t
      else if act && p = .A && !(t.pav p).rep.singleQuiet then
        let later (l : Local) : Local := { l with handbackAt := l.handbackAt.map fun x => (x + 2 ^ 31) % 2 ^ 64 }
        (t.modLoc .A later).modLoc .B later
      else if 0xFFFFFFFF < (t.pav q).loc.nextClaim then t.modLoc q fun l => { l.raise .FBR_EVENT_CLAIM_EXHAUSTED with handbackAt := none }
      else
        let t := (t.takeClaim q).modLoc q fun l => { l.raise .FBR_EVENT_HANDBACK with handbackAt := none }
        let t := t.modLoc p fun l => l.raise .FBR_EVENT_HANDBACK
        ((if act then t.atT q else t).passInputs q).takeSwitches

end Sys2Proof.Machine
end

