-- ==== Sys2Proof/Machine/Update.lean ====
section
/-! DEFINITION. Staging, staged activation and rollback, op.cancel, and the host commands that act beyond a replica (R96, R104, R310, R413,
R440, R442, R529 to R544, R595). -/
namespace Sys2Proof.Machine

/-- A command that acts on a pavilion's own memories as well (R437). -/
def Pavilion.command (v : Pavilion) (n tag code : Nat) (roles : List Nat) (lock : Bool) (f : Pavilion → Pavilion × Resp) : Pavilion :=
  if !(v.rep.ses n).live then v
  else match v.rep.admits n roles lock with
    | some st => { v with rep := v.rep.respond n tag code (refuse st) }
    | none => let x := f v; { x.1 with rep := x.1.rep.respond n tag code x.2 }
/-- A command with an effect on the site besides its response; `f` answers both, and the effect waits for the response. -/
def State.hostSite (s : State) (n : Sess) (tag code : Nat) (roles : List Nat) (lock : Bool) (f : Site → Resp × (Site → Site)) : Result :=
  s.run fun t =>
    match t.leader with
    | none => t
    | some p =>
      let r := (t.pav p).rep
      let ok := (r.ses n).live && (r.admits n roles lock).isNone
      let x := f t
      let t := t.onLog fun r => r.command n tag code roles lock fun r => (r, x.1)
      if ok then x.2 t else t

/-! ### Staging (R529, R530) -/

def isStage : OpKind → Bool | .stage => true | _ => false
def isActivation : OpKind → Bool | .activate => true | .rollback => true | _ => false
def Replica.phase (r : Replica) : Nat := r.rd .UPD_STATUS_PHASE
/-- The slot that is not ACTIVE. -/
def Replica.otherSlot (r : Replica) : Nat := 1 - r.rd .UPD_STATUS_ACTIVE
def Replica.withUpd (r : Replica) (f : Update → Update) : Replica := { r with upd := f r.upd }

/-- One operation record of a delta, with its data. -/
structure DeltaOp where
  kind : Nat
  reserved : Nat
  count : Nat
  target : Nat
  source : Nat
  data : List Byte

/-- The operation records that have arrived whole, at most `k`, and the bytes behind them. -/
def deltaOps (b : List Byte) : Nat → List DeltaOp × List Byte
  | 0 => ([], b)
  | k + 1 =>
    let n := if byteAt b 0 = 2 then fieldAt b 2 2 * 4096 else 0
    if b.length < 12 + n then ([], b)
    else
      let x := deltaOps (b.drop (12 + n)) k
      ({ kind := byteAt b 0, reserved := byteAt b 1, count := fieldAt b 2 2, target := fieldAt b 4 4, source := fieldAt b 8 4,
         data := (b.drop 12).take n } :: x.1, x.2)
def deltaBody (b : List Byte) : List DeltaOp × List Byte := deltaOps (b.drop 64) (b.length / 12)

/-- Every target block once, in ascending order; the count of blocks written. -/
def opsOrder (ops : List DeltaOp) : Option Nat :=
  ops.foldl (fun a x => a.bind fun n => if x.target = n then some (n + x.count) else none) (some 0)
/-- An operation record that breaks R529. -/
def DeltaOp.bad (x : DeltaOp) (full : Bool) : Bool :=
  x.kind = 0 || 3 < x.kind || x.reserved ≠ 0 || (x.kind ≠ 1 && x.source ≠ 0) || (x.kind = 1 && (full || 3072 < x.source + x.count))

/-- What is wrong with the bytes accepted so far: a code of Table UPD-4. -/
def Local.deltaFault (l : Local) (active part : Nat) (b : List Byte) : Option Nat :=
  if b.length < 64 then none
  else
    let ops := (deltaBody b).1
    let zero (o n : Nat) : Bool := ((b.drop o).take n).all (· = 0)
    if fieldAt b 0 2 ≠ 0x1002 || fieldAt b 2 2 ≠ 0 || !zero 48 12 || fieldAt b 60 4 ≠ (crc32c (b.take 60)).toNat || 3072 < fieldAt b 12 4 then
      some updDeltaForm
    else if part = 1 && !(fieldAt b 4 4 = 0 && zero 16 32) then some updDeltaForm
    else if part = 0 && !(fieldAt b 4 4 = l.img active 4 4 && (b.drop 16).take 32 = Config.sha256 (l.imgBytes active 0 4096)) then
      some updBaseMismatch
    else if (ops.any fun x => x.bad (part = 1)) then some updDeltaForm
    else match opsOrder ops with
      | none => some updDeltaForm
      | some n => if fieldAt b 12 4 < n then some updDeltaForm else none

/-- The operations carried out in a slot (R529). -/
def Local.applyOps (l : Local) (active slot : Nat) (ops : List DeltaOp) : Local :=
  ops.foldl (fun l x =>
    let bytes := if x.kind = 1 then l.imgBytes active (4096 * x.source) (4096 * x.count)
      else if x.kind = 2 then x.data else List.replicate (4096 * x.count) 0
    { l with mram := l.mram.wrBytes (slotBase slot + 4096 * x.target) bytes }) l

/-- The end of a staging: the code and the part of its result (R530). -/
def Local.stagedResult (l : Local) (r : Replica) (slot : Nat) (digest b : List Byte) : Nat × Nat :=
  let x := deltaBody b
  if Config.sha256 b ≠ digest then (updDigest, 0)
  else if x.2 ≠ [] || opsOrder x.1 ≠ some (fieldAt b 12 4) || l.img slot 4 4 ≠ fieldAt b 8 4 || l.img slot 24 4 ≠ fieldAt b 12 4 then
    (updDeltaForm, 0)
  else l.checkImage r slot

/-- A staging ends without success: the slot is marked empty (R530). -/
def Replica.stageFail (r : Replica) (code part status : Nat) : Replica :=
  let r := ((((r.wr .UPD_BUILD_BUILD 0 r.otherSlot).wr .UPD_STATUS_PHASE 0).wr .UPD_RESULT_CODE code).wr .UPD_RESULT_PART part).raise .UPD_EVENT_STAGE_FAIL
  (r.withUpd fun u => { u with staging := none, bytes := [] }).completeOp (fun x => isStage x.kind) status (if status = hsFailed then code else 0) []
def Replica.stageDone (r : Replica) (build : Nat) : Replica :=
  let r := ((((r.wr .UPD_BUILD_BUILD build r.otherSlot).wr .UPD_STATUS_PHASE 0).wr .UPD_RESULT_CODE updOk).wr .UPD_RESULT_PART 0).wr .UPD_STATUS_STAGED 1
  ((r.raise .UPD_EVENT_STAGE_DONE).withUpd fun u => { u with staging := none, bytes := [] }).completeOp (fun x => isStage x.kind) hsOk 0 []

/-- image.stage; PREV_VALID clears before the slot is written (R523, R529, R530). -/
def Replica.stage (r : Replica) (v : Env) (n part length : Nat) (digest : List Byte) : Replica × Resp :=
  if r.phase ≠ 0 || r.running isStage ≠ [] || r.rd .UPD_OLDPROG_OUTLETS ≠ 0 || r.rd .UPD_OLDSAF_OUTLETS ≠ 0 then (r, refuse hsBusy)
  else
    let x := r.newOp v n .stage
    if x.2.status ≠ hsAccepted then x
    else
      let r := (((x.1.wr .UPD_STATUS_PHASE 1).wr .UPD_STATUS_PREV_VALID 0).wr .UPD_STATUS_STAGED 0).wr .UPD_STAGEOFS_BYTES 0
      ((r.wr .UPD_BUILD_BUILD 0 r.otherSlot).withUpd fun u => { u with staging := some (part, length, digest, x.2.handle), bytes := [] }, x.2)
def execImageStageDelta (n : Sess) (tag length : Nat) (digest : List Byte) (s : State) : Result :=
  s.host n tag 0x0901 rolesOem true fun t r => r.stage t.env n 0 length digest
def execImageStageFull (n : Sess) (tag length : Nat) (digest : List Byte) (s : State) : Result :=
  s.host n tag 0x0901 rolesOem true fun t r => r.stage t.env n 1 length digest

/-- The results of both pavilions in step: the first that is not good. -/
def Site.stagedResult (t : Site) (digest b : List Byte) : Nat × Nat :=
  let one (p : Pav) : Nat × Nat := if (t.pav p).inStep then (t.pav p).loc.stagedResult (t.pav p).rep (t.pav p).rep.otherSlot digest b else (updOk, 0)
  if (one .A).1 ≠ updOk then one .A else one .B

/-- image.data (R453, R530): the chunk in its place, its operations carried out as they arrive, and at LENGTH bytes the checks. A chunk
whose staged bytes fail their hash in a pavilion (`okA`, `okB`) is refused with FAILED and a DETAIL the spec does not state. -/
def execImageData (n : Sess) (tag handle offset : Nat) (data : List Byte) (okA okB : Bool) (s : State) : Result :=
  s.run fun t =>
    let bad := ((t.pav .A).inStep && !okA) || ((t.pav .B).inStep && !okB)
    let refused (v : Pavilion) (x : Resp) : Pavilion × Resp := (v, x)
    let t' := t.onStep fun v => v.command n tag 0x0902 rolesOem true fun v =>
      match v.rep.upd.staging with
      | none => refused v (refuse (if (v.rep.opOf handle).isNone then hsStale else hsWrongState))
      | some (part, length, _, h) =>
        let got := v.rep.upd.bytes
        if h ≠ handle then refused v (refuse (if (v.rep.opOf handle).isNone then hsStale else hsWrongState))
        else if offset ≠ got.length then refused v (refuse hsFailed updSequence)
        else if 4096 < data.length || length < offset + data.length then refused v (refuse hsBadValue 20)
        else if bad then refused v (refuse hsFailed (Config.freeNat t.free % 2 ^ 32))
        else
          let b := got ++ data
          let a := v.rep.rd .UPD_STATUS_ACTIVE
          let r := (v.rep.withUpd fun u => { u with bytes := b }).wr .UPD_STAGEOFS_BYTES b.length
          match v.loc.deltaFault a part b with
          | some code => ({ v with rep := r.stageFail code 0 hsFailed }, { handle := handle })
          | none => ({ loc := v.loc.applyOps a r.otherSlot (deltaBody b).1, rep := r }, { handle := handle })
    let t' := match t'.leader with
      | none => t'
      | some p =>
        match (t'.pav p).rep.upd.staging with
        | some (_, length, digest, _) =>
          let b := (t'.pav p).rep.upd.bytes
          if b.length ≠ length then t'
          else
            let x := t'.stagedResult digest b
            let build := (t'.pav p).loc.img (t'.pav p).rep.otherSlot 4 4
            t'.onLog fun r => if x.1 = updOk then r.stageDone build else r.stageFail x.1 x.2 hsFailed
        | none => t'
    { t' with free := t.free + 1 }

/-! ### Staged activation (R535 to R540, R543) -/

/-- A step of the activation fails: before its restart F runs on; later it restarts from its ACTIVE slot (R540). -/
def Site.actFail (t : Site) (code part : Nat) : Site :=
  match t.actFirst, t.leader with
  | some f, some l =>
    let restart := 3 ≤ (t.pav l).rep.phase && !(t.pav f).loc.inReset
    let t := (t.modRep f fun r => r.wr .UPD_STATUS_TRIAL 0).onLog fun r => r.actFail code part
    if restart then t.pavReset f pcActivation else t
  | _, _ => t

/-- No activation may start now (R535). -/
def Site.actBusy (t : Site) (r : Replica) : Bool :=
  !t.redundant || r.phase ≠ 0 || r.running isStage ≠ [] || r.running isActivation ≠ [] ||
    [Pav.A, .B].any fun p => (t.pav p).loc.div.isSome || (t.pav p).loc.handbackAt.isSome
/-- Phase VERIFY begins. -/
def Replica.activate (r : Replica) (v : Env) (lead : Pav) (n : Nat) (kind : OpKind) (paramOnly : Bool) : Replica × Resp :=
  let x := r.newOp v n kind
  if x.2.status ≠ hsAccepted then x
  else
    let target := if paramOnly then r.rd .UPD_STATUS_ACTIVE else r.otherSlot
    ((x.1.wr .UPD_STATUS_PHASE 2).withUpd fun u =>
      { u with act := some x.2.handle, target, paramOnly, lead, warmTicks := 0, slWait := false, slOut := false }, x.2)
def execImageActivate (n : Sess) (tag handle : Nat) (s : State) : Result :=
  s.host n tag 0x0903 rolesOem true fun t r =>
    let lead := t.leader.getD .A
    if t.actBusy r then (r, refuse hsBusy)
    else if handle = 0 then
      if r.rd .UPD_STATUS_PENDING_PARAM = 0 then (r, refuse hsWrongState) else r.activate t.env lead n .activate true
    else onOwnOp n handle (fun x r =>
      if !isStage x.kind then (r, refuse hsBadValue 12)
      else if !x.done || x.result ≠ hsOk || r.rd .UPD_STATUS_STAGED = 0 then (r, refuse hsWrongState)
      else r.activate t.env lead n .activate false) r
def execImageRollback (n : Sess) (tag : Nat) (s : State) : Result :=
  s.host n tag 0x0904 rolesOem true fun t r =>
    if t.actBusy r then (r, refuse hsBusy)
    else if r.rd .UPD_STATUS_PREV_VALID = 0 then (r, refuse hsFailed updNoPrevious)
    else r.activate t.env (t.leader.getD .A) n .rollback false

/-- Phase RESTART: F leaves FOLLOWER and restarts with TRIAL set; L runs alone and says so (R44, R105, R535). -/
def Site.restartFirst (t : Site) (f : Pav) : Site :=
  let t := t.onLog fun r =>
    let r := (r.wr .UPD_STATUS_PHASE 3).withUpd fun u => { u with slWait := false }
    if r.upd.paramOnly then r else (r.wr .UPD_STATUS_TRIAL 1).wr .UPD_STATUS_TRIAL_SLOT r.upd.target
  (t.pavReset f pcActivation).onLog fun r => r.hostEvent evDegraded [locPavLogic, 0xFF]
/-- R538 stands before the restart of Pavilion A. -/
def Site.mayRestart (t : Site) (f : Pav) : Bool := f ≠ .A || (t.pav .A).rep.singleQuiet
/-- Phase VERIFY ends: both pavilions have checked the staged slot again (R535). -/
def execActivationVerifyDone (s : State) : Result :=
  s.run fun t =>
    match t.actFirst with
    | none => t
    | some f =>
      let r := (t.pav f).rep
      let one (p : Pav) : Nat × Nat := (t.pav p).loc.checkImage (t.pav p).rep r.upd.target
      let x := if r.upd.paramOnly then (updOk, 0) else if (one .A).1 ≠ updOk then one .A else one .B
      if r.phase ≠ 2 || r.upd.slWait || !t.redundant then t
      else if x.1 ≠ updOk then t.actFail x.1 x.2
      else if t.mayRestart f then t.restartFirst f
      else t.onLog fun r => r.withUpd fun u => { u with slWait := true }
/-- F has not joined 1 s after its restart (R540). -/
def execActivationJoinTimeout (s : State) : Result :=
  s.run fun t => match t.leader with
    | some p => if (t.pav p).rep.phase = 3 then t.actFail updStartFail 0 else t
    | none => t
/-- WARM has elapsed: HANDOVER begins (R537). A sticky indicator in F ends the activation (R540). -/
def execWarmElapsed (s : State) : Result :=
  s.run fun t =>
    match t.actFirst, t.leader with
    | some f, some p =>
      if (t.pav p).rep.phase ≠ 4 then t
      else if !(t.pav f).inStep || (t.pav f).loc.indicated then t.actFail updStartFail 0
      else
        let wait := p = .A && !(t.pav p).rep.singleQuiet
        let t := t.onLog fun r => (r.wr .UPD_STATUS_PHASE 5).withUpd fun u => { u with slWait := wait }
        t.orderHandback
    | _, _ => t
/-- SL_WAIT has run out: before phase 5 the activation fails, in phase 5 the handover stays held at each tick (R538). -/
def execSlWaitExpiry (s : State) : Result :=
  s.run fun t => match t.leader with
    | some p =>
      let r := (t.pav p).rep
      if !r.upd.slWait then t
      else if r.phase < 5 then t.actFail updSingleLane 0
      else t.onLog fun r => r.withUpd fun u => { u with slOut := true }
    | none => t
/-- At an allocation tick: a restart that waited for the single-lane groups goes on, and a sticky indicator in F ends the activation. -/
def Site.actTick (t : Site) : Site :=
  match t.actFirst, t.leader with
  | some f, some p =>
    let r := (t.pav p).rep
    let t := t.onLog fun r => if r.phase = 4 then r.withUpd fun u => { u with warmTicks := u.warmTicks + 1 } else r
    if r.phase = 2 && r.upd.slWait && t.mayRestart f && t.redundant then t.restartFirst f
    else if 4 ≤ r.phase && (t.pav f).loc.indicated then t.actFail updStartFail 0 else t
  | _, _ => t

/-! ### Other commands of hosts -/

/-- op.cancel, as Table HST-7 limits it (R442, R544). -/
def Replica.cancel (r : Replica) (x : HostOp) : Replica × Resp :=
  let ok : Resp := { handle := x.handle }
  let stop (r : Replica) : Replica := r.completeOp (fun y => y.index = x.index) hsCancelled 0 []
  if x.done then (r, ok)
  else match x.kind with
    | .tune _ i _ => (stop (if r.rd .CTL_INJCTRL_ACTIVE i = 1 || (vget r.injs i {}).armed then r.endInj i 1 else r), ok)
    | .capture _ => (stop r, ok)
    | .log _ _ _ => (stop r, ok)
    | .keyUpdate _ => (r, refuse hsBusy)
    | .stage => (r.stageFail (r.rd .UPD_RESULT_CODE) (r.rd .UPD_RESULT_PART) hsCancelled, ok)
    | .activate => if 3 ≤ r.phase then (r, refuse hsBusy) else ((stop r).actFail (r.rd .UPD_RESULT_CODE) (r.rd .UPD_RESULT_PART), ok)
    | .rollback => if 3 ≤ r.phase then (r, refuse hsBusy) else ((stop r).actFail (r.rd .UPD_RESULT_CODE) (r.rd .UPD_RESULT_PART), ok)
def execOpCancel (n : Sess) (tag handle : Nat) (s : State) : Result :=
  s.host n tag 0x0105 rolesAny false fun _ => onOwnOp n handle fun x r => r.cancel x

/-- pavilion.yield (R104, R440): BUSY alone, and during divergence, join, handback or activation. -/
def execPavilionYield (n : Sess) (tag : Nat) (s : State) : Result :=
  s.hostSite n tag 0x0402 rolesBoth false fun t =>
    let ph := match t.leader with | some p => (t.pav p).rep.phase | none => 0
    if !t.handbackFree || 2 ≤ ph then (refuse hsBusy, id) else ({}, Site.yield)
def execPavilionRejoin (n : Sess) (tag pav : Nat) (s : State) : Result :=
  s.hostSite n tag 0x0403 rolesOem false fun _ =>
    if 2 ≤ pav then (refuse hsBadValue 16, id) else ({}, fun t => t.rejoin (if pav = 0 then .A else .B))
/-- bank.restore (R413): `pass` is the repeated read-back of R399. -/
def execBankRestore (n : Sess) (tag bank : Nat) (pass : Bool) (s : State) : Result :=
  s.hostSite n tag 0x0404 rolesOem false fun _ =>
    if h : bank < 4 then ({}, fun t => t.restoreBank ⟨bank, h⟩ pass) else (refuse hsBadValue 16, id)

/-- cert.install into the persistent records (R310): a SECC chain, or one of 8 trust anchors. -/
def execCertInstall (n : Sess) (tag kind index mark : Nat) (chain : List Byte) (s : State) : Result :=
  s.host n tag 0x0801 rolesBoth true fun _ r =>
    if 1 < kind then (r, refuse hsBadValue 16)
    else if kind = 1 && 8 ≤ index then (r, refuse hsBadValue 17)
    else if 4000 < chain.length then (r, refuse hsBadFormat)
    else (r.withHosts fun h => { h with
      certs := (h.certs.filter fun c => !(c.1 = kind && c.2.1 = index)) ++ [(kind, index, mark, chain)] }, {})

/-- service.unlock in RETURN, by the vendor (R595). -/
def execServiceUnlockChallenge (n : Sess) (tag : Nat) (s : State) : Result :=
  match s.host n tag 0x0406 [3] false fun t r =>
      if r.lifeCycle ≠ lcReturn then (r, refuse hsNotPermitted)
      else
        let c := Config.freeBytes t.free 16
        (r.withHosts fun h => { h with chal := some (c, t.ticks) }, { body := c }) with
  | .next s' => .next { s' with site := { s'.site with free := s.site.free + 1 } }
  | x => x
def execServiceUnlockOpen (n : Sess) (tag unit : Nat) (chal : List Byte) (sigOk : Bool) (s : State) : Result :=
  s.host n tag 0x0406 [3] false fun t r =>
    if r.lifeCycle ≠ lcReturn then (r, refuse hsNotPermitted)
    else if unit ≠ Config.unitId then (r, refuse hsFailed 1)
    else
      let known := match r.hosts.chal with | some (c, at') => c = chal && t.ticks < at' + 12000000000 | none => false
      if !known then (r, refuse hsFailed 2)
      else if !sigOk then (r, refuse hsFailed 3)
      else ((r.withHosts fun h => { h with servicePort := true, chal := none }).journal t.now locAon 0xFF detected reLogged 0, {})

end Sys2Proof.Machine
end

