-- ==== Sys2Proof/Machine/Commit.lean ====
section
/-! DEFINITION. Writes into the staged parameter set and the commit (R38, R440, R448, R534, R599). -/
namespace Sys2Proof.Machine

/-- The record a FORMAT code names: where it is filed, how many there are, and its size (R231, R278, R353, R384). -/
def recordOf (format : Nat) : Option (Nat × Nat × Nat) :=
  if format = 0x0701 then some (recPhase, 32, 64)
  else if format = 0x0802 then some (recCable, 24, 48)
  else if format = 0x0A04 then some (recMet, 24, 32)
  else if format = 0x0B01 then some (recSafety, 1, 580)
  else none

/-- param.write into the staged set. -/
def execParamWrite (n : Sess) (tag record index offset : Nat) (data : List Byte) (s : State) : Result :=
  s.host n tag 0x0502 rolesOem true fun _ r =>
    match recordOf record with
    | none => (r, refuse hsBadValue 16)
    | some (kind, count, size) =>
      if count ≤ index then (r, refuse hsBadValue 18)
      else if size < offset + data.length then (r, refuse hsBadValue 19)
      else (r.withHosts fun h => { h with
        staged := some ((h.staged.getD r.params).wrBytes (kind * 2 ^ 16 + index * 2 ^ 10 + offset) data) }, {})

/-- A commit: SYS shows its code and DETAIL in both pavilions; a set that passes takes effect at once or is held (R38, R534, R569). -/
def Site.commit (t : Site) (crcOk : Bool) : Site :=
  let c := t.commitCheck crcOk
  let show' (t : Site) : Site := t.onStep fun v =>
    { v with loc := ((v.loc.wr .SYS_COMMIT_RESULT c.1).wr .SYS_COMMIT_DETAIL c.2).wr .SYS_COMMIT_BUSY 0 }
  let t' := show' (if c.1 = coOk then t.commitTake else t)
  { t' with free := t.free + 1 }

/-- param.commit: BUSY during an activation, COMMIT_REFUSED with the code, OK with DETAIL 1 for a pending set (R534, R544). -/
def execParamCommit (n : Sess) (tag : Nat) (crcOk : Bool) (s : State) : Result :=
  s.hostSite n tag 0x0503 rolesOem true fun t =>
    let r := match t.leader with | some p => (t.pav p).rep | none => {}
    let c := t.commitCheck crcOk
    if 2 ≤ r.phase then (refuse hsBusy, id)
    else if c.1 ≠ coOk then (refuse hsCommit c.1, fun t => t.commit crcOk)
    else ({ detail := if r.mayCommit then 0 else 1 }, fun t => t.commit crcOk)

/-- SYS_COMMIT.GO, written by the Lodges of both pavilions at one log position (R38). -/
def execSysCommitGo (crcOk : Bool) (s : State) : Result := s.run fun t => t.commit crcOk

end Sys2Proof.Machine
end

