-- ==== Sys2Proof/Machine/Sundial.lean ====
section
/-! DEFINITION. The Sundial, the grid sense port and the event slots (R46 to R73). -/
namespace Sys2Proof.Machine

/-- Both copies take the same change (R67). -/
def Sundial.both (u : Sundial) (f : SunCopy → SunCopy) : Sundial := { u with a := f u.a, b := f u.b }

/-- The rate of a frequency given as `n` cycles in `t` ticks, in 2^-64 cycle per tick. -/
def rateOf (n t : Nat) : Nat := n * 2 ^ 64 / t
/-- The nominal rate: 50 or 60 cycles in 200,000,000 ticks. -/
def nominalRate (nom : Nat) : Nat := rateOf nom 200000000

/-- The mean rate of the last valid intervals (R58, R61); the running rate before any. -/
def Sundial.meanRate (u : Sundial) : Nat :=
  if u.intervals = [] then u.a.rate else rateOf u.intervals.length (u.intervals.foldl (· + ·) 0)
/-- SDL_FREQ in µHz (R58). -/
def Sundial.freqMicro (u : Sundial) : Nat :=
  if u.intervals = [] then 0 else u.intervals.length * 200000000 * 1000000 / u.intervals.foldl (· + ·) 0

/-- An interval within the periods of the tracking range (R53, R56). -/
def inTracking (nom interval : Nat) : Bool :=
  if nom = 50 then decide (200000000 ≤ interval * 55) && decide (interval * 45 ≤ 200000000)
  else decide (200000000 ≤ interval * 66) && decide (interval * 54 ≤ 200000000)

/-- Angles in 2^-32 cycle: 1 degree and 3 degrees, rounded down. -/
def deg1 : Int := 11930464
def deg3 : Int := 35791394

/-- The error of R58 at a crossing `ago` ticks back, in 2^-32 cycle. -/
def Sundial.errorAt (u : Sundial) (ago : Nat) : Int :=
  signed 32 ((u.a.pos + 2 ^ 96 - ago * u.a.rate % 2 ^ 96) / 2 ^ 32)

/-- KP and KI of R58 as numerator and denominator. -/
def gainKP (nom : Nat) : Int × Int := if nom = 50 then (3, 16) else (5, 32)
def gainKI (nom : Nat) : Int × Int := if nom = 50 then (1, 64) else (3, 256)
/-- f × (1 - K × e). -/
def scaleRate (f : Nat) (k : Int × Int) (e : Int) : Nat := ((f : Int) - (f : Int) * k.1 * e / (k.2 * 2 ^ 32)).toNat

/-- One crossing of the type-2 loop (R58). -/
def Sundial.track (u : Sundial) (nom : Nat) (e : Int) : Sundial :=
  u.both fun c =>
    let fi := scaleRate c.integral (gainKI nom) e
    { c with integral := fi, target := scaleRate fi (gainKP nom) e }

/-- Two intervals agree within 0.5 % (R57). -/
def agree (x y : Nat) : Bool := decide ((max x y - min x y) * 200 ≤ max x y)

def absInt (e : Int) : Int := (e.natAbs : Int)

/-- LOCKED (R60). -/
def Common.sunStatus (c : Common) : Common :=
  let ok := c.rd .SDL_STATUS_FIRST_LOCK = 1 && c.rd .SDL_STATUS_HOLD = 0 && c.rd .SDL_STATUS_SLEW = 0 &&
    c.rd .SDL_STATUS_FREE_RUN = 0 && c.sun.errSmall
  c.wr .SDL_STATUS_LOCKED ok.toNat

/-- A slew of what the error shows begins (R64, R65). -/
def Common.startSlew (c : Common) (e : Int) : Common :=
  { c.wr .SDL_STATUS_SLEW 1 with sun := { c.sun with slewLeft := e * 2 ^ 32, slewBack := false, candidate := none } }

/-- Free-run (R61): the rate is the mean of the last 8 valid intervals. -/
def Common.enterFreeRun (c : Common) : Common :=
  let m := c.sun.meanRate
  let c := ((c.wr .SDL_STATUS_FREE_RUN 1).wr .SDL_STATUS_HOLD 0).wr .SDL_STATUS_SLEW 0
  let c := c.wr .SDL_EVENT_GRID_LOST 1
  { c with sun := { (c.sun.both fun x => { x with integral := m, target := m }) with gather := [], candidate := none, slewLeft := 0 } }.sunStatus

/-- First lock (R57): three consecutive valid crossings give the frequency; the next positive-going crossing the angle. Crossings are gathered
while no plausibility check has failed since the last one that passed. -/
def Common.firstLock (c : Common) (valid : Bool) (e : Int) (ago : Nat) : Common :=
  let u := c.sun
  if u.firstPending then
    let c := c.wr .SDL_STATUS_FIRST_LOCK 1
    let u := { u with firstPending := false, gather := [] }
    if u.released then { c with sun := u }.startSlew e
    else
      let frac := (u.a.pos + 2 ^ 96 - ago * u.a.rate % 2 ^ 96) % 2 ^ 64
      let fwd := (2 ^ 64 - frac) % 2 ^ 64
      { c with sun := { (u.both fun x => { x with pos := (x.pos + fwd) % 2 ^ 96 }) with errSmall := true } }
  else match u.gather with
    | i :: j :: _ :: _ =>
      if valid && agree i j then
        let m := rateOf 2 (i + j)
        let u := u.both fun x => if u.released then { x with integral := m, target := m } else { x with rate := m, integral := m, target := m }
        { c with sun := { u with firstPending := true } }
      else c
    | _ => c

/-- The return from free-run (R63); within 3 degrees the loop acts at this crossing. -/
def Common.gridBack (c : Common) (nom : Nat) (valid : Bool) (e : Int) : Common :=
  match c.sun.gather with
  | i :: j :: _ :: _ =>
    if valid && agree i j && c.sun.plausSince then
      let c := (c.wr .SDL_STATUS_FREE_RUN 0).wr .SDL_EVENT_GRID_BACK 1
      let m := c.sun.meanRate
      let u := c.sun.both fun x => { x with integral := m, target := m }
      let c := { c with sun := { u with gather := [], errSmall := decide (absInt e ≤ deg1) } }
      if absInt e ≤ deg3 then { c with sun := c.sun.track nom e } else c.startSlew e
    else c
  | _ => c

/-- A positive-going crossing while locked, holding or slewing (R58, R64, R65). A hold keeps the rate; a crossing during a slew measures what is left;
the loop acts at the crossing that ends a slew. -/
def Common.trackCrossing (c : Common) (nom : Nat) (valid : Bool) (e : Int) : Common :=
  let u := c.sun
  if c.rd .SDL_STATUS_SLEW = 1 then
    if absInt e ≤ deg1 then
      let m := u.meanRate
      let u := u.both fun x => { x with integral := m, target := m }
      { c.wr .SDL_STATUS_SLEW 0 with sun := { (if valid then u.track nom e else u) with errSmall := true, slewLeft := 0 } }
    else { c with sun := { u with slewLeft := e * 2 ^ 32, slewBack := false } }
  else match u.candidate with
    | some d =>
      let c := c.wr .SDL_STATUS_HOLD 0
      if deg3 < absInt e && absInt (e - d) ≤ deg1 then
        ((c.wr .SDL_EVENT_PHASE_JUMP 1).wr .SDL_JUMP_JUMP (e % 2 ^ 32).toNat).startSlew e
      else
        let c := c.wr .SDL_EVENT_JUMP_TRANSIENT 1
        { c with sun := { (if valid then u.track nom e else u) with candidate := none, errSmall := decide (absInt e ≤ deg1) } }
    | none =>
      if deg3 < absInt e then
        { c.wr .SDL_STATUS_HOLD 1 with sun := { (u.both fun x => { x with target := x.rate }) with candidate := some e, errSmall := false } }
      else if valid then { c with sun := { u.track nom e with errSmall := decide (absInt e ≤ deg1) } }
      else c

/-- A detected zero crossing (R56), `ago` ticks before now after every correction. -/
def Common.crossing (c : Common) (nom : Nat) (positive : Bool) (ago : Nat) : Common :=
  let u := c.sun
  let at' := u.ticks - ago
  let last := if positive then u.lastPos else u.lastNeg
  let u := if positive then { u with lastPos := some at' } else { u with lastNeg := some at' }
  match last with
  | none => { c with sun := { u with gather := if positive then [] else u.gather } }
  | some l =>
    let interval := at' - l
    let valid := inTracking nom interval
    let c := if valid then c else c.wr .SDL_EVENT_FREQ_RANGE 1
    if !positive then { c with sun := u }
    else
      let e := u.errorAt ago
      let u := if valid then { u with intervals := (interval :: u.intervals).take 8, gather := if u.plausSince then (interval :: u.gather).take 3 else [] }
               else { u with gather := [] }
      let c := { c with sun := u }
      let c := if valid then (c.wr .SDL_FREQ_FREQ u.freqMicro).wr .SDL_PHERR_PHERR (e % 2 ^ 32).toNat else c
      let c := if c.rd .SDL_STATUS_FIRST_LOCK = 0 then c.firstLock valid e ago
        else if c.rd .SDL_STATUS_FREE_RUN = 1 then c.gridBack nom valid e
        else c.trackCrossing nom valid e
      c.sunStatus

/-- SDL is pavilion-local (R73): what the common-block Sundial reports sets the flags of both pavilions' SDL. -/
def Site.publishSdl (t : Site) : Site :=
  [Field.SDL_EVENT_GRID_LOST, .SDL_EVENT_GRID_BACK, .SDL_EVENT_PHASE_JUMP, .SDL_EVENT_JUMP_TRANSIENT, .SDL_EVENT_FREQ_RANGE].foldl
    (fun t f => if t.com.rd f = 1 then
        (((t.modLoc .A fun l => l.raise f).modLoc .B fun l => l.raise f).modCom fun c => c.wr f 0) else t) t

def execZeroCrossing (positive : Bool) (ago : Nat) (s : State) : Result :=
  s.run fun t => (t.modCom fun c => c.crossing t.nominal positive ago).publishSdl

/-- R61: the timeout of 1.5 nominal half cycles runs only after first lock. -/
def execZeroCrossingTimeout (s : State) : Result :=
  s.run fun t => (t.modCom fun c =>
    if c.rd .SDL_STATUS_FIRST_LOCK = 1 && c.rd .SDL_STATUS_FREE_RUN = 0 then c.enterFreeRun else c).publishSdl

/-- The once-per-cycle plausibility check (R48, R57, R61). -/
def execMainsPlausibilityCheck (pass : Bool) (s : State) : Result :=
  s.run fun t =>
    if pass then t.modCom fun c => { c.wr .GSP_STATUS_PLAUS 1 with sun := { c.sun with plausSince := true } }
    else
      let first := t.com.rd .SDL_STATUS_FIRST_LOCK
      let t := t.modCom fun c =>
        let c := (c.wr .GSP_STATUS_PLAUS 0).raise .GSP_EVENT_IMPLAUS
        let c := { c with sun := { c.sun with plausSince := false, gather := [], firstPending := false } }
        if c.rd .SDL_STATUS_FIRST_LOCK = 1 && c.rd .SDL_STATUS_FREE_RUN = 0 then c.enterFreeRun else c
      t.publishSdl.onLog fun r => r.fault t.now locGridSense 0xFF detected (if first = 1 then reFreeRun else reLogged) 0

/-- A bitstream constant for 256 modulator clocks (R48). -/
def execBitstreamStuck (c : Fin 6) (s : State) : Result :=
  s.run fun t => t.modCom fun k => (k.raise .GSP_EVENT_STUCK).wr .GSP_STATUS_ACTIVE (putBit (k.rd .GSP_STATUS_ACTIVE) c.val false)

/-- The two copies differ: the controlled stop of R42 (R67). -/
def execSundialCopyMismatch (s : State) : Result :=
  s.run fun t => (t.onLog fun r => r.fault t.now locSundial 0xFF detected reControlledStop 0).controlledStop

/-- The clock selector switches to the other crystal without a glitch (R20); the fault is masked (R42). -/
def Site.crystalFails (t : Site) (side : Pav) : Site :=
  let t := t.modCom fun c =>
    let c := match side with
      | .A => { c with xtalBadA := true }
      | .B => { c with xtalBadB := true }
    match side with
    | .A => if c.xtalBadB then c else c.wr .SDL_STATUS_XTAL 1
    | .B => if c.xtalBadA then c else c.wr .SDL_STATUS_XTAL 0
  t.onLog fun r => r.fault t.now locCrystal (if side = .A then 0 else 1) masked reOtherPath 0
def execCrystalFailure (side : Pav) (s : State) : Result := s.run fun t => t.crystalFails side

/-- A deviation over 1 % for 20 µs (R42). -/
def execClockSelectorFault (s : State) : Result :=
  s.run fun t => (t.onLog fun r => r.fault t.now locClockSel 0xFF detected reControlledStop 0).controlledStop

/-- The ramps of R59 at a site-cycle boundary: at most 10 ppm of the rate. -/
def SunCopy.ramp (c : SunCopy) : SunCopy :=
  let step := c.rate * 10 / 1000000
  { c with rate := if c.rate < c.target then min c.target (c.rate + step) else max c.target (c.rate - step) }

/-- The slew's progress over one site cycle and the start of its ramp back (R65). -/
def Sundial.slewStep (u : Sundial) (n : Nat) : Sundial :=
  let fg := u.meanRate
  let ticks : Int := if n * u.a.rate = 0 then 0 else (2 ^ 64 / (n * u.a.rate) : Nat)
  let dep : Int := (fg : Int) - u.a.rate
  let left := u.slewLeft - dep * ticks
  let step : Int := (u.a.rate * 10 / 1000000 : Nat)
  let back := u.slewBack || decide (absInt left ≤ (if step = 0 then 0 else absInt dep * (absInt dep / step + 1) * ticks / 2)) ||
    (decide (left < 0) != decide (u.slewLeft < 0))
  let goal := if back then fg else if u.slewLeft < 0 then fg + fg / 360 else fg - fg / 360
  { (u.both fun c => { c with target := goal }) with slewLeft := left, slewBack := back }

/-- Rate changes are applied at site-cycle boundaries (R59). -/
def Common.sunBoundary (c : Common) : Common :=
  let u := if c.rd .SDL_STATUS_SLEW = 1 then c.sun.slewStep (c.rd .SDL_MULT_N) else c.sun
  { c with sun := u.both SunCopy.ramp }

/-- One 5 ns tick: both copies advance by their rate (R50, R67). -/
def Sundial.tick (u : Sundial) : Sundial :=
  { (u.both fun c => { c with pos := (c.pos + c.rate) % 2 ^ 96 }) with ticks := u.ticks + 1 }

/-! ### Event slots (R68 to R71) -/

def tgtNone : Nat := 0
def tgtClose : Nat := 1
def tgtRelease : Nat := 2
def tgtMessage : Nat := 3
def tgtInterrupt : Nat := 4
def tgtMccSlot : Nat := 5
def tgtWake : Nat := 6
def tgtSave : Nat := 7

/-- The write of SDL_SLOTn_CTRL. With ARM = 1 the shadowed time is taken up; ENGINE codes above 11 and TARGET codes above 7 are
refused and leave the slot disarmed (R68, R69). -/
def Local.armSlot (l : Local) (n : Slot) (ctrl : Word) : Local :=
  let w := ctrl.toNat
  let armed := w % 2 = 1 && w / 16 % 16 < 8 && w / 256 % 16 < 12
  let l := (((((l.wr .SDL_SCTRL_ARM armed.toNat n.val).wr .SDL_SCTRL_MODE (w / 2) n.val).wr .SDL_SCTRL_TARGET (w / 16) n.val).wr
    .SDL_SCTRL_ENGINE (w / 256) n.val).wr .SDL_SCTRL_QUEUE (w / 4096) n.val).wr .SDL_SCTRL_OFFSET (w / 65536) n.val
  if armed then
    { l with slots := vput l.slots n.val { time := l.rd .SDL_STIME_HI_TIME_HI n.val * 2 ^ 32 + l.rd .SDL_STIME_LO_TIME_LO n.val, held := false } }
  else l

/-- R71: a ONCE slot armed at a time already passed raises EV_LATE and fires on the next tick. -/
def execSdlSlotArm (p : Pav) (n : Slot) (ctrl : Word) (s : State) : Result :=
  s.run fun t =>
    let t := t.modLoc p fun l => l.armSlot n ctrl
    let l := (t.pav p).loc
    if l.rd .SDL_SCTRL_ARM n.val = 1 && l.rd .SDL_SCTRL_MODE n.val = 0 && (vget l.slots n.val {}).time ≤ t.now then
      t.modLoc p fun l => l.raise .SDL_EVENT_EV_LATE
    else t

/-- What every firing does: FIRES counts, a ONCE slot disarms, and awaits on the slot issued before this tick end (R69, R141). -/
def Local.fired (l : Local) (ticks : Nat) (n : Slot) : Local :=
  let l := l.wr .SDL_SFIRES_FIRES (l.rd .SDL_SFIRES_FIRES n.val + 1) n.val
  let l := if l.rd .SDL_SCTRL_MODE n.val = 0 then l.wr .SDL_SCTRL_ARM 0 n.val else l
  { l with engines := l.engines.map fun en => match en.wait with
      | .awaits m issue _ => if m = n ∧ issue < ticks then { en with wait := .awaits m issue true } else en
      | _ => en }

/-- All armed slots of one TARGET fire, in ascending slot number (R70). -/
def Site.fireTarget (t : Site) (p : Pav) (target : Nat) : Site :=
  t.modLoc p fun l => (List.finRange 64).foldl (fun l n =>
    if l.rd .SDL_SCTRL_ARM n.val = 1 && l.rd .SDL_SCTRL_TARGET n.val = target then l.fired t.ticks n else l) l

/-- The message of a slot: the slot number in the low word and 0 in the high word (R137). -/
def slotMsg (n : Slot) : Msg := ⟨BitVec.ofNat 64 n.val, 0x10⟩

/-- A slot of target NONE, MESSAGE or INTERRUPT fires (R69, R70). -/
def execSlotFire (p : Pav) (n : Slot) (s : State) : Result :=
  s.run fun t =>
    let l := (t.pav p).loc
    if l.rd .SDL_SCTRL_ARM n.val = 0 || (l.rd .SDL_SCTRL_MODE n.val = 0 && t.now < (vget l.slots n.val {}).time) then t
    else
      let e : Eng := Fin.ofNat 12 (l.rd .SDL_SCTRL_ENGINE n.val)
      let q : Fin 8 := Fin.ofNat 8 (l.rd .SDL_SCTRL_QUEUE n.val)
      let t := t.modLoc p fun l => l.fired t.ticks n
      if l.rd .SDL_SCTRL_TARGET n.val = tgtMessage then
        if t.queueFull p e q then t.modLoc p fun l => { l with slots := vput l.slots n.val { vget l.slots n.val {} with held := true } }
        else t.enqueue p e q (slotMsg n)
      else if l.rd .SDL_SCTRL_TARGET n.val = tgtInterrupt then
        t.modEng p e fun en =>
          if n.val < 32 then { en with slotPl := en.slotPl ||| (1#32 <<< n.val) }
          else { en with slotPh := en.slotPh ||| (1#32 <<< (n.val - 32)) }
      else t

/-- A message held in its slot enters the queue when it frees (R70). -/
def execSlotMessageDeliver (p : Pav) (n : Slot) (s : State) : Result :=
  s.run fun t =>
    let l := (t.pav p).loc
    let e : Eng := Fin.ofNat 12 (l.rd .SDL_SCTRL_ENGINE n.val)
    let q : Fin 8 := Fin.ofNat 8 (l.rd .SDL_SCTRL_QUEUE n.val)
    if (vget l.slots n.val {}).held && !t.queueFull p e q then
      (t.modLoc p fun l => { l with slots := vput l.slots n.val { vget l.slots n.val {} with held := false } }).enqueue p e q (slotMsg n)
    else t

end Sys2Proof.Machine
end

