-- ==== Sys2Proof/Machine/Power.lean ====
section
/-! DEFINITION. Supplies, resets, start-up, the idle timer, NIGHT and wake (R22, R515, R520, R531 to R534, R547 to R568). -/
namespace Sys2Proof.Machine

/-! ### Whole-device resets (R564 to R566) -/

def rcPowerOn : Nat := 1
def rcExtReset : Nat := 2
def rcBrownOut : Nat := 3
def rcLifecycle : Nat := 4

def Common.vio33Lost (c : Common) : Pav → Bool
  | .A => c.power.lostA
  | .B => c.power.lostB

/-- A whole-device reset: every output is silent; what R565 keeps is kept, and TRIAL is consumed (R544). -/
def Site.deviceReset (t : Site) (cause : Nat) : Site :=
  let pav (v : Pavilion) : Pavilion :=
    { loc := { v.loc.restart with powered := true, resetCause := cause }, rep := v.rep.restart.wr .UPD_STATUS_TRIAL 0 }
  let kept : Regs := if cause = rcPowerOn then [] else t.com.regs.only (·.kept)
  { t with
    a := pav t.a, b := pav t.b
    com := { regs := kept.wr .AON_CAUSE_CAUSE cause, sun := { ticks := t.ticks }, legalA := t.com.legalA, legalB := t.com.legalB
             power := { inReset := true, lostA := t.com.power.lostA, lostB := t.com.power.lostB }, tx := t.com.tx } }

/-- Both VIO33 have fallen below 1.5 V and are restored. -/
def execPowerOn (s : State) : Result :=
  s.run fun t => (t.modCom fun c => { c with power := { c.power with lostA := false, lostB := false } }).deviceReset rcPowerOn
/-- nRST low for at least 1 µs; shorter pulses are ignored. -/
def execNrstPulse (nanos : Nat) (s : State) : Result := s.run fun t => if 1000 ≤ nanos then t.deviceReset rcExtReset else t
def execBrownOut (s : State) : Result := s.run fun t => t.deviceReset rcBrownOut

/-! ### Supply faults (R22, R42, R547) -/

/-- A monitor of one pavilion trips; the cause reads as a setting aside by SUPPLY (R547, Table FBR-2). -/
def execSupplyMonitorTrip (p : Pav) (_rail : Fin 3) (s : State) : Result :=
  s.run fun t => (t.modLoc p fun l => l.wr .FBR_CAUSE_CAUSE caSupply).pavReset p pcSupply
/-- One 3.3 V rail leaves its window: the common block runs on from the other, the pavilion's own I/O and its crystal are lost (R22, R42,
R584). -/
def execVio33Loss (p : Pav) (s : State) : Result :=
  s.run fun t =>
    if t.com.vio33Lost p then t
    else
      let t := t.modCom fun c =>
        let c := c.raise .AON_EVENT_VIO33_LOSS
        match p with
        | .A => { c.wr .AON_SUPPLY_VIO33A_OK 0 with power := { c.power with lostA := true } }
        | .B => { c.wr .AON_SUPPLY_VIO33B_OK 0 with power := { c.power with lostB := true } }
      let t := t.modLoc p fun l => l.wr .SYS_SUPPLY_VIO33_OK 0
      (t.onLog fun r => r.fault t.now locVio33 (if p = .A then 0 else 1) masked reOtherPath 0).crystalFails p

/-- SYS_RSTCTL.PRESET, written by the Lodge of the pavilion. -/
def execSysPavilionReset (p : Pav) (s : State) : Result :=
  s.run fun t => if (t.pav p).loc.inReset || !(t.pav p).loc.powered then t else t.pavReset p pcCommand

/-! ### The Gatehouse (R515, R520) -/

/-- A failed continuous test: the pavilion sets itself aside, or, alone, goes on without randomness (R515). -/
def execRngFail (p : Pav) (s : State) : Result :=
  s.run fun t =>
    if (t.pav p).loc.inReset || !(t.pav p).loc.powered then t
    else
      let t := t.modRep p fun r => (r.wr .KEY_STATUS_RNG_OK 0).raise .KEY_EVENT_RNG_FAIL
      if t.alone p then t.modRep p fun r => { r with gate := { r.gate with noRandom := true } }
      else if t.role p = roleSetAside then t
      else t.setAside p caSelfcheckFail
def execGatehouseGuardTrip (p : Pav) (s : State) : Result :=
  s.run fun t => if (t.pav p).loc.inReset || !(t.pav p).loc.powered then t else t.pavReset p pcGuard

/-! ### Start-up (R531 to R534, R548) -/

/-- Rails have been in their windows for 1 ms: the common block, or a pavilion once the common block is out of reset, is released. The
Lodge alone runs, in its boot ROM (R19, R531 step 1); SYS_BOOT counts the start. Footbridge channels carry traffic once both run. -/
def execDeviceResetRelease (part : Option Pav) (s : State) : Result :=
  s.run fun t =>
    match part with
    | none =>
      if t.com.power.lostA && t.com.power.lostB then t
      else t.modCom fun c =>
        let c := ((c.wr .AON_SUPPLY_VIO33A_OK (!c.power.lostA).toNat).wr .AON_SUPPLY_VIO33B_OK (!c.power.lostB).toNat).wr .AON_SUPPLY_VCB_OK 1
        { c with power := { c.power with inReset := false } }
    | some p =>
      let l := (t.pav p).loc
      if !l.inReset || !l.powered || l.heldOut || t.com.power.inReset || t.com.vio33Lost p then t
      else
        let t := t.modLoc p fun l =>
          let l := { l.wr .SYS_BOOT_BOOT (l.rd .SYS_BOOT_BOOT + 1) with inReset := false }
          let l := (((l.wr .SYS_SUPPLY_VCORE_OK 1).wr .SYS_SUPPLY_VSER_OK 1).wr .SYS_SUPPLY_VIO18_OK 1).wr .SYS_SUPPLY_VIO33_OK 1
          l.setEng lodge { run := .running }
        let peer := (t.pav p.other).loc
        let chans (t : Site) (q : Pav) : Site := t.modLoc q fun l => (l.wr .FBR_STATUS_CH0_OK 1).wr .FBR_STATUS_CH1_OK 1
        if peer.inReset || !peer.powered then t else chans (chans t p) p.other

/-- The committed set as MRAM keeps it, checked against the image that starts (R531 step 5). -/
def Pavilion.keptCand (v : Pavilion) : Cand :=
  { loc := v.loc.regs.take isRwl v.loc.paramRegs, rep := v.rep.regs.take isRwl v.rep.paramRegs, recs := v.rep.params }
/-- The set that fails is lost (R534). -/
def Pavilion.restoreSet (v : Pavilion) (e : Env) : Pavilion :=
  let c := v.keptCand
  if (c.check v.rep.layout true true e.free).1 = coOk then v.takeCand e c
  else { v with rep := { v.rep.raise .UPD_EVENT_PARAM_LOST with committed := false } }

/-- The Lodge loads the parts of a slot and starts each engine at its ENTRY (R531 steps 3 and 4); UPD_BOOTTIME takes what the start took, a
free value. -/
def Local.start (l : Local) (r : Replica) (slot free : Nat) : Local :=
  let l := l.loadImage r slot
  let l := { l with engines := l.engines.mapFinIdx fun e en _ => { en with run := .running, wait := .none, pc := vget l.entries e 0 }
                    booted := true, recovering := false }
  ((l.wr .SYS_ENGSTAT_RUNNING (2 ^ 12 - 1)).wr .UPD_STATUS_BOOTED slot).wr .UPD_BOOTTIME_MS (Config.freeNat free)

/-- A pavilion has loaded an image: its layout and parameter set come into force, and the reset cause is entered in its own journal (R256,
R564). -/
def Pavilion.boot (v : Pavilion) (e : Env) (p : Pav) (slot : Nat) : Pavilion :=
  let r := v.rep.takeLayout (v.loc.layoutOf slot)
  let v : Pavilion := { loc := v.loc.start r slot e.free, rep := r }
  let l := v.loc.journal p e.redundant { time := e.now, location := locAon, instNo := 0xFF, outcome := detected,
                                         reaction := if v.loc.resetCause < 16 then reDeviceReset else reLogged, cause := v.loc.resetCause, localTo := true }
  ({ v with loc := l } : Pavilion).restoreSet e

/-- F of a staged activation whose restored set its new image refuses ends the activation (R540). -/
def Site.started (t : Site) (p : Pav) : Site :=
  if t.actFirst = some p && !(t.pav p).rep.committed then
    let c := (t.pav p).keptCand.check (t.pav p).rep.layout true true t.free
    t.actFail updCommit c.1
  else t
def Site.bootFrom (t : Site) (p : Pav) (slot : Nat) : Site :=
  let t := t.modPav p fun v => v.boot t.env p slot
  { t.started p with free := t.free + 1 }

/-- The slot taken at step 2 is checked. One that fails gives way to the other where PREV_VALID stands, else to image recovery; a staged
slot that fails ends the activation (R528, R531, R533, R540). -/
def execBootImageCheckDone (p : Pav) (s : State) : Result :=
  s.run fun t =>
    let v := t.pav p
    let r := v.rep
    if v.loc.inReset || v.loc.booted || v.loc.recovering then t
    else
      let trial := r.rd .UPD_STATUS_TRIAL = 1
      let slot := if trial then r.rd .UPD_STATUS_TRIAL_SLOT else r.rd .UPD_STATUS_ACTIVE
      let x := v.loc.checkImage r slot
      let t := t.modRep p fun r => r.wr .UPD_STATUS_TRIAL 0
      if x.1 = updOk then t.bootFrom p slot
      else if trial then t.actFail x.1 x.2
      else if r.rd .UPD_STATUS_PREV_VALID = 1 && (v.loc.checkImage r (1 - slot)).1 = updOk then
        let t := t.modPav p fun v =>
          { loc := (v.loc.wr .UPD_STATUS_FALLBACK 1).journal p t.redundant
              { time := t.now, location := locPavLogic, instNo := 0xFF, outcome := detected, reaction := reLogged, cause := x.1, localTo := true }
            rep := v.rep.raise .UPD_EVENT_BOOT_FALLBACK }
        t.bootFrom p (1 - slot)
      else t.modLoc p fun l => { l with recovering := true }

/-- The bytes of one memory between two addresses, moved to another place in a second memory that loses what stood there. -/
def Mem.copyRange (dst src : Mem) (dest base size : Nat) : Mem :=
  (dst.filter fun e => e.1 < dest) ++
    ((src.filter fun e => base ≤ e.1 && e.1 < base + size).map fun e => (e.1 - base + dest, e.2)) ++
    dst.filter fun e => dest + size ≤ e.1
/-- Image recovery (R533): the leader's ACTIVE slot, in the failed slot, passes R528. -/
def execImageRecoveryDone (p : Pav) (s : State) : Result :=
  s.run fun t =>
    match t.leader with
    | none => t
    | some q =>
      if q = p || !(t.pav p).loc.recovering || (t.pav p).loc.inReset then t
      else
        let src := (t.pav q).loc.mram
        let from' := slotBase ((t.pav q).rep.rd .UPD_STATUS_ACTIVE)
        let slot := (t.pav p).rep.rd .UPD_STATUS_ACTIVE
        let t := t.modLoc p fun l => { l with mram := l.mram.copyRange src (slotBase slot) from' 0xC00000 }
        if ((t.pav p).loc.checkImage (t.pav p).rep slot).1 ≠ updOk then t
        else (t.modRep p fun r => r.raise .UPD_EVENT_IMAGE_RECOVERED).bootFrom p slot

/-! ### The metrology engine at a start (R343, R531 step 8) -/

/-- The save the engine takes: of the banks with a good CHECK in either copy the one with the higher SAVE_NO, with its bank. -/
def bestSave (a b : Mem) (o : Nat) : Option (Nat × List Byte) :=
  let cands := [(0, a), (1, a), (0, b), (1, b)].map fun x => (x.1, x.2.rdBytes (saveAddr o x.1) 128)
  (cands.filter fun x => fieldAt x.2 0 2 = 0x0A05 && crcGood x.2).foldl (fun best x => match best with
    | none => some x
    | some y => if fieldAt y.2 8 8 < fieldAt x.2 8 8 then some x else some y) none
/-- The copy whose control area checks and stands further on (log entry 50). -/
def legalImage (a b : Mem) : Mem :=
  let ctl (m : Mem) : List Byte := m.rdBytes 0x30000400 20
  let ev (m : Mem) : Nat := fieldAt (ctl m) 4 4
  if crcGood (ctl b) && (!crcGood (ctl a) || ev a < ev b) then b else a
/-- The directory with the numbers of the slots' bodies; read-outs and acknowledgements are those last held. -/
def dirSlots (m : Mem) (old : Sparse LegalSlot) : Sparse LegalSlot :=
  (m.filter fun e => 0x30000000 ≤ e.1 && e.1 < 0x30000400).foldl (fun s e =>
    [0, 1, 2, 3].foldl (fun s j =>
      let n := 4 * (e.1 - 0x30000000) + j
      let st := e.2.toNat / 4 ^ j % 4
      if st = 0 then s
      else Sparse.put {} s n { Sparse.get {} old n with state := st, txNo := m.rdN (bodyAddr n + 4) 4 }) s) []
/-- The record committed last, bytes 0 to 479. -/
def lastRecord (m : Mem) (s : Sparse LegalSlot) : List Byte :=
  match (s.filter fun x => 2 ≤ x.2.state).foldl (fun (b : Option (Nat × LegalSlot)) x => match b with
      | none => some x
      | some y => if y.2.txNo < x.2.txNo then some x else some y) none with
  | some x => m.rdBytes (bodyAddr x.1) 480
  | none => []

/-- The registers of an outlet as its save holds them, with the record and program in force. An outlet still on its old programs has those
of the other image slot (R541). -/
def Pavilion.restoreMeter (v : Pavilion) (o : Nat) (save : Option (Nat × List Byte)) : Replica :=
  let r := v.rep
  let old := bitOf (r.rd .UPD_OLDPROG_OUTLETS) o
  let x := v.loc.part (1 - v.loc.rd .UPD_STATUS_BOOTED) partMet
  let prog : Nat × List Byte := match old, x with | true, some y => (y.version, y.hash) | _, _ => (r.layout.metVer, r.layout.metHash)
  let rec' := r.params.rdBytes (recMet * 2 ^ 16 + o * 2 ^ 10) 32
  let m : Meter := { record := if r.committed then rec' else [], progHash := prog.2 }
  let m := match save with
    | none => m
    | some (bank, b) => { m with imp := fieldAt b 24 8, exp := fieldAt b 32 8, impFrac := fieldAt b 40 4, expFrac := fieldAt b 44 4
                                 saveNo := fieldAt b 8 8, saveBank := bank }
  let r := ((r.setMeter o m).wr .MET_OPROG_VER prog.1 o).wr .MET_OPCHK_CHECK (fieldAt m.record 28 4) o
  ((r.wr .MET_OSTATE_TXOPEN 0 o).wr .MET_OSTATE_RESV 0 o).showMeter o

/-- Energy in mWh that may have flowed unregistered: ceil(P × T_BOUND / 3.6 J), P in W and T_BOUND in µs. -/
def boundEnergy (p tBound : Nat) : Nat := ceilDiv (p * tBound) 3600000

/-- A transaction its save shows open, closed with reason 4 or 5. The save does not hold whether OVERRANGE or NEG_BLOCK had occurred: free
values. -/
def Replica.supplyClose (r : Replica) (v : Env) (m : Mem) (o reason : Nat) (b : List Byte) : Replica :=
  let n := fieldAt b 6 2
  let y := m.rdBytes (bodyAddr n) 480
  let t : Trans :=
    { slot := n, txNo := fieldAt b 48 4, openTime := fieldAt y 24 8, openUtc := fieldAt y 40 8, bootOpen := fieldAt y 56 4
      impOpen := fieldAt y 64 8, expOpen := fieldAt y 80 8, blockOpen := fieldAt y 128 4, authKind := byteAt y 20
      ident := ((y.drop 200).take (byteAt y 21)).map BitVec.toNat, href := ((y.drop 240).take 16).map BitVec.toNat
      eventOpen := fieldAt y 192 4, rCable := fieldAt y 136 4, iStart := fieldAt y 140 2, paramCheck := fieldAt y 144 4
      progVer := fieldAt y 148 4, progHash := (y.drop 152).take 32
      didImp := fieldAt y 64 8 < fieldAt b 24 8, didExp := fieldAt y 80 8 < fieldAt b 32 8
      overRange := bitOf (Config.freeNat v.free) o, negBlock := bitOf (Config.freeNat v.free) (32 + o)
      gaps := fieldAt b 76 4, dirs := fieldAt b 80 4
      unregImp := fieldAt b 84 4 + boundEnergy (fieldAt b 64 4) (fieldAt b 72 4)
      unregExp := fieldAt b 88 4 + boundEnergy (fieldAt b 68 4) (fieldAt b 72 4)
      closeTime := fieldAt b 16 8, closeUtc := r.utcMs v }
  let tBound := r.rd .MET_TIMES_T_BOUND
  let x := r.meter o
  let r := r.setMeter o { x with unit := fieldAt y 120 8, next := fieldAt b 52 4, pLast := fieldAt b 64 4, tx := some t }
  let r := ((r.wr .MET_TIMES_T_BOUND (fieldAt b 72 4 / 100)).commitTrans v o t reason 0).wr .MET_TIMES_T_BOUND tBound
  let x := r.meter o
  ((r.setMeter o { x with unit := 0, next := 0, pLast := 0 }).legalEvent v 0x02 o t.txNo []).raise .MET_EVENT_SUPPLY_CLOSE

/-- The start of the metrology engine: registers from the saves, the directory, the transactions left open, and POWER_UP with the reset
cause and their number (R343, R349). -/
def Pavilion.legalStart (v : Pavilion) (e : Env) (a b : Mem) : Pavilion :=
  let m := legalImage a b
  let cause := v.loc.resetCause
  let slots := dirSlots m v.rep.legal.slots
  let r := v.rep.withLegal fun l => { l with slots, prev := lastRecord m slots }
  let r := (List.range 24).foldl (fun r o => Pavilion.restoreMeter { v with rep := r } o (bestSave a b o)) r
  let open' := (List.range 24).filterMap fun o => match bestSave a b o with
    | some (_, y) => if bitOf (byteAt y 5) 0 then some (o, y) else none
    | none => none
  let r := open'.foldl (fun r x => r.supplyClose e m x.1 (if cause = rcPowerOn then 4 else 5) x.2) r
  let r := (r.legalEvent e 0x01 0xFF 0xFFFFFFFF (leBytes 1 cause ++ leBytes 1 open'.length)).countSlots e
  { v with rep := r.eachOut fun o r => r.meterReady o }

/-- A pavilion that has started and sees neither a lease nor a claim. -/
def Site.startReady (t : Site) (p : Pav) : Bool :=
  let l := (t.pav p).loc
  !l.inReset && l.powered && l.booted && !l.heldOut && t.role p = roleSetAside && l.rd .FBR_PEERCLAIM_PEER = 0
/-- 1 ms after step 5 without a lease or a claim: a takeover under R87, by the home pavilion where both are ready (R531 step 6). The common
block takes the registers of the leader, and the metrology engine closes what was left open (step 8). -/
def execStartupLeaseWait (p : Pav) (s : State) : Result :=
  s.run fun t =>
    let home := (t.pav p).loc.rd .FBR_CTRL_HOME = (if p = .A then 0 else 1)
    if t.leader.isSome || !t.startReady p || (t.startReady p.other && !home) then t
    else
      let t' := t.takeover p
      if t'.leader ≠ some p then t'
      else
        let t' := t'.copyUp p
        let t' := t'.onStep fun v => v.legalStart t'.env t'.com.legalA t'.com.legalB
        { t' with free := t.free + 1 }

/-- R531 step 10. -/
def execDiscoveryStart (s : State) : Result := s.onLog fun _ r => { r with discovery := true }

/-- SYS_ENGCTL.START (R19, R569): a START for a running engine is ignored, and so is bit 0. -/
def Local.startEngines (l : Local) (mask : Nat) : Local :=
  (List.finRange 12).foldl (fun l e =>
    if e.val = 0 || !bitOf mask e.val || (l.eng e).run = .running then l
    else
      let l := l.setEng e { l.eng e with run := .running, wait := .none, pc := vget l.entries e.val 0 }
      l.wr .SYS_ENGSTAT_RUNNING (putBit (l.rd .SYS_ENGSTAT_RUNNING) e.val true)) l
def execSysEngineStart (p : Pav) (mask : BitVec 12) (s : State) : Result :=
  s.run fun t =>
    if (t.pav p).loc.inReset || !(t.pav p).loc.powered then t else t.modLoc p fun l => l.startEngines mask.toNat

/-! ### Idle and the sleep agreement (R552 to R558) -/

def psRun : Nat := 0
def psIdle : Nat := 1
def psNight : Nat := 2
def psWaking : Nat := 3
def Site.powerState (t : Site) : Nat := t.com.rd .AON_STATE_STATE

/-- Clock gates of a pavilion's engines. -/
def Local.gate (l : Local) (f : Eng → Bool) : Local :=
  l.wr .SYS_ENGSTAT_GATED ((List.finRange 12).foldl (fun w e => if f e then w + 2 ^ e.val else w) 0)
def Site.gateAll (t : Site) (f : Eng → Bool) : Site := (t.modLoc .A fun l => l.gate f).modLoc .B fun l => l.gate f

def Replica.routing (r : Replica) (g : Nat) : Bool := (r.ph g).rampOut.isSome || (r.ph g).joining
def Replica.anyEn (r : Replica) : Bool := (List.range 32).any fun g => (r.ph g).en ≠ 0 || (r.link g).enSent ≠ 0

/-- RUN to IDLE at an allocation tick (R553). -/
def Site.toIdle (t : Site) : Site :=
  let t' := t.modCom fun c => { c with power := { c.power with quiet := true } }
  if t.powerState = psRun && t.com.rd .AON_CTRL_IDLE_EN = 1 && t.com.power.quiet then
    (t'.modCom fun c => c.wr .AON_STATE_STATE psIdle).gateAll isLoopEngine
  else t'
/-- IDLE to RUN at a site-cycle boundary: an entry that energises or routes takes effect at the next one (R554), or IDLE is not permitted. -/
def Site.toRun (t : Site) : Site :=
  match t.leader with
  | none => t
  | some p =>
    let next := boundaryTime t.mult (t.boundaryNo + 1)
    if t.powerState = psIdle && (t.com.rd .AON_CTRL_IDLE_EN = 0 || (t.pav p).loc.log.any fun e => e.switching && e.effective ≤ next) then
      (t.modCom fun c => { c.wr .AON_STATE_STATE psRun with power := { c.power with quiet := false } }).gateAll fun _ => false
    else t

/-- The night conditions (R555). A leader whose peer is powered down for NIGHT runs alone without a fault outstanding. -/
def Site.nightConditions (t : Site) : Bool :=
  match t.leader with
  | none => false
  | some p =>
    let r := (t.pav p).rep
    let idle (o : Nat) : Bool :=
      r.ostate o = osIdle || r.ostate o = osUnavailable || (r.ostate o = osFault && !(r.vs o).conn)
    let slept := t.com.rd (match p with | .A => .AON_CAUSE_PCAUSE_B | .B => .AON_CAUSE_PCAUSE_A) = pcNight
    (List.range 24).all idle && !r.anyEn && (r.hosts.ops.all fun x => x.done) && (r.sessions fun _ => true) = [] &&
      (t.redundant || (t.alone p && slept))
/-- At an allocation tick: the idle timer runs on, or restarts at 0, and IDLE_S shows it in seconds. -/
def Site.idleTimer (t : Site) : Site :=
  if t.powerState ≤ psIdle && t.nightConditions then
    let from' := t.com.power.idleFrom.getD t.ticks
    t.modCom fun c => { c.wr .AON_STATE_IDLE_S (min 65535 ((t.ticks - from') / 200000000)) with power := { c.power with idleFrom := some from' } }
  else t.modCom fun c => { c.wr .AON_STATE_IDLE_S 0 with power := { c.power with idleFrom := none } }

/-- The idle timer reaches IDLE_T: the leader sequences a sleep entry (R555). -/
def execIdleTimerExpiry (s : State) : Result :=
  s.run fun t =>
    match t.leader with
    | none => t
    | some p =>
      if t.com.rd .AON_CTRL_IDLE_T = 0 || psIdle < t.powerState || t.com.power.asked || !t.nightConditions then t
      else match t.entry p 4 [] with
        | some t => t.modCom fun c => { c with power := { c.power with asked := true, waking := 0 } }
        | none => t.holdLog p

/-- CAN refuses while a mailbox is PENDING or a channel in use is not error active (R471, R556). -/
def Replica.canRefusal (r : Replica) (n : Nat) : Option (Nat × Nat) :=
  if r.rd .CAN_CPEND_PEND n ≠ 0 then some (8, 4)
  else if r.rd .CAN_CCTRL_EN n = 1 && r.rd .CAN_CSTAT_STATE n ≠ 0 then some (8, 5) else none
def Replica.dlkRefusal (r : Replica) : Option (Nat × Nat) :=
  let ds := List.range 12
  if ds.any fun d => r.dstate d = dsActive && (r.rd .DLK_LSTATE_VER d < 3 || !bitOf (r.rd .DLK_LSTATE_CAPS d) 4) then some (7, 2)
  else if ds.any fun d => (r.dl d).unacked ≠ [] || (r.dl d).waiting ≠ [] then some (7, 3) else none
def Common.lswRefusal (c : Common) : Option (Nat × Nat) :=
  let busy (st : Nat) : Bool := st = chWarmup || st = chStart || st = chPull || st = chRetryWait
  if (List.range 32).any fun i => busy (c.chState i) then some (5, 8)
  else if c.rd .SIO_GATE_GATE ≠ 0 then some (5, 9) else none
/-- The first block that refuses, in the order of R556, with its reason code. -/
def Site.sleepRefusal (t : Site) : Option (Nat × Nat) :=
  match t.leader with
  | none => some (10, 0x0C)
  | some p =>
    let r := (t.pav p).rep
    let c := t.com
    let upd := if r.phase ≠ 0 || r.running isStage ≠ [] then some (1, 0x0B) else none
    let hst := if r.hosts.sessions.toList.any fun x => x.phase ≠ 0 then some (2, 1) else none
    let saf := if r.safety.confirm.isSome || r.rd .SAF_STATUS_DEGRADED = 1 || r.safety.faults ≠ 0 || c.rd .SIO_IN_FAULT ≠ 0 ||
        c.rd .SIO_TPSTAT_FAULT ≠ 0 || c.rd .SIO_RESET_JAM = 1 then some (3, 0x0A) else none
    let en (g : Nat) : Bool := (r.ph g).en ≠ 0 || (r.link g).enSent ≠ 0 || (r.lstate g = lsActive && (r.ph g).enZero < 2)
    let stg := if (List.range 32).any fun g => en g || r.routing g || r.rd .STG_LMSG_BUSY g = 1 then some (4, 7) else none
    let met := if (r.legal.meters.toList.any fun m => m.tx.isSome || m.slot.isSome) || r.legal.writes ≠ [] then some (6, 6) else none
    let fbr := if [Pav.A, .B].any fun q => (t.pav q).loc.div.isSome || (t.pav q).loc.handbackAt.isSome || t.role q = roleJoining then
        some (10, 0x0C) else none
    if t.com.power.waking ≠ 0 then some (1, 0x0D)
    else [upd, hst, saf, stg, c.lswRefusal, met, r.dlkRefusal, r.canRefusal 0, r.canRefusal 1, fbr].findSome? id

/-- Slots that stay armed through NIGHT (R558 step 3). -/
def Local.nightSlots (l : Local) : Local :=
  (List.range 64).foldl (fun l n =>
    let tg := l.rd .SDL_SCTRL_TARGET n
    let e := l.rd .SDL_SCTRL_ENGINE n
    if tg = tgtMccSlot || tg = tgtWake || ((tg = tgtMessage || tg = tgtInterrupt) && (e = 0 || e = 8)) then l
    else { l.wr .SDL_SCTRL_ARM 0 n with slots := vput l.slots n { vget l.slots n {} with held := false } }) l
/-- NIGHT entry (R418, R471, R558, R560). -/
def Site.nightEnter (t : Site) (p : Pav) : Site :=
  let t := t.onLog fun r =>
    let r := (List.range 12).foldl (fun r d =>
      if r.dstate d = dsActive then [0, 1].foldl (fun r j => r.outletLost t.env (2 * d + j)) (r.linkDown d dsDown) else r) r
    [0, 1].foldl (fun r n => if r.rd .CAN_CCTRL_EN n = 1 then r.wr .CAN_CSTAT_STATE 3 n else r) { r with discovery := false }
  let t := (t.modLoc .A Local.nightSlots).modLoc .B Local.nightSlots
  let t := if t.redundant then (t.pavReset p.other pcNight).modLoc p.other fun l => { l with powered := false } else t
  let t := t.modLoc p fun l => l.gate fun e => e ≠ lodge && e.val ≠ 8
  t.modCom fun c =>
    let c := (c.wr .LSW_LATCHED_STATE (c.rd .LSW_ON_ON)).wr .LSW_STATUS_LATCHED 1
    ((c.wr .AON_STATE_STATE psNight).wr .AON_STATE_REG_LP 1).wr .AON_STATE_LATCHED 1 |>.raise .AON_EVENT_NIGHT_ENTER

/-- The sleep agreement at the entry's EFFECTIVE boundary (R556 to R558). -/
def execSleepEntry (s : State) : Result :=
  s.run fun t =>
    match t.leader with
    | none => t
    | some p =>
      if !t.com.power.asked then t
      else
        let no := t.sleepRefusal
        let t := t.modCom fun c => { c.wr .AON_SLEEP_ATTEMPTS (c.rd .AON_SLEEP_ATTEMPTS + 1) with
          power := { c.power with asked := false, waking := 0, idleFrom := none } }
        let t := t.modCom fun c => c.wr .AON_STATE_IDLE_S 0
        match no with
        | some (block, reason) => t.modCom fun c => ((c.wr .AON_SLEEP_BLOCK block).wr .AON_SLEEP_REASON reason).raise .AON_EVENT_SLEEP_REFUSED
        | none => t.nightEnter p

/-! ### Wake (R561 to R563) -/

/-- The waking frame of a channel is entered in the log, and the controllers join their buses again (R471). -/
def Site.canAwake (t : Site) : Site :=
  [0, 1].foldl (fun t n =>
    let frame := match t.leader with | some p => (vget (t.pav p).rep.cans n {}).wakeFrame | none => none
    let t := t.onLog fun r =>
      let x := vget r.cans n {}
      { (if r.rd .CAN_CSTAT_STATE n = 3 then r.wr .CAN_CSTAT_STATE 0 n else r) with cans := vput r.cans n { x with wakeFrame := none } }
    match frame with
    | some f => t.input 2 (canSource n) (canPayload f true)
    | none => t) t
/-- A wake source that is enabled. During an agreement it counts as a refusal; in NIGHT it begins WAKING; in WAKING it is recorded. -/
def Site.wake (t : Site) (src : Nat) : Site :=
  let bit := 2 ^ src
  if !bitOf (t.com.rd .AON_WAKEEN_EN) src then t
  else if t.com.power.asked then t.modCom fun c => { c with power := { c.power with waking := c.power.waking ||| bit } }
  else if t.powerState = psNight then
    let t := t.modCom fun c => ((c.wr .AON_STATE_STATE psWaking).wr .AON_STATE_REG_LP 0).wr .AON_WAKESRC_SRC bit |>.raise .AON_EVENT_WAKE
    (t.gateAll isLoopEngine).canAwake
  else if t.powerState = psWaking then t.modCom fun c => c.wr .AON_WAKESRC_SRC (c.rd .AON_WAKESRC_SRC ||| bit)
  else t
def execWakeDetect (src : Fin 7) (s : State) : Result := s.run fun t => t.wake src.val
/-- Step 4 of R563, at the next site-cycle boundary: every stage link is DOWN, the state is IDLE, and the follower's supply returns. -/
def Site.wakeDone (t : Site) : Site :=
  if t.powerState ≠ psWaking then t
  else
    let t := t.onLog fun r => r.eachGrp fun g r => if r.lstate g = lsDisabled then r else r.setLink' t.env g lsDown
    let on (t : Site) (p : Pav) : Site := t.modLoc p fun l => { l with powered := true }
    (on (on t .A) .B).modCom fun c => { c.wr .AON_STATE_STATE psIdle with power := { c.power with idleFrom := none, quiet := false } }

/-- AON_PADCTL.RELEASE (R560): the stage pads are released and discovery runs. -/
def Site.padRelease (t : Site) : Site :=
  if t.com.rd .AON_STATE_LATCHED = 0 then t
  else (t.modCom fun c => c.wr .AON_STATE_LATCHED 0).onLog fun r => { r with discovery := true }
def execAonPadRelease (s : State) : Result := s.run Site.padRelease

end Sys2Proof.Machine
end

