-- ==== Sys2Proof/Machine/Return.lean ====
section
/-! DEFINITION. Entry into RETURN (R450, R502, R592, R593, R598). -/
namespace Sys2Proof.Machine

/-! ### The two requests -/

def isKeyUpdate : OpKind → Bool | .keyUpdate _ => true | _ => false
/-- Step 1 of R592: every outlet leaves service. -/
def Replica.leaveService (r : Replica) (v : Env) : Replica :=
  r.eachOut fun o r =>
    let r := r.setVs o { r.vs o with outOfService := true }
    let st := r.ostate o
    if osCableCheck ≤ st && st ≤ osCharging then r.stopOutlet v o ocHostStop
    else if st = osCommission then r.goto v o osStopping (some ocHostStop)
    else if st = osStopping || st = osUnavailable then r else r.goto v o osUnavailable
/-- device.return (R450, R598): the second role with the same NONCE begins the entry. Outside DEPLOYED the life cycle has no such step
(R501). -/
def execDeviceReturn (n : Sess) (tag : Nat) (nonce : List Byte) (s : State) : Result :=
  s.host n tag 0x0405 rolesBoth false fun t r =>
    let role := (r.ses n).role
    let first : Replica × Resp := (r.withHosts fun h => { h with ret := some (role, nonce) }, { detail := 1 })
    if nonce.length ≠ 8 then (r, refuse hsBadFormat)
    else if r.lifeCycle ≠ 2 || r.hosts.returning ≠ .no then (r, refuse hsWrongState)
    else match r.hosts.ret with
      | none => first
      | some (role', nonce') =>
        if nonce' ≠ nonce || role' = role then first
        else if r.running isStage ≠ [] || r.running isActivation ≠ [] || r.running isKeyUpdate ≠ [] || r.phase ≠ 0 then (r, refuse hsBusy)
        else ((r.leaveService t.env).withHosts fun h => { h with ret := none, returning := .closing }, { detail := 2 })

/-! ### Steps 3 to 5 -/

/-- The OEM-signed parts of a slot are erased (R593). -/
def Local.eraseOem (l : Local) (s : Nat) : Local :=
  { l with mram := ((l.parts s).filter fun x => x.signer ≠ 0).foldl (fun m x =>
      m.copyRange [] (slotBase s + 4096 * x.first) 0 (4096 * x.count)) l.mram }
/-- UPDATE_ROOT and BRANCH slots of the roles become INVALID, which orphans what hangs below them; the material of every OPERATOR and OEM slot
is gone (R502, R593). -/
def Replica.eraseKeys (r : Replica) (v : Env) : Replica :=
  let old := r
  let ours (r : Replica) (n : Nat) : Bool := r.keyRole n = 1 || r.keyRole n = 2
  let r := (List.range 128).foldl (fun r n =>
    if ours r n && r.keyState n = 1 && (r.keyUsage n = 1 || r.keyUsage n = 2) then r.invalidate n else r) r
  let r := (List.range 128).foldl (fun r n => if ours r n then r.setMaterial n [] else r) r
  r.keysChanged old v
/-- What RETURN erases in a pavilion's stores (R593). -/
def Pavilion.eraseStores (v : Pavilion) (e : Env) : Pavilion :=
  let l := (v.loc.eraseOem 0).eraseOem 1
  let r := v.rep.eraseKeys e
  let r : Replica := { r with
    params := [], paramRegs := [], rwl := [], committed := false, owners := Vector.replicate 24 none
    hosts := { r.hosts with certs := [], pending := none, staged := none }
    safety := { r.safety with inForce := [], before := [] } }
  let r := ((r.wr .UPD_STATUS_PENDING_PARAM 0).wr .SAF_STATUS_CONF 0).wr .SAF_CONFIRMED_CHECK 0
  { loc := { l with paramRegs := [], rwl := [] }, rep := r }
/-- The life-cycle state becomes RETURN (step 5); a second Gatehouse follows at its join. -/
def Replica.enterReturn (r : Replica) (v : Env) : Replica :=
  let r := ((r.wr .KEY_STATUS_LC lcReturn).raise .KEY_EVENT_LC_ADVANCE).journal v.now locAon 0xFF detected reLogged 0
  r.withHosts fun h => { h with returning := .reset }
/-- Steps 3 to 5 of R592. -/
def Site.returnDone (t : Site) : Site :=
  let t := t.onStep fun v =>
    let r := v.rep.eachGrp fun g r => r.setLink' t.env g lsDisabled
    let r := (List.range 12).foldl (fun r d => r.linkDown d dsDisabled) r
    { loc := (List.range 32).foldl (fun l i => l.wr .LSW_CCTRL_ON 0 i) v.loc, rep := { r with safety := { r.safety with gates := 0 } } }
  let t := t.takeSwitches
  let t := (t.modPav .A fun v => v.eraseStores t.env).modPav .B fun v => v.eraseStores t.env
  t.onLog fun r => r.enterReturn t.env
def Site.returning (t : Site) : Returning := match t.leader with | some p => (t.pav p).rep.hosts.returning | none => .no

/-- At an allocation tick: the entry goes on when no transaction is open. -/
def Site.returnTick (t : Site) : Site :=
  match t.leader with
  | none => t
  | some p => if t.returning = .closing && (t.pav p).rep.legal.meters.toList.all fun m => m.tx.isNone then t.returnDone else t
/-- 60 s after step 1 (R592). -/
def execReturnCloseTimeout (s : State) : Result := s.run fun t => if t.returning = .closing then t.returnDone else t
/-- Step 6. -/
def execReturnLifecycleReset (s : State) : Result := s.run fun t => if t.returning = .reset then t.deviceReset rcLifecycle else t

end Sys2Proof.Machine
end

