-- ==== Sys2Proof/Machine/Buses.lean ====
section
/-! DEFINITION. The CAN FD channels and the mains carrier (R456 to R494). -/
namespace Sys2Proof.Machine

/-! ### CAN FD: mailboxes (R463 to R465) -/

def mbEmpty : Nat := 0
def mbPending : Nat := 1
def mbSent : Nat := 2
def mbAborted : Nat := 3
def mbLapsed : Nat := 4
def csActive : Nat := 0
def csPassive : Nat := 1
def csBusOff : Nat := 2
def csAsleep : Nat := 3

def Replica.can (r : Replica) (n : Nat) : CanState := vget r.cans n {}
def Replica.setCan (r : Replica) (n : Nat) (x : CanState) : Replica := { r with cans := vput r.cans n x }
def Replica.canState (r : Replica) (n : Nat) : Nat := r.rd .CAN_CSTAT_STATE n
/-- Instance of mailbox `m` of channel `n`. -/
def mbIx (n m : Nat) : Nat := 32 * n + m
def Replica.mbState (r : Replica) (n m : Nat) : Nat := r.rd .CAN_MBCTRL_STATE (mbIx n m)
/-- A mailbox's STATE, with PEND. -/
def Replica.setMb (r : Replica) (n m st : Nat) : Replica :=
  (r.wr .CAN_MBCTRL_STATE st (mbIx n m)).wr .CAN_CPEND_PEND (putBit (r.rd .CAN_CPEND_PEND n) m (st = mbPending)) n
/-- A CAN event of a channel. -/
def Replica.canEvent (r : Replica) (f : Field) (n : Nat) : Replica := r.raise f n

/-- Bytes of a data length code: CAN FD, Classical. -/
def dlcBytes (fdf : Bool) (dlc : Nat) : Nat := if fdf then [0, 1, 2, 3, 4, 5, 6, 7, 8, 12, 16, 20, 24, 32, 48, 64].getD dlc 64 else min dlc 8
/-- Arbitration order: the lower value wins. A base identifier goes before the extended ones that begin with it. -/
def arbKey (ident : Nat) (ide : Bool) : Nat :=
  if ide then ident / 2 ^ 18 % 2 ^ 11 * 2 ^ 19 + 2 ^ 18 + ident % 2 ^ 18 else ident % 2 ^ 11 * 2 ^ 19
def Replica.mbKey (r : Replica) (n m : Nat) : Nat := arbKey (r.rd .CAN_MBHDR_ID (mbIx n m)) (r.rd .CAN_MBHDR_IDE (mbIx n m) = 1)
/-- The PENDING mailbox with the highest priority; ties go to the lower number (R463). -/
def Replica.topMailbox (r : Replica) (n : Nat) : Option Nat :=
  ((List.range 32).filter fun m => r.mbState n m = mbPending).foldl (fun (b : Option Nat) m => match b with
    | none => some m
    | some k => if r.mbKey n m < r.mbKey n k then some m else some k) none
/-- Where no frame of the device is in transmission, the next one enters arbitration; the bus is free then (DESIGN CHOICE, log entry 81).
Not in bus-off or asleep (R468, R471). -/
def Replica.arbitrate (r : Replica) (n : Nat) : Replica :=
  let x := r.can n
  if x.sending.isSome || csBusOff ≤ r.canState n || r.rd .CAN_CCTRL_EN n = 0 then r
  else r.setCan n { x with sending := r.topMailbox n, onFail := none }

/-- The mailbox's deadline (R464). -/
def Replica.mbDeadline (r : Replica) (n m : Nat) : Nat := r.rd .CAN_MBDL_HI_CYCLE (mbIx n m) * 2 ^ 32 + r.rd .CAN_MBDL_LO_ANGLE (mbIx n m)
/-- GO (R463, R464, R493). A CAN FD frame on a channel that does not permit one is refused like a payload above MAXP. -/
def Replica.mailboxGo (r : Replica) (now n m : Nat) : Replica :=
  let i := mbIx n m
  let fdf := r.rd .CAN_MBHDR_FDF i = 1
  let refused := r.mbState n m = mbPending || r.rd .CAN_CCTRL_MAXP n < dlcBytes fdf (r.rd .CAN_MBCTRL_DLC i) || (fdf && r.rd .CAN_CCTRL_FD n = 0)
  if refused then r.canEvent .CAN_CEVENT_TX_REFUSED n
  else if r.rd .CAN_MBCTRL_DL_EN i = 1 && r.mbDeadline n m ≤ now then (r.setMb n m mbLapsed).canEvent .CAN_CEVENT_DEADLINE_LAPSED n
  else (r.setMb n m mbPending).arbitrate n
def execCanMailboxGo (ch : CanCh) (m : Mailbox) (s : State) : Result := s.onLog fun t r => r.mailboxGo t.now ch m
/-- ABORT (R465). -/
def Replica.mailboxAbort (r : Replica) (n m : Nat) : Replica :=
  if r.mbState n m ≠ mbPending then r
  else if (r.can n).sending = some m then r.setCan n { r.can n with onFail := some ((r.can n).onFail.getD mbAborted) }
  else r.setMb n m mbAborted
def execCanMailboxAbort (ch : CanCh) (m : Mailbox) (s : State) : Result := s.onLog fun _ r => r.mailboxAbort ch m
/-- The tick at or after a mailbox's deadline (R464). -/
def execCanDeadlineLapse (ch : CanCh) (m : Mailbox) (s : State) : Result :=
  s.onLog fun _ r =>
    if r.mbState ch m ≠ mbPending || r.rd .CAN_MBCTRL_DL_EN (mbIx ch m) = 0 then r
    else if (r.can ch).sending = some m.val then r.setCan ch { r.can ch with onFail := some mbLapsed }
    else (r.setMb ch m mbLapsed).canEvent .CAN_CEVENT_DEADLINE_LAPSED ch

/-! ### CAN FD: error states (R466 to R469) -/

/-- A failed frame of a mailbox that is not to be sent again. -/
def Replica.dropFailed (r : Replica) (n : Nat) : Replica :=
  let x := r.can n
  let r := r.setCan n { x with sending := none, onFail := none }
  match x.sending, x.onFail with
  | some m, some st =>
    let r := r.setMb n m st
    if st = mbLapsed then r.canEvent .CAN_CEVENT_DEADLINE_LAPSED n else r
  | _, _ => r
def Replica.errorPassive (r : Replica) (n : Nat) : Replica :=
  if r.canState n ≠ csActive then r
  else ((r.wr .CAN_CSTAT_STATE csPassive n).wr .CAN_CSTAT_RECOV 1 n).canEvent .CAN_CEVENT_ERR_PASSIVE n
/-- Back to error active with both counters below 128. -/
def Replica.errorActive (r : Replica) (n : Nat) : Replica :=
  if r.canState n = csPassive && r.rd .CAN_CSTAT_TEC n < 128 && r.rd .CAN_CSTAT_REC n < 128 then
    (r.wr .CAN_CSTAT_STATE csActive n).wr .CAN_CSTAT_RECOV 0 n
  else r
/-- Entry into bus-off: PENDING mailboxes freeze in place. -/
def Replica.busOff (r : Replica) (n : Nat) : Replica :=
  if csBusOff ≤ r.canState n then r
  else
    let r := r.dropFailed n
    let r := r.setCan n { r.can n with busy := false }
    (((r.wr .CAN_CSTAT_STATE csBusOff n).wr .CAN_CSTAT_RECOV 1 n).wr .CAN_CSTAT_TEC 255 n).canEvent .CAN_CEVENT_BUS_OFF n
def execCanErrorPassive (ch : CanCh) (tec rec : Nat) (s : State) : Result :=
  s.onLog fun _ r =>
    if csBusOff ≤ r.canState ch then r
    else ((r.wr .CAN_CSTAT_TEC (min tec 255) ch).wr .CAN_CSTAT_REC (min rec 128) ch).errorPassive ch
def execCanBusOff (ch : CanCh) (s : State) : Result := s.onLog fun _ r => r.busOff ch
/-- 128 occurrences of 11 recessive bits (R468). -/
def execCanBusOn (ch : CanCh) (s : State) : Result :=
  s.onLog fun _ r =>
    if r.canState ch ≠ csBusOff then r
    else
      let r := (((r.wr .CAN_CSTAT_STATE csActive ch).wr .CAN_CSTAT_RECOV 0 ch).wr .CAN_CSTAT_TEC 0 ch).wr .CAN_CSTAT_REC 0 ch
      (r.canEvent .CAN_CEVENT_BUS_ON ch).arbitrate ch
/-- L has passed since bus-off entry and no frame has completed (R469). -/
def execCanFailed (ch : CanCh) (s : State) : Result :=
  s.onLog fun _ r => if r.canState ch = csBusOff && !(r.can ch).busy then r.canEvent .CAN_CEVENT_CAN_FAILED ch else r

/-- The counters after a transmission of the device, as ISO 11898-1 moves them (R466): a success takes 1 off TEC; a failure adds 8, which an
error passive sender whose frame nobody acknowledged need not do: a free value there. -/
def Replica.countTx (r : Replica) (v : Env) (n : Nat) (ok : Bool) : Replica :=
  let tec := r.rd .CAN_CSTAT_TEC n
  if ok then (r.wr .CAN_CSTAT_TEC (tec - 1) n).errorActive n
  else
    let tec := tec + (if r.canState n = csPassive && Config.freeNat v.free % 2 = 0 then 0 else 8)
    let r := r.wr .CAN_CSTAT_TEC (min tec 255) n
    if 256 ≤ tec then r.busOff n else if 128 ≤ tec then r.errorPassive n else r

/-- The outcome of a transmission at its log position (R463); `same` is the shadow's comparison (R457). A failed frame with BRS may have
failed because the measured loop delay went out of range: TDC_RANGE is then raised, a free choice (R462; log entry 103). -/
def Replica.txDone (r : Replica) (v : Env) (n m : Nat) (ok : Bool) : Replica :=
  if r.mbState n m ≠ mbPending || csBusOff ≤ r.canState n then r
  else
    let x := r.can n
    let x := { x with sending := some m, onFail := if x.sending = some m then x.onFail else none }
    let i := mbIx n m
    let hdr := r.rd .CAN_MBHDR_ID i + r.rd .CAN_MBHDR_IDE i * 2 ^ 29 + r.rd .CAN_MBHDR_FDF i * 2 ^ 30 + r.rd .CAN_MBHDR_BRS i * 2 ^ 31
    let len := dlcBytes (r.rd .CAN_MBHDR_FDF i = 1) (r.rd .CAN_MBCTRL_DLC i)
    let data := (List.range len).map fun k => r.rd .CAN_MBDATA_DATA (16 * i + k / 4) / 256 ^ (k % 4) % 256
    if ok then
      let r := ((r.setCan n { x with sending := none, onFail := none, busy := true }).setMb n m mbSent).send (.can n m hdr data)
      (r.countTx v n true).arbitrate n
    else
      let late := r.rd .CAN_CCTRL_TDC n = 1 && r.rd .CAN_MBHDR_FDF i = 1 && r.rd .CAN_MBHDR_BRS i = 1 && Config.freeNat v.free / 2 % 2 = 1
      let r := if late then r.canEvent .CAN_CEVENT_TDC_RANGE n else r
      (((r.setCan n x).dropFailed n).countTx v n false).arbitrate n
def execCanTxComplete (ch : CanCh) (m : Mailbox) (ok same : Bool) (s : State) : Result :=
  s.run fun t =>
    let t' := { t.onLog fun r => r.txDone t.env ch m ok with free := t.free + 1 }
    if same || !t.redundant then t'
    else
      let mark (t : Site) (p : Pav) : Site := t.modLoc p fun l => { l with shadowBad := true }
      (mark (mark t' .A) .B).onLog fun r => r.canEvent .CAN_CEVENT_SHADOW_MISMATCH ch

/-! ### CAN FD: reception and wake (R459, R471) -/

/-- Some enabled filter matches (R493). -/
def Replica.canAccepts (r : Replica) (n : Nat) (f : CanFrame) : Bool :=
  (List.range 64).any fun k =>
    let i := 64 * n + k
    r.rd .CAN_FLT_ID_EN i = 1 && (r.rd .CAN_FLT_ID_IDE i = 1) = f.ide && (r.rd .CAN_FLT_ID_ID i ^^^ f.ident) &&& r.rd .CAN_FLT_MASK_MASK i = 0
/-- A success lowers REC; above 127 to a value between 119 and 127 that ISO 11898-1 leaves open. -/
def Replica.countRx (r : Replica) (v : Env) (n : Nat) : Replica :=
  let c := r.rd .CAN_CSTAT_REC n
  (r.wr .CAN_CSTAT_REC (if 127 < c then 119 + Config.freeNat v.free % 9 else c - 1) n).errorActive n
def Site.canFrame (t : Site) (p : Pav) (n : Nat) (f : CanFrame) : Site :=
  let r := (t.pav p).rep
  let l := (t.pav p).loc
  if !(t.pav p).inStep || r.rd .CAN_CCTRL_EN n = 0 then t
  else
    let t := t.modRep p fun r =>
      let r := r.setCan n { r.can n with busy := true }
      if csBusOff ≤ r.canState n then r else r.countRx t.env n
    if csBusOff ≤ r.canState n then t
    else if f.remote then t.modRep p fun r => r.canEvent .CAN_CEVENT_REMOTE_RX n
    else if !r.canAccepts n f then t
    else
      let queued := if t.leader = some p then (l.inputs.filter fun x => x.1 = 2 && x.2.1 = canSource n).length else (vget l.canRx n []).length
      if 64 ≤ queued then t.modRep p fun r => r.canEvent .CAN_CEVENT_RX_OVERFLOW n
      else if t.leader = some p then t.input 2 (canSource n) (canPayload f false)
      else t.modLoc p fun l => { l with canRx := vput l.canRx n (vget l.canRx n [] ++ [f]) }
/-- A frame received by one pavilion's controller. -/
def execCanFrameRx (p : Pav) (ch : CanCh) (f : CanFrame) (s : State) : Result :=
  s.run fun t => { t.canFrame p ch f with free := t.free + 1 }
/-- 2 ms after it was kept. -/
def execCanHeldFrameExpiry (p : Pav) (ch : CanCh) (k : Nat) (s : State) : Result :=
  s.run fun t => t.modLoc p fun l => { l with canRx := vput l.canRx ch ((vget l.canRx ch []).eraseIdx k) }

/-- The wake detector of an asleep channel in the mode WAKE selects (R471). -/
def Replica.canWakes (r : Replica) (n : Nat) (frame : Option CanFrame) : Bool :=
  let mode := r.rd .CAN_CCTRL_WAKE n
  mode = 1 || (mode = 2 && match frame with
    | none => false
    | some f => !f.fdf && !f.remote && (r.rd .CAN_CWID_IDE n = 1) = f.ide && (r.rd .CAN_CWID_ID n ^^^ f.ident) &&& r.rd .CAN_CWMASK_MASK n = 0 &&
        (r.rd .CAN_CWDATA_DMASK n = 0 ||
          (f.data ≠ [] && (r.rd .CAN_CWDATA_DATA n ^^^ byteAt f.data 0) &&& r.rd .CAN_CWDATA_DMASK n = 0)))
def execCanWakeDetect (ch : CanCh) (frame : Option CanFrame) (s : State) : Result :=
  s.run fun t =>
    match t.leader with
    | none => t
    | some p =>
      let r := (t.pav p).rep
      if r.canState ch ≠ csAsleep || !r.canWakes ch frame then t
      else
        let t := t.onLog fun r =>
          (r.setCan ch { r.can ch with wakeFrame := if r.rd .CAN_CCTRL_WAKE ch = 2 then frame else none }).canEvent .CAN_CEVENT_WAKE ch
        t.wake (2 + ch.val)

/-! ### Mains carrier: nodes and routes (R480 to R486) -/

def nsFree : Nat := 0
def nsJoining : Nat := 1
def nsJoined : Nat := 2
def nsUnreachable : Nat := 3
def nsRefused : Nat := 4

def Replica.withCarrier (r : Replica) (f : Carrier → Carrier) : Replica := { r with carrier := f r.carrier }
def Replica.node (r : Replica) (a : Nat) : CarrierNode := vget r.carrier.nodes a {}
def Replica.setNode (r : Replica) (a : Nat) (x : CarrierNode) : Replica := r.withCarrier fun c => { c with nodes := vput c.nodes a x }
def Replica.nodeState (r : Replica) (a : Nat) : Nat := r.rd .MCC_NSTAT_STATE a
def Replica.isMember (r : Replica) (a : Nat) : Bool := 1 ≤ a && a ≤ 64 && (r.nodeState a = nsJoined || r.nodeState a = nsUnreachable)
def Replica.members (r : Replica) : List Nat := (List.range 65).filter r.isMember
def Replica.countNodes (r : Replica) : Replica := r.wr .MCC_STATUS_NODES r.members.length
def Replica.nodeRoute (r : Replica) (a : Nat) : List Nat :=
  [r.rd .MCC_NROUTE_REP1 a, r.rd .MCC_NROUTE_REP2 a, r.rd .MCC_NROUTE_REP3 a].filter (· ≠ 0)
/-- A node's route and its hops. -/
def Replica.setRoute (r : Replica) (a : Nat) (route : List Nat) : Replica :=
  (((r.wr .MCC_NROUTE_REP1 (route.getD 0 0) a).wr .MCC_NROUTE_REP2 (route.getD 1 0) a).wr .MCC_NROUTE_REP3 (route.getD 2 0) a).wr
    .MCC_NSTAT_HOPS (route.length + 1) a

/-- LQI of `b` as end `a` reports it; the device's own reports are those of the ACKs it received. -/
def Replica.lqiAt (r : Replica) (a b : Nat) : Option Nat :=
  if a = 0 then (if r.rd .MCC_NSTAT_LQI b = 0 then none else some (r.rd .MCC_NSTAT_LQI b))
  else ((r.node a).lqi.find? fun x => x.1 = b).map (·.2)
/-- Cost of a hop (R483; log entry 80). A link one end of which has reported nothing takes the other end's figure. -/
def Replica.hopCost (r : Replica) (a b : Nat) : Option Nat :=
  if r.carrier.unusable.contains (a, b) || r.carrier.unusable.contains (b, a) then none
  else
    let k (x y : Nat) : Option Nat := [4, 6, 8, 16][Config.lqiClass x y]?
    match r.lqiAt a b, r.lqiAt b a with
    | none, none => none
    | some x, none => k x x
    | none, some y => k y y
    | some x, some y => k x y
def lexLt : List Nat → List Nat → Bool
  | [], [] => false
  | [], _ :: _ => true
  | _ :: _, [] => false
  | a :: x, b :: y => a < b || (a = b && lexLt x y)
/-- The better of two routes: cost, hops, repeater addresses (R483). -/
def betterRoute (x y : Nat × List Nat) : Bool :=
  x.1 < y.1 || (x.1 = y.1 && (x.2.length < y.2.length || (x.2.length = y.2.length && lexLt x.2 y.2)))
def bestRoute (xs : List (Nat × List Nat)) : Option (Nat × List Nat) :=
  xs.foldl (fun b x => match b with
    | none => some x
    | some y => if betterRoute x y then some x else some y) none
/-- The best routes of exactly one hop more, each through a joined repeater (R481, R483). -/
def Replica.longerRoutes (r : Replica) (best : List (Nat × Nat × List Nat)) : List (Nat × Nat × List Nat) :=
  r.members.filterMap fun a =>
    (bestRoute (best.filterMap fun x =>
      if x.1 = a || x.2.2.contains a || !bitOf (r.node x.1).caps 0 || r.nodeState x.1 ≠ nsJoined then none
      else (r.hopCost x.1 a).map fun c => (x.2.1 + c, x.2.2 ++ [x.1]))).map fun y => (a, y)
/-- Every node's best route of at most MAXHOP hops: node, cost, repeaters. -/
def Replica.routes (r : Replica) : List (Nat × Nat × List Nat) :=
  let one := r.members.filterMap fun a => (r.hopCost 0 a).map fun c => (a, c, ([] : List Nat))
  let all := (List.range (r.rd .MCC_RETRY_MAXHOP - 1)).foldl (fun (x : List (Nat × Nat × List Nat) × List (Nat × Nat × List Nat)) _ =>
    let next := r.longerRoutes x.1
    (next, x.2 ++ next)) (one, one)
  r.members.filterMap fun a => (bestRoute ((all.2.filter fun x => x.1 = a).map (·.2))).map fun y => (a, y)
def Replica.routeTo (r : Replica) (a : Nat) : Option (List Nat) := (r.routes.find? fun x => x.1 = a).map (·.2.2)
/-- Every node takes the route of lowest cost; one without a usable route keeps its own. -/
def Replica.reroute (r : Replica) : Replica := r.routes.foldl (fun r x => r.setRoute x.1 x.2.2) r

/-- The phase of a node from ZC_OFS (R482). -/
def phaseOf (angle zcOfs : Nat) : Nat :=
  let psi := (angle / 65536 + 65536 - zcOfs % 65536) % 65536
  let within' (deg : Nat) : Bool :=
    let d := (psi * 360 + 65536 * 360 - deg * 65536) % (65536 * 360)
    d ≤ 20 * 65536 || 340 * 65536 ≤ d
  if within' 0 then 1 else if within' 120 then 2 else if within' 240 then 3 else if within' 180 then 5 else if within' 300 then 6
  else if within' 60 then 7 else 0

/-! ### Mains carrier: frames and transactions (R476 to R478, R484, R485) -/

def mtBeacon : Nat := 1
def mtData : Nat := 3
def mtJoinChal : Nat := 5
def mtJoinAck : Nat := 7

/-- The frame of a hop the device transmits (R477). -/
def Replica.mccFrame (r : Replica) (dst final type seq hop reps flags : Nat) (route : List Nat) (payload : List Byte) : List Byte :=
  let tag := type ≠ mtBeacon && r.isMember final
  let flags := flags + (if tag then 4 else 0)
  let text := leBytes 1 0 ++ leBytes 1 final ++ leBytes 1 seq ++ leBytes 1 0 ++ leBytes 2 payload.length ++ payload
  let key := match r.ctx 4 (final - 1) with | some c => ofLe c.key | none => 0
  let b := leBytes 1 1 ++ leBytes 1 type ++ leBytes 1 0 ++ leBytes 1 dst ++ leBytes 1 0 ++ leBytes 1 final ++
    leBytes 3 (route.getD 0 0 + route.getD 1 0 * 256 + route.getD 2 0 * 65536) ++ leBytes 1 (hop % 4 + 4 * reps) ++ leBytes 1 seq ++
    leBytes 1 flags ++ leBytes 1 0 ++ leBytes 1 0 ++ leBytes 2 payload.length ++ payload ++
    (if tag then padTo 8 (Config.mac key text) else [])
  b ++ leBytes 4 (crc32c b).toNat

/-- The stations of a transaction in the order of its hops: the device is 0, a node not yet assigned 0xFF. -/
def CarrierTrans.stations (x : CarrierTrans) : List Nat :=
  let down := 0 :: x.route ++ [x.node]
  if x.up then down.reverse else down
def CarrierTrans.hops (x : CarrierTrans) : Nat := x.route.length + 1
def CarrierTrans.sender (x : CarrierTrans) : Nat := x.stations.getD x.hop 0
def CarrierTrans.receiver (x : CarrierTrans) : Nat := x.stations.getD (x.hop + 1) 0
def Replica.setTrans (r : Replica) (x : CarrierTrans) : Replica :=
  r.withCarrier fun c => { c with trans := c.trans.map fun y => if y.no = x.no then x else y }
def Replica.dropTrans (r : Replica) (f : CarrierTrans → Bool) : Replica := r.withCarrier fun c => { c with trans := c.trans.filter fun x => !f x }
def Replica.newTrans (r : Replica) (x : CarrierTrans) : Replica :=
  r.withCarrier fun c => { c with trans := c.trans ++ [{ x with no := c.nextNo, seq := c.seqNo % 256 }], nextNo := c.nextNo + 1,
                                  seqNo := if x.up then c.seqNo else c.seqNo + 1 }

/-- The modulation for the next frame to a neighbour, and its tone map with wholly masked groups off (R484, R485). -/
def Replica.nextMod (r : Replica) (a : Nat) : Nat := if 2 ≤ (r.node a).good then (r.node a).recMod else (r.node a).mod
def Replica.nextTm (r : Replica) (a : Nat) : Nat :=
  let mask := r.rd .MCC_TMASK_LO_MASK + r.rd .MCC_TMASK_HI_MASK * 2 ^ 32
  (List.range 6).foldl (fun w m => if mask / 2 ^ (6 * m) % 64 = 63 then putBit w m false else w) (r.node a).recTm
/-- A transaction with a node has completed: the node is reachable (R486). -/
def Replica.nodeDone (r : Replica) (a : Nat) : Replica := if r.nodeState a = nsUnreachable then r.wr .MCC_NSTAT_STATE nsJoined a else r
/-- A hop has succeeded; the last one completes the transaction. -/
def Replica.hopDone (r : Replica) (x : CarrierTrans) : Replica :=
  if x.hops ≤ x.hop + 1 then (r.dropTrans fun y => y.no = x.no).nodeDone x.node
  else r.setTrans { x with hop := x.hop + 1, tries := 0 }
def Replica.lostNode (r : Replica) (a : Nat) : Replica :=
  if r.nodeState a = nsJoined then (r.wr .MCC_NSTAT_STATE nsUnreachable a).raise .MCC_EVENT_NODE_LOST else r

/-- A failed attempt (R484). -/
def Replica.hopFail (r : Replica) (x : CarrierTrans) : Replica :=
  let b := x.receiver
  let used := r.nextMod b
  let r := if x.sender = 0 then r.setNode b { r.node b with good := 0, mod := used - 1 } else r
  if x.tries + 1 < r.rd .MCC_RETRY_RTRY then r.setTrans { x with tries := x.tries + 1 }
  else
    let r := r.withCarrier fun c => { c with unusable := c.unusable ++ [(x.sender, b)] }
    if r.rd .MCC_RETRY_ALT ≤ x.alts then (r.dropTrans fun y => y.no = x.no).lostNode x.node
    else match r.routeTo x.node with
      | none => (r.dropTrans fun y => y.no = x.no).lostNode x.node
      | some route =>
        ((r.setRoute x.node route).raise .MCC_EVENT_ROUTE_CHANGE).setTrans { x with route, hop := 0, tries := 0, alts := x.alts + 1, fresh := true }
def execMccHopFail (k : Nat) (s : State) : Result :=
  s.onLog fun _ r => match r.carrier.trans[k]? with | some x => r.hopFail x | none => r

/-- The order in which windows are placed (R476). -/
def Replica.placeOrder (r : Replica) : List CarrierTrans :=
  let ts := r.carrier.trans
  (ts.filter (·.fresh)) ++ (ts.filter fun x => !x.fresh && !x.up) ++ (ts.filter fun x => !x.fresh && x.up && (r.node x.node).pend) ++
    (ts.filter fun x => !x.fresh && x.up && !(r.node x.node).pend)
/-- The slots of one window: RTRY for each hop (R476). -/
def CarrierTrans.window (x : CarrierTrans) (rtry : Nat) : List (Nat × Nat × Nat) :=
  (List.range x.hops).flatMap fun h => List.replicate rtry (x.stations.getD h 0, x.no, h)
/-- The slot map of a superframe: the beacon, windows while they fit, idle slots, DISCOVER of the repeater in turn, the JOIN slots. -/
def Replica.slotMap (r : Replica) (disc : Option Nat) : List (Nat × Nat × Nat) :=
  let none' : Nat := 2 ^ 32
  let join := r.rd .MCC_RETRY_JOIN
  let tail := (match disc with | some a => [(a, none', 0)] | none => []) ++ List.replicate join (0xFE, none', 0)
  let room := r.rd .MCC_CTRL_NSLOT - tail.length
  let ws := r.placeOrder.foldl (fun (m : List (Nat × Nat × Nat)) x =>
    let w := x.window (r.rd .MCC_RETRY_RTRY)
    if m.length + w.length ≤ room then m ++ w else m) [(0, none', 0)]
  ws ++ List.replicate (room - ws.length) (0xFD, none', 0) ++ tail
/-- The repeater whose turn it is (R481). -/
def Replica.nextRepeater (r : Replica) : Option Nat :=
  let reps := r.members.filter fun a => r.nodeState a = nsJoined && bitOf (r.node a).caps 0
  match reps.find? fun a => r.carrier.discover < a with
  | some a => some a
  | none => reps.head?

/-! ### Mains carrier: the tone mask (R489) -/

/-- Subcarriers within `bw` (0.1 kHz) of a multiple of one of the frequencies (µHz) that lies within 30 kHz to 100 kHz. -/
def maskOf (fs : List Nat) (bw : Nat) : Nat :=
  (List.range 36).foldl (fun w i =>
    let c := (23 + i) * 1562500000
    let hit (f : Nat) (k : Nat) : Bool := 1 ≤ k && 30000000000 ≤ k * f && k * f ≤ 100000000000 && max c (k * f) - min c (k * f) ≤ bw * 100000000
    if fs.any fun f => f ≠ 0 && (hit f (c / f) || hit f (c / f + 1)) then w + 2 ^ i else w) 0
def maskedCount (w : Nat) : Nat := ((List.range 36).filter fun i => bitOf w i).length
/-- Narrowed in steps of 0.5 kHz until 12 subcarriers remain: the mask, and whether it was narrowed. -/
def fitMask (fs : List Nat) : Nat → Nat → Nat × Bool
  | 0, bw => (maskOf fs bw, false)
  | k + 1, bw =>
    let w := maskOf fs bw
    if maskedCount w ≤ 24 || bw = 0 then (w, false) else ((fitMask fs k (bw - 5)).1, true)
def Replica.newMask (r : Replica) (mult freq : Nat) (half : Bool) : Replica :=
  let f := mult * freq
  let x := fitMask (if half then [f, f / 2] else [f]) 21 (r.rd .MCC_MASK_MASK_BW)
  let r := if x.2 then r.raise .MCC_EVENT_MASK_NARROW else r
  if x.1 % 2 ^ 32 = r.rd .MCC_TMASK_LO_MASK && x.1 / 2 ^ 32 = r.rd .MCC_TMASK_HI_MASK then r
  else (((r.wr .MCC_TMASK_LO_MASK x.1).wr .MCC_TMASK_HI_MASK (x.1 / 2 ^ 32)).wr .MCC_TMASK_HI_MASK_SEQ (r.rd .MCC_TMASK_HI_MASK_SEQ + 1)).raise
    .MCC_EVENT_MASK_CHANGE

/-! ### Mains carrier: slots (R474 to R476, R487, R491) -/

/-- The carrier front end fails (R487): nodes joined or late are unreachable. -/
def Replica.frontEndFails (r : Replica) (now : Nat) : Replica :=
  let r := ((r.raise .MCC_EVENT_FE_FAULT).wr .MCC_STATUS_FE_OK 0).withCarrier fun c => { c with feFault := true, recent := [] }
  let r := r.members.foldl (fun r a => r.wr .MCC_NSTAT_STATE nsUnreachable a) r
  r.journal now locCarrierFe 0xFF detected reNodesUnreachable 0
/-- The slot that has ended counts for the front end when the device transmitted in it (R487). -/
def Replica.watchFrontEnd (r : Replica) (now : Nat) (heard acked : Bool) : Replica :=
  match r.carrier.sentTo with
  | none => r
  | some a =>
    let recent := ((heard, acked, a) :: r.carrier.recent).take 3
    let r := r.withCarrier fun c => { c with recent, sentTo := none }
    let nodes := ((recent.map fun x => x.2.2).filter (· ≠ 0)).eraseDups
    let missed (x : Bool × Bool × Nat) : Bool := !x.1 || (!x.2.1 && 2 ≤ nodes.length)
    if recent.length < 3 then r
    else if recent.all fun x => x.1 then
      let r := if r.carrier.feFault then (r.wr .MCC_EVENT_FE_FAULT 0).withCarrier fun c => { c with feFault := false } else r
      let r := r.wr .MCC_STATUS_FE_OK 1
      if recent.all missed then r.frontEndFails now else r
    else if recent.all missed && !r.carrier.feFault then r.frontEndFails now else r

/-- Slot 0: the beacon, with a new mask, the polls of the superframe and the slot map. In NIGHT only nodes that have set PEND are polled; a
failed front end sends the beacon alone. -/
def Replica.beacon (r : Replica) (mult freq angle : Nat) (half night : Bool) : Replica :=
  let r := r.newMask mult freq half
  let want (a : Nat) : Bool := ((r.node a).pend || !night) && !(r.carrier.trans.any fun x => x.up && x.node = a)
  let r := if r.carrier.feFault then r
    else (r.members.filter want).foldl (fun r a => r.newTrans { no := 0, node := a, route := r.nodeRoute a, up := true }) r
  let disc := if r.carrier.feFault || night then none else r.nextRepeater
  let map := if r.carrier.feFault then (0, 2 ^ 32, 0) :: List.replicate (r.rd .MCC_CTRL_NSLOT - 1) (0xFD, 2 ^ 32, 0) else r.slotMap disc
  let r := r.withCarrier fun c => { c with superframe := (c.superframe + 1) % 2 ^ 32, map, beaconAngle := angle, discover := disc.getD c.discover
                                           trans := c.trans.map fun x => { x with fresh := false }, sentTo := some 0 }
  let mask := r.rd .MCC_TMASK_LO_MASK + r.rd .MCC_TMASK_HI_MASK * 2 ^ 32
  let body := leBytes 4 r.carrier.superframe ++ leBytes 4 angle ++ leBytes 1 (r.rd .MCC_CTRL_SLOT_HC) ++ leBytes 1 (r.rd .MCC_CTRL_NSLOT) ++
    leBytes 1 (r.rd .MCC_TMASK_HI_MASK_SEQ) ++ leBytes 1 0 ++ leBytes 5 mask ++ leBytes 3 0 ++ map.flatMap fun x => leBytes 1 x.1
  let seq := r.carrier.seqNo % 256
  let r := r.withCarrier fun c => { c with seqNo := c.seqNo + 1 }
  r.send (.mcc 0xFF mtBeacon ((r.mccFrame 0xFF 0xFF mtBeacon seq 0 0 0 [] body).map BitVec.toNat))

/-- A later slot: the device transmits where the map assigns the slot to it and the transaction still stands at that hop. -/
def Replica.carrierSlot (r : Replica) (n : Nat) : Replica :=
  match r.carrier.map[n]? with
  | some (0, no, h) =>
    match r.carrier.trans.find? fun x => x.no = no && x.hop = h with
    | none => r
    | some x =>
      let b := x.receiver
      let flags := 1 + (if 0 < x.tries then 2 else 0)
      let final := if x.up then 0 else x.node
      let r := ((r.wr .MCC_NSTAT_MOD (r.nextMod b) b).wr .MCC_NSTAT_TM (r.nextTm b) b).withCarrier fun c => { c with sentTo := some b }
      r.send (.mcc b x.type ((r.mccFrame b final x.type x.seq x.hop x.route.length flags x.route x.payload).map BitVec.toNat))
  | _ => r

/-- A slot begins (MCC_SLOT); `heard` and `acked` tell of the slot that has just ended. -/
def execMccSlotStart (heard acked : Bool) (s : State) : Result :=
  s.onLog fun t r =>
    if r.rd .MCC_CTRL_EN = 0 then r
    else
      let r := r.watchFrontEnd t.now heard acked
      let n := match r.carrier.slot with | some k => (k + 1) % max 1 (r.rd .MCC_CTRL_NSLOT) | none => 0
      let r := r.withCarrier fun c => { c with slot := some n }
      let angle := (t.com.sun.a.pos + r.rd .MCC_CTRL_GUARD * 20000 * t.com.sun.a.rate) / 2 ^ 32 % 2 ^ 32
      if n = 0 then r.beacon t.mult (t.com.rd .SDL_FREQ_FREQ) angle (t.com.rd .SDL_HALFMASK_HALF ≠ 0) (t.powerState = psNight) else r.carrierSlot n

/-! ### Mains carrier: received frames -/

/-- R290 over the 32 numbers below the highest, modulo 256 (R477). -/
def CarrierNode.fresh (x : CarrierNode) (seq : Nat) : Bool :=
  match x.high with
  | none => true
  | some h =>
    let age := (h + 256 - seq % 256) % 256
    128 ≤ age || (0 < age && age < 32 && !bitOf x.seen (age - 1))
def CarrierNode.note (x : CarrierNode) (seq : Nat) : CarrierNode :=
  let seq := seq % 256
  match x.high with
  | none => { x with high := some seq, seen := 0 }
  | some h =>
    let age := (h + 256 - seq) % 256
    if 128 ≤ age then
      let up := 256 - age
      { x with high := some seq, seen := (x.seen * 2 ^ up + 2 ^ (up - 1)) % 2 ^ 32 }
    else { x with seen := putBit x.seen (age - 1) true }

/-- The input-log payload of a frame: slot number, SRC and the header, then its payload (R472; log entry 74). -/
def mccPayload (slot : Nat) (f : MccFrame) : List Byte :=
  leBytes 2 slot ++ leBytes 1 f.src ++ leBytes 1 f.origin ++ leBytes 1 f.final ++ leBytes 1 f.seq ++ leBytes 1 f.flags ++ leBytes 1 f.frag ++ f.payload
/-- A received frame is sequenced, and acts at its log position. -/
def State.mcc (s : State) (f : MccFrame) (g : Site → Replica → Replica) : Result :=
  s.run fun t =>
    match t.leader with
    | none => t
    | some p =>
      let r := (t.pav p).rep
      if r.rd .MCC_CTRL_EN = 0 then t
      else { (t.input 2 mccSource (mccPayload (r.carrier.slot.getD 0) f)).onLog (g t) with free := t.free + 1 }
/-- A frame of a joined node whose TAG is good and whose SEQ is new: taken, with the PEND flag. -/
def Replica.nodeFrame (r : Replica) (f : MccFrame) (g : Replica → Replica) : Replica :=
  if !r.isMember f.origin || !f.tagOk || !(r.node f.origin).fresh f.seq then r
  else g (r.setNode f.origin { (r.node f.origin).note f.seq with pend := bitOf f.flags 4 })
/-- Polls of a node are completed by its frame to the device. -/
def Replica.pollDone (r : Replica) (f : MccFrame) : Replica :=
  if f.final = 0 && f.dst = 0 then (r.dropTrans fun x => x.up && x.node = f.origin).nodeDone f.origin else r

/-- ACK of a hop (R484, R485): ACKED_SEQ, MOD, TM, LQI. -/
def execMccAck (f : MccFrame) (s : State) : Result :=
  s.mcc f fun _ r =>
    let r := if f.dst = 0 && r.isMember f.src then
        let x := r.node f.src
        (r.setNode f.src { x with recMod := byteAt f.payload 1 % 4, recTm := byteAt f.payload 2 % 64, good := x.good + 1 }).wr
          .MCC_NSTAT_LQI (byteAt f.payload 3) f.src
      else r
    match r.carrier.trans.find? fun x => x.sender = f.dst && x.receiver = f.src && (x.up || x.seq = byteAt f.payload 0) with
    | some x => r.hopDone x
    | none => r
def execMccData (f : MccFrame) (s : State) : Result := s.mcc f fun _ r => r.nodeFrame f fun r => r.pollDone f

/-- The lowest free entry of the node table; a refused one counts as free. -/
def Replica.freeNode (r : Replica) : Option Nat := (List.range 65).find? fun a => 1 ≤ a && (r.nodeState a = nsFree || r.nodeState a = nsRefused)
def Replica.setEui (r : Replica) (a eui : Nat) : Replica := (r.wr .MCC_NEUI_LO_EUI eui a).wr .MCC_NEUI_HI_EUI (eui / 2 ^ 32) a
def Replica.euiOf (r : Replica) (a : Nat) : Nat := r.rd .MCC_NEUI_LO_EUI a + r.rd .MCC_NEUI_HI_EUI a * 2 ^ 32
/-- An address is freed. -/
def Replica.freeAddr (r : Replica) (a : Nat) : Replica :=
  let r := (((r.setEui a 0).wr .MCC_NSTAT_STATE nsFree a).wr .MCC_NSTAT_PHASE 0 a).wr .MCC_NSTAT_REFUSE 0 a
  let r := ((r.wr .MCC_NSTAT_MOD 0 a).wr .MCC_NSTAT_TM 0 a).wr .MCC_NSTAT_LQI 0 a
  let r := (r.setRoute a []).wr .MCC_NSTAT_HOPS 0 a
  (((r.setNode a {}).setCtx 4 (a - 1) none).dropTrans fun x => x.node = a).countNodes
def Replica.refuseNode (r : Replica) (a eui cause : Nat) : Replica :=
  (((r.setEui a eui).wr .MCC_NSTAT_STATE nsRefused a).wr .MCC_NSTAT_REFUSE cause a).raise .MCC_EVENT_JOIN_REFUSED

/-- JOIN_REQ (R480): EUI, CAPS, ZC_OFS, VERS. The challenge goes out in the next device slot; without a random source or a key there is none
(R509, R515). A full table has no entry to hold the cause. -/
def Replica.joinReq (r : Replica) (v : Env) (f : MccFrame) : Replica :=
  let eui := fieldAt f.payload 0 8
  let old := (List.range 65).find? fun a => 1 ≤ a && r.nodeState a = nsJoining && r.euiOf a = eui
  let r := match old with | some a => r.freeAddr a | none => r
  let r := r.withCarrier fun c => { c with joining := c.joining.filter fun x => x.eui ≠ eui }
  match r.freeNode with
  | none => r.raise .MCC_EVENT_JOIN_REFUSED
  | some a =>
    if !bitOf (byteAt f.payload 12) 0 then r.refuseNode a eui 1
    else match r.authSlot 4 with
      | none => r
      | some k =>
        if r.gate.noRandom then r
        else
          let chal := Config.freeBytes v.free 16
          let route := f.route.filter (· ≠ 0)
          let r := ((r.setEui a eui).wr .MCC_NSTAT_STATE nsJoining a).wr .MCC_NSTAT_REFUSE 0 a
          let j : CarrierJoin := { eui, caps := fieldAt f.payload 8 2, zcOfs := fieldAt f.payload 10 2, angle := r.carrier.beaconAngle, entry := a, chal, route }
          let r := r.withCarrier fun c => { c with joining := c.joining ++ [j] }
          r.newTrans { no := 0, node := 0xFF, route, type := mtJoinChal, payload := leBytes 8 eui ++ leBytes 1 k ++ chal }
def execMccJoinReq (f : MccFrame) (s : State) : Result := s.mcc f fun t r => r.joinReq t.env f

/-- JOIN_RESP with the Gatehouse's verdict (R480, R510). A node that had an address gives it up. -/
def Replica.joinResp (r : Replica) (f : MccFrame) (verified : Bool) : Replica :=
  let eui := fieldAt f.payload 0 8
  match r.carrier.joining.find? fun x => x.eui = eui with
  | none => r
  | some j =>
    let r := (r.withCarrier fun c => { c with joining := c.joining.filter fun x => x.eui ≠ eui }).dropTrans fun x =>
      x.type = mtJoinChal && fieldAt x.payload 0 8 = eui
    if !verified then r.refuseNode j.entry eui 2
    else
      let r := ((List.range 65).filter fun a => 1 ≤ a && r.nodeState a ≠ nsFree && r.euiOf a = eui).foldl (fun r a => r.freeAddr a) r
      match r.freeNode with
      | none => r.raise .MCC_EVENT_JOIN_REFUSED
      | some a =>
        let r := ((r.freeAddr a).setEui a eui).setNode a { caps := j.caps }
        let r := ((r.wr .MCC_NSTAT_STATE nsJoined a).wr .MCC_NSTAT_PHASE (phaseOf j.angle j.zcOfs) a).setRoute a j.route
        let r := r.setCtx 4 (a - 1) (some { cls := 4, slot := (r.authSlot 4).getD 0xFF, peer := eui })
        let rep := (bitOf j.caps 0).toNat
        (r.countNodes.raise .MCC_EVENT_NODE_JOIN).newTrans { no := 0, node := a, route := j.route, type := mtJoinAck,
                                                             payload := leBytes 8 eui ++ leBytes 1 a ++ leBytes 1 rep }
def execMccJoinResp (f : MccFrame) (verified : Bool) (s : State) : Result := s.mcc f fun _ r => r.joinResp f verified

/-- LQI_REPORT: ZC_OFS, COUNT, then address and LQI of each neighbour (R478, R482, R483). -/
def execMccLqiReport (f : MccFrame) (s : State) : Result :=
  s.mcc f fun _ r => r.nodeFrame f fun r =>
    let a := f.origin
    let lqi := (List.range (byteAt f.payload 2)).map fun k => (byteAt f.payload (3 + 2 * k), byteAt f.payload (4 + 2 * k))
    let r := (r.setNode a { r.node a with lqi }).wr .MCC_NSTAT_PHASE (phaseOf r.carrier.beaconAngle (fieldAt f.payload 0 2)) a
    (r.pollDone f).reroute
/-- WAKE of a node with CAPS bit 1 wakes the device in NIGHT (R491). -/
def execMccWake (f : MccFrame) (s : State) : Result :=
  match s.mcc f fun t r => r.nodeFrame f fun r =>
      if bitOf (r.node f.origin).caps 1 && t.powerState = psNight then r.raise .MCC_EVENT_WAKE_RX else r with
  | .next s' => s'.run fun t =>
    match s.site.leader with
    | none => t
    | some p =>
      let r := (s.site.pav p).rep
      let taken := r.rd .MCC_CTRL_EN = 1 && r.isMember f.origin && f.tagOk && (r.node f.origin).fresh f.seq && bitOf (r.node f.origin).caps 1
      if taken then t.wake 1 else t
  | x => x
/-- LEAVE frees the address. -/
def execMccLeave (f : MccFrame) (s : State) : Result := s.mcc f fun _ r => r.nodeFrame f fun r => r.freeAddr f.origin

/-- 16 superframes after a link was marked unusable (R484). -/
def execMccLinkUnusableExpiry (k : Nat) (s : State) : Result :=
  s.onLog fun _ r => r.withCarrier fun c => { c with unusable := c.unusable.eraseIdx k }
/-- REACH without a completed transaction (R486). -/
def execMccReachTimeout (a : Node) (s : State) : Result := s.onLog fun _ r => r.lostNode a
def execMccCrcFail (s : State) : Result := s.onLog fun _ r => if r.rd .MCC_CTRL_EN = 0 then r else r.raise .MCC_EVENT_CRC_FAIL

end Sys2Proof.Machine
end

