-- ==== Sys2Proof/Machine/Closure.lean ====
section
/-! DEFINITION. Input-set closure: the vectors, the frames taken or substituted, the windows, and what CTL, the phase library and the safety
engine do at a closure (R76 to R80, R206, R225, R283, R357, R364). -/
namespace Sys2Proof.Machine

/-- A pavilion that runs. -/
def Local.running (l : Local) : Bool := l.powered && !l.inReset

/-! ### The closure instant (R77) -/

/-- Bits 2g and 2g + 1: a valid lane-A and lane-B frame of group g is held. -/
def Local.closureVector (l : Local) : BitVec 64 :=
  BitVec.ofNat 64 ((List.range 32).foldl (fun w g =>
    w + (vget l.rxA g none).isSome.toNat * 2 ^ (2 * g) + (vget l.rxB g none).isSome.toNat * 2 ^ (2 * g + 1)) 0)
def Local.freeze (l : Local) (p : Pav) : Local :=
  ({ l with closed := true, vector := l.closureVector, frozenReports := l.frozenReports ++ l.reports, reports := [] } : Local).send
    (.closureVector p l.closureVector)
/-- The CLOSE slots fire: awaits on them end, and every pavilion in step freezes what it holds and sends its vector. -/
def execInputSetClosure (s : State) : Result :=
  s.run fun t =>
    let go (t : Site) (p : Pav) : Site :=
      if !(t.pav p).loc.running then t
      else
        let t := t.fireTarget p tgtClose
        if (t.pav p).inStep && !(t.pav p).loc.closed then t.modLoc p fun l => l.freeze p else t
    go (go t .A) .B

/-! ### The frame taken (R78, R79, R80) -/

/-- What a group's frame period brings: the lanes named by either vector, the frame taken, its lane, and whether the two lanes differ. -/
structure Taken where
  namedA : Bool
  namedB : Bool
  frame : Option (List Byte)
  /-- The frame of lane B where lane A's was taken. -/
  frameB : Option (List Byte)
  lane : Nat
  differ : Bool
  deriving DecidableEq, Repr

def orElse' {α : Type} : Option α → Option α → Option α
  | some x, _ => some x
  | none, y => y
/-- A frame named by a vector has arrived in both pavilions by then (R77). -/
def Site.frameA (t : Site) (g : Nat) : Option (List Byte) := orElse' (vget t.a.loc.rxA g none) (vget t.b.loc.rxA g none)
def Site.frameB (t : Site) (g : Nat) : Option (List Byte) := orElse' (vget t.a.loc.rxB g none) (vget t.b.loc.rxB g none)
def Site.taken (t : Site) (g : Nat) : Taken :=
  let v := (t.a.loc.vector ||| t.b.loc.vector).toNat
  let namedA := bitOf v (2 * g)
  let namedB := bitOf v (2 * g + 1)
  { namedA, namedB, frame := if namedA then t.frameA g else if namedB then t.frameB g else none
    frameB := if namedA && namedB then t.frameB g else none
    lane := if namedA then 0 else namedB.toNat, differ := namedA && namedB && decide (t.frameA g ≠ t.frameB g) }

/-- The status word of R80, from the one before it. -/
def statusOf (x : Taken) (old : Nat) : Nat :=
  match x.frame with
  | some b => 1 + 4 * x.lane + 8 * x.differ.toNat + fieldAt b 4 2 * 65536
  | none => 2 + min 255 (old / 256 % 256 + 1) * 256 + old / 65536 * 65536

/-- A frame period with EN = 0 sent and every IPH at or below ZC_LIM in a VALID frame (R179). -/
def Replica.zcStep (r : Replica) (g : Nat) (frame : Option (List Byte)) : Replica :=
  let l := r.link g
  let zero := match frame with
    | some b => (List.range 8).all fun k => decide ((signed 16 (fieldAt b (20 + 2 * k) 2)).natAbs ≤ r.rd .STG_ZC_ZC_LIM)
    | none => false
  r.setLink g { l with zcRun := if zero && l.enSent = 0 then l.zcRun + 1 else 0 }

/-- One group at a closure: its status word and frame in the set, its history entry, its link, its freshness. A group at N/2 shows its even
cycle in the odd one, and is not fresh there (R136, R188). -/
def Pavilion.groupClosure (v : Pavilion) (e : Env) (g : Nat) (x : Taken) : Pavilion :=
  if !e.period g then { v with rep := v.rep.wr .CTL_GFEED_FRESH 0 g }
  else
    let w := statusOf x (v.loc.inWin.rdN (4 * g) 4)
    let win := v.loc.inWin.wrN (4 * g) 4 w
    let win := match x.frame with
      | some b => win.wrBytes (0x100 + 128 * g) (padTo 128 (b.take (b.length - 4)))
      | none => win
    let r := v.rep.pushHist g (histEntry (x.frame.getD []) (v.rep.grp g).lastCmd w)
    let r := ((r.stgClosure e g x.namedA x.namedB x.frame x.frameB).freshStep g x.frame).zcStep g x.frame
    { loc := { v.loc with inWin := win }, rep := r }

/-! ### The words CTL writes (R225, R283, R364) -/

def Replica.freshWord (r : Replica) : Nat := (List.range 32).foldl (fun w g => w + r.rd .CTL_GFEED_FRESH g * 2 ^ g) 0
def Replica.modeByte (r : Replica) (o : Nat) : Nat :=
  r.mode o + 16 * r.rd .CTL_OMODE_SOFT o + 32 * r.rd .CTL_OMODE_RAMP o + 64 * r.rd .CTL_OMODE_STOPPED o
/-- The CTL words of Table CTL-6. -/
def Replica.ctlWords (r : Replica) (m : Mem) : Mem :=
  let m := m.wrN 0x80 4 r.freshWord
  let m := (List.range 4).foldl (fun m i =>
    (m.wrN (0x84 + 8 * i) 4 (vget r.injs i {}).value.toNat).wrN (0x88 + 8 * i) 4
      (r.rd .CTL_INJCTRL_ACTIVE i + 2 * r.rd .CTL_INJCTRL_OUTLET i + 64 * r.rd .CTL_INJCTRL_POINT i)) m
  let m := m.wrN 0xA4 4 r.swapWord
  (List.range 24).foldl (fun m o => m.wrN (0xA8 + o) 1 (r.modeByte o)) m
/-- The allocation words of Table CTL-16. -/
def Replica.allocWords (r : Replica) (m : Mem) : Mem :=
  let a := r.alloc
  let m := (List.range 24).foldl (fun m o =>
    let b := 0x1100 + 16 * o
    (((m.wrN b 4 (vget a.iCap o 0)).wrN (b + 4) 4 (vget a.iEcap o 0)).wrN (b + 8) 4 (vget a.vCap o 0)).wrN (b + 12) 4 (vget a.grants o 0)) m
  (((m.wrN 0x1280 4 (a.pImp % 2 ^ 32).toNat).wrN 0x1284 4 r.astat).wrN 0x1288 4 a.poolLeft).wrN 0x128C 4 a.part.serial
/-- The safety words of Table SAF-1, from what SIO shows. -/
def Common.siset (c : Common) : Nat := c.rd .SIO_IN_IN + 65536 * c.rd .SIO_IN_FAULT
def Common.srset (c : Common) : Nat :=
  c.rd .SIO_RESET_LEVEL + 2 * c.sio.pressed.toNat + 4 * c.rd .SIO_RESET_JAM + 16 * c.rd .SIO_TPSTAT_FAULT

/-- The library's status area in shared SRAM (R250). -/
def Pavilion.statusArea (v : Pavilion) : Pavilion :=
  if v.rep.layout.statusBase = 0 then v
  else { v with loc := { v.loc with sram := (List.range 32).foldl (fun m g => m.wrBytes (v.rep.layout.statusBase + 96 * g) (v.rep.statusRecord g)) v.loc.sram } }

/-! ### The closure of one pavilion -/

/-- What a closure draws on besides the pavilion: the frames, the lane reports, the grid port, the safety inputs and the safety channels
that have tripped. -/
structure ClosureIn where
  env : Env
  taken : Nat → Taken
  reportsA : List LaneReport
  reportsB : List LaneReport
  plaus : Bool
  pImp : Int
  siset : Nat
  srset : Nat
  trips : List Nat

/-- CTL's evaluation, the library's frame period, injection and capture (R188 stage 1, R206, R214, R219, R233, R268, R272). -/
def Pavilion.ctlClosure (v : Pavilion) (x : ClosureIn) : Pavilion :=
  let e := x.env
  let r := v.rep.eachOut fun o r => r.outletStep o
  let r := r.eachGrp fun g r => if e.period g then r.phaseStep g else r
  let r := r.eachGrp fun g r => r.sendOfs e g
  let r := r.allocClosure e x.plaus x.pImp
  let r := (List.range 4).foldl (fun r i => r.injStep i) r
  let v := { v with rep := r }
  let v := (List.range 32).foldl (fun v g => if v.rep.lstate g = lsActive then v.putEn g else v) v
  (List.range 4).foldl (fun v i => v.capStep e i) v

/-- The safety engine's evaluation, unless it has halted (R147, R357, R414). -/
def Pavilion.safetyEval (v : Pavilion) (x : ClosureIn) : Pavilion :=
  if (v.loc.eng safetyEngine).run = .halted then v
  else { v with rep := (v.rep.channelTrips x.env x.trips).safetyClosure x.env x.siset x.srset }

/-- The whole closure. In two-site-cycle mode the set is shown from the next boundary on (R136). -/
def Pavilion.closure (v : Pavilion) (x : ClosureIn) : Pavilion :=
  let shown := v.loc.inWin
  let r := x.reportsB.foldl (fun r y => r.takeReport .B y) (x.reportsA.foldl (fun r y => r.takeReport .A y) v.rep)
  let v := { v with rep := r, loc := { v.loc with inWin := v.loc.inNext.getD shown } }
  let v := (List.range 32).foldl (fun v g => v.groupClosure x.env g (x.taken g)) v
  let v := (v.ctlClosure x).safetyEval x
  let set := ((v.rep.allocWords (v.rep.ctlWords v.loc.inWin)).wrN 0x1300 4 x.siset).wrN 0x1304 4 x.srset
  let two := v.rep.layout.twoCycle
  let loc := { v.loc with inWin := if two then shown else set, inNext := if two then some set else none, setDone := true, frozenReports := [] }
  ({ loc, rep := { v.rep with swapWord := 0, swapEngines := [] } } : Pavilion).statusArea

/-! ### The closure of the site -/

/-- P_IMP of R274, what the grid sense port measures: a free value (log entry 82). -/
def Site.pImport (t : Site) : Int := signed 32 (Config.freeNat t.free)

def Site.closureIn (t : Site) : ClosureIn :=
  { env := t.env, taken := t.taken, reportsA := t.a.loc.frozenReports, reportsB := t.b.loc.frozenReports
    plaus := t.com.rd .GSP_STATUS_PLAUS = 1, pImp := t.pImport, siset := t.com.siset, srset := t.com.srset, trips := t.com.lsw.safetyTrips }

/-- The safety engine's setting of SIO from the set in force (R360, R384). -/
def Replica.tpEnable (r : Replica) : Nat :=
  (List.range 16).foldl (fun w i => if r.safH (64 + 8 * i) 1 = 0 then w else putBit w (r.safH (65 + 8 * i) 1 % 4) true) 0
def Replica.tpSelect (r : Replica) : Nat := (List.range 16).foldl (fun w i => w + r.safH (65 + 8 * i) 1 % 4 * 4 ^ i) 0
def Site.safetyPins (t : Site) : Site :=
  match t.leader with
  | none => t
  | some p =>
    let r := (t.pav p).rep
    if r.rd .SAF_STATUS_CONF = 0 || r.rd .SAF_STATUS_HALTSAFE = 1 || !t.privOpen then t
    else t.modCom fun c => ((c.wr .SIO_TPEN_EN r.tpEnable).wr .SIO_TPSEL_TP r.tpSelect).wr .SIO_DEB_SI_DEB (r.safH 5 1)

/-- The safety engine's results, which SAF compares between the pavilions (R91). -/
def Pavilion.safetyResult (v : Pavilion) : List Nat × Bool :=
  let r := v.rep
  ([r.rd .SAF_STOP_STOP, r.rd .SAF_STOP_ALL, r.rd .SAF_GRANT_CC_GRANT, r.rd .SAF_GRANT_PC_GRANT, r.rd .SAF_GRANT_CH_GRANT, r.rd .SAF_BLOCK_BLOCK,
    r.safety.gates], (v.loc.eng safetyEngine).run = .halted)

/-- Mismatches that start the divergence procedure: of the safety results, or of a shadowed CAN frame since the last closure (R91, R457). -/
def Site.closureCompare (t : Site) (katA katB : Bool) : Site :=
  let bad := t.a.loc.shadowBad || t.b.loc.shadowBad || (t.redundant && decide (t.a.safetyResult ≠ t.b.safetyResult))
  let t := (t.modLoc .A fun l => { l with shadowBad := false }).modLoc .B fun l => { l with shadowBad := false }
  if bad then t.startDivergence katA katB else t

/-- Both vectors are in: every pavilion in step whose set is frozen writes its input set (R78). A pavilion whose peer does not run has its own
vector alone. `katA` and `katB` are the known-answer results of self-checks this step may start. -/
def execClosureVectorRx (katA katB : Bool) (s : State) : Result :=
  s.run fun t =>
    let due (v : Pavilion) : Bool := v.inStep && v.loc.closed && !v.loc.setDone
    if !due t.a && !due t.b then t
    else
      let x := t.closureIn
      let t := t.onStep fun v => if v.loc.closed && !v.loc.setDone then v.closure x else v
      let t := t.modCom fun c => { c with lsw := { c.lsw with safetyTrips := [] }, sio := { c.sio with pressed := false } }
      let t := { (t.safetyPins.openBanks.closureCompare katA katB) with free := t.free + 1 }
      t

end Sys2Proof.Machine
end

