-- ==== Sys2Proof/Machine/Frame.lean ====
section
/-! DEFINITION. Ziljan class 0x9, frames: reads of the input-set window and writes of the output window (R134 to R136). -/
namespace Sys2Proof.Machine

/-- A frame halfword converted by FMT (R134): S16, U16, RAWS, RAWU. -/
def frameIn (fmt : BitVec 2) (h : BitVec 16) : Word :=
  if fmt = 0 then (h.signExtend 32) <<< 16
  else if fmt = 1 then (h.zeroExtend 32) <<< 15
  else if fmt = 2 then h.signExtend 32 else h.zeroExtend 32

/-- A register value converted by FMT to a frame halfword, and whether Q is set (R135): S16, U16, RAW16. -/
def frameOut (fmt : BitVec 2) (v : Word) : BitVec 16 × Bool :=
  if fmt = 0 then
    let x := (v.toInt + 2 ^ 15) / 2 ^ 16
    (BitVec.ofInt 16 (satTo (-32768) 32767 x), satHit (-32768) 32767 x)
  else if fmt = 1 then
    if v.toInt < 0 then (0, true)
    else
      let x := (v.toInt + 2 ^ 14) / 2 ^ 15
      (BitVec.ofInt 16 (min 65535 x), decide (65535 < x))
  else (v.setWidth 16, false)

/-- The status word of a group as the input-set window shows it (R80). -/
def Local.statusWord (l : Local) (g : Nat) : Word := BitVec.ofNat 32 (l.inWin.rdN (4 * g) 4)
/-- A frame halfword of a group in the input-set window (R134). -/
def Local.frameHalf (l : Local) (g hw : Nat) : BitVec 16 := BitVec.ofNat 16 (l.inWin.rdN (0x100 + 128 * g + 2 * hw) 2)

/-- A class 0x9 frame instruction: loop profile only, a group number outside 0 to 31 raises ACCESS (R134). -/
def State.frameX (s : State) (p : Pav) (e : Eng) (word : Word) (ok : Bool) (s1 : Gpr) (f : Site → Nat → Site) : Result :=
  s.siteX p e fun t =>
    let g := (t.eng p e).g s1
    if !loopProfile e || !ok then .exc exILLEGAL word
    else if 32 ≤ g.toNat then .exc exACCESS g
    else .ok ((f t g.toNat).modEng p e Engine.next)

def execFrld (p : Pav) (e : Eng) (d s1 : Gpr) (fmt : BitVec 2) (hw : BitVec 6) (s : State) : Result :=
  s.frameX p e (encFrame 0 d s1 fmt.toNat hw.toNat) true s1 fun t g =>
    let l := (t.pav p).loc
    t.modEng p e fun en => (en.setG d (frameIn fmt (l.frameHalf g hw.toNat))).setFlag flagM ((l.statusWord g).getLsbD 1)
def execFrstat (p : Pav) (e : Eng) (d s1 : Gpr) (s : State) : Result :=
  s.frameX p e (encFrame 4 d s1 0 0) true s1 fun t g =>
    let l := (t.pav p).loc
    t.modEng p e fun en => (en.setG d (l.statusWord g)).setFlag flagM ((l.statusWord g).getLsbD 1)
/-- frst: the halfword enters the group's command-frame area at output-window offset 128 × g + 2 × HW (R135). -/
def execFrst (p : Pav) (e : Eng) (d s1 : Gpr) (fmt : BitVec 2) (hw : BitVec 6) (s : State) : Result :=
  s.frameX p e (encFrame 1 d s1 fmt.toNat hw.toNat) (fmt ≠ 3) s1 fun t g =>
    let v := frameOut fmt ((t.eng p e).g d)
    (t.modLoc p fun l => { l with outWin := l.outWin.wrN (128 * g + 2 * hw.toNat) 2 v.1.toNat }).modEng p e
      fun en => en.stick flagQ v.2

end Sys2Proof.Machine
end

