-- ==== Sys2Proof/Machine/Release.lean ====
section
/-! DEFINITION. Command release: the frames with CTL's overrides, the digest, and what falls due at a RELEASE instant (R30, R89, R95, R135, R142,
R161, R166, R170, R179, R201, R204, R211, R213, R229, R358). -/
namespace Sys2Proof.Machine

/-! ### Overrides (R170) -/

/-- Every phase of a group is off: it is not ACTIVE, its outlet is OFF, in FAULT or STOPPED, IDLE holds, or it is single-lane while Pavilion A is
out in a staged activation (R204, R229, R538, R553). -/
def Replica.forcedOff (r : Replica) (idle aOut : Bool) (g : Nat) : Bool :=
  let o := r.rd .CTL_GFEED_OUTLET g
  r.lstate g ≠ lsActive || idle ||
    (o < 24 && (r.mode o = modeOff || r.mode o = modeFault || r.rd .CTL_OMODE_STOPPED o = 1)) ||
    (aOut && r.rd .STG_LCFG_LANES g = 1 && 3 ≤ r.rd .UPD_STATUS_PHASE)
/-- STOP is ordered for a group (R166, R358). -/
def Replica.stopOrdered (r : Replica) (g : Nat) : Bool :=
  r.rd .SAF_STOP_ALL = 1 || bitOf (r.rd .SAF_STOP_STOP) (r.rd .CTL_GFEED_OUTLET g)

/-- floor(base × (4 − k) / 4) (R211). -/
def rampDuty (base k : Nat) : Nat := base * (4 - k) / 4
/-- A loop-opening ramp runs on the group's outlet. -/
def Replica.ramping (r : Replica) (g : Nat) : Bool :=
  let o := r.rd .CTL_GFEED_OUTLET g
  decide (o < 24) && r.rd .CTL_OMODE_RAMP o = 1
/-- Site cycles of a frame period. -/
def Env.cycles (e : Env) (g : Nat) : Nat := if e.half g then 2 else 1
/-- The ramps that act on a group at this release, each as its step and its base duties (R147, R211); the lower duty holds (R213). -/
def Replica.ramps (r : Replica) (e : Env) (g : Nat) : List (Nat × List Nat) :=
  let x := r.grp g
  (if r.ramping g then [(x.rampK + 1, x.base)] else []) ++ (match x.haltRampK with | some k => [(k + e.cycles g, x.haltBase)] | none => [])
def rampedDuty (ramps : List (Nat × List Nat)) (k d : Nat) : Nat := ramps.foldl (fun d x => min d (rampDuty (x.2.getD k 0) x.1)) d
/-- The ramped duty replaces the program's. -/
def dutyOf (ramps : List (Nat × List Nat)) (k d : Nat) : Nat := match ramps with | [] => d | _ => rampedDuty ramps k 65535

/-- The ROUTE byte a release carries, and whether a change is held (R170, R179). -/
def Replica.routeOf (r : Replica) (g want : Nat) : Nat × Bool :=
  let l := r.link g
  if r.lstate g ≠ lsActive || want = l.routeSent then (l.routeSent, false)
  else if r.rd .STG_ZC_ZC_CYC ≤ l.zcRun then (want, false)
  else (l.routeSent, true)

/-! ### A command frame (R161, R166) -/

/-- What a release sends of a group. -/
structure Cmd where
  duties : List Nat
  en : Nat
  route : Nat
  held : Bool
  bytes : List Byte
  deriving DecidableEq, Repr

/-- The frame of a group: halfwords 0 to 8 and CHECK from CTL, the rest from the program's area with the overrides, cut to the agreed length. In
IDLE, EN and DUTY are 0 and ROUTE is as last sent (R553). -/
def Pavilion.cmdFrame (v : Pavilion) (e : Env) (idle aOut : Bool) (g : Nat) : Cmd :=
  let r := v.rep
  let b := v.loc.outWin.rdBytes (128 * g) 64
  let len := r.rd .STG_LSTATE_CLEN g
  let o := r.rd .CTL_GFEED_OUTLET g
  let ramps := r.ramps e g
  let duties := (List.range 8).map fun k => if idle then 0 else dutyOf ramps k (fieldAt b (18 + 2 * k) 2)
  let en := if r.forcedOff idle aOut g || ramps.any (fun x => 4 ≤ x.1) then 0 else byteAt b 34
  let route := if idle then ((r.link g).routeSent, false) else r.routeOf g (byteAt b 35)
  let icl := fieldAt b 36 2
  let icl := if o < 24 && r.rd .CTL_OMODE_SOFT o = 1 then min icl (r.rd .CTL_SS_ICLIM) else icl
  let head := leBytes 1 0x01 ++ leBytes 1 len ++ leBytes 2 (r.stopOrdered g).toNat ++ leBytes 4 ((e.seq + e.cycles g) % 2 ^ 32) ++ r.slotBytes g
  let body := (duties.map (leBytes 2)).flatten ++ leBytes 1 en ++ leBytes 1 route.1 ++ leBytes 2 icl ++ (b.drop 38).take (len - 42)
  let f := head ++ body
  { duties, en, route := route.1, held := route.2, bytes := f ++ leBytes 4 (crc32c f).toNat }

/-- What CTL keeps of a frame sent: the ramps' steps, the history, ROUTE_HELD once for each change held, the next fragment. -/
def Replica.afterSend (r : Replica) (e : Env) (g : Nat) (c : Cmd) : Replica :=
  let x := r.grp g
  let x := { x with rampK := if r.ramping g then x.rampK + 1 else x.rampK, haltRampK := x.haltRampK.map fun k => k + e.cycles g,
                    lastCmd := c.bytes.take (c.bytes.length - 4), sent := ((c.duties, c.en, (e.seq + e.cycles g) % 2 ^ 32) :: x.sent).take 66 }
  let l := r.link g
  let r := if c.held && !l.routeHeld then r.raise .STG_EVENT_ROUTE_HELD else r
  let r := (r.setGrp g x).setLink g { l with enSent := c.en, routeSent := c.route, routeHeld := c.held, zcRun := if c.route ≠ l.routeSent then 0 else l.zcRun }
  let r := r.setPh g { r.ph g with enZero := if c.en = 0 then (r.ph g).enZero + 1 else 0 }
  r.nextFragment g

/-- A release in one pavilion: every group whose frame period it serves. The frames go out on the pavilion's own lanes where it drives them; the
list returned is what the digest runs over. -/
def Pavilion.sendGroup (p : Pav) (e : Env) (idle aOut drives : Bool) (x : Pavilion × List Byte) (g : Nat) : Pavilion × List Byte :=
  let v := x.1
  if !e.period g || v.rep.lstate g = lsDisabled then x
  else
    let c := v.cmdFrame e idle aOut g
    let loc := if drives then v.loc.send (.stageFrame p g c.bytes) else v.loc
    ({ loc, rep := v.rep.afterSend e g c }, x.2 ++ c.bytes)

/-! ### The digest (R30) -/

/-- Load-switch and safety outputs and legal-log commits of the cycle, after the frames. -/
def Pavilion.privBytes (v : Pavilion) : List Byte :=
  leBytes 4 ((List.range 32).foldl (fun w i => w + v.loc.rd .LSW_CCTRL_ON i * 2 ^ i) 0) ++ leBytes 4 v.rep.safety.gates ++
    (v.rep.legal.writes.map fun w => leBytes 4 w.addr ++ w.data).flatten
def Pavilion.release (v : Pavilion) (p : Pav) (e : Env) (idle aOut drives : Bool) : Pavilion :=
  let x := (List.range 32).foldl (Pavilion.sendGroup p e idle aOut drives) (v, [])
  let d := crc32c (x.2 ++ x.1.privBytes)
  { x.1 with loc := { (x.1.loc.wr .FBR_DIG_OWN_DIGEST d.toNat).send (.digest p d) with ownDigest := true } }

/-! ### The release of the site -/

/-- Loop engines to which the schedule assigns command frames (R142). -/
def Replica.assigned (r : Replica) (e : Eng) : Bool := (List.range 32).any fun g => vget r.layout.groupEngine g none = some e
/-- An engine without an end mark since the last release takes CYCLE_OVERRUN, with the sequence number in EADDR; in IDLE it is not checked
(R142, R553). -/
def Site.overrunCheck (t : Site) (p : Pav) (idle : Bool) : Site :=
  let t' := if idle then t else (List.finRange 12).foldl (fun t e =>
    if loopProfile e && (t.pav p).rep.assigned e && (t.eng p e).run = .running && !(t.eng p e).endMark then
      t.exception p e exCYCLE_OVERRUN (BitVec.ofNat 32 t.seq)
    else t) t
  t'.modLoc p fun l => { l with engines := l.engines.map fun en => { en with endMark := false } }

/-- Whether a pavilion sends its frames: it drives its lanes, the stage pads are not latched, and of two pavilions that present claims after T of a
staged activation only the new leader sends (R75, R537, R558). -/
def Site.sends (t : Site) (p : Pav) : Bool :=
  t.drives p && t.com.rd .AON_STATE_LATCHED = 0 &&
    !(t.role .A = roleLeader && t.role .B = roleLeader && t.leader ≠ some p && (t.pav p).rep.rd .UPD_STATUS_PHASE = 6)

/-- Something switches or routes, so the tick under way does not lead to IDLE (R553). -/
def Site.noteBusy (t : Site) : Site :=
  let busy := match t.leader with
    | some p =>
      let r := (t.pav p).rep
      r.anyEn || (List.range 32).any (fun g => r.routing g) || (List.range 24).any fun o => r.energised o
    | none => false
  if busy then t.modCom fun c => { c with power := { c.power with quiet := false } } else t

def Site.releaseOne (t : Site) (p : Pav) (idle : Bool) : Site :=
  let v := t.pav p
  if !v.loc.running then t
  else
    let t := t.fireTarget p tgtRelease
    if !v.inStep then t
    else
      let t := t.overrunCheck p idle
      let aOut := t.role .A ≠ roleLeader && t.role .A ≠ roleFollower
      let sends := t.sends p
      let env := t.env
      t.modPav p fun v => (v.release p env idle aOut sends).flush p t.redundant
/-- The RELEASE slots fire. Decided outcomes take effect first; a leader alone takes up its privileged outputs in the cycle that produces them
(R89, R95, R105). -/
def execCommandRelease (s : State) : Result :=
  s.run fun t =>
    let t := t.applyOutcome
    let idle := t.powerState = psIdle
    let t := (t.releaseOne .A idle).releaseOne .B idle
    let t := t.modCom fun c => { c with sun := { c.sun with released := c.sun.released || t.sends .A || t.sends .B } }
    let t := t.noteBusy
    match t.leader with
    | some p => if t.alone p && t.privOpen then t.takeSwitches else t
    | none => t

end Sys2Proof.Machine
end

