-- ==== Sys2Proof/Machine/Tick.lean ====
section
/-! DEFINITION. The site-cycle boundary and the allocation tick (R31, R32, R52, R59, R83, R136, R157, R239, R262 to R267, R276 to R282, R292, R302,
R308, R312, R391, R553). -/
namespace Sys2Proof.Machine

/-! ### The site-cycle boundary -/

/-- The cycle marks of one pavilion, on every lane of its own whose link is enabled (R157). FRAC depends on where the lane's characters fall: a
free value from 0 to 9. -/
def Site.cycleMarks (t : Site) (p : Pav) : Site :=
  if !t.sends p then t
  else
    let marks := ((List.range 32).filter fun g => (t.pav p).rep.lstate g ≠ lsDisabled).map fun g =>
      Tx.cycleMark p g t.seq (Config.freeNat (t.free + g) % 10)
    t.modLoc p fun l => { l with tx := l.tx ++ marks }

/-- A pavilion that follows and lacks an entry at its EFFECTIVE boundary is set aside (R83). -/
def Site.logGap (t : Site) : Site :=
  match t.leader with
  | none => t
  | some p =>
    let q := t.pav p.other
    let lacks := (t.pav p).loc.log.any fun e => e.effective ≤ t.now && q.loc.nextSeq ≤ e.seq
    if q.inStep && q.role ≠ roleLeader && lacks then (t.modLoc p.other fun l => l.raise .FBR_EVENT_LOG_GAP).setAside p.other caLogGap else t
/-- Entries leave the ring at their boundary, and the leader sequences what waited for room (R82). -/
def Site.logBoundary (t : Site) : Site :=
  let take (l : Local) : Local := { l with log := l.log.filter fun e => t.now < e.effective }
  let t := (t.logGap.modLoc .A take).modLoc .B take
  match t.leader with
  | some p => t.drain p
  | none => t

/-- WORK of the cycle that ends: 0 for a gated engine, otherwise a free value, for the model counts no engine cycles (R114, R553). -/
def Engine.newWork (en : Engine) (gated : Bool) (free : Nat) : Engine :=
  let w : BitVec 16 := if gated || en.run ≠ .running then 0 else BitVec.ofNat 16 (Config.freeNat free)
  { en with work := w, workMax := if en.workMax.toNat < w.toNat then w else en.workMax }
/-- A new cycle: the frames, the vector and the digest of the last one are done, and in two-site-cycle mode the input set switches (R76, R136). -/
def Local.newCycle (l : Local) (free : Nat) : Local :=
  if !l.running then l
  else
    { l with
      rxA := Vector.replicate 32 none, rxB := Vector.replicate 32 none, closed := false, vector := 0, setDone := false, ownDigest := false
      inWin := l.inNext.getD l.inWin, inNext := none
      engines := l.engines.mapFinIdx fun e en _ => en.newWork (bitOf (l.rd .SYS_ENGSTAT_GATED) e) (free + 32 + e) }

/-- A boundary passes: rate changes apply, marks go out, log entries fall due, and the power state may change (R52, R59, R83, R136, R157, R554,
R563). -/
def execSiteCycleBoundary (s : State) : Result :=
  s.run fun t =>
    let t := t.modCom Common.sunBoundary
    let t := ((t.cycleMarks .A).cycleMarks .B).logBoundary
    let t := (t.modLoc .A fun l => l.newCycle t.free).modLoc .B fun l => l.newCycle t.free
    { t.toRun.wakeDone with free := t.free + 64 }

/-! ### The allocation tick -/

/-- In degraded mode I_MAX of the Parterre in force is capped at DEG_PCT % of I_RATE (R391). -/
def Replica.degradedCap (r : Replica) : Replica :=
  if r.rd .SAF_STATUS_DEGRADED = 0 then r
  else r.withAlloc fun a => { a with part := { a.part with outlets := a.part.outlets.mapFinIdx fun o e _ =>
    { e with iMax := min e.iMax (r.safH 15 1 * r.cab o 30 2 / 100) } } }

/-- i2 of R279 in A², as a quotient: the mean square over the tick's registered samples; without any, the square of the largest I_CAP in force during the tick. -/
def Replica.meanSquare (r : Replica) (o : Nat) : Nat × Nat :=
  let m := r.meter o
  if r.head o = headStreaming && 0 < m.i2n then (m.i2, m.i2n * 10 ^ 18) else ((vget r.alloc.iCapMax o 0) ^ 2, 409600 ^ 2)
/-- The cable model of an outlet advances, and the gathering for the next tick begins. -/
def Replica.cableTick (r : Replica) (v : Env) (o : Nat) : Replica :=
  let r := r.cableStep v o (r.meanSquare o)
  let r := r.setMeter o { r.meter o with i2 := 0, i2n := 0 }
  r.withAlloc fun a => { a with iCapMax := vput a.iCapMax o (vget a.iCap o 0) }

/-- CTL and the framework at a tick: take-up, headroom, cut and site limit (R262 to R267, R276 to R282). -/
def Replica.allocTick (r : Replica) (v : Env) : Replica :=
  let r := r.watchEndpoints.takeUp.takeHead.cutTick.degradedCap
  let r := r.withAlloc fun a => { a.ageStep with lastTick := v.now }
  let r := r.eachOut fun o r => r.cableTick v o
  r.wr .CTL_PSITE_LIMIT r.siteLimit
/-- The runtime at a tick: outlets, coolant, dispenser lanes, records and programs taken up (R292, R302, R308, R312, R353, R391). -/
def Replica.runtimeTick (r : Replica) (v : Env) : Replica :=
  let r := (r.eachOut fun o r => (r.outletTick v o).coolTick o).degradedTick v
  let r := (List.range 12).foldl (fun r d => r.laneTick v d) r
  r.eachOut fun o r => r.adoptMeter v o
/-- The library at a tick: the rotation intervals run on, and offsets that were refused are sent again (R236, R239). -/
def Replica.phaseTick (r : Replica) (v : Env) : Replica :=
  r.eachGrp fun g r => (r.setPh g { r.ph g with ticks := (r.ph g).ticks + 1, ofsWait := false }).sendOfs v g
/-- The framework writes the headroom table (R281). -/
def Pavilion.writeHead (v : Pavilion) (e : Env) : Pavilion :=
  { v with loc := { v.loc with sram := v.loc.sram.wrBytes (v.rep.rd .CTL_PBASE_BASE + 2048) (v.rep.headBytes e (tickOf e.now)) } }
def Pavilion.tick (v : Pavilion) (e : Env) : Pavilion :=
  ({ v with rep := ((v.rep.allocTick e).runtimeTick e).phaseTick e } : Pavilion).writeHead e

/-- The SNAPSHOT entry (R31, R264), in a layout of the model's own (log entry 83): every input with its age. -/
def Replica.snapshot (r : Replica) : List Byte :=
  let a := r.alloc
  let limits := a.limits.flatMap fun l => leBytes 1 (match l.outlet with | some o => o.val | none => 0xFF) ++ leBytes 4 l.value ++ leBytes 2 l.amps ++
    leBytes 4 l.pExp ++ leBytes 2 l.iExp ++ leBytes 2 l.seconds
  let cabs := a.cabinets.toList.flatMap fun c => leBytes 4 (r.cabLimit c) ++ leBytes 4 c.power ++ leBytes 4 c.age
  let cools := a.coolant.toList.flatMap fun c => leBytes 2 (c.supply % 65536).toNat ++ leBytes 2 (c.ret % 65536).toNat ++ leBytes 2 c.flow ++ leBytes 4 c.age
  let outs := (List.range 24).flatMap fun o => leBytes 1 (r.ostate o) ++ leBytes 1 (vget a.prio o 0) ++ leBytes 4 (r.rd .CTL_OVEH_IMAX o) ++
    leBytes 4 (r.rd .CTL_OVEH_PMAX o) ++ leBytes 2 (r.rd .CTL_OHEAD_HEAD o)
  leBytes 4 (a.pImp % 2 ^ 32).toNat ++ leBytes 4 a.f ++ cabs ++ cools ++ outs ++ leBytes 1 a.limits.length ++ limits
/-- The leader enters the snapshot; where the ring is full it waits with the other inputs. -/
def Site.enterSnapshot (t : Site) : Site :=
  match t.leader with
  | none => t
  | some p => t.input 5 0 ((t.pav p).rep.snapshot.take 4332)

/-- The engine a memory belongs to, as INSTANCE of a journal entry: 0xFF for one that no engine owns. -/
def memInstance (m : Nat) : Nat := if m < 32 then m % 16 else 0xFF
/-- Single-bit corrections of a pavilion are entered in the journal, once per memory and tick, with their count (R23, R256). -/
def Site.journalCorrections (t : Site) (p : Pav) : Site :=
  let c := (t.pav p).loc.corrected
  let t := c.foldl (fun t x => t.onLog fun r => r.journal t.now locMemSingle (memInstance x.1) masked reCorrected 0 (leBytes 4 x.2)) t
  t.modLoc p fun l => { l with corrected := [] }

/-- FBR_HEALTHY shows the healthy time of the follower in 100 ms (R103). -/
def Site.showHealthy (t : Site) : Site :=
  let one (t : Site) (p : Pav) : Site := t.modLoc p fun l =>
    l.wr .FBR_HEALTHY_TIME (if l.rd .FBR_STATUS_ROLE = roleFollower then (t.ticks - l.healthyAt) / 20000000 else 0)
  one (one t .A) .B

/-- At 0° and 180° the Parterre is taken up, the snapshot is logged, and what is tied to ticks happens (R31). -/
def execAllocationTick (s : State) : Result :=
  s.run fun t =>
    let t := ((t.onStep fun v => v.tick t.env).journalCorrections .A).journalCorrections .B
    { (((t.enterSnapshot.toIdle).idleTimer).actTick.returnTick).showHealthy with free := t.free + 1 }

end Sys2Proof.Machine
end

