-- ==== Sys2Proof/Machine/Register.lean ====
section
/-! DEFINITION. Registers and memories as an engine addresses them: who may access what, the value a word reads as, and what a write does when it
leaves the write buffer (R9, R10, R21, R24 to R26, R34, R35, R37, R38, R124, R184, R226, R227, R251, R395, R396, R422, R569). -/
namespace Sys2Proof.Machine

/-! ### The address map (R24, R25, R26) -/

/-- What stands at an address of the map. -/
inductive Region where
  | tcm
  | inWin | outWin | sram | mram | legal
  | block (b : Blk)
  | none
  deriving DecidableEq, Repr

/-- The windows of the pavilion's blocks in the order of their bases from 0x4000_0000, and of the common block's from 0xF000_0000. -/
def pavilionBlocks : List Blk := [.SYS, .SDL, .STG, .CTL, .DLK, .HST, .CAN, .MCC, .MET, .KEY, .UPD, .SAF, .GSP]
def commonBlocks : List Blk := [.FBR, .LSW, .SIO, .AON]
def blockAt (l : List Blk) (k : Nat) : Region := match l[k]? with | some b => .block b | .none => .none
def regionOf (a : Nat) : Region :=
  if a < 0x60000 then .tcm
  else if a < 0x68000 then .inWin
  else if 0x70000 ≤ a && a < 0x78000 then .outWin
  else if 0x10000000 ≤ a && a < 0x10400000 then .sram
  else if 0x20000000 ≤ a && a < 0x22000000 then .mram
  else if 0x30000000 ≤ a && a < 0x30200000 then .legal
  else if 0x40000000 ≤ a && a < 0x40D00000 then blockAt pavilionBlocks ((a - 0x40000000) / 0x100000)
  else if 0xF0000000 ≤ a && a < 0xF0400000 then blockAt commonBlocks ((a - 0xF0000000) / 0x100000)
  else .none

def isComm (e : Eng) : Bool := e.val = 8 || e.val = 9
/-- Engines that read a block's window. -/
def mayReadBlk (e : Eng) (b : Blk) : Bool :=
  match b with
  | .SYS | .SDL | .FBR => true
  | .STG => e = lodge || isLoopEngine e
  | .CTL => e = lodge || isLoopEngine e || e = safetyEngine
  | .DLK | .HST | .CAN | .MCC => e = lodge || isComm e
  | .MET => e = metrologyEngine || e = lodge
  | .KEY => e = gatehouse
  | .UPD | .AON => e = lodge
  | .SAF | .SIO => e = safetyEngine || e = lodge
  | .GSP => e = lodge || e = allocationCore || e = metrologyEngine
  | .LSW => e = lodge || e = safetyEngine
/-- Engines that write it; the Lodge writes MET_MTPn alone in MET (R26, R356). -/
def mayWriteBlk (e : Eng) (b : Blk) (off : Nat) : Bool :=
  match b with
  | .SYS | .FBR => e = lodge
  | .MET => e = metrologyEngine || (e = lodge && 0x80 ≤ off && off < 0x90)
  | .SAF | .SIO => e = safetyEngine
  | _ => mayReadBlk e b
/-- R26 and R25 permit the access: the region for the engine's kind, and 32 bits for a register. The image slots are written only through the
Update block (R24). -/
def mayAccess (e : Eng) (write : Bool) (a size : Nat) : Bool :=
  match regionOf a with
  | .tcm => true
  | .inWin => !write && (loopProfile e || e = allocationCore)
  | .outWin => loopProfile e
  | .sram => e ≠ gatehouse
  | .mram => !write || (e = lodge && 0x21800000 ≤ a)
  | .legal => e = metrologyEngine || (e = lodge && !write)
  | .block b => size = 4 && (if write then mayWriteBlk e b (a % 0x100000) else mayReadBlk e b)
  | .none => false

/-! ### Reading a register (R9, R34, R37) -/

/-- The value of a field where pavilion `p` reads it: a register of the common block, its own copy of one, or its own block's. An RWL field that has
been written and not committed reads as written. -/
def Site.fieldAt (t : Site) (p : Pav) (f : Field) (i : Nat) : Nat :=
  let v := t.pav p
  let stored : Nat := match f.info.home with
    | .rep => v.rep.rd f i
    | .com => t.com.rd f i
    | .loc | .copy => v.loc.rd f i
  match f.info.acc with
  | .WO => 0
  | .RWL =>
    let w := if f.info.home = .rep then v.rep.rwl else v.loc.rwl
    match w.reverse.find? fun x => x.1 = f && x.2.1 = i with
    | some x => x.2.2 % 2 ^ f.info.width
    | none => stored
  | _ => stored

/-- Registers that show what a sensor or an analogue circuit measures at the instant of the read: free values. -/
def measured : List Field :=
  [.GSP_DATA_DATA, .SIO_RAW_RAWA, .SIO_RAW_RAWB, .LSW_BSENSE_IBANK, .LSW_CSTAT_I, .LSW_CTEMP_TJ, .LSW_CTEMP_DUTY, .CAN_CTDC_TDCV]

/-- Fields that show a running value (R51, R73, R86, R457, R568). -/
def Site.liveField (t : Site) (p : Pav) (f : Field) (i : Nat) : Nat :=
  match f with
  | .SDL_TIME_LO_ANGLE => t.angle
  | .SDL_TIME_HI_CYCLE => t.cycle
  | .SDL_SITEIDX_S => t.siteIndex
  | .FBR_STATUS_PEER_LIVE => if t.ticks < (t.pav p.other).loc.liveAt + 60000 && !(t.pav p.other).loc.inReset then 1 else 0
  | .CAN_CSTAT_SHADOW => if t.role p = roleFollower then 1 else 0
  | .AON_UNIT_LO_UNIT => Config.unitId % 2 ^ 32
  | .AON_UNIT_HI_UNIT => Config.unitId / 2 ^ 32 % 2 ^ 32
  | .SIO_GATE_GATE => (t.pav p).rep.safety.gates
  | f => if measured.contains f then Config.freeNat (t.free + f.ctorIdx) % 2 ^ f.info.width else t.fieldAt p f i

/-- A register word. Bits no field covers read 0 (R10). -/
def Site.regWord (t : Site) (p : Pav) (b : Blk) (off : Nat) : Nat :=
  b.fields.foldl (fun w f => match f.info.instAt off with
    | some i => w ||| (t.liveField p f i <<< f.info.lo)
    | none => w) 0

/-- Buffers that stand inside a block's window: the message buffers of STG, the staging buffers and history rings of CTL. -/
def inStgBuffers (off : Nat) : Bool := 0x1000 ≤ off && off < 0x3000
def inStaging (off : Nat) : Bool := 0x1000 ≤ off && off < 0x2800 && off % 0x100 < 176
def inRings (off : Nat) : Bool := 0x4000 ≤ off && off < 0x14000
def Replica.ringWord (r : Replica) (off : Nat) : Nat :=
  fieldAt (vget r.hist ((off - 0x4000) / 0x800) []).flatten ((off - 0x4000) % 0x800) 4
/-- A word of a block's window. -/
def Site.blockWord (t : Site) (p : Pav) (b : Blk) (off : Nat) : Nat :=
  let r := (t.pav p).rep
  match b with
  | .STG => if inStgBuffers off then r.blkMem.rdN (2 * 2 ^ 20 + off) 4 else t.regWord p b off
  | .CTL => if inStaging off then r.blkMem.rdN (3 * 2 ^ 20 + off) 4 else if inRings off then r.ringWord off else t.regWord p b off
  | b => t.regWord p b off

/-- Low words of values wider than 32 bits; the upper word stands 4 bytes above (R37). -/
def lowWords : List Field :=
  [.SDL_TIME_LO_ANGLE, .SDL_STIME_LO_TIME_LO, .FBR_SEQ_LO_SEQ, .STG_LUNIT_LO_UNIT, .DLK_LUNIT_LO_UNIT, .MET_OIMP_LO_IMP, .MET_OEXP_LO_EXP,
   .CAN_MBDL_LO_ANGLE, .MCC_TMASK_LO_MASK, .MCC_NEUI_LO_EUI, .AON_UNIT_LO_UNIT]
def isLowWord (b : Blk) (off : Nat) : Bool := lowWords.any fun f => f.info.blk = b && (f.info.instAt off).isSome

/-- A register read: a low word latches its upper word for this engine, and the next read of the upper word returns what was latched (R37). -/
def Site.readBlock (t : Site) (p : Pav) (e : Eng) (b : Blk) (a : Nat) : Word × Site :=
  let off := a % 0x100000
  let w := BitVec.ofNat 32 (t.blockWord p b off)
  let t' := { t with free := t.free + 1024 }
  if isLowWord b off then
    (w, t'.modEng p e fun en => { en with shadow := some (BitVec.ofNat 32 (t.blockWord p b (off + 4)), BitVec.ofNat 32 (a + 4)) })
  else match (t.eng p e).shadow with
    | some (hi, at') => if at'.toNat = a then (hi, t'.modEng p e fun en => { en with shadow := none }) else (w, t')
    | none => (w, t')

/-! ### Writing a register (R9, R21, R34, R35, R38) -/

/-- A field set where pavilion `p` writes it. Of a register held in a copy per pavilion the common block acts on the leader's (R20, R21); flags of
the common block are cleared by the leader's write. -/
def Site.putField (t : Site) (p : Pav) (f : Field) (i v : Nat) : Site :=
  match f.info.home with
  | .rep => t.modRep p fun r => r.wr f v i
  | .loc => t.modLoc p fun l => l.wr f v i
  | .com => if t.leader = some p then t.modCom fun c => c.wr f v i else t
  | .copy =>
    let t := t.modLoc p fun l => l.wr f v i
    if t.leader = some p && t.privOpen then t.modCom fun c => c.wr f v i else t

/-- RW and W1C fields whose write does more than set them; their blocks' rules follow below. -/
def ruled : List Field :=
  [.SDL_SCTRL_ARM, .SDL_SCTRL_MODE, .SDL_SCTRL_TARGET, .SDL_SCTRL_ENGINE, .SDL_SCTRL_QUEUE, .SDL_SCTRL_OFFSET, .STG_LSTATE_STATE, .CTL_OMODE_MODE,
   .CTL_HFRZ_FRZ, .MET_MTP_OUTLET, .MET_MTP_REG, .MET_MTP_EN, .MET_MTP_K, .LSW_CCTRL_ON, .SIO_GATE_GATE]

/-- An RWL field is written until a set is committed, and read-only from then on (R9, R38). -/
def Site.stageField (t : Site) (p : Pav) (f : Field) (i v : Nat) : Site :=
  if (t.pav p).rep.committed then t
  else if f.info.home = .rep then t.modRep p fun r => { r with rwl := r.rwl ++ [(f, i, v)] }
  else t.modLoc p fun l => { l with rwl := l.rwl ++ [(f, i, v)] }

/-- Every field of a word by its access code: RO and WO are not stored, 1 clears a bit of W1C (R9). -/
def Site.putWord (t : Site) (p : Pav) (b : Blk) (off w : Nat) : Site :=
  b.fields.foldl (fun t f => match f.info.instAt off with
    | none => t
    | some i =>
      let v := w / 2 ^ f.info.lo % 2 ^ f.info.width
      match f.info.acc with
      | .RO | .WO => t
      | .RW => if ruled.contains f then t else t.putField p f i v
      | .W1C => if ruled.contains f then t else t.putField p f i (t.fieldAt p f i &&& (2 ^ f.info.width - 1 - v))
      | .RWL => t.stageField p f i v) t

/-- The instance of a field at an offset, and the value a word gives it. -/
def hits (f : Field) (off : Nat) : Option Nat := f.info.instAt off
def valueIn (f : Field) (w : Nat) : Nat := w / 2 ^ f.info.lo % 2 ^ f.info.width
/-- A step for the instance of a field that a word covers, where the word gives the field a value other than 0. -/
def Site.onSet (t : Site) (f : Field) (off w : Nat) (g : Site → Nat → Site) : Site :=
  match hits f off with
  | some i => if valueIn f w = 0 then t else g t i
  | none => t
/-- A step for the instance of a field that a word covers. -/
def Site.onHit (t : Site) (f : Field) (off : Nat) (g : Site → Nat → Site) : Site :=
  match hits f off with
  | some i => g t i
  | none => t

/-- A commit asked for by one Lodge waits for the other's request; a leader alone commits at once. Whether the set's CRC matches is a free value
(R38). -/
def Site.commitAsked (t : Site) (p : Pav) : Site :=
  let t := t.modLoc p fun l => l.wr .SYS_COMMIT_BUSY 1
  if (t.pav p.other).inStep && (t.pav p.other).loc.rd .SYS_COMMIT_BUSY = 0 then t else t.commit (Config.freeNat t.free % 2 = 1)

/-- A slot's CTRL word (R68, R71). -/
def Site.armWrite (t : Site) (p : Pav) (n : Slot) (ctrl : Word) : Site :=
  let t := t.modLoc p fun l => l.armSlot n ctrl
  let l := (t.pav p).loc
  if l.rd .SDL_SCTRL_ARM n.val = 1 && l.rd .SDL_SCTRL_MODE n.val = 0 && (vget l.slots n.val {}).time ≤ t.now then
    t.modLoc p fun l => l.raise .SDL_EVENT_EV_LATE
  else t

/-- A load switch's ON bit: the own copy, and the controller's where the leader writes it (R89, R416). -/
def Site.onWrite (t : Site) (p : Pav) (i on : Nat) : Site :=
  let t := t.modLoc p fun l => l.wr .LSW_CCTRL_ON on i
  if t.leader = some p && t.privOpen then t.modCom fun k => k.writeOn t.ticks i (on = 1) else t

/-- What a write does beyond setting fields, block by block; each rule is that of the register's own row. -/
def Site.blockRules (t : Site) (p : Pav) (b : Blk) (off w : Nat) : Site :=
  let rep (t : Site) (f : Env → Replica → Replica) : Site := t.modRep p fun r => f t.env r
  match b with
  | .SYS =>
    let t := t.onSet .SYS_ENGCTL_START off w fun t _ => t.modLoc p fun l => l.startEngines w
    let t := t.onSet .SYS_COMMIT_GO off w fun t _ => t.commitAsked p
    t.onSet .SYS_RSTCTL_PRESET off w fun t _ => t.pavReset p pcCommand
  | .SDL => t.onHit .SDL_SCTRL_ARM off fun t i => t.armWrite p (Fin.ofNat 64 i) (BitVec.ofNat 32 w)
  | .STG =>
    let t := t.onHit .STG_LSTATE_STATE off fun t g => rep t fun v r => r.setLink' v g (w % 8)
    let t := t.onSet .STG_LCFG_RESTART off w fun t g => rep t fun v r => r.stgRestart v g
    t.onSet .STG_LMSG_GO off w fun t g => rep t fun _ r => r.msgGo g (w % 256) (w / 256 % 256)
  | .CTL =>
    let t := t.onHit .CTL_OMODE_MODE off fun t o => rep t fun _ r => r.writeMode o (w % 16)
    let t := t.onHit .CTL_XDIS_DIS off fun t _ => rep t fun v r => r.xdisWrite v w
    let t := t.onSet .CTL_INJCTRL_GO off w fun t i => rep t fun _ r => r.injGo i
    let t := t.onSet .CTL_INJCTRL_STOP off w fun t i => rep t fun _ r => r.injStop i
    let t := t.onSet .CTL_CAPCTRL_ARM off w fun t i => rep t fun _ r => r.capArmWrite i
    let t := t.onSet .CTL_CAPCTRL_FIRE off w fun t i => rep t fun _ r => r.capFire i
    let t := t.onSet .CTL_CAPCTRL_STOP off w fun t i => rep t fun _ r => r.wr .CTL_CAPCTRL_STATE 0 i
    let t := t.onSet .CTL_OSWCTL_GO off w fun t o => rep t fun _ r => r.swapGo o
    t.onSet .CTL_HFRZ_FRZ off w fun t _ => t.modPav p fun v => v.releaseRings p t.redundant w
  | .DLK => t.onSet .DLK_LCFG_RESTART off w fun t d => rep t fun _ r => r.dlkRestart d
  | .CAN =>
    let t := t.onSet .CAN_MBCTRL_GO off w fun t i => rep t fun v r => r.mailboxGo v.now (i / 32) (i % 32)
    t.onSet .CAN_MBCTRL_ABORT off w fun t i => rep t fun _ r => r.mailboxAbort (i / 32) (i % 32)
  | .MET => t.onHit .MET_MTP_EN off fun t n => rep t fun v r => r.mtpWrite v n w
  | .SAF => t.onHit .SAF_EVSET_SET off fun t _ => rep t fun _ r => r.evset w
  | .FBR =>
    let t := t.onSet .FBR_CMD_YIELD off w fun t _ => if t.leader = some p then t.yield else t
    t.onSet .FBR_CMD_REJOIN off w fun t _ => t.rejoin p
  | .LSW =>
    let t := t.onHit .LSW_CCTRL_ON off fun t i => t.onWrite p i (w % 2)
    let t := t.onSet .LSW_LATCHCTL_RELEASE off w fun t _ => if t.leader = some p then t.latchRelease else t
    t.onSet .LSW_BCMD_RESTORE off w fun t b => if t.leader = some p then t.restoreBank (Fin.ofNat 4 b) (Config.freeNat t.free % 2 = 1) else t
  | .SIO => t.onHit .SIO_GATE_GATE off fun t _ => rep t fun _ r => r.withSafety fun x => { x with gates := w }
  | .AON => t.onSet .AON_PADCTL_RELEASE off w fun t _ => if t.leader = some p then t.padRelease else t
  | _ => t

/-- A write to a word of a block's window takes effect. Reply buffers and history rings are read-only (R184, R251). -/
def Site.writeBlock (t : Site) (p : Pav) (b : Blk) (off w : Nat) : Site :=
  let t := t.modRep p fun r => { r with now := t.now }
  let buffer (k : Nat) : Site := t.modRep p fun r => { r with blkMem := r.blkMem.wrN (k * 2 ^ 20 + off) 4 w }
  match b with
  | .STG => if inStgBuffers off then (if off < 0x2000 then buffer 2 else t) else (t.putWord p b off w).blockRules p b off w
  | .CTL => if inStaging off then buffer 3 else if inRings off then t else (t.putWord p b off w).blockRules p b off w
  | b => (t.putWord p b off w).blockRules p b off w

/-! ### The write buffer (R124) -/

/-- A store leaves the write buffer. One into the legal MRAM window joins the writes that wait for the common block (R25, R89). -/
def Site.storeOut (t : Site) (p : Pav) (e : Eng) (s : Store) : Site :=
  let a := s.addr.toNat
  match regionOf a with
  | .tcm => t.modEng p e fun en => en.putTcm s
  | .outWin => t.modLoc p fun l => { l with outWin := l.outWin.wrN (a - 0x70000) s.size s.data.toNat }
  | .sram => t.modLoc p fun l => { l with sram := l.sram.wrN a s.size s.data.toNat }
  | .mram => t.modLoc p fun l => { l with mram := l.mram.wrN a s.size s.data.toNat }
  | .legal => t.modRep p fun r => r.legalWrite a (leBytes s.size s.data.toNat)
  | .block b => { (t.writeBlock p b (a % 0x100000) s.data.toNat).modPav p fun v => v.flush p t.redundant with free := t.free + 1 }
  | .inWin | .none => t
/-- The oldest store of an engine leaves its buffer. -/
def Site.drainOne (t : Site) (p : Pav) (e : Eng) : Site :=
  match (t.eng p e).wbuf with
  | [] => t
  | s :: rest => (t.modEng p e fun en => { en with wbuf := rest }).storeOut p e s
/-- Every store of an engine leaves its buffer, in program order. -/
def Site.drainBuffer (t : Site) (p : Pav) (e : Eng) : Site := ((t.eng p e).wbuf).foldl (fun t _ => t.drainOne p e) t

/-! ### The two rows -/

/-- An access by engine `e` of pavilion `p` that R25 or R26 forbids ends in ACCESS; a pavilion that does not run accesses nothing. -/
def Site.guarded (t : Site) (p : Pav) (e : Eng) (write : Bool) (a : Word) (f : Site → Site) : Site :=
  if !(t.pav p).loc.running then t
  else if a.toNat % 4 ≠ 0 then t.exception p e exALIGN a
  else if mayAccess e write a.toNat 4 then f t
  else t.refuseAccess p e exACCESS a

/-- A write to a register takes effect when it leaves the write buffer, behind the stores before it (R9, R35, R124). -/
def execRegisterWrite (p : Pav) (e : Eng) (addr value : Word) (s : State) : Result :=
  s.run fun t => t.guarded p e true addr fun t => (t.drainBuffer p e).storeOut p e ⟨addr, 4, value⟩
/-- Reading the low word of a wide value latches the upper word into the engine's shadow (R37). -/
def execWideLowRead (p : Pav) (e : Eng) (addr : Word) (s : State) : Result :=
  s.run fun t => t.guarded p e false addr fun t =>
    match regionOf addr.toNat with
    | .block b => (t.readBlock p e b addr.toNat).2
    | _ => t

end Sys2Proof.Machine
end

