-- ==== Sys2Proof/Machine/System.lean ====
section
/-! DEFINITION. Ziljan class 0x6 and the messages of class 0x9: special registers, traps, returns, fences, waits and queues
(R111, R112, R124, R127, R137 to R139, R145 to R148), and the ends of their waits. -/
namespace Sys2Proof.Machine

def execNop (p : Pav) (e : Eng) (s : State) : Result := s.engine p e Engine.next

/-- The access of a special register number in an engine's profile (R111): `none` is an unlisted number. -/
def sprAccess : Nat → Option Access
  | 0x000 | 0x001 | 0x004 | 0x005 | 0x006 | 0x00C => some .RW
  | 0x002 | 0x003 | 0x007 | 0x008 | 0x009 | 0x00A | 0x00B => some .RO
  | 0x010 | 0x011 => some .W1C
  | _ => none

/-- FLAGS as read: IE, EXC and PIE exist in the base profile only (R112). -/
def flagsSeen (e : Eng) (w : BitVec 11) : BitVec 11 := if loopProfile e then w &&& 0xFF#11 else w

/-- A special register's value (Table ISA-1); the base-profile-only registers read 0 in the loop profile. -/
def Site.sprRead (s : Site) (p : Pav) (e : Eng) (n : Nat) : Word :=
  let en := s.eng p e
  let base := !loopProfile e
  match n with
  | 0x000 => (flagsSeen e en.flags).zeroExtend 32
  | 0x001 => en.epc
  | 0x002 => en.ecause.zeroExtend 32
  | 0x003 => en.eaddr
  | 0x004 => if base then en.evec &&& ~~~3#32 else 0
  | 0x005 => en.escr
  | 0x006 => if base then en.imask.zeroExtend 32 else 0
  | 0x007 => if base then (s.ipend p e).zeroExtend 32 else 0
  | 0x008 => en.msrc.zeroExtend 32
  | 0x009 => BitVec.ofNat 32 e.val
  | 0x00A => if base then 0 else 1
  | 0x00B => en.work.zeroExtend 32
  | 0x00C => en.workMax.zeroExtend 32
  | 0x010 => if base then en.slotPl else 0
  | 0x011 => if base then en.slotPh else 0
  | _ => 0

/-- A write of FLAGS: EXC and PIE are RO, and IE cannot be set in the loop profile (R112). -/
def flagsWritten (e : Eng) (old new : BitVec 11) : BitVec 11 :=
  if loopProfile e then new &&& 0xFF#11 else (old &&& 0x600#11) ||| (new &&& 0x1FF#11)

/-- A special register's write: RO registers ignore it, W1C bits are cleared (R111). -/
def Engine.sprWrite (en : Engine) (e : Eng) (n : Nat) (v : Word) : Engine :=
  let base := !loopProfile e
  match n with
  | 0x000 => { en with flags := flagsWritten e en.flags (v.setWidth 11) }
  | 0x001 => { en with epc := v }
  | 0x004 => if base then { en with evec := v &&& ~~~3#32 } else en
  | 0x005 => { en with escr := v }
  | 0x006 => if base then { en with imask := v.setWidth 17 } else en
  | 0x00C => { en with workMax := v.setWidth 16 }
  | 0x010 => if base then { en with slotPl := en.slotPl &&& ~~~v } else en
  | 0x011 => if base then { en with slotPh := en.slotPh &&& ~~~v } else en
  | _ => en

def execSprd (p : Pav) (e : Eng) (d : Gpr) (opd : BitVec 12) (s : State) : Result :=
  s.siteX p e fun t => match sprAccess opd.toNat with
    | none => .exc exILLEGAL (encSys 1 d 0 opd.toNat)
    | some _ => .ok (t.modEng p e fun en => (en.setG d (t.sprRead p e opd.toNat)).next)

def execSpwr (p : Pav) (e : Eng) (s1 : Gpr) (opd : BitVec 12) (s : State) : Result :=
  s.engineX p e fun en => match sprAccess opd.toNat with
    | none => .exc exILLEGAL (encSys 2 0 s1 opd.toNat)
    | some _ => .ok (en.sprWrite e opd.toNat (en.g s1)).next

/-- sprs and sprc: read, modify and write an RW register; on an RO or W1C register, or an unlisted number, ILLEGAL (R111). -/
def State.sprModify (s : State) (p : Pav) (e : Eng) (func : Nat) (s1 : Gpr) (opd : BitVec 12) (f : Word → Word → Word) : Result :=
  s.siteX p e fun t => match sprAccess opd.toNat with
    | some .RW => .ok (t.modEng p e fun en => (en.sprWrite e opd.toNat (f (t.sprRead p e opd.toNat) (en.g s1))).next)
    | _ => .exc exILLEGAL (encSys func 0 s1 opd.toNat)

def execSprs (p : Pav) (e : Eng) (s1 : Gpr) (opd : BitVec 12) (s : State) : Result := s.sprModify p e 3 s1 opd fun r v => r ||| v
def execSprc (p : Pav) (e : Eng) (s1 : Gpr) (opd : BitVec 12) (s : State) : Result := s.sprModify p e 4 s1 opd fun r v => r &&& ~~~v

/-- eret: PC := EPC; IE := PIE; EXC := 0. An EPC outside ITCM raises FETCH at the eret (R126, R127). -/
def execEret (p : Pav) (e : Eng) (s : State) : Result :=
  s.engineX p e fun en =>
    if loopProfile e then .exc exILLEGAL (encSys 5 0 0 0)
    else if inItcm en.epc then .ok en.exceptionReturn else .exc exFETCH en.epc

def execTrap (p : Pav) (e : Eng) (opd : BitVec 12) (s : State) : Result :=
  s.engineX p e fun _ => .exc exTRAP (opd.zeroExtend 32)

/-- fence waits until the write buffer is empty (R124). -/
def execFence (p : Pav) (e : Eng) (s : State) : Result :=
  s.engine p e fun en => if en.wbuf = [] then en.next else { en with wait := .fence }

def execFenceComplete (p : Pav) (e : Eng) (s : State) : Result :=
  s.run fun t => if (t.eng p e).wait = .fence && (t.eng p e).wbuf = [] then t.modEng p e Engine.wake else t

/-- wfi waits until (IPEND and IMASK) ≠ 0; base profile only (R127). -/
def execWfi (p : Pav) (e : Eng) (s : State) : Result :=
  s.siteX p e fun t =>
    if loopProfile e then .exc exILLEGAL (encSys 8 0 0 0)
    else .ok (t.modEng p e fun en => if t.ipend p e &&& en.imask ≠ 0 then en.next else { en with wait := .wfi })

def execWfiWake (p : Pav) (e : Eng) (s : State) : Result :=
  s.run fun t => if (t.eng p e).wait = .wfi && t.ipend p e &&& (t.eng p e).imask ≠ 0 then t.modEng p e Engine.wake else t

/-- The word of an msnd: class 0x9 in the loop profile, class 0x6 in the base profile (R127). -/
def encMsnd (e : Eng) (d s1 : Gpr) (target : BitVec 4) (q : Fin 8) : Word :=
  if loopProfile e then encode 9 d s1 (2 * 2 ^ 15 + target.toNat * 2 ^ 11 + q.val * 2 ^ 8)
  else encSys 0x10 d s1 (target.toNat * 2 ^ 8 + q.val * 2 ^ 5)
/-- The word of an mrcv. -/
def encMrcv (e : Eng) (d : Gpr) (q : Fin 8) (nb : Bool) : Word :=
  if loopProfile e then encode 9 d 0 (3 * 2 ^ 15 + q.val * 2 ^ 8 + nb.toNat * 2 ^ 7)
  else encSys 0x11 d 0 (q.val * 2 ^ 5 + nb.toNat * 2 ^ 4)

/-- The engine an ENGINE code names; codes 12 to 15 name none (R137). -/
def engineOf (c : BitVec 4) : Option Eng := if h : c.toNat < 12 then some ⟨c.toNat, h⟩ else none

/-- msnd: the message {g[D], g[S1]} to the tail of the queue, or a stall while it holds 16 entries (R27, R137, R138). -/
def execMsnd (p : Pav) (e : Eng) (d s1 : Gpr) (target : BitVec 4) (queue : Fin 8) (s : State) : Result :=
  s.siteX p e fun t => match engineOf target with
    | none => .exc exILLEGAL (encMsnd e d s1 target queue)
    | some dst =>
      let m : Dword := (t.eng p e).g d ++ (t.eng p e).g s1
      if t.queueFull p dst queue then .ok (t.modEng p e fun en => { en with wait := .msnd target queue m })
      else .ok ((t.enqueue p dst queue ⟨m, BitVec.ofNat 8 e.val⟩).modEng p e Engine.next)

def execMsndWake (p : Pav) (e : Eng) (s : State) : Result :=
  s.run fun t => match (t.eng p e).wait with
    | .msnd target queue m => match engineOf target with
      | some dst => if t.queueFull p dst queue then t
                    else (t.enqueue p dst queue ⟨m, BitVec.ofNat 8 e.val⟩).modEng p e Engine.wake
      | none => t
    | _ => t

/-- The head of an engine's own queue taken into a pair, MSRC from its source code, QE cleared by the non-blocking form
(R112, R137). -/
def Engine.receive (en : Engine) (d : Gpr) (q : Fin 8) (nb : Bool) : Engine :=
  match en.queues.get q with
  | [] => en
  | m :: r =>
    let en := { en with queues := en.queues.set q.val r q.isLt, msrc := m.src }
    let en := en.setPair d (m.data.extractLsb' 0 32) (m.data.extractLsb' 32 32)
    if nb then en.setFlag flagQE false else en

/-- mrcv: with NB = 0 it stalls on an empty queue; with NB = 1 it writes zero to the pair and sets QE (R137). -/
def execMrcv (p : Pav) (e : Eng) (d : Gpr) (queue : Fin 8) (nb : Bool) (s : State) : Result :=
  s.engineX p e fun en =>
    if !pairOk d then .exc exILLEGAL (encMrcv e d queue nb)
    else if en.queues.get queue ≠ [] then .ok (en.receive d queue nb).next
    else if nb then .ok ((en.setPair d 0 0).setFlag flagQE true).next
    else .ok { en with wait := .mrcv d queue }

def execMrcvWake (p : Pav) (e : Eng) (s : State) : Result :=
  s.run fun t => match (t.eng p e).wait with
    | .mrcv d q => if (t.eng p e).queues.get q ≠ [] then t.modEng p e fun en => (en.receive d q false).wake else t
    | _ => t

/-- A loop-profile msnd stalled for 256 cycles raises QUEUE_STALL, EADDR (ENGINE << 3) or QUEUE (R139, R145). -/
def execQueueStall (p : Pav) (e : Eng) (s : State) : Result :=
  s.run fun t => match (t.eng p e).wait with
    | .msnd target queue _ =>
      if loopProfile e then t.exception p e exQUEUE_STALL (BitVec.ofNat 32 (target.toNat * 8 + queue.val)) else t
    | _ => t

/-- The lowest-numbered pending enabled source (R148). -/
def lowestSet (w : BitVec 17) : Nat → Nat
  | 0 => 0
  | n + 1 => if w.getLsbD (16 - n) then 16 - n else lowestSet w n

/-- A base-profile engine takes an interrupt at an instruction boundary, a stalled interruptible instruction included
(R138, R141, R148). -/
def execInterruptEntry (p : Pav) (e : Eng) (s : State) : Result :=
  s.run fun t =>
    let en := t.eng p e
    let src := t.ipend p e &&& en.imask
    if en.run = .running && !loopProfile e && src ≠ 0 && en.flag flagIE && !en.flag flagEXC && en.wait ≠ .fence then
      t.setEng p e { en.exceptionEntry exINTERRUPT (BitVec.ofNat 32 (lowestSet src 17)) with wait := .none }
    else t

end Sys2Proof.Machine
end

