-- ==== Sys2Proof/Machine/LoadStore.lean ====
section
/-! DEFINITION. Ziljan classes 0x2 and 0x3: loads and stores (R23 to R26, R115, R116, R123, R124). -/
namespace Sys2Proof.Machine

/-- The effective address (R123). -/
def Engine.ea (en : Engine) (base : Gpr) (off : BitVec 15) : Word := en.g base + sextOff off

/-- ALIGN, then ACCESS: what forbids an access, as its cause (R123). -/
def accessFault (e : Eng) (write : Bool) (a : Word) (size : Nat) : Option Nat :=
  if a.toNat % size ≠ 0 then some exALIGN else if mayAccess e write a.toNat size then none else some exACCESS

/-! ### Loads -/

/-- The memory at an address, as the corrections of its ECC are counted; windows have none of their own. -/
def memoryOf (e : Eng) (a : Nat) : Option Nat :=
  match regionOf a with
  | .tcm => some (if a < 0x40000 then e.val else 16 + e.val)
  | .sram => some 32
  | .mram => some 33
  | .legal => some 34
  | _ => none
/-- A single-bit error is corrected in the data and counted in SYS (R23). -/
def Site.countSingle (t : Site) (p : Pav) (m : Nat) : Site :=
  t.modLoc p fun l =>
    { l.wr .SYS_ECC_SINGLE (l.rd .SYS_ECC_SINGLE + 1) with corrected := Sparse.put 0 l.corrected m (Sparse.get 0 l.corrected m + 1) }
/-- A double-bit error is a pavilion fault, which the journal shows (R23, R42, R45). -/
def Site.doubleBit (t : Site) (p : Pav) (e : Eng) (m : Nat) (a : Word) : Site :=
  let t := t.onLog fun r => r.fault t.now locMemDouble (memInstance m) (if t.alone p then detected else masked) reLogged 0
  t.exception p e exECC a

/-- The bytes of a load, and the site after it (R37 for a register). -/
def Site.loadBytes (t : Site) (p : Pav) (e : Eng) (a size : Nat) : Nat × Site :=
  let l := (t.pav p).loc
  match regionOf a with
  | .tcm => ((if a < 0x40000 then (l.eng e).itcm else (l.eng e).dtcm).rdN a size, t)
  | .inWin => (l.inWin.rdN (a - 0x60000) size, t)
  | .outWin => (l.outWin.rdN (a - 0x70000) size, t)
  | .sram => (l.sram.rdN a size, t)
  | .mram => (l.mram.rdN a size, t)
  | .legal => ((legalImage t.com.legalA t.com.legalB).rdN a size, t)
  | .block b => let x := t.readBlock p e b a; (x.1.toNat, x.2)
  | .none => (0, t)

/-- A load: earlier stores are seen, the register takes the converted value, and ECC is as the read finds it (R23, R123, R124). -/
def State.load (s : State) (p : Pav) (e : Eng) (d base : Gpr) (off : BitVec 15) (ecc : Ecc) (size : Nat) (conv : Nat → Word) : Result :=
  s.run fun t =>
    if !t.ready p e then t
    else
      let a := (t.eng p e).ea base off
      match accessFault e false a size with
      | some c => t.refuseAccess p e c a
      | none =>
        let t := t.drainBuffer p e
        if !t.ready p e then t else
        match ecc, memoryOf e a.toNat with
        | .double, some m => t.doubleBit p e m a
        | ecc, m =>
          let t := match ecc, m with
            | .single, some m => t.countSingle p m
            | _, _ => t
          let x := t.loadBytes p e a.toNat size
          x.2.modEng p e fun en => (en.setG d (conv x.1)).next

def zext (v : Nat) : Word := BitVec.ofNat 32 v
def sext8 (v : Nat) : Word := (BitVec.ofNat 8 v).signExtend 32
def sext16 (v : Nat) : Word := (BitVec.ofNat 16 v).signExtend 32

def execLb (p : Pav) (e : Eng) (d base : Gpr) (off : BitVec 15) (ecc : Ecc) (s : State) : Result := s.load p e d base off ecc 1 sext8
def execLbu (p : Pav) (e : Eng) (d base : Gpr) (off : BitVec 15) (ecc : Ecc) (s : State) : Result := s.load p e d base off ecc 1 zext
def execLh (p : Pav) (e : Eng) (d base : Gpr) (off : BitVec 15) (ecc : Ecc) (s : State) : Result := s.load p e d base off ecc 2 sext16
def execLhu (p : Pav) (e : Eng) (d base : Gpr) (off : BitVec 15) (ecc : Ecc) (s : State) : Result := s.load p e d base off ecc 2 zext
def execLw (p : Pav) (e : Eng) (d base : Gpr) (off : BitVec 15) (ecc : Ecc) (s : State) : Result := s.load p e d base off ecc 4 zext

/-! ### Stores -/

/-- A store enters the 4-entry write buffer; where it is full, the oldest one leaves it first (R124). -/
def State.store (s : State) (p : Pav) (e : Eng) (src base : Gpr) (off : BitVec 15) (size : Nat) : Result :=
  s.run fun t =>
    if !t.ready p e then t
    else
      let a := (t.eng p e).ea base off
      match accessFault e true a size with
      | some c => t.refuseAccess p e c a
      | none =>
        let x : Store := ⟨a, size, BitVec.ofNat 32 (((t.eng p e).g src).toNat % 256 ^ size)⟩
        let t := if 4 ≤ (t.eng p e).wbuf.length then t.drainOne p e else t
        if !t.ready p e then t else
        t.modEng p e fun en => { en with wbuf := en.wbuf ++ [x] }.next

def execSb (p : Pav) (e : Eng) (src base : Gpr) (off : BitVec 15) (s : State) : Result := s.store p e src base off 1
def execSh (p : Pav) (e : Eng) (src base : Gpr) (off : BitVec 15) (s : State) : Result := s.store p e src base off 2
def execSw (p : Pav) (e : Eng) (src base : Gpr) (off : BitVec 15) (s : State) : Result := s.store p e src base off 4

/-! ### Illegal words (R115, R116, R117) -/

/-- A field of an instruction word, bits `lo + n - 1` down to `lo`. -/
def bits (w lo n : Nat) : Nat := w / 2 ^ lo % 2 ^ n
/-- Pairs and quads by register number (R117). -/
def pairNo (r : Nat) : Bool := r % 2 = 0 && 2 ≤ r && r ≤ 28
def quadNo (r : Nat) : Bool := r % 4 = 0 && 4 ≤ r && r ≤ 24

/-- A system word that R127 and R111 define for the profile. -/
def legalSystem (loop : Bool) (w : Nat) : Bool :=
  let d := bits w 23 5
  let s1 := bits w 18 5
  let opd := bits w 0 12
  match bits w 12 6 with
  | 0 | 7 => d = 0 && s1 = 0 && opd = 0
  | 1 => s1 = 0 && (sprAccess opd).isSome
  | 2 => d = 0 && (sprAccess opd).isSome
  | 3 | 4 => d = 0 && sprAccess opd = some Access.RW
  | 5 | 8 => !loop && d = 0 && s1 = 0 && opd = 0
  | 6 => d = 0 && s1 = 0
  | 0x10 => !loop && bits w 8 4 ≤ 11 && bits w 0 5 = 0
  | 0x11 => !loop && s1 = 0 && pairNo d && bits w 8 4 = 0 && bits w 0 4 = 0
  | _ => false
/-- A MAC word that R128 defines. -/
def legalMac (w : Nat) : Bool :=
  let d := bits w 23 5
  let s1 := bits w 18 5
  let s2 := bits w 8 5
  let acc := bits w 5 3
  let sh := bits w 0 5
  match bits w 13 5 with
  | 0 | 1 | 2 => d = 0 && sh = 0
  | 3 => d = 0 && sh = 0 && quadNo s1 && quadNo s2
  | 4 | 5 => d = 0 && sh = 0 && quadNo s1 && quadNo s2 && acc % 4 = 0
  | 6 => s1 = 0 && s2 = 0
  | 7 => s1 = 0 && s2 = 0 && quadNo d && acc % 4 = 0
  | 8 => d = 0 && s1 = 0 && s2 = 0 && sh = 0
  | 9 => s1 = 0 && s2 = 0 && sh ≤ 2
  | 10 => d = 0 && s2 = 0 && sh ≤ 2
  | 11 | 12 | 13 | 14 | 16 => acc = 0 && sh = 0 && quadNo d && quadNo s1 && quadNo s2
  | 15 => acc = 0 && sh = 0 && quadNo d && quadNo s1 && pairNo s2
  | _ => false
/-- A frame or message word that R134, R135 and R137 define. -/
def legalFrame (w : Nat) : Bool :=
  match bits w 15 3 with
  | 0 => bits w 0 7 = 0
  | 1 => bits w 0 7 = 0 && bits w 13 2 ≤ 2
  | 2 => bits w 11 4 ≤ 11 && bits w 0 8 = 0
  | 3 => bits w 18 5 = 0 && pairNo (bits w 23 5) && bits w 11 4 = 0 && bits w 0 7 = 0
  | 4 => bits w 0 15 = 0
  | _ => false
/-- A time word that R140 defines. -/
def legalTime (w : Nat) : Bool :=
  let d := bits w 23 5
  let s1 := bits w 18 5
  bits w 6 8 = 0 && match bits w 15 3 with
  | 0 => d = 0 && pairNo s1 && bits w 0 6 = 0
  | 1 => d = 0 && bits w 0 6 = 0
  | 2 => d = 0 && s1 = 0
  | 3 => pairNo d && s1 = 0 && bits w 14 1 = 0 && bits w 0 6 = 0
  | 4 => s1 = 0 && bits w 14 1 = 0 && bits w 0 6 = 0
  | _ => false

/-- A word that engine `e` executes; every other word is illegal (R116). -/
def legalWord (e : Eng) (w : Nat) : Bool :=
  let d := bits w 23 5
  let s1 := bits w 18 5
  match bits w 28 4 with
  | 0 =>
    let f := bits w 0 7
    bits w 7 6 = 0 && (f ≤ 0x13 || (0x18 ≤ f && f ≤ 0x1F)) && (!(f = 0x12 || f = 0x13) || bits w 13 5 = 0)
  | 1 =>
    let f := bits w 14 4
    f ≤ 10 && (!(6 ≤ f && f ≤ 8) || bits w 5 9 = 0)
  | 2 => bits w 15 3 ≤ 4
  | 3 => bits w 15 3 ≤ 2
  | 4 => bits w 15 3 < 6 || (d = 0 && s1 ≤ 10)
  | 5 => (bits w 16 2 = 0 && s1 = 0) || bits w 16 2 = 1
  | 6 => legalSystem (loopProfile e) w
  | 7 => loopProfile e && legalMac w
  | 8 => loopProfile e && bits w 14 4 ≤ 2
  | 9 => loopProfile e && legalFrame w
  | 10 => legalTime w
  | _ => false

/-- An illegal word raises ILLEGAL, with the word in EADDR; a word the engine executes raises nothing. -/
def execIllegalInstruction (p : Pav) (e : Eng) (word : Word) (s : State) : Result :=
  s.engineX p e fun en => if legalWord e word.toNat then .ok en else .exc exILLEGAL word

end Sys2Proof.Machine
end

