-- ==== Sys2Proof/Machine/Mac.lean ====
section
/-! DEFINITION. Ziljan class 0x7: fixed-point multiply-accumulate and vector forms of the loop profile (R117, R119, R128, R129). -/
namespace Sys2Proof.Machine

/-- A signed 64-bit product (R119). -/
def prod (x y : Word) : Int := x.toInt * y.toInt

/-- ACC := sat72 of an exact value, Q set on saturation (R119). -/
def Engine.setAccSat (en : Engine) (a : AccIx) (x : Int) : Engine := (en.setA a (sat72 x)).stick flagQ (sat72Hit x)

/-- The four lanes of a vector accumulate. -/
def Engine.setAcc4 (en : Engine) (a : AccIx) (x : Nat → Int) : Engine :=
  (((en.setAccSat a (x 0)).setAccSat (accPlus a 1) (x 1)).setAccSat (accPlus a 2) (x 2)).setAccSat (accPlus a 3) (x 3)

/-- The four lanes of a saturating vector result. -/
def Engine.setQuadSat (en : Engine) (d : Gpr) (x : Nat → Int) : Engine :=
  (en.setQuad d fun i => sat32 (x i)).stick flagQ (sat32Hit (x 0) || sat32Hit (x 1) || sat32Hit (x 2) || sat32Hit (x 3))

/-- A loop-profile instruction: ILLEGAL in the base profile or where the operands break R117, otherwise `f` and the next one. -/
def State.loopInstr (s : State) (p : Pav) (e : Eng) (word : Word) (ok : Bool) (f : Engine → Engine) : Result :=
  s.engineX p e fun en => if loopProfile e && ok then .ok (f en).next else .exc exILLEGAL word

def execMacc (p : Pav) (e : Eng) (s1 s2 : Gpr) (acc : AccIx) (s : State) : Result :=
  s.loopInstr p e (encMac 0 0 s1 s2 acc 0) true fun en => en.setAccSat acc ((en.a acc).toInt + prod (en.g s1) (en.g s2))
def execMsub (p : Pav) (e : Eng) (s1 s2 : Gpr) (acc : AccIx) (s : State) : Result :=
  s.loopInstr p e (encMac 1 0 s1 s2 acc 0) true fun en => en.setAccSat acc ((en.a acc).toInt - prod (en.g s1) (en.g s2))
def execMpy (p : Pav) (e : Eng) (s1 s2 : Gpr) (acc : AccIx) (s : State) : Result :=
  s.loopInstr p e (encMac 2 0 s1 s2 acc 0) true fun en => en.setA acc (BitVec.ofInt 72 (prod (en.g s1) (en.g s2)))

/-- The product of lane `i` of two quads. -/
def Engine.lanes (en : Engine) (s1 s2 : Gpr) (i : Nat) : Int := prod (en.lane s1 i) (en.lane s2 i)

/-- mac4 adds its four products to ACC as one exact sum (R129). -/
def execMac4 (p : Pav) (e : Eng) (s1 s2 : Gpr) (acc : AccIx) (s : State) : Result :=
  s.loopInstr p e (encMac 3 0 s1 s2 acc 0) (quadOk s1 && quadOk s2) fun en =>
    en.setAccSat acc ((en.a acc).toInt + (en.lanes s1 s2 0 + en.lanes s1 s2 1 + en.lanes s1 s2 2 + en.lanes s1 s2 3))
def execMacv (p : Pav) (e : Eng) (s1 s2 : Gpr) (acc : AccIx) (s : State) : Result :=
  s.loopInstr p e (encMac 4 0 s1 s2 acc 0) (quadOk s1 && quadOk s2 && accQuadOk acc) fun en =>
    en.setAcc4 acc fun i => (en.a (accPlus acc i)).toInt + en.lanes s1 s2 i
def execMpyv (p : Pav) (e : Eng) (s1 s2 : Gpr) (acc : AccIx) (s : State) : Result :=
  s.loopInstr p e (encMac 5 0 s1 s2 acc 0) (quadOk s1 && quadOk s2 && accQuadOk acc) fun en =>
    en.setAcc4 acc fun i => en.lanes s1 s2 i

/-- accx: D := sat32(round(ACC >>s SH)). -/
def execAccx (p : Pav) (e : Eng) (d : Gpr) (acc : AccIx) (sh : BitVec 5) (s : State) : Result :=
  s.loopInstr p e (encMac 6 d 0 0 acc sh.toNat) true fun en =>
    let x := roundShift (en.a acc).toInt sh.toNat
    (en.setG d (sat32 x)).stick flagQ (sat32Hit x)
def execAccxv (p : Pav) (e : Eng) (d : Gpr) (acc : AccIx) (sh : BitVec 5) (s : State) : Result :=
  s.loopInstr p e (encMac 7 d 0 0 acc sh.toNat) (quadOk d && accQuadOk acc) fun en =>
    en.setQuadSat d fun i => roundShift (en.a (accPlus acc i)).toInt sh.toNat
def execAccclr (p : Pav) (e : Eng) (acc : AccIx) (s : State) : Result :=
  s.loopInstr p e (encMac 8 0 0 0 acc 0) true fun en => en.setA acc 0

/-- The part of an accumulator that SH names (R128). -/
def accPart (a : Acc) (sh : Nat) : Word :=
  if sh = 0 then a.extractLsb' 0 32 else if sh = 1 then a.extractLsb' 32 32 else (a.extractLsb' 64 8).signExtend 32
/-- An accumulator with the part that SH names replaced. -/
def accPutPart (a : Acc) (sh : Nat) (w : Word) : Acc :=
  if sh = 0 then a.extractLsb' 32 40 ++ w
  else if sh = 1 then a.extractLsb' 64 8 ++ w ++ a.extractLsb' 0 32
  else w.extractLsb' 0 8 ++ a.extractLsb' 0 64

/-- accrd and accwr: an SH of 3 or more raises ILLEGAL. -/
def execAccrd (p : Pav) (e : Eng) (d : Gpr) (acc : AccIx) (sh : BitVec 5) (s : State) : Result :=
  s.loopInstr p e (encMac 9 d 0 0 acc sh.toNat) (sh.toNat < 3) fun en => en.setG d (accPart (en.a acc) sh.toNat)
def execAccwr (p : Pav) (e : Eng) (s1 : Gpr) (acc : AccIx) (sh : BitVec 5) (s : State) : Result :=
  s.loopInstr p e (encMac 10 0 s1 0 acc sh.toNat) (sh.toNat < 3) fun en => en.setA acc (accPutPart (en.a acc) sh.toNat (en.g s1))

def execVadds (p : Pav) (e : Eng) (d s1 s2 : Gpr) (s : State) : Result :=
  s.loopInstr p e (encMac 11 d s1 s2 0 0) (quadOk d && quadOk s1 && quadOk s2) fun en =>
    en.setQuadSat d fun i => (en.lane s1 i).toInt + (en.lane s2 i).toInt
def execVsubs (p : Pav) (e : Eng) (d s1 s2 : Gpr) (s : State) : Result :=
  s.loopInstr p e (encMac 12 d s1 s2 0 0) (quadOk d && quadOk s1 && quadOk s2) fun en =>
    en.setQuadSat d fun i => (en.lane s1 i).toInt - (en.lane s2 i).toInt

def sminW (x y : Word) : Word := if x.slt y then x else y
def smaxW (x y : Word) : Word := if x.slt y then y else x

def execVmin (p : Pav) (e : Eng) (d s1 s2 : Gpr) (s : State) : Result :=
  s.loopInstr p e (encMac 13 d s1 s2 0 0) (quadOk d && quadOk s1 && quadOk s2) fun en =>
    en.setQuad d fun i => sminW (en.lane s1 i) (en.lane s2 i)
def execVmax (p : Pav) (e : Eng) (d s1 s2 : Gpr) (s : State) : Result :=
  s.loopInstr p e (encMac 14 d s1 s2 0 0) (quadOk d && quadOk s1 && quadOk s2) fun en =>
    en.setQuad d fun i => smaxW (en.lane s1 i) (en.lane s2 i)
/-- vclamp: Dq[i] := min(max(S1q[i], g[S2]), g[S2 + 1]); S2 names a pair. -/
def execVclamp (p : Pav) (e : Eng) (d s1 s2 : Gpr) (s : State) : Result :=
  s.loopInstr p e (encMac 15 d s1 s2 0 0) (quadOk d && quadOk s1 && pairOk s2) fun en =>
    en.setQuad d fun i => sminW (smaxW (en.lane s1 i) (en.g s2)) (en.g (gprPlus s2 1))
def execVmulq (p : Pav) (e : Eng) (d s1 s2 : Gpr) (s : State) : Result :=
  s.loopInstr p e (encMac 16 d s1 s2 0 0) (quadOk d && quadOk s1 && quadOk s2) fun en =>
    en.setQuadSat d fun i => mulqExact (en.lane s1 i) (en.lane s2 i)

end Sys2Proof.Machine
end

