-- ==== Sys2Proof/Machine/Section.lean ====
section
/-! DEFINITION. Ziljan class 0x8: the filter-section instructions of the loop profile (R130 to R133). -/
namespace Sys2Proof.Machine

/-- The coefficients, limits and state of a 48-byte section record (R130). -/
structure SectionRecord where
  b0 : Int
  b1 : Int
  b2 : Int
  a1 : Int
  a2 : Int
  ymin : Int
  ymax : Int
  ctrl : Nat
  x1 : Int
  x2 : Int
  y1 : Int
  y2 : Int
  deriving DecidableEq, Repr

/-- The record at DTCM byte address `a`, whose earlier stores have settled (R133). -/
def Engine.sectionAt (en : Engine) (a : Nat) : SectionRecord :=
  let w (i : Nat) : Int := (en.dtcmWord (a + 4 * i)).toInt
  { b0 := w 0, b1 := w 1, b2 := w 2, a1 := w 3, a2 := w 4, ymin := w 5, ymax := w 6, ctrl := (en.dtcmWord (a + 28)).toNat,
    x1 := w 8, x2 := w 9, y1 := w 10, y2 := w 11 }

/-- The output gain exponent GSH and the clamp bit of CTRL. -/
def SectionRecord.gsh (r : SectionRecord) : Nat := r.ctrl / 2 % 8
def SectionRecord.clamp (r : SectionRecord) : Bool := r.ctrl % 2 = 1

/-- acc of R131, exact, Q3.61. -/
def SectionRecord.sum (r : SectionRecord) (x : Int) : Int := r.b0 * x + r.b1 * r.x1 + r.b2 * r.x2 - r.a1 * r.y1 - r.a2 * r.y2

/-- The value before saturation: (acc × 2^GSH + 2^29) >>s 30. -/
def SectionRecord.exact (r : SectionRecord) (x : Int) : Int := (r.sum x * 2 ^ r.gsh + 2 ^ 29) / 2 ^ 30

/-- y after saturation, the clamped output, and LIM (R131). -/
def SectionRecord.y (r : SectionRecord) (x : Int) : Int := satTo (-2147483648) 2147483647 (r.exact x)
def SectionRecord.out (r : SectionRecord) (x : Int) : Int := if r.clamp then min (max (r.y x) r.ymin) r.ymax else r.y x
def SectionRecord.lim (r : SectionRecord) (x : Int) : Bool := r.clamp && r.out x ≠ r.y x

/-- The record address r = S2 + IDX × 16. -/
def Engine.recAddr (en : Engine) (s2 : Gpr) (idx : BitVec 9) : Word := en.g s2 + BitVec.ofNat 32 (idx.toNat * 16)

/-- The checks of R130 and the instruction's body: ACCESS for a record with a byte outside DTCM, then ALIGN, then reserved CTRL
bits, which raise ILLEGAL. -/
def Engine.withSection (en : Engine) (e : Eng) (word : Word) (s2 : Gpr) (idx : BitVec 9)
    (f : Engine → Nat → SectionRecord → Engine) : EngRes :=
  let r := en.recAddr s2 idx
  let en := en.settleTcm
  if !loopProfile e then .exc exILLEGAL word
  else if r.toNat < 0x40000 || 0x60000 < r.toNat + 48 then .exc exACCESS r
  else if r.toNat % 16 ≠ 0 then .exc exALIGN r
  else if 16 ≤ (en.sectionAt r.toNat).ctrl then .exc exILLEGAL word
  else .ok (f en r.toNat (en.sectionAt r.toNat)).next

/-- What sos and sosh do to D, LIM and Q. -/
def Engine.sectionOut (en : Engine) (d : Gpr) (r : SectionRecord) (x : Int) : Engine :=
  ((en.setG d (BitVec.ofInt 32 (r.out x))).setFlag flagLIM (r.lim x)).stick flagQ (sat32Hit (r.exact x))

/-- The record's state words stored back: X1, X2, Y1, Y2. -/
def Engine.putSectionState (en : Engine) (a : Nat) (x1 x2 y1 y2 : Int) : Engine :=
  (((en.putDtcmWord (a + 32) (BitVec.ofInt 32 x1)).putDtcmWord (a + 36) (BitVec.ofInt 32 x2)).putDtcmWord (a + 40)
    (BitVec.ofInt 32 y1)).putDtcmWord (a + 44) (BitVec.ofInt 32 y2)

def execSos (p : Pav) (e : Eng) (d s1 s2 : Gpr) (idx : BitVec 9) (s : State) : Result :=
  s.engineX p e fun en => en.withSection e (encSec 0 d s1 s2 idx) s2 idx fun en a r =>
    let x := (en.g s1).toInt
    (en.putSectionState a x r.x1 (r.out x) r.y1).sectionOut d r x
/-- sosh leaves X1, X2, Y1 and Y2 unchanged (R132). -/
def execSosh (p : Pav) (e : Eng) (d s1 s2 : Gpr) (idx : BitVec 9) (s : State) : Result :=
  s.engineX p e fun en => en.withSection e (encSec 1 d s1 s2 idx) s2 idx fun en _ r => en.sectionOut d r (en.g s1).toInt
/-- sosp presets the state: X1 := X2 := g[S1] and Y1 := Y2 := g[D]; no register is written (R132). -/
def execSosp (p : Pav) (e : Eng) (d s1 s2 : Gpr) (idx : BitVec 9) (s : State) : Result :=
  s.engineX p e fun en => en.withSection e (encSec 2 d s1 s2 idx) s2 idx fun en a _ =>
    en.putSectionState a (en.g s1).toInt (en.g s1).toInt (en.g d).toInt (en.g d).toInt

end Sys2Proof.Machine
end

