-- ==== Sys2Proof/Machine/Time.lean ====
section
/-! DEFINITION. Ziljan class 0xA: awaits and time reads (R140, R141), and the end of an await. -/
namespace Sys2Proof.Machine

/-- E = 1 marks the end of the engine's work for a site cycle (R142). -/
def Engine.markEnd (en : Engine) (b : Bool) : Engine := if b then { en with endMark := true } else en

/-- An await whose time has been reached completes and sets LT and AL (R141). -/
def Engine.awaitLate (en : Engine) : Engine := ((en.setFlag flagLT true).setFlag flagAL true).next
/-- An await that waits clears LT (R141). -/
def Engine.awaitWait (en : Engine) (w : Wait) : Engine := { en.setFlag flagLT false with wait := w }

def execAwait (p : Pav) (e : Eng) (s1 : Gpr) (endMark : Bool) (s : State) : Result :=
  s.siteX p e fun t =>
    let en := (t.eng p e).markEnd endMark
    let w : Dword := en.g (gprPlus s1 1) ++ en.g s1
    if !pairOk s1 then .exc exILLEGAL (encTime 0 0 s1 endMark 0)
    else .ok (t.setEng p e (if w.toNat ≤ t.now then en.awaitLate else en.awaitWait (.await w.toNat)))
/-- The site-cycle position of R52, counted on over all site cycles. -/
def Site.sitePlace (t : Site) : Nat := (t.cycle * t.mult + t.siteIndex) * 65536 + t.sitePos
/-- Where the position next reaches an operand after this tick: in this site cycle, or in the next once it lies behind. -/
def Site.nextPlace (t : Site) (pos : Nat) : Nat :=
  (t.cycle * t.mult + t.siteIndex) * 65536 + pos + (if pos ≤ t.sitePos then 65536 else 0)
def execAwaitp (p : Pav) (e : Eng) (s1 : Gpr) (endMark : Bool) (s : State) : Result :=
  s.siteX p e fun t =>
    let en := (t.eng p e).markEnd endMark
    .ok (t.setEng p e (en.awaitWait (.awaitp (t.nextPlace ((en.g s1).toNat % 65536)))))
def execAwaits (p : Pav) (e : Eng) (slot : Slot) (endMark : Bool) (s : State) : Result :=
  s.siteX p e fun t =>
    let en := (t.eng p e).markEnd endMark
    .ok (t.setEng p e (if (t.pav p).loc.rd .SDL_SCTRL_ARM slot.val = 0 then en.awaitLate else en.awaitWait (.awaits slot t.ticks false)))

/-- tread: D := angle, D + 1 := cycle, both of the same tick. -/
def execTread (p : Pav) (e : Eng) (d : Gpr) (s : State) : Result :=
  s.siteX p e fun t =>
    if !pairOk d then .exc exILLEGAL (encTime 3 d 0 false 0)
    else .ok (t.modEng p e fun en => (en.setPair d (BitVec.ofNat 32 t.now) (BitVec.ofNat 32 (t.now / 2 ^ 32))).next)
/-- tsite: D := (s << 16) or pos, for the current tick (R52). -/
def execTsite (p : Pav) (e : Eng) (d : Gpr) (s : State) : Result :=
  s.siteX p e fun t => .ok (t.modEng p e fun en => (en.setG d (BitVec.ofNat 32 (t.siteIndex * 2 ^ 16 + t.sitePos))).next)

/-- Whether what a waiting await waits for has come (R141). -/
def Site.awaitDone (t : Site) : Wait → Bool
  | .await w => decide (w ≤ t.now)
  | .awaitp target => decide (target ≤ t.sitePlace)
  | .awaits _ _ fired => fired
  | _ => false
def execAwaitWake (p : Pav) (e : Eng) (s : State) : Result :=
  s.run fun t => if t.awaitDone (t.eng p e).wait then t.modEng p e Engine.wake else t

end Sys2Proof.Machine
end

