-- ==== Sys2Proof/Machine/Dispatch.lean ====
section
/-! DEFINITION. One arm per command, each a direct call of its meaning. -/
namespace Sys2Proof.Machine

def exec (i : Instr) (s : State) : Host.Outcome State Fault Refusal :=
  match i with
  -- Alu
  | .add p e d s1 s2 => Sys2Proof.Machine.execAdd p e d s1 s2 s
  | .sub p e d s1 s2 => Sys2Proof.Machine.execSub p e d s1 s2 s
  | .and p e d s1 s2 => Sys2Proof.Machine.execAnd p e d s1 s2 s
  | .or p e d s1 s2 => Sys2Proof.Machine.execOr p e d s1 s2 s
  | .xor p e d s1 s2 => Sys2Proof.Machine.execXor p e d s1 s2 s
  | .sll p e d s1 s2 => Sys2Proof.Machine.execSll p e d s1 s2 s
  | .srl p e d s1 s2 => Sys2Proof.Machine.execSrl p e d s1 s2 s
  | .sra p e d s1 s2 => Sys2Proof.Machine.execSra p e d s1 s2 s
  | .slt p e d s1 s2 => Sys2Proof.Machine.execSlt p e d s1 s2 s
  | .sltu p e d s1 s2 => Sys2Proof.Machine.execSltu p e d s1 s2 s
  | .addc p e d s1 s2 => Sys2Proof.Machine.execAddc p e d s1 s2 s
  | .subc p e d s1 s2 => Sys2Proof.Machine.execSubc p e d s1 s2 s
  | .adds p e d s1 s2 => Sys2Proof.Machine.execAdds p e d s1 s2 s
  | .subs p e d s1 s2 => Sys2Proof.Machine.execSubs p e d s1 s2 s
  | .min p e d s1 s2 => Sys2Proof.Machine.execMin p e d s1 s2 s
  | .max p e d s1 s2 => Sys2Proof.Machine.execMax p e d s1 s2 s
  | .minu p e d s1 s2 => Sys2Proof.Machine.execMinu p e d s1 s2 s
  | .maxu p e d s1 s2 => Sys2Proof.Machine.execMaxu p e d s1 s2 s
  | .abss p e d s1 => Sys2Proof.Machine.execAbss p e d s1 s
  | .clz p e d s1 => Sys2Proof.Machine.execClz p e d s1 s
  | .mul p e d s1 s2 => Sys2Proof.Machine.execMul p e d s1 s2 s
  | .mulh p e d s1 s2 => Sys2Proof.Machine.execMulh p e d s1 s2 s
  | .mulhu p e d s1 s2 => Sys2Proof.Machine.execMulhu p e d s1 s2 s
  | .mulq p e d s1 s2 => Sys2Proof.Machine.execMulq p e d s1 s2 s
  | .div p e d s1 s2 => Sys2Proof.Machine.execDiv p e d s1 s2 s
  | .divu p e d s1 s2 => Sys2Proof.Machine.execDivu p e d s1 s2 s
  | .rem p e d s1 s2 => Sys2Proof.Machine.execRem p e d s1 s2 s
  | .remu p e d s1 s2 => Sys2Proof.Machine.execRemu p e d s1 s2 s
  | .addi p e d s1 imm => Sys2Proof.Machine.execAddi p e d s1 imm s
  | .andi p e d s1 imm => Sys2Proof.Machine.execAndi p e d s1 imm s
  | .ori p e d s1 imm => Sys2Proof.Machine.execOri p e d s1 imm s
  | .xori p e d s1 imm => Sys2Proof.Machine.execXori p e d s1 imm s
  | .slti p e d s1 imm => Sys2Proof.Machine.execSlti p e d s1 imm s
  | .sltiu p e d s1 imm => Sys2Proof.Machine.execSltiu p e d s1 imm s
  | .slli p e d s1 sh => Sys2Proof.Machine.execSlli p e d s1 sh s
  | .srli p e d s1 sh => Sys2Proof.Machine.execSrli p e d s1 sh s
  | .srai p e d s1 sh => Sys2Proof.Machine.execSrai p e d s1 sh s
  | .lhi p e d s1 imm => Sys2Proof.Machine.execLhi p e d s1 imm s
  | .addsi p e d s1 imm => Sys2Proof.Machine.execAddsi p e d s1 imm s
  -- LoadStore
  | .lb p e d base off ecc => Sys2Proof.Machine.execLb p e d base off ecc s
  | .lbu p e d base off ecc => Sys2Proof.Machine.execLbu p e d base off ecc s
  | .lh p e d base off ecc => Sys2Proof.Machine.execLh p e d base off ecc s
  | .lhu p e d base off ecc => Sys2Proof.Machine.execLhu p e d base off ecc s
  | .lw p e d base off ecc => Sys2Proof.Machine.execLw p e d base off ecc s
  | .sb p e src base off => Sys2Proof.Machine.execSb p e src base off s
  | .sh p e src base off => Sys2Proof.Machine.execSh p e src base off s
  | .sw p e src base off => Sys2Proof.Machine.execSw p e src base off s
  -- Branch
  | .beq p e d s1 off => Sys2Proof.Machine.execBeq p e d s1 off s
  | .bne p e d s1 off => Sys2Proof.Machine.execBne p e d s1 off s
  | .blt p e d s1 off => Sys2Proof.Machine.execBlt p e d s1 off s
  | .bge p e d s1 off => Sys2Proof.Machine.execBge p e d s1 off s
  | .bltu p e d s1 off => Sys2Proof.Machine.execBltu p e d s1 off s
  | .bgeu p e d s1 off => Sys2Proof.Machine.execBgeu p e d s1 off s
  | .bfs p e flag off => Sys2Proof.Machine.execBfs p e flag off s
  | .bfc p e flag off => Sys2Proof.Machine.execBfc p e flag off s
  | .jal p e d imm => Sys2Proof.Machine.execJal p e d imm s
  | .jalr p e d s1 imm => Sys2Proof.Machine.execJalr p e d s1 imm s
  -- System
  | .nop p e => Sys2Proof.Machine.execNop p e s
  | .sprd p e d opd => Sys2Proof.Machine.execSprd p e d opd s
  | .spwr p e s1 opd => Sys2Proof.Machine.execSpwr p e s1 opd s
  | .sprs p e s1 opd => Sys2Proof.Machine.execSprs p e s1 opd s
  | .sprc p e s1 opd => Sys2Proof.Machine.execSprc p e s1 opd s
  | .eret p e => Sys2Proof.Machine.execEret p e s
  | .trap p e opd => Sys2Proof.Machine.execTrap p e opd s
  | .fence p e => Sys2Proof.Machine.execFence p e s
  | .wfi p e => Sys2Proof.Machine.execWfi p e s
  | .msnd p e d s1 target queue => Sys2Proof.Machine.execMsnd p e d s1 target queue s
  | .mrcv p e d queue nb => Sys2Proof.Machine.execMrcv p e d queue nb s
  -- Mac
  | .macc p e s1 s2 acc => Sys2Proof.Machine.execMacc p e s1 s2 acc s
  | .msub p e s1 s2 acc => Sys2Proof.Machine.execMsub p e s1 s2 acc s
  | .mpy p e s1 s2 acc => Sys2Proof.Machine.execMpy p e s1 s2 acc s
  | .mac4 p e s1 s2 acc => Sys2Proof.Machine.execMac4 p e s1 s2 acc s
  | .macv p e s1 s2 acc => Sys2Proof.Machine.execMacv p e s1 s2 acc s
  | .mpyv p e s1 s2 acc => Sys2Proof.Machine.execMpyv p e s1 s2 acc s
  | .accx p e d acc sh => Sys2Proof.Machine.execAccx p e d acc sh s
  | .accxv p e d acc sh => Sys2Proof.Machine.execAccxv p e d acc sh s
  | .accclr p e acc => Sys2Proof.Machine.execAccclr p e acc s
  | .accrd p e d acc sh => Sys2Proof.Machine.execAccrd p e d acc sh s
  | .accwr p e s1 acc sh => Sys2Proof.Machine.execAccwr p e s1 acc sh s
  | .vadds p e d s1 s2 => Sys2Proof.Machine.execVadds p e d s1 s2 s
  | .vsubs p e d s1 s2 => Sys2Proof.Machine.execVsubs p e d s1 s2 s
  | .vmin p e d s1 s2 => Sys2Proof.Machine.execVmin p e d s1 s2 s
  | .vmax p e d s1 s2 => Sys2Proof.Machine.execVmax p e d s1 s2 s
  | .vclamp p e d s1 s2 => Sys2Proof.Machine.execVclamp p e d s1 s2 s
  | .vmulq p e d s1 s2 => Sys2Proof.Machine.execVmulq p e d s1 s2 s
  -- Section
  | .sos p e d s1 s2 idx => Sys2Proof.Machine.execSos p e d s1 s2 idx s
  | .sosh p e d s1 s2 idx => Sys2Proof.Machine.execSosh p e d s1 s2 idx s
  | .sosp p e d s1 s2 idx => Sys2Proof.Machine.execSosp p e d s1 s2 idx s
  -- Frame
  | .frld p e d s1 fmt hw => Sys2Proof.Machine.execFrld p e d s1 fmt hw s
  | .frstat p e d s1 => Sys2Proof.Machine.execFrstat p e d s1 s
  | .frst p e d s1 fmt hw => Sys2Proof.Machine.execFrst p e d s1 fmt hw s
  -- Time
  | .await p e s1 endMark => Sys2Proof.Machine.execAwait p e s1 endMark s
  | .awaitp p e s1 endMark => Sys2Proof.Machine.execAwaitp p e s1 endMark s
  | .awaits p e slot endMark => Sys2Proof.Machine.execAwaits p e slot endMark s
  | .tread p e d => Sys2Proof.Machine.execTread p e d s
  | .tsite p e d => Sys2Proof.Machine.execTsite p e d s
  -- LoadStore
  | .illegalInstruction p e word => Sys2Proof.Machine.execIllegalInstruction p e word s
  -- Branch
  | .sequentialFetchBeyondItcm p e => Sys2Proof.Machine.execSequentialFetchBeyondItcm p e s
  -- System
  | .interruptEntry p e => Sys2Proof.Machine.execInterruptEntry p e s
  -- Time
  | .awaitWake p e => Sys2Proof.Machine.execAwaitWake p e s
  -- System
  | .mrcvWake p e => Sys2Proof.Machine.execMrcvWake p e s
  | .msndWake p e => Sys2Proof.Machine.execMsndWake p e s
  | .wfiWake p e => Sys2Proof.Machine.execWfiWake p e s
  | .fenceComplete p e => Sys2Proof.Machine.execFenceComplete p e s
  | .queueStall p e => Sys2Proof.Machine.execQueueStall p e s
  -- Register
  | .registerWrite p e addr value => Sys2Proof.Machine.execRegisterWrite p e addr value s
  | .wideLowRead p e addr => Sys2Proof.Machine.execWideLowRead p e addr s
  -- Pavilion
  | .copyMismatch f => Sys2Proof.Machine.execCopyMismatch f s
  -- Tick
  | .siteCycleBoundary => Sys2Proof.Machine.execSiteCycleBoundary s
  -- Stage
  | .stgSampleFrameRx p g frame lineOk => Sys2Proof.Machine.execStgSampleFrameRx p g frame lineOk s
  | .footbridgeFrameRx p lane g frame => Sys2Proof.Machine.execFootbridgeFrameRx p lane g frame s
  -- Pavilion
  | .footbridgeChannelFail p ch beats => Sys2Proof.Machine.execFootbridgeChannelFail p ch beats s
  -- Closure
  | .inputSetClosure => Sys2Proof.Machine.execInputSetClosure s
  | .closureVectorRx katA katB => Sys2Proof.Machine.execClosureVectorRx katA katB s
  -- Release
  | .commandRelease => Sys2Proof.Machine.execCommandRelease s
  -- Pavilion
  | .peerDigestRx katA katB => Sys2Proof.Machine.execPeerDigestRx katA katB s
  | .selfcheckResultRx p pass => Sys2Proof.Machine.execSelfcheckResultRx p pass s
  | .selfcheckResultTimeout p => Sys2Proof.Machine.execSelfcheckResultTimeout p s
  | .digestMissing p => Sys2Proof.Machine.execDigestMissing p s
  | .refereeVerdict lowA lowB => Sys2Proof.Machine.execRefereeVerdict lowA lowB s
  | .refereeWindowTimeout => Sys2Proof.Machine.execRefereeWindowTimeout s
  | .unsolicitedVerdict lowA lowB => Sys2Proof.Machine.execUnsolicitedVerdict lowA lowB s
  | .setAsideReset p => Sys2Proof.Machine.execSetAsideReset p s
  | .indicatorAlone p => Sys2Proof.Machine.execIndicatorAlone p s
  | .leaseRenewalSend => Sys2Proof.Machine.execLeaseRenewalSend s
  | .leaseRenewalRx p => Sys2Proof.Machine.execLeaseRenewalRx p s
  | .leaseReleaseSeen p => Sys2Proof.Machine.execLeaseReleaseSeen p s
  | .leaseExpiry p live => Sys2Proof.Machine.execLeaseExpiry p live s
  | .peerClaimHigher p => Sys2Proof.Machine.execPeerClaimHigher p s
  | .logEntrySequence kind source payload switching => Sys2Proof.Machine.execLogEntrySequence kind source payload switching s
  | .logEntryRx p seq effective kind source payload checkOk switching => Sys2Proof.Machine.execLogEntryRx p seq effective kind source payload checkOk switching s
  | .joinRequest p => Sys2Proof.Machine.execJoinRequest p s
  | .joinRetry p => Sys2Proof.Machine.execJoinRetry p s
  | .backgroundCopyDone p => Sys2Proof.Machine.execBackgroundCopyDone p s
  | .syncBoundary => Sys2Proof.Machine.execSyncBoundary s
  | .handoverRecordRx p checkOk => Sys2Proof.Machine.execHandoverRecordRx p checkOk s
  | .joinerBecomesFollower p => Sys2Proof.Machine.execJoinerBecomesFollower p s
  | .holdElapsed p => Sys2Proof.Machine.execHoldElapsed p s
  | .handbackTick => Sys2Proof.Machine.execHandbackTick s
  -- Sundial
  | .zeroCrossing positive ago => Sys2Proof.Machine.execZeroCrossing positive ago s
  | .zeroCrossingTimeout => Sys2Proof.Machine.execZeroCrossingTimeout s
  | .mainsPlausibilityCheck pass => Sys2Proof.Machine.execMainsPlausibilityCheck pass s
  | .bitstreamStuck c => Sys2Proof.Machine.execBitstreamStuck c s
  | .sundialCopyMismatch => Sys2Proof.Machine.execSundialCopyMismatch s
  | .crystalFailure side => Sys2Proof.Machine.execCrystalFailure side s
  | .clockSelectorFault => Sys2Proof.Machine.execClockSelectorFault s
  | .sdlSlotArm p n ctrl => Sys2Proof.Machine.execSdlSlotArm p n ctrl s
  | .slotFire p n => Sys2Proof.Machine.execSlotFire p n s
  | .slotMessageDeliver p n => Sys2Proof.Machine.execSlotMessageDeliver p n s
  -- Stage
  | .echoProbe p g => Sys2Proof.Machine.execEchoProbe p g s
  | .echoReturnRx p g token roundTrip => Sys2Proof.Machine.execEchoReturnRx p g token roundTrip s
  | .stgLinkLost g => Sys2Proof.Machine.execStgLinkLost g s
  | .stgFaultExit g => Sys2Proof.Machine.execStgFaultExit g s
  | .stgLinkRestart g => Sys2Proof.Machine.execStgLinkRestart g s
  | .stgMsgGo g mtid len => Sys2Proof.Machine.execStgMsgGo g mtid len s
  | .stgReplyTimeout g => Sys2Proof.Machine.execStgReplyTimeout g s
  | .stgIdentReply g => Sys2Proof.Machine.execStgIdentReply g s
  | .stgAuthRespReply g verified => Sys2Proof.Machine.execStgAuthRespReply g verified s
  | .stgConfigAckReply g => Sys2Proof.Machine.execStgConfigAckReply g s
  | .stgRouteReportReply g => Sys2Proof.Machine.execStgRouteReportReply g s
  | .stgStatusReply g => Sys2Proof.Machine.execStgStatusReply g s
  | .stgErrorReply g => Sys2Proof.Machine.execStgErrorReply g s
  -- Ctl
  | .ctlModeWrite o mode => Sys2Proof.Machine.execCtlModeWrite o mode s
  | .ssOvercurrent o => Sys2Proof.Machine.execSsOvercurrent o s
  | .shortSoftstart o => Sys2Proof.Machine.execShortSoftstart o s
  | .feedbackLost g => Sys2Proof.Machine.execFeedbackLost g s
  | .feedbackFrozen g => Sys2Proof.Machine.execFeedbackFrozen g s
  | .ctlXdisWrite dis => Sys2Proof.Machine.execCtlXdisWrite dis s
  | .rampDone o => Sys2Proof.Machine.execRampDone o s
  | .ctlSwapGo o => Sys2Proof.Machine.execCtlSwapGo o s
  | .swapLoad o => Sys2Proof.Machine.execSwapLoad o s
  | .ctlInjGo k => Sys2Proof.Machine.execCtlInjGo k s
  | .ctlInjStop k => Sys2Proof.Machine.execCtlInjStop k s
  | .injectionStart k => Sys2Proof.Machine.execInjectionStart k s
  | .injDone k => Sys2Proof.Machine.execInjDone k s
  | .ctlCapArm k => Sys2Proof.Machine.execCtlCapArm k s
  | .ctlCapFire k => Sys2Proof.Machine.execCtlCapFire k s
  | .ctlCapStop k => Sys2Proof.Machine.execCtlCapStop k s
  | .capDone k => Sys2Proof.Machine.execCapDone k s
  -- Phase
  | .ctlHfrzRelease mask => Sys2Proof.Machine.execCtlHfrzRelease mask s
  | .shedStart g => Sys2Proof.Machine.execShedStart g s
  | .rotationDue g => Sys2Proof.Machine.execRotationDue g s
  | .routeRampOutEnd g => Sys2Proof.Machine.execRouteRampOutEnd g s
  | .routeChangeSend g => Sys2Proof.Machine.execRouteChangeSend g s
  -- Tick
  | .allocationTick => Sys2Proof.Machine.execAllocationTick s
  -- Alloc
  | .publicationDeadline => Sys2Proof.Machine.execPublicationDeadline s
  | .parterreFallback => Sys2Proof.Machine.execParterreFallback s
  | .invBreach o => Sys2Proof.Machine.execInvBreach o s
  | .headStale => Sys2Proof.Machine.execHeadStale s
  | .hostLimitExpiry limit => Sys2Proof.Machine.execHostLimitExpiry limit s
  | .frontEndDataStale cab => Sys2Proof.Machine.execFrontEndDataStale cab s
  | .coolantDataStale o => Sys2Proof.Machine.execCoolantDataStale o s
  -- Dispenser
  | .dlpHello d lane h body => Sys2Proof.Machine.execDlpHello d lane h body s
  | .dlpAuthResp d lane h body verified => Sys2Proof.Machine.execDlpAuthResp d lane h body verified s
  | .dlpKeepalive d lane h body => Sys2Proof.Machine.execDlpKeepalive d lane h body s
  | .dlpWake d lane h body => Sys2Proof.Machine.execDlpWake d lane h body s
  | .dlpPlug d lane h body => Sys2Proof.Machine.execDlpPlug d lane h body s
  | .dlpLockState d lane h body => Sys2Proof.Machine.execDlpLockState d lane h body s
  | .dlpImdState d lane h body => Sys2Proof.Machine.execDlpImdState d lane h body s
  | .dlpVehFrame d lane h len msg => Sys2Proof.Machine.execDlpVehFrame d lane h len msg s
  | .dlpVehLink d lane h body => Sys2Proof.Machine.execDlpVehLink d lane h body s
  | .dlpHeadBlock d lane h body macOk => Sys2Proof.Machine.execDlpHeadBlock d lane h body macOk s
  | .dlpButton d lane h body => Sys2Proof.Machine.execDlpButton d lane h body s
  | .dlpCard d lane h body => Sys2Proof.Machine.execDlpCard d lane h body s
  | .dlpCoolStatus d lane h body => Sys2Proof.Machine.execDlpCoolStatus d lane h body s
  | .dlpError d lane h body => Sys2Proof.Machine.execDlpError d lane h body s
  | .stopCurrentReached o => Sys2Proof.Machine.execStopCurrentReached o s
  | .dlpRetxTimeout d seq => Sys2Proof.Machine.execDlpRetxTimeout d seq s
  | .dlpSendPoint => Sys2Proof.Machine.execDlpSendPoint s
  | .dlpLaneDown d lane => Sys2Proof.Machine.execDlpLaneDown d lane s
  | .dlpSupervisionTimeout d => Sys2Proof.Machine.execDlpSupervisionTimeout d s
  | .dlkFaultExit d => Sys2Proof.Machine.execDlkFaultExit d s
  | .dlkLinkRestart d => Sys2Proof.Machine.execDlkLinkRestart d s
  | .tLinkExpiry o => Sys2Proof.Machine.execTLinkExpiry o s
  | .tAuthExpiry o => Sys2Proof.Machine.execTAuthExpiry o s
  | .tLockExpiry o => Sys2Proof.Machine.execTLockExpiry o s
  | .tCcExpiry o => Sys2Proof.Machine.execTCcExpiry o s
  | .tPreExpiry o => Sys2Proof.Machine.execTPreExpiry o s
  | .tStopExpiry o => Sys2Proof.Machine.execTStopExpiry o s
  | .tLoopExpiry o => Sys2Proof.Machine.execTLoopExpiry o s
  | .cardAnswerTimeout o => Sys2Proof.Machine.execCardAnswerTimeout o s
  | .certAnswerTimeout o => Sys2Proof.Machine.execCertAnswerTimeout o s
  | .preauthExpiry d => Sys2Proof.Machine.execPreauthExpiry d s
  | .coolFlowLow o => Sys2Proof.Machine.execCoolFlowLow o s
  | .headIdent d lane h body => Sys2Proof.Machine.execHeadIdent d lane h body s
  | .headResp d lane h body verified => Sys2Proof.Machine.execHeadResp d lane h body verified s
  | .headStarted d lane h body => Sys2Proof.Machine.execHeadStarted d lane h body s
  | .headStopped d lane h body => Sys2Proof.Machine.execHeadStopped d lane h body s
  | .headStat d lane h body => Sys2Proof.Machine.execHeadStat d lane h body s
  | .headErr d lane h body => Sys2Proof.Machine.execHeadErr d lane h body s
  -- Meter
  | .blockMissed o => Sys2Proof.Machine.execBlockMissed o s
  | .blockLost o => Sys2Proof.Machine.execBlockLost o s
  | .metrologySave => Sys2Proof.Machine.execMetrologySave s
  | .legalMramWrite okA okB => Sys2Proof.Machine.execLegalMramWrite okA okB s
  | .metMtpWrite n value => Sys2Proof.Machine.execMetMtpWrite n value s
  | .mtpPulse n => Sys2Proof.Machine.execMtpPulse n s
  -- Safe
  | .safetyInputDemand k => Sys2Proof.Machine.execSafetyInputDemand k s
  | .safetyInputHealthy k => Sys2Proof.Machine.execSafetyInputHealthy k s
  | .testPulse k stayed fell tpOk => Sys2Proof.Machine.execTestPulse k stayed fell tpOk s
  | .siDiscrep k => Sys2Proof.Machine.execSiDiscrep k s
  | .siFaultClear k => Sys2Proof.Machine.execSiFaultClear k s
  | .safeResetPress => Sys2Proof.Machine.execSafeResetPress s
  | .resetJam => Sys2Proof.Machine.execResetJam s
  | .resetJamClear => Sys2Proof.Machine.execResetJamClear s
  | .offPulseCheck c pass => Sys2Proof.Machine.execOffPulseCheck c pass s
  | .offChannelCheck c pass => Sys2Proof.Machine.execOffChannelCheck c pass s
  | .gateClearTimeout o => Sys2Proof.Machine.execGateClearTimeout o s
  | .postOpenDropWait o => Sys2Proof.Machine.execPostOpenDropWait o s
  -- Outlet
  | .postOpenTestEnd o => Sys2Proof.Machine.execPostOpenTestEnd o s
  -- Safe
  | .imdStale o => Sys2Proof.Machine.execImdStale o s
  | .tCondStale o => Sys2Proof.Machine.execTCondStale o s
  | .degExpired => Sys2Proof.Machine.execDegExpired s
  | .classSBlockClear o => Sys2Proof.Machine.execClassSBlockClear o s
  | .confirmLapse => Sys2Proof.Machine.execConfirmLapse s
  | .unlockHeld o => Sys2Proof.Machine.execUnlockHeld o s
  | .safEvsetWrite value => Sys2Proof.Machine.execSafEvsetWrite value s
  -- Switch
  | .lswChannelOnWrite c on => Sys2Proof.Machine.execLswChannelOnWrite c on s
  | .fastThresholdTrip c => Sys2Proof.Machine.execFastThresholdTrip c s
  | .overloadTrip c => Sys2Proof.Machine.execOverloadTrip c s
  | .thermalTrip c => Sys2Proof.Machine.execThermalTrip c s
  | .bankLimit b currents => Sys2Proof.Machine.execBankLimit b currents s
  | .bankOverload b => Sys2Proof.Machine.execBankOverload b s
  | .bankOverloadCut b => Sys2Proof.Machine.execBankOverloadCut b s
  | .vbankLow b => Sys2Proof.Machine.execVbankLow b s
  | .vbankRestore b => Sys2Proof.Machine.execVbankRestore b s
  | .bankEnterService b pass => Sys2Proof.Machine.execBankEnterService b pass s
  | .retryWaitExpiry c => Sys2Proof.Machine.execRetryWaitExpiry c s
  | .warmupEnd c => Sys2Proof.Machine.execWarmupEnd c s
  | .pullEnd c => Sys2Proof.Machine.execPullEnd c s
  | .startWindowEnd c => Sys2Proof.Machine.execStartWindowEnd c s
  | .budgetRefresh c => Sys2Proof.Machine.execBudgetRefresh c s
  | .attributionPendingExpiry c => Sys2Proof.Machine.execAttributionPendingExpiry c s
  | .attributedRestart c => Sys2Proof.Machine.execAttributedRestart c s
  | .openLoad c low => Sys2Proof.Machine.execOpenLoad c low s
  | .switchFault c => Sys2Proof.Machine.execSwitchFault c s
  | .lswBankRestore b pass => Sys2Proof.Machine.execLswBankRestore b pass s
  | .noClaim => Sys2Proof.Machine.execNoClaim s
  | .lswLatchRelease => Sys2Proof.Machine.execLswLatchRelease s
  -- Host
  | .tcpConnect p port dport => Sys2Proof.Machine.execTcpConnect p port dport s
  | .netEchoRequest p port kind => Sys2Proof.Machine.execNetEchoRequest p port kind s
  | .tlsHandshakeDone n cert => Sys2Proof.Machine.execTlsHandshakeDone n cert s
  | .tlsHandshakeTimeout n => Sys2Proof.Machine.execTlsHandshakeTimeout n s
  | .openTimeout n => Sys2Proof.Machine.execOpenTimeout n s
  | .rhpOpen n majors role name => Sys2Proof.Machine.execRhpOpen n majors role name s
  | .rhpRequestRx n tag code payload wellFormed => Sys2Proof.Machine.execRhpRequestRx n tag code payload wellFormed s
  | .rhpEventAck n upTo => Sys2Proof.Machine.execRhpEventAck n upTo s
  | .rhpPing n => Sys2Proof.Machine.execRhpPing n s
  | .rhpPong n => Sys2Proof.Machine.execRhpPong n s
  | .rhpClose n => Sys2Proof.Machine.execRhpClose n s
  | .rhpPingTimer n => Sys2Proof.Machine.execRhpPingTimer n s
  | .rhpKeepaliveTimeout n => Sys2Proof.Machine.execRhpKeepaliveTimeout n s
  | .tcpRetransmitTimeout n => Sys2Proof.Machine.execTcpRetransmitTimeout n s
  | .hostLaneDown p port => Sys2Proof.Machine.execHostLaneDown p port s
  | .handleExpiry index => Sys2Proof.Machine.execHandleExpiry index s
  | .eventHoldExpiry k => Sys2Proof.Machine.execEventHoldExpiry k s
  | .requestTagExpiry k => Sys2Proof.Machine.execRequestTagExpiry k s
  | .lockIdleExpiry => Sys2Proof.Machine.execLockIdleExpiry s
  | .returnRequestExpiry => Sys2Proof.Machine.execReturnRequestExpiry s
  | .sessionClose n tag => Sys2Proof.Machine.execSessionClose n tag s
  | .eventSubscribe n tag mask => Sys2Proof.Machine.execEventSubscribe n tag mask s
  | .opStatus n tag handle => Sys2Proof.Machine.execOpStatus n tag handle s
  | .opList n tag => Sys2Proof.Machine.execOpList n tag s
  -- Update
  | .opCancel n tag handle => Sys2Proof.Machine.execOpCancel n tag handle s
  -- Host
  | .opRelease n tag handle => Sys2Proof.Machine.execOpRelease n tag handle s
  | .opRead n tag handle offset count => Sys2Proof.Machine.execOpRead n tag handle offset count s
  | .timeSet n tag utc => Sys2Proof.Machine.execTimeSet n tag utc s
  | .siteLimitSet n tag power ttl => Sys2Proof.Machine.execSiteLimitSet n tag power ttl s
  | .siteStatusRead n tag => Sys2Proof.Machine.execSiteStatusRead n tag s
  | .outletLimitSet n tag o power amps ttl pExp iExp => Sys2Proof.Machine.execOutletLimitSet n tag o power amps ttl pExp iExp s
  | .outletOwn n tag o force => Sys2Proof.Machine.execOutletOwn n tag o force s
  | .outletDisown n tag o => Sys2Proof.Machine.execOutletDisown n tag o s
  | .outletPrioritySet n tag o prio => Sys2Proof.Machine.execOutletPrioritySet n tag o prio s
  | .outletStart n tag o ref => Sys2Proof.Machine.execOutletStart n tag o ref s
  | .outletStop n tag o => Sys2Proof.Machine.execOutletStop n tag o s
  | .outletAuthAnswer n tag o reqId result ref => Sys2Proof.Machine.execOutletAuthAnswer n tag o reqId result ref s
  | .outletCertAnswer n tag o reqId answer => Sys2Proof.Machine.execOutletCertAnswer n tag o reqId answer s
  | .outletFaultClear n tag o => Sys2Proof.Machine.execOutletFaultClear n tag o s
  | .outletServiceSet n tag o value => Sys2Proof.Machine.execOutletServiceSet n tag o value s
  | .outletStatusRead n tag o => Sys2Proof.Machine.execOutletStatusRead n tag o s
  | .outletCommission n tag o value => Sys2Proof.Machine.execOutletCommission n tag o value s
  | .groupStatusRead n tag g => Sys2Proof.Machine.execGroupStatusRead n tag g s
  -- Keys
  | .deviceAttest n tag nonce => Sys2Proof.Machine.execDeviceAttest n tag nonce s
  -- Update
  | .pavilionYield n tag => Sys2Proof.Machine.execPavilionYield n tag s
  | .pavilionRejoin n tag pav => Sys2Proof.Machine.execPavilionRejoin n tag pav s
  | .bankRestore n tag bank pass => Sys2Proof.Machine.execBankRestore n tag bank pass s
  -- Return
  | .deviceReturn n tag nonce => Sys2Proof.Machine.execDeviceReturn n tag nonce s
  -- Update
  | .serviceUnlockChallenge n tag => Sys2Proof.Machine.execServiceUnlockChallenge n tag s
  | .serviceUnlockOpen n tag unit chal sigOk => Sys2Proof.Machine.execServiceUnlockOpen n tag unit chal sigOk s
  -- Host
  | .configLockAcquire n tag => Sys2Proof.Machine.execConfigLockAcquire n tag s
  | .configLockRelease n tag => Sys2Proof.Machine.execConfigLockRelease n tag s
  -- Commit
  | .paramWrite n tag record index offset data => Sys2Proof.Machine.execParamWrite n tag record index offset data s
  | .paramCommit n tag crcOk => Sys2Proof.Machine.execParamCommit n tag crcOk s
  -- Host
  | .safetyCheckRead n tag => Sys2Proof.Machine.execSafetyCheckRead n tag s
  | .safetyConfirm n tag check => Sys2Proof.Machine.execSafetyConfirm n tag check s
  | .tuneCoeffLoad n tag o apply set => Sys2Proof.Machine.execTuneCoeffLoad n tag o apply set s
  | .tuneRun n tag o inj cap => Sys2Proof.Machine.execTuneRun n tag o inj cap s
  | .captureRead n tag unit => Sys2Proof.Machine.execCaptureRead n tag unit s
  | .captureReadComplete index => Sys2Proof.Machine.execCaptureReadComplete index s
  | .logRead n tag log start count => Sys2Proof.Machine.execLogRead n tag log start count s
  | .logReadComplete index => Sys2Proof.Machine.execLogReadComplete index s
  | .logAck n tag slot txNo => Sys2Proof.Machine.execLogAck n tag slot txNo s
  -- Update
  | .certInstall n tag kind index mark chain => Sys2Proof.Machine.execCertInstall n tag kind index mark chain s
  -- Keys
  | .kuInstall n tag msg sigOk cipherOk keyOk material => Sys2Proof.Machine.execKuInstall n tag msg sigOk cipherOk keyOk material s
  | .kuGenerate n tag msg sigOk => Sys2Proof.Machine.execKuGenerate n tag msg sigOk s
  | .kuInvalidate n tag msg sigOk => Sys2Proof.Machine.execKuInvalidate n tag msg sigOk s
  | .kuReadpub n tag msg => Sys2Proof.Machine.execKuReadpub n tag msg s
  | .kuAdvance n tag msg sigOk => Sys2Proof.Machine.execKuAdvance n tag msg sigOk s
  | .keyUpdateComplete index => Sys2Proof.Machine.execKeyUpdateComplete index s
  -- Update
  | .imageStageDelta n tag length digest => Sys2Proof.Machine.execImageStageDelta n tag length digest s
  | .imageStageFull n tag length digest => Sys2Proof.Machine.execImageStageFull n tag length digest s
  | .imageData n tag handle offset data okA okB => Sys2Proof.Machine.execImageData n tag handle offset data okA okB s
  | .imageActivate n tag handle => Sys2Proof.Machine.execImageActivate n tag handle s
  | .imageRollback n tag => Sys2Proof.Machine.execImageRollback n tag s
  | .activationVerifyDone => Sys2Proof.Machine.execActivationVerifyDone s
  | .activationJoinTimeout => Sys2Proof.Machine.execActivationJoinTimeout s
  | .warmElapsed => Sys2Proof.Machine.execWarmElapsed s
  | .slWaitExpiry => Sys2Proof.Machine.execSlWaitExpiry s
  -- Buses
  | .canFrameRx p ch f => Sys2Proof.Machine.execCanFrameRx p ch f s
  | .canTxComplete ch m ok same => Sys2Proof.Machine.execCanTxComplete ch m ok same s
  | .canMailboxGo ch m => Sys2Proof.Machine.execCanMailboxGo ch m s
  | .canMailboxAbort ch m => Sys2Proof.Machine.execCanMailboxAbort ch m s
  | .canDeadlineLapse ch m => Sys2Proof.Machine.execCanDeadlineLapse ch m s
  | .canErrorPassive ch tec rec => Sys2Proof.Machine.execCanErrorPassive ch tec rec s
  | .canBusOff ch => Sys2Proof.Machine.execCanBusOff ch s
  | .canBusOn ch => Sys2Proof.Machine.execCanBusOn ch s
  | .canFailed ch => Sys2Proof.Machine.execCanFailed ch s
  | .canWakeDetect ch frame => Sys2Proof.Machine.execCanWakeDetect ch frame s
  | .mccSlotStart heard acked => Sys2Proof.Machine.execMccSlotStart heard acked s
  | .mccHopFail k => Sys2Proof.Machine.execMccHopFail k s
  | .mccAck f => Sys2Proof.Machine.execMccAck f s
  | .mccData f => Sys2Proof.Machine.execMccData f s
  | .mccJoinReq f => Sys2Proof.Machine.execMccJoinReq f s
  | .mccJoinResp f verified => Sys2Proof.Machine.execMccJoinResp f verified s
  | .mccLqiReport f => Sys2Proof.Machine.execMccLqiReport f s
  | .mccWake f => Sys2Proof.Machine.execMccWake f s
  | .mccLeave f => Sys2Proof.Machine.execMccLeave f s
  | .mccLinkUnusableExpiry k => Sys2Proof.Machine.execMccLinkUnusableExpiry k s
  | .mccReachTimeout a => Sys2Proof.Machine.execMccReachTimeout a s
  -- Keys
  | .ghSign p e desc => Sys2Proof.Machine.execGhSign p e desc s
  | .ghVerify p e desc good => Sys2Proof.Machine.execGhVerify p e desc good s
  | .ghKeyAgree p e desc => Sys2Proof.Machine.execGhKeyAgree p e desc s
  | .ghChallenge p e desc => Sys2Proof.Machine.execGhChallenge p e desc s
  | .ghCheckResp p e desc good => Sys2Proof.Machine.execGhCheckResp p e desc good s
  | .ghMac p e desc => Sys2Proof.Machine.execGhMac p e desc s
  | .ghSeal p e desc => Sys2Proof.Machine.execGhSeal p e desc s
  | .ghOpen p e desc good => Sys2Proof.Machine.execGhOpen p e desc good s
  | .ghHash p e desc => Sys2Proof.Machine.execGhHash p e desc s
  | .ghRandom p e desc => Sys2Proof.Machine.execGhRandom p e desc s
  | .ghCtxFree p e desc => Sys2Proof.Machine.execGhCtxFree p e desc s
  | .ghReadState p e desc => Sys2Proof.Machine.execGhReadState p e desc s
  | .ghRequestDone p => Sys2Proof.Machine.execGhRequestDone p s
  | .ghSelftestDone p pass => Sys2Proof.Machine.execGhSelftestDone p pass s
  -- Power
  | .rngFail p => Sys2Proof.Machine.execRngFail p s
  | .gatehouseGuardTrip p => Sys2Proof.Machine.execGatehouseGuardTrip p s
  | .supplyMonitorTrip p rail => Sys2Proof.Machine.execSupplyMonitorTrip p rail s
  | .vio33Loss p => Sys2Proof.Machine.execVio33Loss p s
  | .brownOut => Sys2Proof.Machine.execBrownOut s
  | .nrstPulse nanos => Sys2Proof.Machine.execNrstPulse nanos s
  | .powerOn => Sys2Proof.Machine.execPowerOn s
  | .deviceResetRelease part => Sys2Proof.Machine.execDeviceResetRelease part s
  | .bootImageCheckDone p => Sys2Proof.Machine.execBootImageCheckDone p s
  | .imageRecoveryDone p => Sys2Proof.Machine.execImageRecoveryDone p s
  | .startupLeaseWait p => Sys2Proof.Machine.execStartupLeaseWait p s
  | .discoveryStart => Sys2Proof.Machine.execDiscoveryStart s
  | .sysEngineStart p mask => Sys2Proof.Machine.execSysEngineStart p mask s
  -- Commit
  | .sysCommitGo crcOk => Sys2Proof.Machine.execSysCommitGo crcOk s
  -- Power
  | .sysPavilionReset p => Sys2Proof.Machine.execSysPavilionReset p s
  -- Pavilion
  | .fbrYield => Sys2Proof.Machine.execFbrYield s
  | .fbrRejoin p => Sys2Proof.Machine.execFbrRejoin p s
  -- Power
  | .idleTimerExpiry => Sys2Proof.Machine.execIdleTimerExpiry s
  | .sleepEntry => Sys2Proof.Machine.execSleepEntry s
  | .wakeDetect src => Sys2Proof.Machine.execWakeDetect src s
  | .aonPadRelease => Sys2Proof.Machine.execAonPadRelease s
  -- Pavilion
  | .controlledStopRestart p => Sys2Proof.Machine.execControlledStopRestart p s
  -- Switch
  | .thermalRecovered c => Sys2Proof.Machine.execThermalRecovered c s
  -- Dispenser
  | .protocolSequenceTimeout o => Sys2Proof.Machine.execProtocolSequenceTimeout o s
  | .dlpUnknownPdu d lane h type body => Sys2Proof.Machine.execDlpUnknownPdu d lane h type body s
  -- Buses
  | .mccCrcFail => Sys2Proof.Machine.execMccCrcFail s
  | .canHeldFrameExpiry p ch k => Sys2Proof.Machine.execCanHeldFrameExpiry p ch k s
  -- Return
  | .returnCloseTimeout => Sys2Proof.Machine.execReturnCloseTimeout s
  | .returnLifecycleReset => Sys2Proof.Machine.execReturnLifecycleReset s

end Sys2Proof.Machine
end

