-- ==== Sys2Proof/Machine/Idle.lean ====
section
/-! DEFINITION. What an empty command queue does: one 5 ns tick passes (R50, R67, R84, R107, R124). -/
namespace Sys2Proof.Machine

/-- FBR_LEASEAGE of a pavilion that does not hold the lease: µs since the last renewal (R84, R107). -/
def Local.ageLease (l : Local) (ticks : Nat) : Local :=
  if l.inReset || l.rd .FBR_STATUS_ROLE = roleLeader then l else l.wr .FBR_LEASEAGE_AGE (min 65535 ((ticks - l.renewedAt) / 200))
/-- One store leaves the write buffer of every engine of a pavilion (R124). -/
def Site.drainAll (t : Site) (p : Pav) : Site :=
  if (t.pav p).loc.running then (List.finRange 12).foldl (fun t e => t.drainOne p e) t else t
/-- One tick: both copies of the Sundial advance, write buffers drain, the lease ages. -/
def Site.tick (t : Site) : Site :=
  let t := t.modCom fun c => { c with sun := c.sun.tick }
  let t := (t.drainAll .A).drainAll .B
  (t.modLoc .A fun l => l.ageLease t.ticks).modLoc .B fun l => l.ageLease t.ticks

end Sys2Proof.Machine
end

