-- ==== Sys2Proof/WellFormed.lean ====
section
/-! DEFINITION. Which commands can reach the block: every operand fits the field of the frame or message that brings it. A value that fits
its field and is illegal all the same is no ill-formed command; its meaning answers it as the spec says. -/
namespace Sys2Proof

/-- A field of 1, 2, 4 or 8 bytes. -/
def inB (x : Nat) : Bool := decide (x < 2 ^ 8)
def inH (x : Nat) : Bool := decide (x < 2 ^ 16)
def inW (x : Nat) : Bool := decide (x < 2 ^ 32)
def inD (x : Nat) : Bool := decide (x < 2 ^ 64)

/-- The header fields of a PDU (R288). -/
def DlpHdr.wf (h : DlpHdr) : Bool := inB h.ver && inW h.seq && inW h.ackSeq && inW h.ackMap && inB h.outlet && inB h.flags && decide (h.src < 2 ^ 48)
/-- The payload room of a PDU of at most 1,500 bytes, with and without TAG (R288). -/
def DlpHdr.room (h : DlpHdr) : Nat := if h.flags.testBit 2 then 1460 else 1476
/-- A classic or FD frame (R459): the identifier fits its format, the data its DLC. -/
def CanFrame.wf (f : CanFrame) : Bool :=
  decide (f.ident < (if f.ide then 2 ^ 29 else 2 ^ 11)) && decide (f.dlc < 16) && decide (f.data.length ≤ 64) && inD f.time
/-- A MAC frame (R477): the address fields, and a payload of at most 200 bytes. -/
def MccFrame.wf (f : MccFrame) : Bool :=
  inB f.src && inB f.dst && inB f.origin && inB f.final && decide (f.route.length ≤ 3) && f.route.all inB && inB f.hop && inB f.seq &&
    inB f.flags && inB f.frag && decide (f.payload.length ≤ 200)
def optWf (f : Option CanFrame) : Bool := match f with | some f => f.wf | none => true

/-- A command whose operands fit their fields: R82 (log entries), R155 and R161 (frames), R288 (PDUs), R430 to R440 (host messages), R459
and R477 (site buses). -/
def Instr.wf : Instr → Bool
  | .add .. | .sub .. | .and .. | .or .. | .xor .. | .sll .. | .srl .. | .sra .. | .slt .. | .sltu .. | .addc .. | .subc .. | .adds ..
  | .subs .. | .min .. | .max .. | .minu .. | .maxu .. | .abss .. | .clz .. | .mul .. | .mulh .. | .mulhu .. | .mulq .. | .div ..
  | .divu .. | .rem .. | .remu .. | .addi .. | .andi .. | .ori .. | .xori .. | .slti .. | .sltiu .. | .slli .. | .srli .. | .srai ..
  | .lhi .. | .addsi .. | .lb .. | .lbu .. | .lh .. | .lhu .. | .lw .. | .sb .. | .sh .. | .sw .. | .beq .. | .bne .. | .blt ..
  | .bge .. | .bltu .. | .bgeu .. | .bfs .. | .bfc .. | .jal .. | .jalr .. | .nop .. | .sprd .. | .spwr .. | .sprs .. | .sprc ..
  | .eret .. | .trap .. | .fence .. | .wfi .. | .msnd .. | .mrcv .. | .macc .. | .msub .. | .mpy .. | .mac4 .. | .macv .. | .mpyv ..
  | .accx .. | .accxv .. | .accclr .. | .accrd .. | .accwr .. | .vadds .. | .vsubs .. | .vmin .. | .vmax .. | .vclamp .. | .vmulq ..
  | .sos .. | .sosh .. | .sosp .. | .frld .. | .frstat .. | .frst .. | .await .. | .awaitp .. | .awaits .. | .tread .. | .tsite ..
  | .illegalInstruction .. | .sequentialFetchBeyondItcm .. | .interruptEntry .. | .awaitWake .. | .mrcvWake .. | .msndWake ..
  | .wfiWake .. | .fenceComplete .. | .queueStall .. | .registerWrite .. | .wideLowRead .. | .copyMismatch .. | .siteCycleBoundary => true
  | .stgSampleFrameRx _ _ frame _ => decide (frame.length ≤ 94)
  | .footbridgeFrameRx _ _ _ frame => decide (frame.length ≤ 94)
  | .footbridgeChannelFail .. | .inputSetClosure | .closureVectorRx .. | .commandRelease | .peerDigestRx .. | .selfcheckResultRx ..
  | .selfcheckResultTimeout .. | .digestMissing .. | .refereeVerdict .. | .refereeWindowTimeout | .unsolicitedVerdict ..
  | .setAsideReset .. | .indicatorAlone .. | .leaseRenewalSend | .leaseRenewalRx .. | .leaseReleaseSeen .. | .leaseExpiry ..
  | .peerClaimHigher .. => true
  | .logEntrySequence kind source payload _ => inH kind && inW source && decide (payload.length ≤ 19 * 228)
  | .logEntryRx _ seq effective kind source payload _ _ => inD seq && inD effective && inH kind && inW source && decide (payload.length ≤ 228)
  | .joinRequest .. | .joinRetry .. | .backgroundCopyDone .. | .syncBoundary | .handoverRecordRx .. | .joinerBecomesFollower ..
  | .holdElapsed .. | .handbackTick | .zeroCrossing .. | .zeroCrossingTimeout | .mainsPlausibilityCheck .. | .bitstreamStuck ..
  | .sundialCopyMismatch | .crystalFailure .. | .clockSelectorFault | .sdlSlotArm .. | .slotFire .. | .slotMessageDeliver ..
  | .echoProbe .. | .echoReturnRx .. | .stgLinkLost .. | .stgFaultExit .. | .stgLinkRestart .. | .stgMsgGo .. | .stgReplyTimeout ..
  | .stgIdentReply .. | .stgAuthRespReply .. | .stgConfigAckReply .. | .stgRouteReportReply .. | .stgStatusReply .. | .stgErrorReply ..
  | .ctlModeWrite .. | .ssOvercurrent .. | .shortSoftstart .. | .feedbackLost .. | .feedbackFrozen .. | .ctlXdisWrite .. | .rampDone ..
  | .ctlSwapGo .. | .swapLoad .. | .ctlInjGo .. | .ctlInjStop .. | .injectionStart .. | .injDone .. | .ctlCapArm .. | .ctlCapFire ..
  | .ctlCapStop .. | .capDone .. | .ctlHfrzRelease .. | .shedStart .. | .rotationDue .. | .routeRampOutEnd .. | .routeChangeSend ..
  | .allocationTick | .publicationDeadline | .parterreFallback | .invBreach .. | .headStale => true
  | .hostLimitExpiry limit => decide (limit ≤ 24)
  | .frontEndDataStale .. | .coolantDataStale .. => true
  | .dlpHello _ _ h body => h.wf && decide (body.length ≤ h.room)
  | .dlpAuthResp _ _ h body _ => h.wf && decide (body.length ≤ h.room)
  | .dlpKeepalive _ _ h body => h.wf && decide (body.length ≤ h.room)
  | .dlpWake _ _ h body => h.wf && decide (body.length ≤ h.room)
  | .dlpPlug _ _ h body => h.wf && decide (body.length ≤ h.room)
  | .dlpLockState _ _ h body => h.wf && decide (body.length ≤ h.room)
  | .dlpImdState _ _ h body => h.wf && decide (body.length ≤ h.room)
  | .dlpVehFrame _ _ h len _ => h.wf && decide (len ≤ h.room)
  | .dlpVehLink _ _ h body => h.wf && decide (body.length ≤ h.room)
  | .dlpHeadBlock _ _ h body _ => h.wf && decide (body.length ≤ h.room)
  | .dlpButton _ _ h body => h.wf && decide (body.length ≤ h.room)
  | .dlpCard _ _ h body => h.wf && decide (body.length ≤ h.room)
  | .dlpCoolStatus _ _ h body => h.wf && decide (body.length ≤ h.room)
  | .dlpError _ _ h body => h.wf && decide (body.length ≤ h.room)
  | .stopCurrentReached .. => true
  | .dlpRetxTimeout _ seq => inW seq
  | .dlpSendPoint | .dlpLaneDown .. | .dlpSupervisionTimeout .. | .dlkFaultExit .. | .dlkLinkRestart .. | .tLinkExpiry ..
  | .tAuthExpiry .. | .tLockExpiry .. | .tCcExpiry .. | .tPreExpiry .. | .tStopExpiry .. | .tLoopExpiry .. | .cardAnswerTimeout ..
  | .certAnswerTimeout .. | .preauthExpiry .. | .coolFlowLow .. => true
  | .headIdent _ _ h body => h.wf && decide (body.length ≤ h.room)
  | .headResp _ _ h body _ => h.wf && decide (body.length ≤ h.room)
  | .headStarted _ _ h body => h.wf && decide (body.length ≤ h.room)
  | .headStopped _ _ h body => h.wf && decide (body.length ≤ h.room)
  | .headStat _ _ h body => h.wf && decide (body.length ≤ h.room)
  | .headErr _ _ h body => h.wf && decide (body.length ≤ h.room)
  | .blockMissed .. | .blockLost .. | .metrologySave | .legalMramWrite .. | .metMtpWrite .. | .mtpPulse .. | .safetyInputDemand ..
  | .safetyInputHealthy .. | .testPulse .. | .siDiscrep .. | .siFaultClear .. | .safeResetPress | .resetJam | .resetJamClear
  | .offPulseCheck .. | .offChannelCheck .. | .gateClearTimeout .. | .postOpenDropWait .. | .postOpenTestEnd .. | .imdStale ..
  | .tCondStale .. | .degExpired | .classSBlockClear .. | .confirmLapse | .unlockHeld .. | .safEvsetWrite .. | .lswChannelOnWrite ..
  | .fastThresholdTrip .. | .overloadTrip .. | .thermalTrip .. => true
  | .bankLimit _ currents => decide (currents.length ≤ 32)
  | .bankOverload .. | .bankOverloadCut .. | .vbankLow .. | .vbankRestore .. | .bankEnterService .. | .retryWaitExpiry ..
  | .warmupEnd .. | .pullEnd .. | .startWindowEnd .. | .budgetRefresh .. | .attributionPendingExpiry .. | .attributedRestart ..
  | .openLoad .. | .switchFault .. | .lswBankRestore .. | .noClaim | .lswLatchRelease => true
  | .tcpConnect _ _ dport => inH dport
  | .netEchoRequest .. | .tlsHandshakeDone .. | .tlsHandshakeTimeout .. | .openTimeout .. => true
  | .rhpOpen _ majors role name => inB majors && inB role && decide (name.length = 32)
  | .rhpRequestRx _ tag code payload _ => inW tag && inH code && decide (payload.length ≤ 4104)
  | .rhpEventAck _ upTo => inW upTo
  | .rhpPing .. | .rhpPong .. | .rhpClose .. | .rhpPingTimer .. | .rhpKeepaliveTimeout .. | .tcpRetransmitTimeout .. | .hostLaneDown ..
  | .handleExpiry .. | .eventHoldExpiry .. | .requestTagExpiry .. | .lockIdleExpiry | .returnRequestExpiry => true
  | .sessionClose _ tag => inW tag
  | .eventSubscribe _ tag _ => inW tag
  | .opStatus _ tag handle => inW tag && inW handle
  | .opList _ tag => inW tag
  | .opCancel _ tag handle => inW tag && inW handle
  | .opRelease _ tag handle => inW tag && inW handle
  | .opRead _ tag handle offset count => inW tag && inW handle && inW offset && inH count
  | .timeSet _ tag utc => inW tag && inD utc
  | .siteLimitSet _ tag power ttl => inW tag && inW power && inW ttl
  | .siteStatusRead _ tag => inW tag
  | .outletLimitSet _ tag o power amps ttl pExp iExp => inW tag && inB o && inW power && inH amps && inW ttl && inW pExp && inH iExp
  | .outletOwn _ tag o _ => inW tag && inB o
  | .outletDisown _ tag o => inW tag && inB o
  | .outletPrioritySet _ tag o prio => inW tag && inB o && inB prio
  | .outletStart _ tag o ref => inW tag && inB o && decide (ref.length = 16)
  | .outletStop _ tag o => inW tag && inB o
  | .outletAuthAnswer _ tag o reqId result ref => inW tag && inB o && inW reqId && inB result && decide (ref.length = 16)
  | .outletCertAnswer _ tag o reqId answer => inW tag && inB o && inW reqId && decide (answer.length < 2 ^ 16)
  | .outletFaultClear _ tag o => inW tag && inB o
  | .outletServiceSet _ tag o value => inW tag && inB o && inB value
  | .outletStatusRead _ tag o => inW tag && inB o
  | .outletCommission _ tag o value => inW tag && inB o && inB value
  | .groupStatusRead _ tag g => inW tag && inB g
  | .deviceAttest _ tag nonce => inW tag && decide (nonce.length = 16)
  | .pavilionYield _ tag => inW tag
  | .pavilionRejoin _ tag pav => inW tag && inB pav
  | .bankRestore _ tag bank _ => inW tag && inB bank
  | .deviceReturn _ tag _ => inW tag
  | .serviceUnlockChallenge _ tag => inW tag
  | .serviceUnlockOpen _ tag unit chal _ => inW tag && inD unit && decide (chal.length = 16)
  | .configLockAcquire _ tag => inW tag
  | .configLockRelease _ tag => inW tag
  | .paramWrite _ tag record index offset data => inW tag && inH record && inB index && inH offset && decide (data.length ≤ 4104)
  | .paramCommit _ tag _ => inW tag
  | .safetyCheckRead _ tag => inW tag
  | .safetyConfirm _ tag _ => inW tag
  | .tuneCoeffLoad _ tag o apply set => inW tag && inB o && inW apply && decide (set.length ≤ 4104)
  | .tuneRun _ tag o inj cap => inW tag && inB o && decide (inj.length ≤ 4104) && decide (cap.length ≤ 4104)
  | .captureRead _ tag unit => inW tag && inB unit
  | .captureReadComplete .. => true
  | .logRead _ tag log start count => inW tag && inB log && inW start && inH count
  | .logReadComplete .. => true
  | .logAck _ tag slot txNo => inW tag && inH slot && inW txNo
  | .certInstall _ tag kind index mark chain => inW tag && inB kind && inB index && inB mark && decide (chain.length ≤ 4104)
  | .kuInstall _ tag msg _ _ _ _ => inW tag && decide (msg.length ≤ 4104)
  | .kuGenerate _ tag msg _ => inW tag && decide (msg.length ≤ 4104)
  | .kuInvalidate _ tag msg _ => inW tag && decide (msg.length ≤ 4104)
  | .kuReadpub _ tag msg => inW tag && decide (msg.length ≤ 4104)
  | .kuAdvance _ tag msg _ => inW tag && decide (msg.length ≤ 4104)
  | .keyUpdateComplete .. => true
  | .imageStageDelta _ tag length digest => inW tag && inW length && decide (digest.length = 32)
  | .imageStageFull _ tag length digest => inW tag && inW length && decide (digest.length = 32)
  | .imageData _ tag handle offset data _ _ => inW tag && inW handle && inW offset && decide (data.length ≤ 4104)
  | .imageActivate _ tag handle => inW tag && inW handle
  | .imageRollback _ tag => inW tag
  | .activationVerifyDone | .activationJoinTimeout | .warmElapsed | .slWaitExpiry => true
  | .canFrameRx _ _ f => f.wf
  | .canTxComplete .. | .canMailboxGo .. | .canMailboxAbort .. | .canDeadlineLapse .. | .canErrorPassive .. | .canBusOff ..
  | .canBusOn .. | .canFailed .. => true
  | .canWakeDetect _ frame => optWf frame
  | .mccSlotStart .. | .mccHopFail .. => true
  | .mccAck f => f.wf
  | .mccData f => f.wf
  | .mccJoinReq f => f.wf
  | .mccJoinResp f _ => f.wf
  | .mccLqiReport f => f.wf
  | .mccWake f => f.wf
  | .mccLeave f => f.wf
  | .mccLinkUnusableExpiry .. | .mccReachTimeout .. | .ghSign .. | .ghVerify .. | .ghKeyAgree .. | .ghChallenge .. | .ghCheckResp ..
  | .ghMac .. | .ghSeal .. | .ghOpen .. | .ghHash .. | .ghRandom .. | .ghCtxFree .. | .ghReadState .. | .ghRequestDone ..
  | .ghSelftestDone .. | .rngFail .. | .gatehouseGuardTrip .. | .supplyMonitorTrip .. | .vio33Loss .. | .brownOut | .nrstPulse ..
  | .powerOn | .deviceResetRelease .. | .bootImageCheckDone .. | .imageRecoveryDone .. | .startupLeaseWait .. | .discoveryStart
  | .sysEngineStart .. | .sysCommitGo .. | .sysPavilionReset .. | .fbrYield | .fbrRejoin .. | .idleTimerExpiry | .sleepEntry
  | .wakeDetect .. | .aonPadRelease | .controlledStopRestart .. | .thermalRecovered .. | .protocolSequenceTimeout .. => true
  | .dlpUnknownPdu _ _ h _ body => h.wf && decide (body.length ≤ h.room)
  | .mccCrcFail | .canHeldFrameExpiry .. | .returnCloseTimeout | .returnLifecycleReset => true

end Sys2Proof
end

