-- ==== Sys2Proof/Safety.lean ====
section
/-! DEFINITION. What a sound state is: what the spec's rules on the engines' register files, queues and write buffers promise of every
state, and the canonical form of the memories; and the words the statements use. -/
namespace Sys2Proof.Machine

/-- The stored g0 is 0 (R110), no queue holds more than 16 entries (R27), and the write buffer holds at most 4 stores (R124). -/
def Engine.sound (en : Engine) : Bool :=
  en.gpr.get 0 = 0 && (List.finRange 8).all (fun q => decide ((en.queues.get q).length ≤ 16)) && decide (en.wbuf.length ≤ 4)
/-- The engines of both pavilions. -/
def State.enginesSound (s : State) : Prop := ∀ (p : Pav) (e : Eng), (s.site.eng p e).sound = true

/-- The memories of one pavilion that its engines and the boot share: ITCMs and DTCMs, shared SRAM, MRAM, windows (R23, R26). -/
def Local.memWf (l : Local) : Bool :=
  (List.finRange 12).all (fun e => (l.eng e).itcm.wf && (l.eng e).dtcm.wf) && l.sram.wf && l.mram.wf && l.inWin.wf && l.outWin.wf &&
    (match l.inNext with | some m => m.wf | none => true)
/-- Every memory of the site is in canonical form; the legal MRAM is held in two copies (R20, R326). -/
def State.memWf (s : State) : Prop :=
  (∀ p : Pav, (s.site.pav p).loc.memWf = true) ∧ s.site.com.legalA.wf = true ∧ s.site.com.legalB.wf = true

/-- A sound state. -/
def State.sound (s : State) : Prop := s.enginesSound ∧ s.memWf

/-- Both pavilions in redundant running: Pavilion A leads, Pavilion B follows, both in step (R74, R75). -/
def State.redundantA (s : State) : Prop := s.site.role .A = roleLeader ∧ s.site.role .B = roleFollower

/-! ### Words of the statements -/

/-- One engine changed, all else as it was. -/
def State.upd (s : State) (p : Pav) (e : Eng) (f : Engine → Engine) : State := { s with site := s.site.modEng p e f }
/-- D := v and the next instruction; nothing else changes. -/
def State.put (s : State) (p : Pav) (e : Eng) (d : Gpr) (v : Engine → Word) : State := s.upd p e fun en => (en.setG d (v en)).next
/-- D := the exact value x brought into −2^31 to 2^31 − 1, Q set where x lies beyond it, the next instruction (R118). -/
def State.putSat (s : State) (p : Pav) (e : Eng) (d : Gpr) (x : Engine → Int) : State :=
  s.upd p e fun en =>
    ((en.setG d (BitVec.ofInt 32 (max (-2147483648) (min 2147483647 (x en))))).stick flagQ
      (decide (x en < -2147483648) || decide (2147483647 < x en))).next
/-- The engine takes an exception. -/
def State.raises (s : State) (p : Pav) (e : Eng) (cause : Nat) (eaddr : Word) : State :=
  { s with site := s.site.exception p e cause eaddr }
/-- An access that R25 or R26 refuses: it is counted in SYS as a bus error, and the engine takes ACCESS (R26, R123). -/
def State.refuses (s : State) (p : Pav) (e : Eng) (a : Word) : State := { s with site := s.site.refuseAccess p e exACCESS a }
/-- What holds of the replica of every pavilion in step (R33). -/
def State.steps (s : State) (P : Replica → Prop) : Prop := ∀ p : Pav, (s.site.pav p).inStep = true → P (s.site.pav p).rep
/-- What holds of the replica of every pavilion in step, before and after a command. -/
def State.stepsTo (s t : State) (P : Replica → Replica → Prop) : Prop :=
  ∀ p : Pav, (s.site.pav p).inStep = true → P (s.site.pav p).rep (t.site.pav p).rep

/-- The replica once a PDU has been noted and its acknowledgements taken (R290, R291). -/
def Replica.received (r : Replica) (d : Nat) (lane : Lane) (h : DlpHdr) : Replica :=
  let x := r.dl d
  let r := r.setDl d (match lane with | .A => { x with heardA := true } | .B => { x with heardB := true })
  (r.setDl d ((r.dl d).note h.seq)).takeAcks d h
/-- A PDU of a TYPE comes in on a lane in use of a link that is enabled, is whole, passes the tag rule, is not a repetition, and the
version in use has its TYPE (R286 to R290, R294). -/
def Replica.passes (r : Replica) (d : Nat) (lane : Lane) (h : DlpHdr) (type minVer : Nat) : Prop :=
  r.rd .DLK_LCFG_EN_LINK d ≠ 0 ∧ (lane = .A ∨ r.lanesOf d = 2) ∧ h.valid = true ∧ r.tagRule d lane h type = 0 ∧
    (r.dl d).fresh h.seq = true ∧ minVer ≤ (r.received d lane h).rd .DLK_LSTATE_VER d

/-- A message of the host is heard: its session is open, and its trust anchor and the slots up its chain are ACTIVE (R429, R507). -/
def Replica.hears (r : Replica) (n : Nat) : Prop :=
  (r.ses n).phase = 3 ∧ r.keyState (r.ses n).anchor = 1 ∧ ((r.keyChain 4 (r.ses n).anchor).all fun k => r.keyState k = 1) = true
/-- The session is open, its role may send the command, and it holds the configuration lock where one is needed (R440, R448). -/
def Replica.maySend (r : Replica) (n : Nat) (roles : List Nat) (lock : Bool) : Prop := (r.ses n).phase = 3 ∧ r.admits n roles lock = none
/-- A response to a request of the session has been sent (R431, R437). -/
def Replica.answers (r : Replica) (n tag code : Nat) (y : Resp) : Prop :=
  Tx.rhp n mkResponse 0 tag code y.status y.handle (leBytes 4 y.detail ++ y.body) ∈ r.tx
/-- A new operation has a free index and lies within the quota of its session's role (R441). -/
def Replica.opRoom (r : Replica) (n : Nat) : Prop :=
  (∃ i < 512, ∀ x ∈ r.hosts.ops, x.index ≠ i) ∧
    (r.hosts.ops.filter fun x => x.principal = (r.ses n).principal).length < r.quotaOf (r.ses n).role
/-- A command has been accepted: its response carries the handle of a new operation of a kind, not done (R441). -/
def Replica.accepts (r : Replica) (n tag code : Nat) (kind : OpKind) : Prop :=
  ∃ x ∈ r.hosts.ops, x.kind = kind ∧ x.done = false ∧ x.principal = (r.ses n).principal ∧
    r.answers n tag code { status := hsAccepted, handle := x.handle }
/-- key.update at its position (R506): accepted with an operation that holds the code of Table KEY-5 and its result. -/
def Replica.keyAccepts (r : Replica) (n tag slot code : Nat) (x : HostOp) : Prop :=
  x ∈ r.hosts.ops ∧ x.kind = .keyUpdate slot ∧ x.done = false ∧ x.detail = code ∧ x.result = (if code = 0 then hsOk else hsFailed) ∧
    r.answers n tag 0x0802 { status := hsAccepted, handle := x.handle } ∧ r.rd .KEY_STATUS_BUSY = 1
/-- The descriptor at an address of shared SRAM, and what it names (R518). -/
def Local.ghDesc (l : Local) (desc : Word) : List Byte := l.sram.rdBytes desc.toNat 64
def Local.ghReq (l : Local) (desc : Word) : GhReq :=
  let d := l.ghDesc desc
  { slot := byteAt d 2, ctx := byteAt d 3, input := l.sram.rdBytes (fieldAt d 8 4) (min 65536 (fieldAt d 12 4)), outLen := fieldAt d 20 4
    param := d.drop 28 }
/-- No outlet is in COMMISSION, so that the end of the configuration lock changes no outlet (R448). -/
def Replica.calm (r : Replica) : Prop := ∀ o < 24, r.ostate o ≠ osCommission

/-- The commands whose whole effect is one at an input-log position (R33): the timers, messages and requests that change the replicated
state of the pavilions in step and write their journals, and nothing else. -/
def atLog : Instr → Bool
  | .stgLinkLost _ | .stgFaultExit _ | .stgLinkRestart _ | .stgMsgGo _ _ _ | .stgReplyTimeout _ | .stgAuthRespReply _ _
  | .stgConfigAckReply _ | .stgRouteReportReply _ | .stgStatusReply _ | .stgErrorReply _ | .ctlModeWrite _ _ | .ssOvercurrent _
  | .shortSoftstart _ | .feedbackLost _ | .feedbackFrozen _ | .ctlXdisWrite _ | .rampDone _ | .ctlSwapGo _ | .ctlInjGo _ | .ctlInjStop _
  | .injectionStart _ | .injDone _ | .ctlCapArm _ | .ctlCapFire _ | .ctlCapStop _ | .shedStart _ | .rotationDue _ | .parterreFallback
  | .invBreach _ | .headStale | .hostLimitExpiry _ | .frontEndDataStale _ | .coolantDataStale _ | .stopCurrentReached _
  | .dlpRetxTimeout _ _ | .dlpSendPoint | .dlpLaneDown _ _ | .dlpSupervisionTimeout _ | .dlkFaultExit _ | .dlkLinkRestart _
  | .tLinkExpiry _ | .tAuthExpiry _ | .tLockExpiry _ | .tCcExpiry _ | .tPreExpiry _ | .tStopExpiry _ | .tLoopExpiry _
  | .cardAnswerTimeout _ | .certAnswerTimeout _ | .preauthExpiry _ | .coolFlowLow _ | .blockMissed _ | .blockLost _ | .metrologySave
  | .metMtpWrite _ _ | .mtpPulse _ | .gateClearTimeout _ | .postOpenDropWait _ | .postOpenTestEnd _ | .imdStale _ | .tCondStale _
  | .degExpired | .classSBlockClear _ | .confirmLapse | .unlockHeld _ | .safEvsetWrite _ | .rhpOpen _ _ _ _ | .rhpEventAck _ _
  | .rhpPing _ | .rhpPong _ | .rhpClose _ | .rhpPingTimer _ | .rhpKeepaliveTimeout _ | .tcpRetransmitTimeout _ | .hostLaneDown _ _
  | .handleExpiry _ | .eventHoldExpiry _ | .requestTagExpiry _ | .lockIdleExpiry | .returnRequestExpiry | .sessionClose _ _
  | .timeSet _ _ _ | .logReadComplete _ | .keyUpdateComplete _ | .canMailboxGo _ _ | .canMailboxAbort _ _ | .canDeadlineLapse _ _
  | .canErrorPassive _ _ _ | .canBusOff _ | .canBusOn _ | .canFailed _ | .mccSlotStart _ _ | .mccHopFail _ | .mccLinkUnusableExpiry _
  | .mccReachTimeout _ | .discoveryStart | .protocolSequenceTimeout _ | .mccCrcFail | .stgIdentReply _ | .eventSubscribe _ _ _
  | .opStatus _ _ _ | .opList _ _ | .opCancel _ _ _ | .opRelease _ _ _ | .opRead _ _ _ _ _ | .siteLimitSet _ _ _ _ | .siteStatusRead _ _
  | .outletLimitSet _ _ _ _ _ _ _ _ | .outletOwn _ _ _ _ | .outletDisown _ _ _ | .outletPrioritySet _ _ _ _ | .outletStart _ _ _ _
  | .outletStop _ _ _ | .outletAuthAnswer _ _ _ _ _ _ | .outletCertAnswer _ _ _ _ _ | .outletFaultClear _ _ _
  | .outletServiceSet _ _ _ _ | .outletStatusRead _ _ _ | .outletCommission _ _ _ _ | .groupStatusRead _ _ _ | .deviceAttest _ _ _
  | .deviceReturn _ _ _ | .serviceUnlockOpen _ _ _ _ _ | .configLockAcquire _ _ | .configLockRelease _ _ | .paramWrite _ _ _ _ _ _
  | .safetyCheckRead _ _ | .safetyConfirm _ _ _ | .tuneCoeffLoad _ _ _ _ _ | .tuneRun _ _ _ _ _ | .captureRead _ _ _
  | .logRead _ _ _ _ _ | .logAck _ _ _ _ | .certInstall _ _ _ _ _ _ | .imageStageDelta _ _ _ _ | .imageStageFull _ _ _ _
  | .imageActivate _ _ _ | .imageRollback _ _ | .dlpHello _ _ _ _ | .dlpAuthResp _ _ _ _ _ | .dlpKeepalive _ _ _ _ | .dlpWake _ _ _ _
  | .dlpButton _ _ _ _ | .dlpCard _ _ _ _ | .dlpError _ _ _ _ | .dlpUnknownPdu _ _ _ _ _ | .dlpPlug _ _ _ _ | .dlpLockState _ _ _ _
  | .dlpImdState _ _ _ _ | .dlpVehFrame _ _ _ _ _ | .dlpVehLink _ _ _ _ | .dlpHeadBlock _ _ _ _ _ | .dlpCoolStatus _ _ _ _
  | .headIdent _ _ _ _ | .headResp _ _ _ _ _ | .headStarted _ _ _ _ | .headStopped _ _ _ _ | .headStat _ _ _ _ | .headErr _ _ _ _ => true
  | _ => false

/-- The pavilion a command keeps to: its own engine, its Gatehouse or its link receivers act, and the other pavilion and the common
block hear nothing of it. -/
def keepsTo : Instr → Option Pav
  | .add p _ _ _ _ | .sub p _ _ _ _ | .and p _ _ _ _ | .or p _ _ _ _ | .xor p _ _ _ _ | .sll p _ _ _ _ | .srl p _ _ _ _ | .sra p _ _ _ _
  | .slt p _ _ _ _ | .sltu p _ _ _ _ | .addc p _ _ _ _ | .subc p _ _ _ _ | .adds p _ _ _ _ | .subs p _ _ _ _ | .min p _ _ _ _
  | .max p _ _ _ _ | .minu p _ _ _ _ | .maxu p _ _ _ _ | .abss p _ _ _ | .clz p _ _ _ | .mul p _ _ _ _ | .mulh p _ _ _ _
  | .mulhu p _ _ _ _ | .mulq p _ _ _ _ | .div p _ _ _ _ | .divu p _ _ _ _ | .rem p _ _ _ _ | .remu p _ _ _ _ | .addi p _ _ _ _
  | .andi p _ _ _ _ | .ori p _ _ _ _ | .xori p _ _ _ _ | .slti p _ _ _ _ | .sltiu p _ _ _ _ | .slli p _ _ _ _ | .srli p _ _ _ _
  | .srai p _ _ _ _ | .lhi p _ _ _ _ | .addsi p _ _ _ _ | .jal p _ _ _ | .nop p _ | .fence p _ | .ghSign p _ _ | .ghVerify p _ _ _
  | .ghKeyAgree p _ _ | .ghChallenge p _ _ | .ghCheckResp p _ _ _ | .ghMac p _ _ | .ghSeal p _ _ | .ghOpen p _ _ _ | .ghHash p _ _
  | .ghRandom p _ _ | .ghCtxFree p _ _ | .ghReadState p _ _ | .interruptEntry p _ | .awaitWake p _ | .mrcvWake p _ | .msndWake p _
  | .wfiWake p _ | .fenceComplete p _ | .stgSampleFrameRx p _ _ _ | .footbridgeFrameRx p _ _ _ | .leaseRenewalRx p | .echoProbe p _
  | .echoReturnRx p _ _ _ | .ghRequestDone p | .ghSelftestDone p _ | .canHeldFrameExpiry p _ _ => some p
  | _ => none

end Sys2Proof.Machine
end

