-- ==== Sys2Proof/Certificates/Slice0/Obligations.lean ====
section
/-! DEFINITION. The statements about the model, from the numbered rules of the spec. -/
open Sys2Proof Sys2Proof.Machine

/-- A step carries out the command at the front of the queue on the rest -/
def Obligations.StepRunsFrontCommand : Prop :=
  ∀ (c : Instr) (rest : List Instr) (s : State), s.pending = c :: rest → step s = exec c { s with pending := rest }

/-- No command faults or is refused, and none touches the queue -/
def Obligations.EveryCommandIsCarriedOut : Prop :=
  ∀ (c : Instr) (s : State), ∃ t : Site, exec c s = .next { s with site := t }

/-- With no command waiting, one 5 ns tick passes. Rests in part on the model's choices of log entry 4 -/
def Obligations.EmptyQueueIsOneTick : Prop :=
  ∀ s : State, s.pending = [] → ∃ t : State, step s = .next t ∧ t.pending = [] ∧ t.site.ticks = s.site.ticks + 1 ∧
    t.site.com.sun.a.rate = s.site.com.sun.a.rate ∧ t.site.com.sun.b.rate = s.site.com.sun.b.rate

/-- After power-on reset nothing runs, no memory holds a byte and the registers stand at their reset values. Rests in part on the model's choices of log entries 3, 62, 183 -/
def Obligations.ResetLeaves : Prop :=
  let s := State.reset
  (∀ (p : Pav) (e : Eng), s.site.eng p e = {}) ∧ ({} : Engine).run = .stopped ∧ ({} : Engine).gpr = Vector.replicate 32 0 ∧
    ({} : Engine).acc = Vector.replicate 8 0 ∧ ({} : Engine).flags = 0 ∧
    (∀ p : Pav, (s.site.pav p).loc.inReset = true ∧ (s.site.pav p).loc.sram = [] ∧ (s.site.pav p).loc.mram = [] ∧
      s.site.role p = roleSetAside ∧ (s.site.pav p).loc.rd .FBR_CTRL_MODE = Field.FBR_CTRL_MODE.info.reset ∧
      (∀ (f : Field) (i : Nat), (s.site.pav p).loc.rd f i = f.info.reset)) ∧
    (∀ (f : Field) (i : Nat), s.site.com.rd f i = f.info.reset) ∧ s.pending = []

/-- The state after reset is sound -/
def Obligations.ResetIsSound : Prop :=
  State.reset.sound

/-- Every step keeps g0 at zero, every queue within 16 entries and every write buffer within 4 stores -/
def Obligations.EveryStepKeepsEnginesSound : Prop :=
  ∀ s t : State, s.enginesSound → step s = .next t → t.enginesSound

/-- Every step keeps every memory of the site in canonical form -/
def Obligations.EveryStepKeepsMemoriesCanonical : Prop :=
  ∀ s t : State, s.memWf → step s = .next t → t.memWf

/-- A register field holds what was written, cut to its width, and raising a flag counts its event -/
def Obligations.RegisterFieldLaws : Prop :=
  ∀ (r : Regs) (f g : Field) (v i j : Nat),
    (r.wr f v i).rd f i = v % 2 ^ f.info.width ∧ ((g ≠ f ∨ j ≠ i) → (r.wr f v i).rd g j = r.rd g j) ∧
      ∀ (c : Field) (k : Nat), f.info.acc = .W1C → f.info.width = 1 → f.counter i = some (c, k) → c ≠ f →
        (r.raise f i).rd f i = 1 ∧ (r.raise f i).rd c k = (r.rd c k + 1) % 2 ^ c.info.width

/-- Class 0x0 without saturation: results, and nothing else changes -/
def Obligations.RegisterAluResults : Prop :=
  ∀ (p : Pav) (e : Eng) (d s1 s2 : Gpr) (s : State), s.site.ready p e = true →
    exec (.add p e d s1 s2) s = .next (s.put p e d fun en => en.g s1 + en.g s2) ∧
    exec (.sub p e d s1 s2) s = .next (s.put p e d fun en => en.g s1 - en.g s2) ∧
    exec (.and p e d s1 s2) s = .next (s.put p e d fun en => en.g s1 &&& en.g s2) ∧
    exec (.or p e d s1 s2) s = .next (s.put p e d fun en => en.g s1 ||| en.g s2) ∧
    exec (.xor p e d s1 s2) s = .next (s.put p e d fun en => en.g s1 ^^^ en.g s2) ∧
    exec (.sll p e d s1 s2) s = .next (s.put p e d fun en => en.g s1 <<< ((en.g s2).toNat % 32)) ∧
    exec (.srl p e d s1 s2) s = .next (s.put p e d fun en => en.g s1 >>> ((en.g s2).toNat % 32)) ∧
    exec (.sra p e d s1 s2) s = .next (s.put p e d fun en => (en.g s1).sshiftRight ((en.g s2).toNat % 32)) ∧
    exec (.slt p e d s1 s2) s = .next (s.put p e d fun en => if (en.g s1).toInt < (en.g s2).toInt then 1 else 0) ∧
    exec (.sltu p e d s1 s2) s = .next (s.put p e d fun en => if (en.g s1).toNat < (en.g s2).toNat then 1 else 0) ∧
    exec (.min p e d s1 s2) s = .next (s.put p e d fun en => BitVec.ofInt 32 (min (en.g s1).toInt (en.g s2).toInt)) ∧
    exec (.max p e d s1 s2) s = .next (s.put p e d fun en => BitVec.ofInt 32 (max (en.g s1).toInt (en.g s2).toInt)) ∧
    exec (.minu p e d s1 s2) s = .next (s.put p e d fun en => BitVec.ofNat 32 (min (en.g s1).toNat (en.g s2).toNat)) ∧
    exec (.maxu p e d s1 s2) s = .next (s.put p e d fun en => BitVec.ofNat 32 (max (en.g s1).toNat (en.g s2).toNat)) ∧
    exec (.mul p e d s1 s2) s = .next (s.put p e d fun en => BitVec.ofNat 32 ((en.g s1).toNat * (en.g s2).toNat)) ∧
    exec (.mulh p e d s1 s2) s = .next (s.put p e d fun en => BitVec.ofInt 32 ((en.g s1).toInt * (en.g s2).toInt / 2 ^ 32)) ∧
    exec (.mulhu p e d s1 s2) s = .next (s.put p e d fun en => BitVec.ofNat 32 ((en.g s1).toNat * (en.g s2).toNat / 2 ^ 32))

/-- Carry chains, saturating results, leading zeros and the division corners -/
def Obligations.CarrySaturationDivisionResults : Prop :=
  ∀ (p : Pav) (e : Eng) (d s1 s2 : Gpr) (s : State), s.site.ready p e = true →
    (exec (.addc p e d s1 s2) s = .next (s.upd p e fun en =>
      let x := (en.g s1).toNat + (en.g s2).toNat + (en.flag flagC).toNat
      ((en.setG d (BitVec.ofNat 32 x)).setFlag flagC (decide (2 ^ 32 ≤ x))).next)) ∧
    (exec (.subc p e d s1 s2) s = .next (s.upd p e fun en =>
      let x := (en.g s1).toNat + (2 ^ 32 - 1 - (en.g s2).toNat) + (en.flag flagC).toNat
      ((en.setG d (BitVec.ofNat 32 x)).setFlag flagC (decide (2 ^ 32 ≤ x))).next)) ∧
    exec (.adds p e d s1 s2) s = .next (s.putSat p e d fun en => (en.g s1).toInt + (en.g s2).toInt) ∧
    exec (.subs p e d s1 s2) s = .next (s.putSat p e d fun en => (en.g s1).toInt - (en.g s2).toInt) ∧
    exec (.abss p e d s1) s = .next (s.putSat p e d fun en => ((en.g s1).toInt.natAbs : Int)) ∧
    exec (.mulq p e d s1 s2) s = .next (s.putSat p e d fun en => ((en.g s1).toInt * (en.g s2).toInt + 2 ^ 30) / 2 ^ 31) ∧
    exec (.clz p e d s1) s = .next (s.put p e d fun en => BitVec.ofNat 32 (if en.g s1 = 0 then 32 else 31 - (en.g s1).toNat.log2)) ∧
    ((s.site.eng p e).g s2 ≠ 0 →
      exec (.div p e d s1 s2) s = .next (s.putSat p e d fun en => (en.g s1).toInt.tdiv (en.g s2).toInt) ∧
      exec (.divu p e d s1 s2) s = .next (s.put p e d fun en => BitVec.ofNat 32 ((en.g s1).toNat / (en.g s2).toNat)) ∧
      exec (.rem p e d s1 s2) s = .next (s.put p e d fun en => BitVec.ofInt 32 ((en.g s1).toInt.tmod (en.g s2).toInt)) ∧
      exec (.remu p e d s1 s2) s = .next (s.put p e d fun en => BitVec.ofNat 32 ((en.g s1).toNat % (en.g s2).toNat))) ∧
    ((s.site.eng p e).g s2 = 0 →
      let z (v : Engine → Word) : State := s.upd p e fun en => ((en.setG d (v en)).next).setFlag flagDZ true
      exec (.div p e d s1 s2) s = .next (z fun en => if 0 ≤ (en.g s1).toInt then 0x7FFFFFFF else 0x80000000) ∧
      exec (.divu p e d s1 s2) s = .next (z fun _ => 0xFFFFFFFF) ∧
      exec (.rem p e d s1 s2) s = .next (z fun en => en.g s1) ∧ exec (.remu p e d s1 s2) s = .next (z fun en => en.g s1)) ∧
    ((s.site.eng p e).g s1 = 0x80000000 → (s.site.eng p e).g s2 = 0xFFFFFFFF →
      exec (.div p e d s1 s2) s = .next (s.upd p e fun en => ((en.setG d 0x7FFFFFFF).next).setFlag flagQ true) ∧
      exec (.rem p e d s1 s2) s = .next (s.put p e d fun _ => 0))

/-- Class 0x1: results, and nothing else changes -/
def Obligations.ImmediateAluResults : Prop :=
  ∀ (p : Pav) (e : Eng) (d s1 : Gpr) (imm : BitVec 14) (sh : BitVec 5) (s : State), s.site.ready p e = true →
    exec (.addi p e d s1 imm) s = .next (s.put p e d fun en => en.g s1 + imm.signExtend 32) ∧
    exec (.andi p e d s1 imm) s = .next (s.put p e d fun en => en.g s1 &&& imm.setWidth 32) ∧
    exec (.ori p e d s1 imm) s = .next (s.put p e d fun en => en.g s1 ||| imm.setWidth 32) ∧
    exec (.xori p e d s1 imm) s = .next (s.put p e d fun en => en.g s1 ^^^ imm.setWidth 32) ∧
    exec (.slti p e d s1 imm) s = .next (s.put p e d fun en => if (en.g s1).toInt < imm.toInt then 1 else 0) ∧
    exec (.sltiu p e d s1 imm) s = .next (s.put p e d fun en => if (en.g s1).toNat < (imm.signExtend 32).toNat then 1 else 0) ∧
    exec (.slli p e d s1 sh) s = .next (s.put p e d fun en => en.g s1 <<< sh.toNat) ∧
    exec (.srli p e d s1 sh) s = .next (s.put p e d fun en => en.g s1 >>> sh.toNat) ∧
    exec (.srai p e d s1 sh) s = .next (s.put p e d fun en => (en.g s1).sshiftRight sh.toNat) ∧
    exec (.lhi p e d s1 imm) s = .next (s.put p e d fun en => (en.g s1 <<< 14) ||| imm.setWidth 32) ∧
    exec (.addsi p e d s1 imm) s = .next (s.putSat p e d fun en => (en.g s1).toInt + imm.toInt)

/-- Branches, jumps and calls: targets, links, and FETCH outside ITCM -/
def Obligations.BranchesAndJumps : Prop :=
  ∀ (p : Pav) (e : Eng) (d s1 : Gpr) (off : BitVec 15) (imm : BitVec 16) (s : State), s.site.ready p e = true →
    let en := s.site.eng p e
    let t : Word := en.pc + (off.signExtend 32) <<< 2
    let goes (c : Instr) (cond : Prop) : Prop :=
      (cond → t.toNat < 0x40000 → exec c s = .next (s.upd p e fun en => { en with pc := t })) ∧
      (cond → ¬ t.toNat < 0x40000 → exec c s = .next (s.raises p e exFETCH t)) ∧
      (¬ cond → exec c s = .next (s.upd p e fun en => { en with pc := en.pc + 4 }))
    goes (.beq p e d s1 off) (en.g s1 = en.g d) ∧ goes (.bne p e d s1 off) (en.g s1 ≠ en.g d) ∧
    goes (.blt p e d s1 off) ((en.g s1).toInt < (en.g d).toInt) ∧ goes (.bge p e d s1 off) ((en.g d).toInt ≤ (en.g s1).toInt) ∧
    goes (.bltu p e d s1 off) ((en.g s1).toNat < (en.g d).toNat) ∧ goes (.bgeu p e d s1 off) ((en.g d).toNat ≤ (en.g s1).toNat) ∧
    (s1.val ≤ 10 → goes (.bfs p e s1 off) (en.flag s1.val = true ∧ (loopProfile e = true → s1.val < 8)) ∧
      goes (.bfc p e s1 off) (¬ (en.flag s1.val = true ∧ (loopProfile e = true → s1.val < 8)))) ∧
    (10 < s1.val → (∃ w, exec (.bfs p e s1 off) s = .next (s.raises p e exILLEGAL w)) ∧
      ∃ w, exec (.bfc p e s1 off) s = .next (s.raises p e exILLEGAL w)) ∧
    exec (.jal p e d imm) s = .next (s.upd p e fun en => { en.setG d (en.pc + 4) with pc := BitVec.ofNat 32 (imm.toNat * 4) }) ∧
    (let j : Word := (en.g s1 + imm.signExtend 32) &&& 0xFFFFFFFC
     (j.toNat < 0x40000 → exec (.jalr p e d s1 imm) s = .next (s.upd p e fun en => { en.setG d (en.pc + 4) with pc := j })) ∧
     (¬ j.toNat < 0x40000 → exec (.jalr p e d s1 imm) s = .next (s.raises p e exFETCH j))) ∧
    (¬ en.pc.toNat < 0x40000 → exec (.sequentialFetchBeyondItcm p e) s = .next (s.raises p e exFETCH en.pc))

/-- Loads read the bytes at the effective address with their width and extension. Rests in part on the model's choices of log entry 3 -/
def Obligations.LoadsReadTheirMemory : Prop :=
  ∀ (p : Pav) (e : Eng) (d base : Gpr) (off : BitVec 15) (s : State), s.site.ready p e = true → (s.site.eng p e).wbuf = [] →
    let a : Word := (s.site.eng p e).g base + off.signExtend 32
    let rd (n : Nat) : Engine → Nat := fun en =>
      if a.toNat < 0x40000 then en.itcm.rdN a.toNat n else if a.toNat < 0x60000 then en.dtcm.rdN a.toNat n
      else (s.site.pav p).loc.sram.rdN a.toNat n
    let plain : Prop := a.toNat < 0x60000 ∨ (e ≠ gatehouse ∧ 0x10000000 ≤ a.toNat ∧ a.toNat < 0x10400000)
    (plain → exec (.lb p e d base off .none) s = .next (s.put p e d fun en => (BitVec.ofNat 8 (rd 1 en)).signExtend 32)) ∧
    (plain → exec (.lbu p e d base off .none) s = .next (s.put p e d fun en => BitVec.ofNat 32 (rd 1 en))) ∧
    (plain → a.toNat % 2 = 0 →
      exec (.lh p e d base off .none) s = .next (s.put p e d fun en => (BitVec.ofNat 16 (rd 2 en)).signExtend 32) ∧
      exec (.lhu p e d base off .none) s = .next (s.put p e d fun en => BitVec.ofNat 32 (rd 2 en))) ∧
    (plain → a.toNat % 4 = 0 → exec (.lw p e d base off .none) s = .next (s.put p e d fun en => BitVec.ofNat 32 (rd 4 en))) ∧
    (∀ ecc : Ecc, a.toNat % 2 ≠ 0 → exec (.lh p e d base off ecc) s = .next (s.raises p e exALIGN a) ∧
      exec (.lhu p e d base off ecc) s = .next (s.raises p e exALIGN a)) ∧
    (∀ ecc : Ecc, a.toNat % 4 ≠ 0 → exec (.lw p e d base off ecc) s = .next (s.raises p e exALIGN a)) ∧
    (∀ ecc : Ecc, a.toNat % 4 = 0 → regionOf a.toNat = .none → exec (.lw p e d base off ecc) s = .next (s.refuses p e a)) ∧
    (plain → a.toNat % 4 = 0 → ∃ t : Site, exec (.lw p e d base off .double) s = .next { s with site := t.exception p e exECC a } ∧
      t.eng p e = s.site.eng p e)

/-- Stores wait in the 4-entry write buffer and take effect in program order -/
def Obligations.StoresEnterTheWriteBuffer : Prop :=
  ∀ (p : Pav) (e : Eng) (src base : Gpr) (off : BitVec 15) (s : State), s.site.ready p e = true →
    (s.site.eng p e).wbuf.length < 4 →
    let a : Word := (s.site.eng p e).g base + off.signExtend 32
    let buf (n : Nat) : State := s.upd p e fun en =>
      { en with wbuf := en.wbuf ++ [⟨a, n, BitVec.ofNat 32 ((en.g src).toNat % 256 ^ n)⟩], pc := en.pc + 4 }
    (a.toNat < 0x60000 → exec (.sb p e src base off) s = .next (buf 1)) ∧
    (a.toNat < 0x60000 → a.toNat % 2 = 0 → exec (.sh p e src base off) s = .next (buf 2)) ∧
    (a.toNat < 0x60000 → a.toNat % 4 = 0 → exec (.sw p e src base off) s = .next (buf 4)) ∧
    (a.toNat % 2 ≠ 0 → exec (.sh p e src base off) s = .next (s.raises p e exALIGN a)) ∧
    (a.toNat % 4 ≠ 0 → exec (.sw p e src base off) s = .next (s.raises p e exALIGN a)) ∧
    (regionOf a.toNat = .none → exec (.sb p e src base off) s = .next (s.refuses p e a))

/-- A load returns the data of an earlier store to the same word, buffered or not, and a store leaves other bytes alone -/
def Obligations.StoreThenLoadReturnsIt : Prop :=
  ∀ (p : Pav) (e : Eng) (src base d : Gpr) (off : BitVec 15) (s t : State), s.site.ready p e = true → (s.site.eng p e).wbuf = [] →
    d ≠ 0 → let a : Word := (s.site.eng p e).g base + off.signExtend 32
    0x40000 ≤ a.toNat → a.toNat < 0x60000 → a.toNat % 4 = 0 → exec (.sw p e src base off) s = .next t →
      ∃ u : State, exec (.lw p e d base off .none) t = .next u ∧ (u.site.eng p e).g d = (s.site.eng p e).g src ∧
        ∀ c : Nat, (c < a.toNat ∨ a.toNat + 4 ≤ c) → (u.site.eng p e).dtcm.rd c = (s.site.eng p e).dtcm.rd c

/-- nop, special registers, fence, and eret -/
def Obligations.SpecialRegistersAndFences : Prop :=
  ∀ (p : Pav) (e : Eng) (d s1 : Gpr) (opd : BitVec 12) (s : State),
    (s.site.ready p e = true →
      let en := s.site.eng p e
      exec (.nop p e) s = .next (s.upd p e fun en => { en with pc := en.pc + 4 }) ∧
      (sprAccess opd.toNat ≠ none →
        exec (.sprd p e d opd) s = .next (s.put p e d fun _ => s.site.sprRead p e opd.toNat) ∧
        exec (.spwr p e s1 opd) s = .next (s.upd p e fun en => (en.sprWrite e opd.toNat (en.g s1)).next)) ∧
      (sprAccess opd.toNat = some .RW →
        exec (.sprs p e s1 opd) s = .next (s.upd p e fun en => (en.sprWrite e opd.toNat (s.site.sprRead p e opd.toNat ||| en.g s1)).next) ∧
        exec (.sprc p e s1 opd) s = .next (s.upd p e fun en => (en.sprWrite e opd.toNat (s.site.sprRead p e opd.toNat &&& ~~~(en.g s1))).next)) ∧
      (sprAccess opd.toNat ≠ some .RW → (∃ w, exec (.sprs p e s1 opd) s = .next (s.raises p e exILLEGAL w)) ∧
        ∃ w, exec (.sprc p e s1 opd) s = .next (s.raises p e exILLEGAL w)) ∧
      (sprAccess opd.toNat = none → (∃ w, exec (.sprd p e d opd) s = .next (s.raises p e exILLEGAL w)) ∧
        ∃ w, exec (.spwr p e s1 opd) s = .next (s.raises p e exILLEGAL w)) ∧
      (en.wbuf = [] → exec (.fence p e) s = .next (s.upd p e fun en => { en with pc := en.pc + 4 })) ∧
      (en.wbuf ≠ [] → exec (.fence p e) s = .next (s.upd p e fun en => { en with wait := .fence })) ∧
      (loopProfile e = false → en.epc.toNat < 0x40000 → exec (.eret p e) s = .next (s.upd p e fun en =>
        { (en.setFlag flagIE (en.flag flagPIE)).setFlag flagEXC false with pc := en.epc })) ∧
      (loopProfile e = false → ¬ en.epc.toNat < 0x40000 → exec (.eret p e) s = .next (s.raises p e exFETCH en.epc)) ∧
      (loopProfile e = false → s.site.ipend p e &&& en.imask ≠ 0 → exec (.wfi p e) s = .next (s.upd p e fun en => { en with pc := en.pc + 4 })) ∧
      (loopProfile e = false → s.site.ipend p e &&& en.imask = 0 → exec (.wfi p e) s = .next (s.upd p e fun en => { en with wait := .wfi }))) ∧
    ((s.site.eng p e).wait = .fence → (s.site.eng p e).wbuf = [] →
      exec (.fenceComplete p e) s = .next (s.upd p e fun en => { en with wait := .none, pc := en.pc + 4 })) ∧
    ((s.site.eng p e).wait = .wfi → s.site.ipend p e &&& (s.site.eng p e).imask ≠ 0 →
      exec (.wfiWake p e) s = .next (s.upd p e fun en => { en with wait := .none, pc := en.pc + 4 })) ∧
    (∀ (en : Engine) (v : Word), (en.sprWrite e 0x005 v).escr = v ∧ (en.sprWrite e 0x001 v).epc = v ∧
      (en.sprWrite e 0x00C v).workMax = v.setWidth 16 ∧ en.sprWrite e 0x00B v = en ∧ en.sprWrite e 0x009 v = en)

/-- What an exception saves and where it goes, in either profile; trap, illegal words, stalled queues and interrupts. Rests in part on the model's choices of log entry 185 -/
def Obligations.ExceptionsAndInterrupts : Prop :=
  ∀ (p : Pav) (e : Eng) (s : State),
    let en := s.site.eng p e
    (∀ (cause : Nat) (a : Word), loopProfile e = false → en.flag flagEXC = false →
      ∃ en' : Engine, (s.site.exception p e cause a).eng p e = en' ∧ en'.epc = en.pc ∧ en'.ecause = BitVec.ofNat 8 cause ∧ en'.eaddr = a ∧
        en'.pc = en.evec &&& 0xFFFFFFFC ∧ en'.flag flagPIE = en.flag flagIE ∧ en'.flag flagIE = false ∧ en'.flag flagEXC = true ∧
        (∀ n < 8, en'.flag n = en.flag n) ∧ en'.gpr = en.gpr ∧ en'.acc = en.acc ∧ en'.itcm = en.itcm ∧ en'.dtcm = en.dtcm ∧ en'.queues = en.queues) ∧
    (∀ (cause : Nat) (a : Word), loopProfile e = true ∨ (en.flag flagEXC = true ∧ e ≠ lodge) →
      ((s.site.exception p e cause a).eng p e).run = .halted ∧ ((s.site.exception p e cause a).eng p e).gpr = en.gpr ∧
      ((s.site.exception p e cause a).pav p).loc.rd .SYS_EPC_PC e.val = en.pc.toNat ∧
      ((s.site.exception p e cause a).pav p).loc.rd .SYS_EADDR_EADDR e.val = a.toNat) ∧
    (s.site.ready p e = true → ∀ opd : BitVec 12, exec (.trap p e opd) s = .next (s.raises p e exTRAP (opd.setWidth 32))) ∧
    (s.site.ready p e = true → ∀ w : Word, legalWord e w.toNat = false →
      exec (.illegalInstruction p e w) s = .next (s.raises p e exILLEGAL w)) ∧
    (∀ (target : BitVec 4) (q : Fin 8) (m : Dword), en.wait = .msnd target q m → loopProfile e = true →
      exec (.queueStall p e) s = .next (s.raises p e exQUEUE_STALL (BitVec.ofNat 32 (target.toNat * 8 + q.val)))) ∧
    (∀ k : Fin 17, en.run = .running → en.wait = .none → loopProfile e = false → en.flag flagIE = true → en.flag flagEXC = false →
      (s.site.ipend p e &&& en.imask).getLsbD k.val = true → (∀ j < k.val, (s.site.ipend p e &&& en.imask).getLsbD j = false) →
      exec (.interruptEntry p e) s = .next (s.upd p e fun en => en.exceptionEntry exINTERRUPT (BitVec.ofNat 32 k.val)))

/-- msnd and mrcv: messages move through the 16-entry queues in order, and full or empty queues stall. Rests in part on the model's choices of log entry 184 -/
def Obligations.QueueMessages : Prop :=
  ∀ (p : Pav) (e : Eng) (d s1 : Gpr) (q : Fin 8) (s : State),
    let en := s.site.eng p e
    let take (en : Engine) (m : Msg) (r : List Msg) : Engine :=
      ({ en with queues := en.queues.set q.val r q.isLt, msrc := m.src }).setPair d (m.data.setWidth 32) ((m.data >>> 32).setWidth 32)
    (∀ target : Eng, s.site.ready p e = true → ((s.site.eng p target).queues.get q).length < 16 →
      exec (.msnd p e d s1 (BitVec.ofNat 4 target.val) q) s =
        .next ((s.upd p target fun x => x.push q ⟨en.g d ++ en.g s1, BitVec.ofNat 8 e.val⟩).upd p e fun en => { en with pc := en.pc + 4 })) ∧
    (∀ target : Eng, s.site.ready p e = true → 16 ≤ ((s.site.eng p target).queues.get q).length →
      exec (.msnd p e d s1 (BitVec.ofNat 4 target.val) q) s =
        .next (s.upd p e fun en => { en with wait := .msnd (BitVec.ofNat 4 target.val) q (en.g d ++ en.g s1) })) ∧
    (∀ target : Eng, ∀ m : Dword, en.wait = .msnd (BitVec.ofNat 4 target.val) q m → ((s.site.eng p target).queues.get q).length < 16 →
      exec (.msndWake p e) s = .next ((s.upd p target fun x => x.push q ⟨m, BitVec.ofNat 8 e.val⟩).upd p e
        fun en => { en with wait := .none, pc := en.pc + 4 })) ∧
    (∀ target : BitVec 4, s.site.ready p e = true → 12 ≤ target.toNat →
      ∃ w, exec (.msnd p e d s1 target q) s = .next (s.raises p e exILLEGAL w)) ∧
    (∀ (m : Msg) (r : List Msg), s.site.ready p e = true → pairOk d = true → en.queues.get q = m :: r →
      exec (.mrcv p e d q false) s = .next (s.upd p e fun en => (take en m r).next) ∧
      exec (.mrcv p e d q true) s = .next (s.upd p e fun en => ((take en m r).setFlag flagQE false).next)) ∧
    (s.site.ready p e = true → pairOk d = true → en.queues.get q = [] →
      exec (.mrcv p e d q false) s = .next (s.upd p e fun en => { en with wait := .mrcv d q }) ∧
      exec (.mrcv p e d q true) s = .next (s.upd p e fun en => ((en.setPair d 0 0).setFlag flagQE true).next)) ∧
    (∀ (m : Msg) (r : List Msg), en.wait = .mrcv d q → en.queues.get q = m :: r →
      exec (.mrcvWake p e) s = .next (s.upd p e fun en => { take en m r with wait := .none, pc := en.pc + 4 }))

/-- Scalar multiply-accumulate and accumulator transfers -/
def Obligations.AccumulatorResults : Prop :=
  ∀ (p : Pav) (e : Eng) (d s1 s2 : Gpr) (k : AccIx) (sh : BitVec 5) (s : State), s.site.ready p e = true → loopProfile e = true →
    let accSat (x : Engine → Int) : State := s.upd p e fun en =>
      ((en.setA k (BitVec.ofInt 72 (max (-(2 ^ 71)) (min (2 ^ 71 - 1) (x en))))).stick flagQ
        (decide (x en < -(2 ^ 71)) || decide (2 ^ 71 - 1 < x en))).next
    let pr (en : Engine) (i : Nat) : Int := (en.lane s1 i).toInt * (en.lane s2 i).toInt
    let half (sh : Nat) : Int := if sh = 0 then 0 else 2 ^ (sh - 1)
    exec (.macc p e s1 s2 k) s = .next (accSat fun en => (en.a k).toInt + (en.g s1).toInt * (en.g s2).toInt) ∧
    exec (.msub p e s1 s2 k) s = .next (accSat fun en => (en.a k).toInt - (en.g s1).toInt * (en.g s2).toInt) ∧
    exec (.mpy p e s1 s2 k) s = .next (s.upd p e fun en => (en.setA k (BitVec.ofInt 72 ((en.g s1).toInt * (en.g s2).toInt))).next) ∧
    (quadOk s1 = true → quadOk s2 = true →
      exec (.mac4 p e s1 s2 k) s = .next (accSat fun en => (en.a k).toInt + pr en 0 + pr en 1 + pr en 2 + pr en 3)) ∧
    (quadOk s1 = false ∨ quadOk s2 = false → ∃ w, exec (.mac4 p e s1 s2 k) s = .next (s.raises p e exILLEGAL w)) ∧
    exec (.accx p e d k sh) s = .next (s.putSat p e d fun en => ((en.a k).toInt + half sh.toNat) / 2 ^ sh.toNat) ∧
    exec (.accclr p e k) s = .next (s.upd p e fun en => (en.setA k 0).next) ∧
    exec (.accrd p e d k 0) s = .next (s.put p e d fun en => (en.a k).setWidth 32) ∧
    exec (.accrd p e d k 1) s = .next (s.put p e d fun en => ((en.a k) >>> 32).setWidth 32) ∧
    exec (.accrd p e d k 2) s = .next (s.put p e d fun en => (((en.a k) >>> 64).setWidth 8).signExtend 32) ∧
    exec (.accwr p e s1 k 0) s = .next (s.upd p e fun en => (en.setA k (((en.a k) >>> 32).setWidth 40 ++ en.g s1)).next) ∧
    exec (.accwr p e s1 k 1) s = .next (s.upd p e fun en => (en.setA k (((en.a k) >>> 64).setWidth 8 ++ en.g s1 ++ (en.a k).setWidth 32)).next) ∧
    exec (.accwr p e s1 k 2) s = .next (s.upd p e fun en => (en.setA k ((en.g s1).setWidth 8 ++ (en.a k).setWidth 64)).next) ∧
    (3 ≤ sh.toNat → (∃ w, exec (.accrd p e d k sh) s = .next (s.raises p e exILLEGAL w)) ∧
      ∃ w, exec (.accwr p e s1 k sh) s = .next (s.raises p e exILLEGAL w))

/-- Vector multiply-accumulate and vector ALU forms act on their four lanes -/
def Obligations.VectorResults : Prop :=
  ∀ (p : Pav) (e : Eng) (d s1 s2 : Gpr) (k : AccIx) (sh : BitVec 5) (s : State), s.site.ready p e = true → loopProfile e = true →
    let pr (en : Engine) (i : Nat) : Int := (en.lane s1 i).toInt * (en.lane s2 i).toInt
    let sum (en : Engine) (i : Nat) : Int := (en.a (accPlus k i)).toInt + pr en i
    let accs (x : Engine → Nat → Int) : State := s.upd p e fun en => (en.setAcc4 k (x en)).next
    let lanes (x : Engine → Nat → Int) : State := s.upd p e fun en =>
      ((en.setQuad d fun i => BitVec.ofInt 32 (max (-2147483648) (min 2147483647 (x en i)))).stick flagQ
        ((List.range 4).any fun i => decide (x en i < -2147483648) || decide (2147483647 < x en i))).next
    let quad (x : Engine → Nat → Word) : State := s.upd p e fun en => (en.setQuad d (x en)).next
    let half (sh : Nat) : Int := if sh = 0 then 0 else 2 ^ (sh - 1)
    (quadOk s1 = true → quadOk s2 = true → accQuadOk k = true →
      exec (.macv p e s1 s2 k) s = .next (accs sum) ∧ exec (.mpyv p e s1 s2 k) s = .next (accs pr)) ∧
    (quadOk d = true → accQuadOk k = true →
      exec (.accxv p e d k sh) s = .next (lanes fun en i => ((en.a (accPlus k i)).toInt + half sh.toNat) / 2 ^ sh.toNat)) ∧
    (quadOk d = true → quadOk s1 = true → quadOk s2 = true →
      exec (.vadds p e d s1 s2) s = .next (lanes fun en i => (en.lane s1 i).toInt + (en.lane s2 i).toInt) ∧
      exec (.vsubs p e d s1 s2) s = .next (lanes fun en i => (en.lane s1 i).toInt - (en.lane s2 i).toInt) ∧
      exec (.vmulq p e d s1 s2) s = .next (lanes fun en i => (pr en i + 2 ^ 30) / 2 ^ 31) ∧
      exec (.vmin p e d s1 s2) s = .next (quad fun en i => if (en.lane s1 i).toInt < (en.lane s2 i).toInt then en.lane s1 i else en.lane s2 i) ∧
      exec (.vmax p e d s1 s2) s = .next (quad fun en i => if (en.lane s1 i).toInt < (en.lane s2 i).toInt then en.lane s2 i else en.lane s1 i)) ∧
    (quadOk d = true → quadOk s1 = true → pairOk s2 = true →
      exec (.vclamp p e d s1 s2) s = .next (quad fun en i =>
        let lo := en.g s2
        let hi := en.g (gprPlus s2 1)
        let m := if (en.lane s1 i).toInt < lo.toInt then lo else en.lane s1 i
        if m.toInt < hi.toInt then m else hi)) ∧
    (quadOk d = false → (∃ w, exec (.vadds p e d s1 s2) s = .next (s.raises p e exILLEGAL w)) ∧
      ∃ w, exec (.accxv p e d k sh) s = .next (s.raises p e exILLEGAL w))

/-- The filter-section instructions compute, clamp and store as R131 writes them -/
def Obligations.FilterSectionResults : Prop :=
  ∀ (p : Pav) (e : Eng) (d s1 s2 : Gpr) (idx : BitVec 9) (s : State), s.site.ready p e = true → loopProfile e = true →
    (s.site.eng p e).wbuf = [] →
    let en := s.site.eng p e
    let a : Word := en.g s2 + BitVec.ofNat 32 (idx.toNat * 16)
    let w (i : Nat) : Int := (BitVec.ofNat 32 (en.dtcm.rdN (a.toNat + 4 * i) 4)).toInt
    let ctrl : Nat := en.dtcm.rdN (a.toNat + 28) 4
    let x : Int := (en.g s1).toInt
    let acc : Int := w 0 * x + w 1 * w 8 + w 2 * w 9 - w 3 * w 10 - w 4 * w 11
    let yx : Int := (acc * 2 ^ (ctrl / 2 % 8) + 2 ^ 29) / 2 ^ 30
    let ys : Int := max (-2147483648) (min 2147483647 yx)
    let y : Int := if ctrl % 2 = 1 then min (max ys (w 5)) (w 6) else ys
    let st (m : Mem) (x1 x2 y1 y2 : Int) : Mem :=
      (((m.wrN (a.toNat + 32) 4 (BitVec.ofInt 32 x1).toNat).wrN (a.toNat + 36) 4 (BitVec.ofInt 32 x2).toNat).wrN (a.toNat + 40) 4
        (BitVec.ofInt 32 y1).toNat).wrN (a.toNat + 44) 4 (BitVec.ofInt 32 y2).toNat
    let out (en : Engine) : Engine := (((en.setG d (BitVec.ofInt 32 y)).setFlag flagLIM (decide (y ≠ ys))).stick flagQ (decide (yx ≠ ys))).next
    (0x40000 ≤ a.toNat → a.toNat + 48 ≤ 0x60000 → a.toNat % 16 = 0 → ctrl < 16 →
      exec (.sos p e d s1 s2 idx) s = .next (s.upd p e fun en => out { en with dtcm := st en.dtcm x (w 8) y (w 10) }) ∧
      exec (.sosh p e d s1 s2 idx) s = .next (s.upd p e out) ∧
      exec (.sosp p e d s1 s2 idx) s = .next (s.upd p e fun en =>
        { en with dtcm := st en.dtcm x x (en.g d).toInt (en.g d).toInt, pc := en.pc + 4 })) ∧
    (a.toNat < 0x40000 ∨ 0x60000 < a.toNat + 48 → exec (.sos p e d s1 s2 idx) s = .next (s.raises p e exACCESS a)) ∧
    (0x40000 ≤ a.toNat → a.toNat + 48 ≤ 0x60000 → a.toNat % 16 ≠ 0 →
      exec (.sos p e d s1 s2 idx) s = .next (s.raises p e exALIGN a))

/-- frld, frstat and frst move frame halfwords through the windows with their formats -/
def Obligations.FrameWindowResults : Prop :=
  ∀ (p : Pav) (e : Eng) (d s1 : Gpr) (fmt : BitVec 2) (hw : BitVec 6) (s : State), s.site.ready p e = true → loopProfile e = true →
    let en := s.site.eng p e
    let g := (en.g s1).toNat
    let win := (s.site.pav p).loc.inWin
    let stat := win.rdN (4 * g) 4
    let h : BitVec 16 := BitVec.ofNat 16 (win.rdN (0x100 + 128 * g + 2 * hw.toNat) 2)
    let v := (en.g d).toInt
    let sent (f : BitVec 2) : Int := if f = 0 then max (-32768) (min 32767 ((v + 2 ^ 15) / 2 ^ 16))
      else if f = 1 then (if v < 0 then 0 else min 65535 ((v + 2 ^ 14) / 2 ^ 15)) else v
    let cut (f : BitVec 2) : Bool := if f = 0 then decide (sent 0 ≠ (v + 2 ^ 15) / 2 ^ 16) else if f = 1 then decide (v < 0 ∨ 65535 < (v + 2 ^ 14) / 2 ^ 15) else false
    let mis (en : Engine) : Engine := en.setFlag flagM (stat / 2 % 2 = 1)
    (g < 32 →
      exec (.frld p e d s1 0 hw) s = .next (s.upd p e fun en => (mis (en.setG d ((h.signExtend 32) <<< 16))).next) ∧
      exec (.frld p e d s1 1 hw) s = .next (s.upd p e fun en => (mis (en.setG d ((h.setWidth 32) <<< 15))).next) ∧
      exec (.frld p e d s1 2 hw) s = .next (s.upd p e fun en => (mis (en.setG d (h.signExtend 32))).next) ∧
      exec (.frld p e d s1 3 hw) s = .next (s.upd p e fun en => (mis (en.setG d (h.setWidth 32))).next) ∧
      exec (.frstat p e d s1) s = .next (s.upd p e fun en => (mis (en.setG d (BitVec.ofNat 32 stat))).next) ∧
      (fmt ≠ 3 → ∃ t : State, exec (.frst p e d s1 fmt hw) s = .next t ∧
        t.site.eng p e = ((en.stick flagQ (cut fmt)).next) ∧
        BitVec.ofNat 16 ((t.site.pav p).loc.outWin.rdN (128 * g + 2 * hw.toNat) 2) = BitVec.ofInt 16 (sent fmt) ∧
        (∀ c : Nat, c < 128 * g + 2 * hw.toNat ∨ 128 * g + 2 * hw.toNat + 2 ≤ c →
          (t.site.pav p).loc.outWin.rd c = (s.site.pav p).loc.outWin.rd c) ∧
        (t.site.pav p).loc.inWin = win ∧ t.site.pav p.other = s.site.pav p.other ∧ t.site.com = s.site.com)) ∧
    (32 ≤ g → exec (.frld p e d s1 fmt hw) s = .next (s.raises p e exACCESS (en.g s1)) ∧
      exec (.frstat p e d s1) s = .next (s.raises p e exACCESS (en.g s1))) ∧
    (∃ w, exec (.frst p e d s1 3 hw) s = .next (s.raises p e exILLEGAL w))

/-- Awaits and time reads. Rests in part on the model's choices of log entry 119 -/
def Obligations.TimeInstructionResults : Prop :=
  ∀ (p : Pav) (e : Eng) (d s1 : Gpr) (slot : Slot) (s : State),
    let now := s.site.now
    let armed := (s.site.pav p).loc.rd .SDL_SCTRL_ARM slot.val
    let late (en : Engine) : Engine := ((en.setFlag flagLT true).setFlag flagAL true).next
    (s.site.ready p e = true →
      let en := s.site.eng p e
      let w : Nat := (en.g (gprPlus s1 1)).toNat * 2 ^ 32 + (en.g s1).toNat
      (pairOk s1 = true → now < w → exec (.await p e s1 false) s = .next (s.upd p e fun en => { en.setFlag flagLT false with wait := .await w })) ∧
      (pairOk s1 = true → w ≤ now → exec (.await p e s1 false) s = .next (s.upd p e late)) ∧
      exec (.awaitp p e s1 true) s = .next (s.upd p e fun en =>
        { en.setFlag flagLT false with endMark := true, wait := .awaitp (s.site.nextPlace ((en.g s1).toNat % 65536)) }) ∧
      (armed ≠ 0 → exec (.awaits p e slot true) s = .next (s.upd p e fun en =>
        { en.setFlag flagLT false with endMark := true, wait := .awaits slot s.site.ticks false })) ∧
      (armed = 0 → exec (.awaits p e slot false) s = .next (s.upd p e late)) ∧
      (pairOk d = true → exec (.tread p e d) s = .next (s.upd p e fun en =>
        (en.setPair d (BitVec.ofNat 32 s.site.angle) (BitVec.ofNat 32 s.site.cycle)).next)) ∧
      exec (.tsite p e d) s = .next (s.put p e d fun _ =>
        BitVec.ofNat 32 (s.site.angle * s.site.mult / 2 ^ 32 * 65536 + s.site.angle * s.site.mult % 2 ^ 32 / 2 ^ 16)) ∧
      (pairOk s1 = false → ∃ x, exec (.await p e s1 false) s = .next (s.raises p e exILLEGAL x))) ∧
    (∀ w : Nat, (s.site.eng p e).wait = .await w → w ≤ now →
      exec (.awaitWake p e) s = .next (s.upd p e fun en => { en with wait := .none, pc := en.pc + 4 })) ∧
    (∀ i : Nat, (s.site.eng p e).wait = .awaits slot i true →
      exec (.awaitWake p e) s = .next (s.upd p e fun en => { en with wait := .none, pc := en.pc + 4 }))

/-- ALU instructions, jal and nop change only general registers, FLAGS and the pc of their own engine -/
def Obligations.InstructionsOfOneEngineStayThere : Prop :=
  ∀ (p : Pav) (e : Eng) (d s1 s2 : Gpr) (imm : BitVec 14) (j : BitVec 16) (s t : State),
    (exec (.add p e d s1 s2) s = .next t ∨ exec (.addc p e d s1 s2) s = .next t ∨ exec (.adds p e d s1 s2) s = .next t ∨
      exec (.div p e d s1 s2) s = .next t ∨ exec (.mulq p e d s1 s2) s = .next t ∨ exec (.addi p e d s1 imm) s = .next t ∨
      exec (.lhi p e d s1 imm) s = .next t ∨ exec (.jal p e d j) s = .next t ∨ exec (.nop p e) s = .next t) →
    t.site.pav p.other = s.site.pav p.other ∧ t.site.com = s.site.com ∧ t.site.free = s.site.free ∧ t.pending = s.pending ∧
    (t.site.pav p).rep = (s.site.pav p).rep ∧ (∀ e' : Eng, e' ≠ e → t.site.eng p e' = s.site.eng p e') ∧
    (t.site.pav p).loc = { (s.site.pav p).loc with engines := (t.site.pav p).loc.engines } ∧
    (∀ r : Gpr, r ≠ d → (t.site.eng p e).g r = (s.site.eng p e).g r) ∧
    (t.site.eng p e) = { s.site.eng p e with pc := (t.site.eng p e).pc, gpr := (t.site.eng p e).gpr, flags := (t.site.eng p e).flags }

/-- A register write leaves the write buffer by the access codes, and a wide low read latches its upper word. Rests in part on the model's choices of log entries 106, 107 -/
def Obligations.RegisterCommandResults : Prop :=
  ∀ (p : Pav) (e : Eng) (a v : Word) (s : State), (s.site.pav p).loc.running = true →
    ((s.site.eng p lodge).wbuf = [] →
      (∃ t : State, exec (.registerWrite p lodge 0x40100100 v) s = .next t ∧ (t.site.pav p).loc.rd .SDL_STIME_LO_TIME_LO 0 = v.toNat ∧
        (t.site.pav p).loc.rd .SDL_STIME_HI_TIME_HI 0 = (s.site.pav p).loc.rd .SDL_STIME_HI_TIME_HI 0 ∧ (t.site.pav p).loc.sram = (s.site.pav p).loc.sram) ∧
      (∃ t : State, exec (.registerWrite p lodge 0x40100010 0xFFFFFFFF) s = .next t ∧
        (t.site.pav p).loc.rd .SDL_EVENT_EV_LATE = 0 ∧ (t.site.pav p).loc.rd .SDL_EVENT_GRID_LOST = 0)) ∧
    (∃ t : State, exec (.wideLowRead p lodge 0x40100014) s = .next t ∧
      (t.site.eng p lodge).shadow = some (BitVec.ofNat 32 s.site.cycle, 0x40100018)) ∧
    (a.toNat % 4 ≠ 0 → exec (.registerWrite p e a v) s = .next (s.raises p e exALIGN a) ∧
      exec (.wideLowRead p e a) s = .next (s.raises p e exALIGN a)) ∧
    (a.toNat % 4 = 0 → mayAccess e true a.toNat 4 = false → exec (.registerWrite p e a v) s = .next (s.refuses p e a)) ∧
    (a.toNat % 4 = 0 → mayAccess e false a.toNat 4 = false → exec (.wideLowRead p e a) s = .next (s.refuses p e a))

/-- Boundary, closure, vectors, release and allocation tick do in each pavilion what they stand for. Rests in part on the model's choices of log entries 117, 166 -/
def Obligations.SiteCycleEvents : Prop :=
  ∀ (p : Pav) (katA katB : Bool) (s : State),
    ((s.site.pav p).loc.running = true → ∃ t : State, exec .siteCycleBoundary s = .next t ∧ (t.site.pav p).loc.closed = false ∧
      (t.site.pav p).loc.setDone = false ∧ (t.site.pav p).loc.ownDigest = false ∧ (t.site.pav p).loc.rxA = Vector.replicate 32 none ∧
      (t.site.pav p).loc.rxB = Vector.replicate 32 none) ∧
    ((s.site.pav p).loc.running = true → (s.site.pav p).inStep = true → (s.site.pav p).loc.closed = false →
      ∃ t : State, exec .inputSetClosure s = .next t ∧ (t.site.pav p).loc.closed = true ∧ (t.site.pav p).loc.vector = (s.site.pav p).loc.closureVector ∧
        (t.site.pav p).rep = (s.site.pav p).rep) ∧
    ((s.site.pav p).inStep = true → (s.site.pav p).loc.closed = true → (s.site.pav p).loc.setDone = false →
      ∃ t : State, exec (.closureVectorRx katA katB) s = .next t ∧ (t.site.pav p).loc.setDone = true) ∧
    ((s.site.pav p).loc.running = true → (s.site.pav p).inStep = true → (s.site.pav .A).loc.div = none → (s.site.pav .B).loc.div = none →
      ∃ t : State, exec .commandRelease s = .next t ∧ (t.site.pav p).loc.ownDigest = true ∧ ∀ e : Eng, (t.site.eng p e).endMark = false) ∧
    (∃ t : State, exec .allocationTick s = .next t ∧ (t.site.pav p).loc.corrected = [] ∧
      (t.site.pav p).loc.rd .FBR_HEALTHY_TIME = (if t.site.role p = roleFollower then
        (t.site.ticks - (t.site.pav p).loc.healthyAt) / 20000000 % 2 ^ Field.FBR_HEALTHY_TIME.info.width else 0))

/-- Sequencing, receiving, and the lease. Rests in part on the model's choices of log entries 125, 174 -/
def Obligations.InputLogAndLease : Prop :=
  ∀ (p : Pav) (s : State),
    let l := (s.site.pav p).loc
    let l' (t : State) : Local := (t.site.pav p).loc
    (∀ (kind source : Nat) (payload : List Byte) (sw : Bool), s.site.leader = some p → l.inputs = [] → l.log.length < 64 → payload.length ≤ 228 →
      ∃ (t : State) (x : LogEntry), exec (.logEntrySequence kind source payload sw) s = .next t ∧ (l' t).log = l.log ++ [x] ∧ x.seq = l.nextSeq ∧
        x.kind = kind ∧ x.source = source ∧ x.payload = payload ∧ (∀ y ∈ l.log, y.effective ≤ x.effective) ∧ (l' t).nextSeq = l.nextSeq + 1) ∧
    (∀ (eff kind source : Nat) (payload : List Byte) (sw : Bool), (s.site.pav p).inStep = true → s.site.role p ≠ roleLeader → s.site.now < eff →
      ∃ t : State, exec (.logEntryRx p l.nextSeq eff kind source payload true sw) s = .next t ∧
        (l' t).log = l.log ++ [{ seq := l.nextSeq, effective := eff, kind, source, payload, switching := sw }] ∧ (l' t).nextSeq = l.nextSeq + 1) ∧
    (∀ (q eff kind source : Nat) (payload : List Byte) (sw : Bool), (s.site.pav p).inStep = true → s.site.role p ≠ roleLeader → q ≠ l.nextSeq →
      ∃ t : State, exec (.logEntryRx p q eff kind source payload true sw) s = .next t ∧ t.site.role p = roleSetAside ∧
        (l' t).rd .FBR_CAUSE_CAUSE = 5 ∧ (l' t).rd .FBR_PRESENT_OWN = 0) ∧
    (s.site.leader = some p → ∃ t : State, exec .leaseRenewalSend s = .next t ∧ (l' t).live = !l.live ∧ (l' t).renewedAt = s.site.ticks) ∧
    (s.site.role p ≠ roleLeader → s.site.role p.other = roleLeader → l.inReset = false →
      ∃ t : State, exec (.leaseRenewalRx p) s = .next t ∧ (l' t).rd .FBR_LEASEAGE_AGE = 0 ∧ (l' t).rd .FBR_STATUS_LEASE_VALID = 1 ∧
        (l' t).renewedAt = s.site.ticks) ∧
    (s.site.role p = roleFollower → s.site.role p.other ≠ roleLeader → l.nextClaim ≤ 0xFFFFFFFF → (s.site.pav p).rep.rd .UPD_STATUS_PHASE = 0 →
      ∃ t : State, exec (.leaseReleaseSeen p) s = .next t ∧ t.site.role p = roleLeader ∧ (l' t).rd .FBR_CLAIM_STORED = l.nextClaim ∧
        (l' t).rd .FBR_PRESENT_OWN = l.nextClaim) ∧
    (s.site.role p = roleFollower → l.nextClaim ≤ 0xFFFFFFFF → (s.site.pav p).rep.rd .UPD_STATUS_PHASE = 0 →
      ∃ t : State, exec (.leaseExpiry p false) s = .next t ∧ t.site.role p = roleLeader ∧ (l' t).rd .FBR_CLAIM_STORED = l.nextClaim) ∧
    (s.site.role p = roleFollower → ∃ t : State, exec (.leaseExpiry p true) s = .next t ∧ t.site.role p = roleSetAside ∧ (l' t).rd .FBR_CAUSE_CAUSE = 6) ∧
    (s.site.role p = roleLeader → l.rd .FBR_PRESENT_OWN < l.rd .FBR_PEERCLAIM_PEER → l.handbackAt ≠ none → (s.site.pav p).rep.rd .UPD_STATUS_PHASE = 0 →
      ∃ t : State, exec (.peerClaimHigher p) s = .next t ∧ t.site.role p = roleFollower ∧ (l' t).rd .FBR_PRESENT_OWN = 0) ∧
    (∀ f : Nat, s.site.redundant = true → ∃ t : State, exec (.copyMismatch f) s = .next t ∧ (l' t).rd .FBR_EVENT_COPY_MISMATCH = 1) ∧
    (∀ b : Bool, l.rd .FBR_STATUS_CH0_OK ≠ 0 → ∃ t : State, exec (.footbridgeChannelFail p 0 b) s = .next t ∧ (l' t).rd .FBR_STATUS_CH0_OK = 0 ∧
      (l' t).rd .FBR_EVENT_CH_FAULT = 1 ∧ (l' t).rd .FBR_STATUS_CH1_OK = l.rd .FBR_STATUS_CH1_OK) ∧
    (∀ b : Bool, l.rd .FBR_STATUS_CH1_OK ≠ 0 → ∃ t : State, exec (.footbridgeChannelFail p 1 b) s = .next t ∧ (l' t).rd .FBR_STATUS_CH1_OK = 0 ∧
      (l' t).rd .FBR_EVENT_CH_FAULT = 1)

/-- The divergence procedure, its outcomes, the referee and the restarts. Rests in part on the model's choices of log entries 121, 122, 125 -/
def Obligations.DivergenceAndReferee : Prop :=
  ∀ (p : Pav) (katA katB : Bool) (s : State),
    let l := (s.site.pav p).loc
    let l' (t : State) : Local := (t.site.pav p).loc
    let table (leads own peer : Bool) : Verdict :=
      if own = false ∧ peer = false then .controlledStop else if leads then (if own then .continues else .yields)
      else if own then (if peer then .setAside 2 else .takesOver) else .setAside 1
    (s.site.redundant = true → s.site.a.loc.ownDigest = true → s.site.b.loc.ownDigest = true → s.site.a.loc.div = none → s.site.b.loc.div = none →
      s.site.a.loc.rd .FBR_DIG_OWN_DIGEST ≠ s.site.b.loc.rd .FBR_DIG_OWN_DIGEST → ∃ t : State, exec (.peerDigestRx katA katB) s = .next t ∧
        (l' t).div ≠ none ∧ (l' t).rd .FBR_STATUS_DIVERGENT = 1 ∧ (l' t).rd .FBR_EVENT_DIVERGE = 1) ∧
    (s.site.redundant = true → s.site.a.loc.ownDigest = true → s.site.b.loc.ownDigest = true →
      s.site.a.loc.rd .FBR_DIG_OWN_DIGEST = s.site.b.loc.rd .FBR_DIG_OWN_DIGEST → ∃ t : State, exec (.peerDigestRx katA katB) s = .next t ∧
        (l' t).digMiss = 0 ∧ (l' t).div = l.div) ∧
    (∀ (d : Divergence) (pass : Bool), l.div = some d → d.peer = none → ∃ (t : State) (d' : Divergence),
      exec (.selfcheckResultRx p pass) s = .next t ∧ (l' t).div = some d' ∧ d'.peer = some pass ∧ d'.own = d.own ∧
        d'.outcome = some (table (decide (s.site.role p = roleLeader)) d.own pass)) ∧
    (∀ d : Divergence, l.div = some d → d.peer = none → ∃ (t : State) (d' : Divergence),
      exec (.selfcheckResultTimeout p) s = .next t ∧ (l' t).div = some d' ∧ d'.outcome = some (table (decide (s.site.role p = roleLeader)) d.own false)) ∧
    (s.site.redundant = true → s.site.role p = roleFollower → (s.site.pav p.other).loc.ownDigest = true → l.rd .FBR_STATUS_CH0_OK = 1 →
      (s.site.pav p.other).loc.rd .FBR_STATUS_CH0_OK = 1 → ∃ t : State, exec (.digestMissing p) s = .next t ∧ t.site.role p = roleSetAside ∧
        (l' t).rd .FBR_CAUSE_CAUSE = 4) ∧
    (s.site.referee = true → s.site.windowOpen = true → s.site.role .A = roleLeader → (s.site.role .B = roleHeld ∨ s.site.role .B = roleFollower) →
      ∃ t : State, exec (.refereeVerdict false true) s = .next t ∧ t.site.role .A = roleLeader ∧ t.site.role .B = roleSetAside ∧
        t.site.b.loc.rd .FBR_CAUSE_CAUSE = 3) ∧
    (s.site.windowOpen = true → s.site.role .A = roleLeader → s.site.role .B = roleHeld →
      ∃ t : State, exec .refereeWindowTimeout s = .next t ∧ t.site.role .A = roleLeader ∧ t.site.role .B = roleSetAside) ∧
    (s.site.referee = true → s.site.windowOpen = false → s.site.role .A = roleLeader → s.site.role .B = roleFollower →
      ∃ t : State, exec (.unsolicitedVerdict false true) s = .next t ∧ t.site.role .A = roleLeader ∧ t.site.role .B = roleSetAside ∧
        t.site.b.loc.rd .FBR_CAUSE_CAUSE = 3) ∧
    (s.site.role p = roleSetAside → l.inReset = false → ∃ t : State, exec (.setAsideReset p) s = .next t ∧ (l' t).inReset = true ∧
      ∀ e : Eng, (t.site.eng p e).run = .stopped) ∧
    (l.restartDue = true → l.inReset = false → ∃ t : State, exec (.controlledStopRestart p) s = .next t ∧ (l' t).inReset = true) ∧
    (s.site.alone p = true → l.indicated = true → l.restartDue = false → ∃ t : State, exec (.indicatorAlone p) s = .next t ∧
      (l' t).restartDue = true ∧ (l' t).rd .FBR_CAUSE_CAUSE = 9)

/-- Joining step by step, and the handback. Rests in part on the model's choices of log entries 75, 77, 139 -/
def Obligations.JoiningAndHandback : Prop :=
  ∀ (p : Pav) (s : State),
    let q := p.other
    let l := (s.site.pav p).loc
    let l' (t : State) : Local := (t.site.pav p).loc
    let room : Prop := (s.site.pav q).loc.inputs = [] ∧ (s.site.pav q).loc.log.length < 2048
    (s.site.leader = some q → s.site.canAsk p = true → s.site.accepts q p = true →
      (∃ t : State, exec (.joinRequest p) s = .next t ∧ t.site.role p = roleJoining ∧ (l' t).join = .mirroring) ∧
      (l.join = .refused → ∃ t : State, exec (.joinRetry p) s = .next t ∧ t.site.role p = roleJoining ∧ (l' t).join = .mirroring)) ∧
    (s.site.leader = some q → s.site.role p = roleJoining → l.join = .mirroring → room → ∃ (t : State) (b : Nat),
      exec (.backgroundCopyDone p) s = .next t ∧ (l' t).join = .syncLogged b ∧ (t.site.pav q).loc.nextSeq = (s.site.pav q).loc.nextSeq + 1 ∧
        (l' t).rd .FBR_CLAIM_STORED = (s.site.pav q).loc.rd .FBR_CLAIM_STORED % 2 ^ 32) ∧
    (∀ b : Nat, s.site.leader = some q → l.join = .syncLogged b → ∃ t : State, exec .syncBoundary s = .next t ∧
      (t.site.pav q).loc.tx = (s.site.pav q).loc.tx ++ [.handover q b (s.site.pav q).loc.nextSeq]) ∧
    (∀ b : Nat, s.site.leader = some q → s.site.role p = roleJoining → l.join = .syncLogged b → s.site.actFirst ≠ some p →
      (s.site.pav p).rep.layout.build = (s.site.pav q).rep.layout.build → paramCheck l (s.site.pav p).rep = paramCheck (s.site.pav q).loc (s.site.pav q).rep →
      ∃ t : State, exec (.handoverRecordRx p true) s = .next t ∧ (l' t).join = .joining 0 ∧ (l' t).sram = (s.site.pav q).loc.sram ∧
        (l' t).nextSeq = (s.site.pav q).loc.nextSeq ∧ ∀ e : Eng, (t.site.eng p e).gpr = (s.site.eng q e).gpr ∧ (t.site.eng p e).acc = (s.site.eng q e).acc ∧
          (t.site.eng p e).flags = (s.site.eng q e).flags ∧ (t.site.eng p e).pc = (s.site.eng q e).pc ∧ (t.site.eng p e).dtcm = (s.site.eng q e).dtcm) ∧
    (∀ k : Nat, s.site.role p = roleJoining → l.join = .joining k → 16 ≤ k → s.site.actFirst ≠ some p → (s.site.pav p).rep.rd .UPD_STATUS_PHASE = 0 →
      (s.site.pav q).loc.restartDue = false → ∃ t : State, exec (.joinerBecomesFollower p) s = .next t ∧ t.site.role p = roleFollower ∧ (l' t).join = .idle) ∧
    (s.site.leader = some q → l.rd .FBR_CTRL_HOME = (if p = .A then 0 else 1) → l.rd .FBR_CTRL_REVERT = 1 → s.site.role p = roleFollower →
      l.indicated = false → s.site.handbackFree = true → (s.site.pav p).rep.rd .UPD_STATUS_PHASE = 0 → room →
      ∃ (t : State) (x : Nat), exec (.holdElapsed p) s = .next t ∧ (l' t).handbackAt = some x ∧ (t.site.pav q).loc.handbackAt = some x ∧ x % 2 ^ 31 = 0) ∧
    (s.site.leader = some q → s.site.handbackFree = true → room → ∃ (t : State) (x : Nat), exec .fbrYield s = .next t ∧
      (l' t).handbackAt = some x ∧ (t.site.pav q).loc.handbackAt = some x ∧ x % 2 ^ 31 = 0) ∧
    (∃ t : State, exec (.fbrRejoin p) s = .next t ∧ (l' t).heldOut = false) ∧
    (s.site.leader = some q → s.site.role p = roleFollower → l.handbackAt ≠ none → (s.site.pav q).loc.handbackAt ≠ none → s.site.actFirst ≠ some p →
      l.nextClaim ≤ 0xFFFFFFFF → ∃ t : State, exec .handbackTick s = .next t ∧ t.site.role p = roleLeader ∧ (l' t).rd .FBR_CLAIM_STORED = l.nextClaim ∧
        (l' t).rd .FBR_EVENT_HANDBACK = 1 ∧ (t.site.pav q).loc.rd .FBR_EVENT_HANDBACK = 1)

/-- A sample frame is forwarded and held, a probe gives the delay, and a link message is sent, repeated and failed. Rests in part on the model's choices of log entry 174 -/
def Obligations.StageFramesAndMessages : Prop :=
  ∀ (p : Pav) (g : Grp) (frame : List Byte) (s : State),
    let v := s.site.pav p
    let v' (t : State) : Pavilion := t.site.pav p
    (frameWhole true frame = false ∨ crcGood frame = false ∨ byteAt frame 0 ≠ 0x81 →
      ∃ t : State, exec (.stgSampleFrameRx p g frame true) s = .next t ∧ (v' t).rep = v.rep ∧
        (v' t).loc = { v.loc with reports := v.loc.reports ++ [{ grp := g, errs := 1 }] }) ∧
    (frameWhole true frame = true → sampleValid (v.rep.rd .STG_LSTATE_SLEN g) (s.site.frameSeq g) frame = true → v.loc.closed = false →
      (v.rep.link g).unused p = false →
      ∃ t : State, exec (.stgSampleFrameRx p g frame true) s = .next t ∧ (v' t).rep = v.rep ∧ (v' t).loc.tx = v.loc.tx ++ [.forward p g frame] ∧
        (if p = .A then vget (v' t).loc.rxA g none = some frame ∧ (v' t).loc.rxB = v.loc.rxB
         else vget (v' t).loc.rxB g none = some frame ∧ (v' t).loc.rxA = v.loc.rxA)) ∧
    (sampleValid (v.rep.rd .STG_LSTATE_SLEN g) (s.site.frameSeq g) frame = true → v.loc.setDone = false →
      ((v.rep.link g).unused .A = false → ∃ t : State, exec (.footbridgeFrameRx p .A g frame) s = .next t ∧ vget (v' t).loc.rxA g none = some frame) ∧
      ((v.rep.link g).unused .B = false → ∃ t : State, exec (.footbridgeFrameRx p .B g frame) s = .next t ∧ vget (v' t).loc.rxB g none = some frame)) ∧
    (v.loc.setDone = true → ∀ lane : Lane, ∃ t : State, exec (.footbridgeFrameRx p lane g frame) s = .next t ∧
      (v' t).loc.rd .FBR_EVENT_LATE_FRAME = 1 ∧ (v' t).loc.rxA = v.loc.rxA ∧ (v' t).loc.rxB = v.loc.rxB) ∧
    (s.site.drives p = true → v.rep.lstate g ≠ lsDisabled → ∃ t : State, exec (.echoProbe p g) s = .next t ∧
      (v' t).loc.tx = v.loc.tx ++ [.echo p g (BitVec.ofNat 8 v.loc.echoNo)] ∧ vget (v' t).loc.echo g none = some (BitVec.ofNat 8 v.loc.echoNo)) ∧
    (∀ (token : Byte) (trip : Nat), vget v.loc.echo g none = some token → ∃ t : State, exec (.echoReturnRx p g token trip) s = .next t ∧
      vget (v' t).loc.lead g 0 = (trip - (v.rep.link g).ident.turn) / 2 ∧ vget (v' t).loc.echo g none = none) ∧
    (v.inStep = true → v.rep.rd .STG_LMSG_BUSY g = 0 → ∀ mtid len : Byte, ∃ t : State, exec (.stgMsgGo g mtid len) s = .next t ∧
      (v' t).rep.rd .STG_LMSG_BUSY g = 1 ∧ (v' t).rep.rd .STG_LMSG_MTID g = mtid.toNat ∧ (v' t).rep.rd .STG_LMSG_LEN g = len.toNat ∧
      (v' t).rep.rd .STG_LMSG_DONE g = 0 ∧ (v' t).rep.rd .STG_LMSG_FAIL g = 0 ∧ ((v' t).rep.link g).nextFrag = some 0 ∧ (v' t).rep.blkMem = v.rep.blkMem) ∧
    (v.inStep = true → v.rep.rd .STG_LMSG_BUSY g = 1 → (v.rep.link g).nextFrag = none → v.rep.rd .STG_RETRY_RTO ≤ (v.rep.link g).sinceLast →
      (0 < (v.rep.link g).resends → ∃ t : State, exec (.stgReplyTimeout g) s = .next t ∧ ((v' t).rep.link g).nextFrag = some 0 ∧
        ((v' t).rep.link g).resends + 1 = (v.rep.link g).resends ∧ (v' t).rep.regs = v.rep.regs) ∧
      ((v.rep.link g).resends = 0 → ∃ t : State, exec (.stgReplyTimeout g) s = .next t ∧ (v' t).rep.rd .STG_LMSG_BUSY g = 0 ∧
        (v' t).rep.rd .STG_LMSG_FAIL g = 1 ∧ (v' t).rep.rd .STG_EVENT_MSG_FAIL = 1)) ∧
    (v.inStep = true → v.rep.replyDone g = true → v.rep.discovering g = false →
      (∃ t : State, exec (.stgStatusReply g) s = .next t ∧ (v' t).rep.regs = v.rep.regs ∧
        ((v' t).rep.link g).status = [1, 5, 9, 13, 17].map fun k => fieldAt (v.rep.stgReply g) k 4) ∧
      ((v.rep.ph g).configOut = true → ∃ t : State, exec (.stgErrorReply g) s = .next t ∧ ((v' t).rep.ph g).configOut = false ∧
        ((v' t).rep.ph g).ofsDue = true ∧ (v' t).rep.regs = v.rep.regs))

/-- Discovery goes IDENT, AUTH or CONFIG, ROUTE_SET, ACTIVE; refusals and losses go to FAULT or DOWN with their events. Rests in part on the model's choices of log entries 187, 188, 189 -/
def Obligations.StageDiscovery : Prop :=
  ∀ (p : Pav) (g : Grp) (s : State), (s.site.pav p).inStep = true →
    let r := (s.site.pav p).rep
    let r' (t : State) : Replica := (t.site.pav p).rep
    let b := r.stgReply g
    (r.replyDone g = true → r.lstate g = lsIdent →
      (byteAt b 2 ≠ 0 → identOk b = true → (byteAt b 3 = 1 ↔ r.rd .STG_LCFG_LANES g = 1) → ∃ t : State, exec (.stgIdentReply g) s = .next t ∧
        (r' t).lstate g = (if r.rd .STG_CTRL_AUTHREQ = 1 then lsAuth else lsConfig) ∧ (r' t).rd .STG_LSTATE_NPH g = byteAt b 30 ∧
        (r' t).rd .STG_LUNIT_LO_UNIT g = fieldAt b 8 8 % 2 ^ 32 ∧ (r' t).rd .STG_LUNIT_HI_UNIT g = fieldAt b 8 8 / 2 ^ 32) ∧
      (byteAt b 2 = 0 → ∃ t : State, exec (.stgIdentReply g) s = .next t ∧ (r' t).lstate g = lsFault ∧ (r' t).rd .STG_EVENT_NO_VERSION = 1) ∧
      (∀ u : Nat, (r.link g).lastUnit = some u → u ≠ fieldAt b 8 8 → ∃ t : State, exec (.stgIdentReply g) s = .next t ∧
        (r' t).rd .STG_EVENT_NEW_ENDPOINT = 1 ∧ vget (r' t).alloc.newEndpoint g 0 = 1) ∧
      (byteAt b 2 ≠ 0 → identOk b = true → byteAt b 3 ≠ 1 → r.rd .STG_LCFG_LANES g = 0 → 16 ≤ (r.link g).replyB.length →
        fieldAt (r.link g).replyB 8 8 ≠ fieldAt b 8 8 → ∃ t : State, exec (.stgIdentReply g) s = .next t ∧
        (r' t).rd .STG_EVENT_LANE_MISMATCH = 1 ∧ ((r' t).link g).unused .B = true)) ∧
    (r.replyDone g = true → r.lstate g = lsAuth →
      (∃ t : State, exec (.stgAuthRespReply g true) s = .next t ∧ (r' t).lstate g = lsConfig ∧ ((r' t).link g).awaited = 0x83) ∧
      (∃ t : State, exec (.stgAuthRespReply g false) s = .next t ∧ (r' t).lstate g = lsFault ∧ (r' t).rd .STG_EVENT_AUTH_FAIL = 1)) ∧
    (r.replyDone g = true → r.lstate g = lsConfig → byteAt b 1 = 0 →
      ((r.link g).awaited = 0x83 → ∃ t : State, exec (.stgConfigAckReply g) s = .next t ∧ (r' t).lstate g = lsConfig ∧
        (r' t).rd .STG_LSTATE_VER g = (r.link g).ident.verSel % 4 ∧ (r' t).rd .STG_LSTATE_SLEN g = (r.link g).ident.slen % 256 ∧
        (r' t).rd .STG_LSTATE_CLEN g = (r.link g).ident.clen % 256 ∧ ((r' t).link g).awaited = 0x84) ∧
      ((r.link g).awaited = 0x84 → ∃ t : State, exec (.stgRouteReportReply g) s = .next t ∧ (r' t).lstate g = lsActive ∧
        bitOf ((r' t).rd .STG_ACTIVE_ACT) g = true)) ∧
    (r.replyDone g = true → r.discovering g = true → ∃ t : State, exec (.stgErrorReply g) s = .next t ∧ (r' t).lstate g = lsFault ∧
      (r' t).rd .STG_EVENT_DISC_REFUSED = 1) ∧
    (64 ≤ (r.link g).silentRun → r.lstate g ≠ lsDown → r.lstate g ≠ lsDisabled → ∃ t : State, exec (.stgLinkLost g) s = .next t ∧
      (r' t).lstate g = lsDown ∧ (r' t).rd .STG_EVENT_LINK_LOST = 1 ∧ (r' t).rd .STG_LSTATE_VER g = 0 ∧ (r' t).rd .STG_LSTATE_SLEN g = 56 ∧
      (r' t).rd .STG_LSTATE_CLEN g = 42 ∧ bitOf ((r' t).rd .STG_ACTIVE_ACT) g = false) ∧
    (r.lstate g = lsFault →
      (∃ t : State, exec (.stgFaultExit g) s = .next t ∧ (r' t).lstate g = lsDown) ∧
      (∃ t : State, exec (.stgLinkRestart g) s = .next t ∧ (r' t).lstate g = lsDown))

/-- Crossings, time-outs, plausibility, crystals and event slots. Rests in part on the model's choices of log entries 10, 126, 190 -/
def Obligations.SundialResults : Prop :=
  ∀ (p : Pav) (s : State),
    let c := s.site.com
    let l := (s.site.pav p).loc
    let l' (t : State) : Local := (t.site.pav p).loc
    (∀ ago last : Nat, c.sun.lastPos = some last → inTracking s.site.nominal (c.sun.ticks - ago - last) = true → c.rd .SDL_STATUS_FIRST_LOCK = 1 →
      c.rd .SDL_STATUS_FREE_RUN = 0 → c.rd .SDL_STATUS_SLEW = 0 → c.sun.candidate = none →
      let e := c.sun.errorAt ago
      ∃ t : State, exec (.zeroCrossing true ago) s = .next t ∧ t.site.com.rd .SDL_PHERR_PHERR = (e % 2 ^ 32).toNat ∧
        (if (e.natAbs : Int) ≤ deg3 then
          t.site.com.sun.a.integral = scaleRate c.sun.a.integral (gainKI s.site.nominal) e ∧
          t.site.com.sun.a.target = scaleRate (scaleRate c.sun.a.integral (gainKI s.site.nominal) e) (gainKP s.site.nominal) e ∧
          t.site.com.sun.b.integral = scaleRate c.sun.b.integral (gainKI s.site.nominal) e
         else t.site.com.sun.candidate = some e ∧ t.site.com.rd .SDL_STATUS_HOLD = 1 ∧ t.site.com.sun.a = { c.sun.a with target := c.sun.a.rate } ∧
           t.site.com.sun.b = { c.sun.b with target := c.sun.b.rate })) ∧
    (c.rd .SDL_STATUS_FIRST_LOCK = 1 → c.rd .SDL_STATUS_FREE_RUN = 0 →
      (∃ t : State, exec .zeroCrossingTimeout s = .next t ∧ t.site.com.rd .SDL_STATUS_FREE_RUN = 1 ∧ t.site.com.rd .SDL_STATUS_LOCKED = 0 ∧
        t.site.com.sun.a.target = c.sun.meanRate ∧ (l' t).rd .SDL_EVENT_GRID_LOST = 1) ∧
      (∃ t : State, exec (.mainsPlausibilityCheck false) s = .next t ∧ t.site.com.rd .GSP_STATUS_PLAUS = 0 ∧ t.site.com.rd .GSP_EVENT_IMPLAUS = 1 ∧
        t.site.com.rd .SDL_STATUS_FREE_RUN = 1 ∧ (l' t).rd .SDL_EVENT_GRID_LOST = 1)) ∧
    (∃ t : State, exec (.mainsPlausibilityCheck true) s = .next t ∧ t.site.com.rd .GSP_STATUS_PLAUS = 1 ∧ t.site.a = s.site.a ∧ t.site.b = s.site.b) ∧
    (∀ k : Fin 6, ∃ t : State, exec (.bitstreamStuck k) s = .next t ∧ t.site.com.rd .GSP_EVENT_STUCK = 1 ∧
      bitOf (t.site.com.rd .GSP_STATUS_ACTIVE) k = false) ∧
    (∀ o : Nat, o < 24 → (s.site.pav p).inStep = true →
      (osPlugged ≤ (s.site.pav p).rep.ostate o ∧ (s.site.pav p).rep.ostate o ≤ osWeldCheck ∨ (s.site.pav p).rep.ostate o = osCommission) →
      (∃ t : State, exec .sundialCopyMismatch s = .next t ∧ (t.site.pav p).rep.isOpen o = true ∧ ((t.site.pav p).rep.out o).faultDue ≠ none) ∧
      (∃ t : State, exec .clockSelectorFault s = .next t ∧ (t.site.pav p).rep.isOpen o = true ∧ ((t.site.pav p).rep.out o).faultDue ≠ none)) ∧
    (∃ t : State, exec (.crystalFailure .A) s = .next t ∧ t.site.com.xtalBadA = true ∧ (c.xtalBadB = false → t.site.com.rd .SDL_STATUS_XTAL = 1)) ∧
    (∃ t : State, exec (.crystalFailure .B) s = .next t ∧ t.site.com.xtalBadB = true ∧ (c.xtalBadA = false → t.site.com.rd .SDL_STATUS_XTAL = 0)) ∧
    (∀ (n : Slot) (ctrl : Word), let w := ctrl.toNat
      ∃ t : State, exec (.sdlSlotArm p n ctrl) s = .next t ∧ (l' t).rd .SDL_SCTRL_TARGET n = w / 16 % 16 ∧ (l' t).rd .SDL_SCTRL_MODE n = w / 2 % 4 ∧
        (if w % 2 = 1 ∧ w / 16 % 16 < 8 ∧ w / 256 % 16 < 12 then (l' t).rd .SDL_SCTRL_ARM n = 1 ∧
           (vget (l' t).slots n {}).time = l.rd .SDL_STIME_HI_TIME_HI n * 2 ^ 32 + l.rd .SDL_STIME_LO_TIME_LO n ∧
           (w / 2 % 4 = 0 ∧ l.rd .SDL_STIME_HI_TIME_HI n * 2 ^ 32 + l.rd .SDL_STIME_LO_TIME_LO n ≤ s.site.now → (l' t).rd .SDL_EVENT_EV_LATE = 1)
         else (l' t).rd .SDL_SCTRL_ARM n = 0)) ∧
    (∀ (n : Slot) (e : Eng) (q : Fin 8), l.rd .SDL_SCTRL_ENGINE n = e.val → l.rd .SDL_SCTRL_QUEUE n = q.val →
      (l.rd .SDL_SCTRL_ARM n = 1 → (vget l.slots n {}).time ≤ s.site.now →
        (l.rd .SDL_SCTRL_TARGET n = 3 → s.site.queueFull p e q = false → ∃ t : State, exec (.slotFire p n) s = .next t ∧
          (t.site.eng p e).queues.get q = (s.site.eng p e).queues.get q ++ [slotMsg n] ∧
          (l' t).rd .SDL_SFIRES_FIRES n = (l.rd .SDL_SFIRES_FIRES n + 1) % 2 ^ 16 ∧ (l.rd .SDL_SCTRL_MODE n = 0 → (l' t).rd .SDL_SCTRL_ARM n = 0)) ∧
        (l.rd .SDL_SCTRL_TARGET n = 4 → n.val < 32 → ∃ t : State, exec (.slotFire p n) s = .next t ∧ (t.site.eng p e).slotPl.getLsbD n = true ∧
          (t.site.eng p e).slotPh = (s.site.eng p e).slotPh)) ∧
      ((vget l.slots n {}).held = true → s.site.queueFull p e q = false → ∃ t : State, exec (.slotMessageDeliver p n) s = .next t ∧
        (t.site.eng p e).queues.get q = (s.site.eng p e).queues.get q ++ [slotMsg n] ∧ (vget (l' t).slots n {}).held = false))

/-- A write of MODE, and what each guard of the converter control does to its outlet. Rests in part on the model's choices of log entries 174, 192 -/
def Obligations.ConverterGuards : Prop :=
  ∀ (p : Pav) (o : Outlet) (g : Grp) (s : State), (s.site.pav p).inStep = true →
    let r := (s.site.pav p).rep
    let r' (t : State) : Replica := (t.site.pav p).rep
    (∀ m : BitVec 4, ∃ t : State, exec (.ctlModeWrite o m) s = .next t ∧ (r' t).mode o = m.toNat ∧
      (r' t).rd .CTL_OMODE_SOFT o = (if m = 1 ∨ m = 2 then 1 else 0) ∧ ((r' t).out o).ocRun = 0 ∧ ((r' t).out o).shortCnt = 0 ∧
      (m = 0 → (r' t).isOpen o = false) ∧ ∀ q : Outlet, q ≠ o → (r' t).mode q = r.mode q) ∧
    (r.rd .CTL_OMODE_SOFT o = 1 → 2 ≤ (r.out o).ocRun → r.isOpen o = false → ∃ t : State, exec (.ssOvercurrent o) s = .next t ∧
      (r' t).rd .CTL_OMODE_STOPPED o = 1 ∧ (r' t).rd .CTL_OMODE_RAMP o = 0 ∧ (r' t).rd .CTL_OMODE_CAUSE o = coOvercurrent ∧
      (r' t).rd .CTL_EVENT_SS_OVERCURRENT = 1 ∧ ((r' t).out o).faultDue ≠ none) ∧
    (r.rd .CTL_OMODE_SOFT o = 1 → 0 < r.rd .CTL_LAYER_SHORT_CYC → r.rd .CTL_LAYER_SHORT_CYC ≤ (r.out o).shortCnt → r.isOpen o = false →
      ∃ t : State, exec (.shortSoftstart o) s = .next t ∧ (r' t).rd .CTL_OMODE_STOPPED o = 1 ∧ (r' t).rd .CTL_OMODE_CAUSE o = coShort ∧
      (r' t).rd .CTL_EVENT_SHORT_SOFTSTART = 1 ∧ ((r' t).out o).faultDue ≠ none) ∧
    (r.guarded g = true → r.rd .CTL_GFEED_OUTLET g = o.val → r.rd .CTL_CTRL_LOST_CYC ≤ r.rd .CTL_GFEED_NF_RUN g → (r.grp g).lossSaid = false → r.isOpen o = false →
      ((r.grp g).runValid = false → ∃ t : State, exec (.feedbackLost g) s = .next t ∧ (r' t).rd .CTL_OMODE_RAMP o = 1 ∧
        (r' t).rd .CTL_OMODE_CAUSE o = coFeedbackLost ∧ (r' t).rd .CTL_EVENT_FEEDBACK_LOST = 1 ∧ ((r' t).out o).faultDue ≠ none) ∧
      ((r.grp g).runValid = true → ∃ t : State, exec (.feedbackFrozen g) s = .next t ∧ (r' t).rd .CTL_OMODE_RAMP o = 1 ∧
        (r' t).rd .CTL_OMODE_CAUSE o = coFeedbackFrozen ∧ (r' t).rd .CTL_EVENT_FEEDBACK_FROZEN = 1 ∧ ((r' t).out o).faultDue ≠ none)) ∧
    (r.rd .CTL_OMODE_SOFT o = 1 → 0 < r.rd .CTL_LAYER_SHORT_CYC → r.rd .CTL_LAYER_SHORT_CYC ≤ (r.out o).shortCnt → r.isOpen o = true →
      (r.out o).openSeq = some s.site.seq → (r.rd .CTL_OMODE_CAUSE o = coOvercurrent ∨ r.rd .CTL_OMODE_CAUSE o = coFeedbackLost) →
      ∃ t : State, exec (.shortSoftstart o) s = .next t ∧ (r' t).rd .CTL_OMODE_STOPPED o = 1 ∧ (r' t).rd .CTL_OMODE_CAUSE o = coShort ∧
      (r' t).rd .CTL_EVENT_SHORT_SOFTSTART = 1) ∧
    (r.rd .CTL_OMODE_SOFT o = 1 → 2 ≤ (r.out o).ocRun → r.rd .CTL_OMODE_RAMP o = 1 → r.rd .CTL_OMODE_STOPPED o = 0 →
      (r.out o).openSeq ≠ some s.site.seq → ∃ t : State, exec (.ssOvercurrent o) s = .next t ∧ (r' t).rd .CTL_OMODE_STOPPED o = 1 ∧
      (r' t).rd .CTL_OMODE_RAMP o = 0 ∧ (r' t).rd .CTL_OMODE_CAUSE o = r.rd .CTL_OMODE_CAUSE o) ∧
    (∀ dis : BitVec 24, dis.getLsbD o = true → 1 ≤ r.mode o → r.mode o ≤ 4 → r.isOpen o = false →
      ∃ t : State, exec (.ctlXdisWrite dis) s = .next t ∧ (r' t).rd .CTL_OMODE_RAMP o = 1 ∧ (r' t).rd .CTL_OMODE_CAUSE o = coDisagree ∧
      (r' t).rd .CTL_EVENT_VOLTAGE_DISAGREE = 1 ∧ ((r' t).out o).faultDue ≠ none) ∧
    (r.rd .CTL_OMODE_RAMP o = 1 → (∀ h : Grp, r.rd .CTL_GFEED_OUTLET h = o.val → 4 ≤ (r.grp h).rampK) →
      ∃ t : State, exec (.rampDone o) s = .next t ∧ (r' t).rd .CTL_OMODE_RAMP o = 0 ∧ (r' t).rd .CTL_OMODE_STOPPED o = 1 ∧
      (r' t).rd .CTL_EVENT_RAMP_DONE = 1 ∧ (r' t).rd .CTL_OMODE_CAUSE o = r.rd .CTL_OMODE_CAUSE o)

/-- Coefficient swaps, injection generators and capture units. Rests in part on the model's choices of log entry 174 -/
def Obligations.SwapsInjectionsCaptures : Prop :=
  ∀ (p : Pav) (o : Outlet) (i : Unit4) (s : State), (s.site.pav p).inStep = true →
    let r := (s.site.pav p).rep
    let r' (t : State) : Replica := (t.site.pav p).rep
    (let code := if r.rd .CTL_OSWCTL_ADDR o = 0 then 6 else if r.rd .CTL_OSWCTL_PEND o = 1 then 7 else setCheck (r.staged o)
     ∃ t : State, exec (.ctlSwapGo o) s = .next t ∧ (r' t).rd .CTL_OSWCTL_RESULT o = code ∧
      (r' t).rd .CTL_OSWCTL_PEND o = (if code = 0 then 1 else r.rd .CTL_OSWCTL_PEND o) ∧ (code ≠ 0 → (r' t).rd .CTL_EVENT_SWAP_REFUSED = 1)) ∧
    (∀ e : Eng, r.rd .CTL_OSWCTL_PEND o = 1 → r.rd .CTL_OSWCTL_ENGINE o = e.val → seqReached (r.rd .CTL_OSWAP_APPLY o) s.site.seq = true →
      (s.site.eng p e).inEndWait = true → r.swapEngines.contains e.val = false →
      (∀ q : Outlet, q < o → ¬(r.rd .CTL_OSWCTL_PEND q = 1 ∧ r.rd .CTL_OSWCTL_ENGINE q = e.val)) →
      ∃ t : State, exec (.swapLoad o) s = .next t ∧ (r' t).rd .CTL_OSWCTL_PEND o = 0 ∧ (r' t).rd .CTL_EVENT_SWAP_DONE = 1 ∧
        t.site.eng p e = (s.site.eng p e).loadSet (0x40000 + 16 * r.rd .CTL_OSWCTL_ADDR o) (r.staged o) ∧
        ∀ d : Eng, d ≠ e → t.site.eng p d = s.site.eng p d) ∧
    (r.rd .CTL_INJCTRL_WAVE i ≤ 4 → r.rd .CTL_INJCTRL_OUTLET i < 24 → r.mode (r.rd .CTL_INJCTRL_OUTLET i) = modeCharging →
      (∀ j : Unit4, j ≠ i → r.rd .CTL_INJCTRL_OUTLET j ≠ r.rd .CTL_INJCTRL_OUTLET i) →
      ∃ t : State, exec (.ctlInjGo i) s = .next t ∧ (vget (r' t).injs i {}).armed = true ∧ (r' t).regs = r.regs) ∧
    (r.rd .CTL_INJCTRL_ACTIVE i = 1 → ∃ t : State, exec (.ctlInjStop i) s = .next t ∧ (r' t).rd .CTL_INJCTRL_ACTIVE i = 0 ∧
      (r' t).rd .CTL_INJCTRL_END i = 1 ∧ (r' t).rd .CTL_EVENT_INJ_DONE = 1) ∧
    ((vget r.injs i {}).armed = true → r.rd .CTL_INJSTART_START i = s.site.seq → ∃ t : State, exec (.injectionStart i) s = .next t ∧
      (r' t).rd .CTL_INJCTRL_ACTIVE i = 1 ∧ (vget (r' t).injs i {}).armed = false ∧ (vget (r' t).injs i {}).t = 0) ∧
    (r.rd .CTL_INJCTRL_ACTIVE i = 1 → r.rd .CTL_INJLEN_LEN i ≤ (vget r.injs i {}).t → ∃ t : State, exec (.injDone i) s = .next t ∧
      (r' t).rd .CTL_INJCTRL_ACTIVE i = 0 ∧ (r' t).rd .CTL_INJCTRL_END i = 0 ∧ (r' t).rd .CTL_EVENT_INJ_DONE = 1) ∧
    (r.rd .CTL_CAPCTRL_TRIG i < 6 → r.rd .CTL_CAPCTRL_DEC i ≠ 0 → r.rd .CTL_CAPSIZE_SIZE i ≠ 0 → ∃ t : State, exec (.ctlCapArm i) s = .next t ∧
      (r' t).rd .CTL_CAPCTRL_STATE i = 1 ∧ (r' t).rd .CTL_CAPCOUNT_COUNT i = 0 ∧
      (vget (r' t).caps i {}).trigger = decide (r.rd .CTL_CAPCTRL_TRIG i = 0) ∧ (vget (r' t).caps i {}).held = 0) ∧
    (r.rd .CTL_CAPCTRL_TRIG i = 1 → (r.rd .CTL_CAPCTRL_STATE i = 1 ∨ r.rd .CTL_CAPCTRL_STATE i = 2) → ∃ t : State,
      exec (.ctlCapFire i) s = .next t ∧ (vget (r' t).caps i {}).trigger = true ∧ (r' t).regs = r.regs) ∧
    (∃ t : State, exec (.ctlCapStop i) s = .next t ∧ (r' t).rd .CTL_CAPCTRL_STATE i = 0 ∧ (r' t).caps = r.caps ∧
      (t.site.pav p).loc.sram = (s.site.pav p).loc.sram) ∧
    (r.rd .CTL_CAPCTRL_STATE i = 3 → (vget r.caps i {}).post = 0 → ∃ t : State, exec (.capDone i) s = .next t ∧
      (r' t).rd .CTL_CAPCTRL_STATE i = 4 ∧ (r' t).rd .CTL_EVENT_CAP_DONE = 1 ∧
      (t.site.pav p).loc.sram = (s.site.pav p).loc.sram.wrBytes (r.capBase i) (r.capHeader i))

/-- Shedding, rotation, routing, the Parterre bank, fallback, stale inputs and the breach watch. Rests in part on the model's choices of log entry 166 -/
def Obligations.PhasesAndAllocation : Prop :=
  ∀ (p : Pav) (g : Grp) (o : Outlet) (s : State), (s.site.pav p).inStep = true →
    let l := (s.site.pav p).loc
    let r := (s.site.pav p).rep
    let r' (t : State) : Replica := (t.site.pav p).rep
    let x := r.ph g
    (r.shedHold g ≤ x.hold → 0 < x.hold → x.shed = none → x.adds = [] → x.rampOut = none → x.en % 256 ≠ 0 →
      ∃ (t : State) (k : Nat), exec (.shedStart g) s = .next t ∧ ((r' t).ph g).shed = some (k, 65536) ∧ k < 8 ∧ bitOf x.en k = true ∧
        (∀ j : Nat, j < 8 → bitOf x.en j = true → x.q.getD j 0 ≤ x.q.getD k 0) ∧ ((r' t).ph g).en = x.en ∧ ((r' t).ph g).hold = 0) ∧
    (r.ilvMode g = 1 → 0 < r.rotInt g → r.rotInt g ≤ x.ticks → ∃ t : State, exec (.rotationDue g) s = .next t ∧ ((r' t).ph g).ticks = 0 ∧
      (if x.rampOut = none then ((r' t).ph g).rot = (x.rot + 1) % 8 else ((r' t).ph g).rot = x.rot ∧ ((r' t).ph g).rotDue = true)) ∧
    (∀ k q : Nat, x.rampOut = some (k, q) →
      (r.shedRamp g ≤ k → ∃ t : State, exec (.routeRampOutEnd g) s = .next t ∧ ((r' t).ph g).en = 0 ∧ ((r' t).ph g).shed = none ∧
        (t.site.pav p).loc.outWin.rdN (128 * g + 34) 1 = 0) ∧
      (r.rd .STG_ZC_ZC_CYC ≤ (r.link g).zcRun → x.en = 0 → ∃ t : State, exec (.routeChangeSend g) s = .next t ∧ ((r' t).ph g).rampOut = none ∧
        ((r' t).link g).routeSent = r.routeByte g q ∧ (t.site.pav p).loc.outWin.rdN (128 * g + 35) 1 = r.routeByte g q ∧
        (r' t).rd .CTL_GFEED_OUTLET g = (if r.routeByte g q = 0 then 31 else q % 32))) ∧
    (∀ mask : Word, mask.getLsbD g = true → vget r.frozen g none ≠ none → ∃ t : State, exec (.ctlHfrzRelease mask) s = .next t ∧
      vget (r' t).frozen g none = none ∧ bitOf ((r' t).rd .CTL_HFRZ_FRZ) g = false) ∧
    (let base := r.rd .CTL_PBASE_BASE + 1024 * (1 - r.alloc.bank)
     let b := l.sram.rdBytes base 960
     let code := r.bankCheck b (l.sram.rdN (base + 960) 4) (nextTickOf s.site.now)
     ∃ t : State, exec .publicationDeadline s = .next t ∧ (r' t).rd .CTL_PSTAT_RESULT = code ∧
       (r' t).alloc.accepted = (if code = 0 then some (parterreOf b) else none) ∧ (r' t).alloc.part = r.alloc.part ∧
       (l.sram.rdN (base + 960) 4 ≠ fieldAt b 4 4 → (r' t).rd .CTL_PSTAT_RESULT = 1)) ∧
    (r.rd .CTL_ACTRL_LATE_FB ≤ r.alloc.lateRun → r.alloc.fallback = false → ∃ t : State, exec .parterreFallback s = .next t ∧
      (r' t).alloc.fallback = true ∧ vget (r' t).alloc.grants o 0 = 0 ∧ (r' t).rd .CTL_AEVENT_PARTERRE_FALLBACK = 1) ∧
    (r.rd .CTL_INVTOL_CYC ≤ vget r.alloc.breachRun o 0 → 0 < vget r.alloc.breachRun o 0 → osNegotiating ≤ r.ostate o → r.ostate o ≤ osCharging →
      ∃ t : State, exec (.invBreach o) s = .next t ∧ (r' t).ostate o = osStopping ∧ (r' t).rd .DLK_OSTATE_CAUSE o = ocInvBreach ∧
      (r' t).rd .CTL_AEVENT_INV_BREACH = 1 ∧ vget (r' t).alloc.breachRun o 0 = 0) ∧
    (3 ≤ r.alloc.headMiss → ∃ t : State, exec .headStale s = .next t ∧ (r' t).rd .CTL_AEVENT_HEAD_STALE = 1 ∧
      (r' t).rd .CTL_OHEAD_HEAD o = r.staleHead o % 2 ^ 16) ∧
    (∀ (n : Nat) (x : HostLimit), r.alloc.limits[n]? = some x → ∃ t : State, exec (.hostLimitExpiry n) s = .next t ∧
      (r' t).alloc.limits = r.alloc.limits.eraseIdx n) ∧
    (∀ c : Fin 15, r.rd .CTL_FRESH_FE < (vget r.alloc.cabinets c {}).age → ∃ t : State, exec (.frontEndDataStale c) s = .next t ∧
      (vget (r' t).alloc.cabinets c {}).stale = true ∧ (r' t).regs = r.regs) ∧
    (r.rd .CTL_FRESH_COOL < (vget r.alloc.coolant o {}).age → ∃ t : State, exec (.coolantDataStale o) s = .next t ∧
      (vget (r' t).alloc.coolant o {}).stale = true ∧ (r' t).regs = r.regs)

/-- Dispenser links: discovery, keepalives, errors, repetition, lanes, supervision and the exits of FAULT. Rests in part on the model's choices of log entries 54, 55 -/
def Obligations.DispenserLinks : Prop :=
  ∀ (p : Pav) (d : DLink) (lane : Lane) (h : DlpHdr) (body : List Byte) (s : State), (s.site.pav p).inStep = true →
    let r : Replica := { (s.site.pav p).rep with now := s.site.now }
    let r' (t : State) : Replica := (t.site.pav p).rep
    let q := r.received d lane h
    let pass (type ver : Nat) : Prop := s.site.drives lane = true ∧ r.passes d lane h type ver
    (pass 0x05 0 → body = [] → ∃ t : State, exec (.dlpKeepalive d lane h body) s = .next t ∧ (r' t).regs = q.regs ∧ ((r' t).dl d).fresh h.seq = false) ∧
    (pass 0x0F 3 → body.length = 1 → ∃ t : State, exec (.dlpWake d lane h body) s = .next t ∧ (r' t).regs = q.regs ∧
      ((r' t).dl d).fresh h.seq = false) ∧
    (pass 0xFF 0 → body.length = 2 → ∃ t : State, exec (.dlpError d lane h body) s = .next t ∧ (r' t).rd .DLK_EVENT_PROTO_ERR = 1) ∧
    (∀ type : Byte, pass type.toNat 0 → ∃ (t : State) (seq code : Nat), exec (.dlpUnknownPdu d lane h type body) s = .next t ∧
      (r' t).rd .DLK_EVENT_PROTO_ERR = 1 ∧ (r' t).tx = q.tx ++ [.dlp d 0xFF [seq, 0xFF, 0, type.toNat, code]]) ∧
    (pass 0x01 0 → body.length = 24 → q.dstate d = dsDown → (q.dl d).unitA = none → (q.dl d).unitB = none → (q.dl d).lastUnit = none →
      (byteAt body 1 = 1 ↔ q.lanesOf d = 1) →
      let ver := commonVer (byteAt body 0) (q.rd .DLK_CTRL_VERS)
      (ver ≠ 0 → ∃ t : State, exec (.dlpHello d lane h body) s = .next t ∧ (r' t).dstate d = dsHello ∧ (r' t).rd .DLK_LSTATE_VER d = ver ∧
        (r' t).rd .DLK_LSTATE_KIND0 d = byteAt body 16 % 4 ∧ (r' t).rd .DLK_LUNIT_LO_UNIT d = fieldAt body 6 8 % 2 ^ 32) ∧
      (ver = 0 → ∃ t : State, exec (.dlpHello d lane h body) s = .next t ∧ (r' t).dstate d = dsFault ∧ (r' t).rd .DLK_EVENT_NO_VERSION = 1)) ∧
    (pass 0x03 0 → body.length = 16 → q.rd .DLK_CTRL_AUTHREQ = 1 → (q.dl d).unacked = [] → (q.dstate d = dsHello ∨ q.dstate d = dsAuth) →
      (q.lanesOf d = 1 → lane = .A → ∃ t : State, exec (.dlpAuthResp d lane h body true) s = .next t ∧ (r' t).dstate d = dsConfig ∧
        ((r' t).dl d).authA = true ∧ (r' t).ctx 3 (2 * d) ≠ none) ∧
      (∃ t : State, exec (.dlpAuthResp d lane h body false) s = .next t ∧ (r' t).dstate d = dsFault ∧ (r' t).rd .DLK_EVENT_AUTH_FAIL = 1)) ∧
    (∀ (seq : Nat) (u : OutPdu), ((r.dl d).unacked.find? fun x => x.seq = seq) = some u →
      (0 < u.left → ∃ t : State, exec (.dlpRetxTimeout d seq) s = .next t ∧ (r' t).rd .DLK_LRETX_RETX d = (r.rd .DLK_LRETX_RETX d + 1) % 2 ^ 16 ∧
        ((r' t).dl d).unacked = (r.dl d).unacked.map fun x => if x.seq = seq then { x with left := x.left - 1 } else x) ∧
      (u.left = 0 → r.dstate d = dsActive → ∃ t : State, exec (.dlpRetxTimeout d seq) s = .next t ∧ (r' t).dstate d = dsDown ∧
        (r' t).rd .DLK_EVENT_DLP_FAIL = 1 ∧ (r' t).rd .DLK_EVENT_LINK_LOST = 1)) ∧
    (r.rd .DLK_LCFG_EN_LINK d = 1 → r.dstate d = dsActive → (r.dl d).sentA = false → ∃ (t : State) (b : List Nat),
      exec .dlpSendPoint s = .next t ∧ Tx.dlpLane .A d 0x05 b ∈ (r' t).tx ∧ ((r' t).dl d).sentA = false ∧ (r' t).regs = r.regs) ∧
    (bitOf (r.rd .DLK_LANEB_UP) d = true → r.lanesOf d = 2 → ∃ t : State, exec (.dlpLaneDown d .B) s = .next t ∧
      bitOf ((r' t).rd .DLK_LANEB_UP) d = false ∧ (r' t).rd .DLK_EVENT_LANE_DOWN = 1 ∧ (r' t).rd .DLK_LANEA_UP = r.rd .DLK_LANEA_UP) ∧
    (r.dstate d = dsActive → ∃ t : State, exec (.dlpSupervisionTimeout d) s = .next t ∧ (r' t).dstate d = dsDown ∧
      (r' t).rd .DLK_EVENT_LINK_LOST = 1 ∧ (r.ostate (2 * d) = osCharging → (r' t).ostate (2 * d) = osStopping ∧
        (r' t).rd .DLK_OSTATE_CAUSE (2 * d) = ocDispenserLost)) ∧
    (r.dstate d = dsFault → (∃ t : State, exec (.dlkFaultExit d) s = .next t ∧ (r' t).dstate d = dsDown) ∧
      (∃ t : State, exec (.dlkLinkRestart d) s = .next t ∧ (r' t).dstate d = dsDown))

/-- What plug, lock, insulation monitor, vehicle, buttons, cards and coolant reports do to an outlet. Rests in part on the model's choices of log entry 56 -/
def Obligations.DispenserOutlets : Prop :=
  ∀ (p : Pav) (d : DLink) (j : Fin 2) (lane : Lane) (h : DlpHdr) (body : List Byte) (s : State),
    (s.site.pav p).inStep = true → h.outlet = j.val →
    let o : Nat := 2 * d.val + j.val
    let r : Replica := { (s.site.pav p).rep with now := s.site.now }
    let r' (t : State) : Replica := (t.site.pav p).rep
    let q := r.received d lane h
    let pass (type ver : Nat) : Prop := s.site.drives lane = true ∧ r.passes d lane h type ver
    let moves (c : Instr) (st : Nat) : Prop := ∃ t : State, exec c s = .next t ∧ (r' t).ostate o = st
    let stop (c : Instr) (st cause : Nat) : Prop := ∃ t : State, exec c s = .next t ∧ (r' t).ostate o = st ∧ (r' t).rd .DLK_OSTATE_CAUSE o = cause
    (pass 0x10 0 → body.length = 4 →
      (byteAt body 0 ≠ 0 → q.ostate o = osIdle → (q.vs o).linkUp = false → moves (.dlpPlug d lane h body) osPlugged) ∧
      (byteAt body 0 = 0 → q.ostate o = osPlugged → moves (.dlpPlug d lane h body) osIdle)) ∧
    (pass 0x13 0 → body.length = 1 →
      (byteAt body 0 = 3 → q.ostate o = osNegotiating → stop (.dlpLockState d lane h body) osFault ocLockFail) ∧
      (q.ostate o = osIdle → ∃ t : State, exec (.dlpLockState d lane h body) s = .next t ∧ ((r' t).vs o).lock = some (byteAt body 0) ∧
        (r' t).regs = q.regs)) ∧
    (pass 0x15 0 → body.length = 5 → byteAt body 0 = 2 → q.energised o = true → ∃ t : State, exec (.dlpImdState d lane h body) s = .next t ∧
      ((r' t).vs o).imd = some (2, fieldAt body 1 4) ∧ ((r' t).so o).reports = (q.so o).reports ++ [(5, 0x10, ocIsolation)]) ∧
    (pass 0x20 0 → q.ctxOrphaned 0 (2 * o) = false → q.ctxOrphaned 0 (2 * o + 1) = false → ∀ len : Nat, 14 ≤ len → len ≤ 1294 →
      (q.ostate o = osCharging → stop (.dlpVehFrame d lane h len .stop) osStopping ocVehicleStop) ∧
      (∀ offered : Nat, q.chooseProto o offered ≠ 0 → q.ostate o = osPlugged → (q.vs o).linkUp = true →
        ∃ t : State, exec (.dlpVehFrame d lane h len (.handshake offered)) s = .next t ∧ (r' t).ostate o = osNegotiating ∧
          (r' t).rd .DLK_OSTATE_PROTO o = q.chooseProto o offered)) ∧
    (pass 0x21 0 → body.length = 2 → byteAt body 0 = 1 → q.ostate o = osPlugged → (q.vs o).shook = true →
      moves (.dlpVehLink d lane h body) osNegotiating) ∧
    (pass 0x41 0 → body.length = 1 →
      (byteAt body 0 = 2 → osNegotiating ≤ q.ostate o → q.ostate o ≤ osCharging → stop (.dlpButton d lane h body) osStopping ocButton) ∧
      ((byteAt body 0 = 3 ∨ byteAt body 0 = 4) → ∃ t : State, exec (.dlpButton d lane h body) s = .next t ∧
        ((r' t).dl d).selected = some (byteAt body 0 - 3, s.site.ticks) ∧ (r' t).regs = q.regs)) ∧
    (pass 0x42 0 → 6 ≤ body.length → body.length = 2 + byteAt body 1 → byteAt body 1 ≤ 10 → q.awaits o = true → (q.vs o).asked = none →
      ∃ t : State, exec (.dlpCard d lane h body) s = .next t ∧ ((r' t).vs o).asked =
        (if (vget q.owners o none).isSome then some ((q.vs o).reqNo + 1, false, (body.drop 2).map BitVec.toNat) else none)) ∧
    (pass 0x50 2 → body.length = 12 → ∃ t : State, exec (.dlpCoolStatus d lane h body) s = .next t ∧
      (vget (r' t).alloc.coolant o {}).supply = signed 16 (fieldAt body 0 2) ∧ (vget (r' t).alloc.coolant o {}).flow = fieldAt body 4 2 ∧
      (vget (r' t).alloc.coolant o {}).age = 0 ∧ (vget (r' t).alloc.coolant o {}).stale = false) ∧
    (∀ u : Outlet, u.val = o →
      ((r.vs o).asked ≠ none → ∃ t : State, exec (.cardAnswerTimeout u) s = .next t ∧ ((r' t).vs o).asked = none) ∧
      (∃ t : State, exec (.certAnswerTimeout u) s = .next t ∧ ((r' t).vs o).certAsked = none ∧ (r' t).regs = r.regs) ∧
      ((vget r.alloc.coolant o {}).flow < r.cab o 24 2 → (r.vs o).pump = some 100 → (vget r.alloc.coolant o {}).pumpFault = false →
        ∃ t : State, exec (.coolFlowLow u) s = .next t ∧ (r' t).rd .DLK_EVENT_COOL_FAULT = 1 ∧ (vget (r' t).alloc.coolant o {}).pumpFault = true)) ∧
    (∃ t : State, exec (.preauthExpiry d) s = .next t ∧ ((r' t).dl d).preauth = none ∧ (r' t).regs = r.regs)

/-- Each outlet timer moves its state to the state and cause of the spec, and STOPPING ends. Rests in part on the model's choices of log entries 57, 125, 195 -/
def Obligations.OutletTimers : Prop :=
  ∀ (p : Pav) (o : Outlet) (s : State), (s.site.pav p).inStep = true →
    let r := (s.site.pav p).rep
    let r' (t : State) : Replica := (t.site.pav p).rep
    let moves (c : Instr) (st cause : Nat) : Prop := ∃ t : State, exec c s = .next t ∧ (r' t).ostate o = st ∧ (r' t).rd .DLK_OSTATE_CAUSE o = cause
    (r.ostate o = osPlugged → moves (.tLinkExpiry o) osFault ocNoVehicleLink) ∧
    (r.ostate o = osNegotiating → (r.startMet o = false ∨ r.rd .MET_OSTATE_NRC o = 1 ∨ r.grantCc o = false) → moves (.tAuthExpiry o) osUnplugWait ocAuthTimeout) ∧
    (r.ostate o = osNegotiating → (r.vs o).lockCmd = true → (r.vs o).lock ≠ some 1 → moves (.tLockExpiry o) osFault ocLockFail) ∧
    (r.ostate o = osCableCheck → moves (.tCcExpiry o) osFault ocCableCheckTimeout) ∧
    (r.ostate o = osPrecharge → moves (.tPreExpiry o) osFault ocPrechargeTimeout) ∧
    (r.ostate o = osCharging → moves (.tLoopExpiry o) osStopping ocProtocolTimeout) ∧
    (osNegotiating ≤ r.ostate o → r.ostate o ≤ osCharging → moves (.protocolSequenceTimeout o) osStopping ocProtocolTimeout) ∧
    (r.ostate o = osStopping → r.stopped o = false →
      (4 ≤ (r.out o).stopRun → ∃ t : State, exec (.stopCurrentReached o) s = .next t ∧
        (∀ c : Nat, c < 32 → r.channelOf o = some c → bitOf (r' t).safety.gates c = false) ∧
        (if (r.vs o).lost then (r' t).ostate o = osFault ∧ (r' t).rd .DLK_OSTATE_CAUSE o = ocDispenserLost ∧ (r' t).rd .DLK_OSTATE_WELD_OWED o = 1
         else (r' t).ostate o = osWeldCheck)) ∧
      (∃ t : State, exec (.tStopExpiry o) s = .next t ∧ (r' t).stopped o = true ∧ (r' t).rd .SAF_OTRIP_FUNC o = 2 ∧
        (r' t).rd .SAF_EVENT_SF2_TRIP = 1 ∧
        (r' t).ostate o = (if (r.vs o).lost then osFault else osWeldCheck)))

/-- Sensor-head sessions and their blocks. Rests in part on the model's choices of log entries 58, 196 -/
def Obligations.SensorHeads : Prop :=
  ∀ (p : Pav) (d : DLink) (j : Fin 2) (lane : Lane) (h : DlpHdr) (body : List Byte) (s : State),
    (s.site.pav p).inStep = true → h.outlet = j.val →
    let o : Nat := 2 * d.val + j.val
    let r : Replica := { (s.site.pav p).rep with now := s.site.now }
    let r' (t : State) : Replica := (t.site.pav p).rep
    let q := r.received d lane h
    let a := q.adoptMeter s.site.env o
    let m := q.meter o
    let pass (type : Nat) : Prop := s.site.drives lane = true ∧ r.passes d lane h type 0
    let moves (c : Instr) (st : Nat) : Prop := ∃ t : State, exec c s = .next t ∧ (r' t).head o = st
    (pass 0x31 → body.length = 32 → a.head o = headIdent →
      (byteAt body 1 ≠ 0 → fieldAt body 24 4 = 62500 → 3 ≤ byteAt body 28 → kVI (fieldAt body 16 4) (fieldAt body 20 4) < 2 ^ 64 →
        kII (fieldAt body 20 4) (a.meter o).rCable < 2 ^ 64 → fieldAt (a.meter o).record 12 8 = 0 → a.headKey o ≠ none →
        ∃ t : State, exec (.headIdent d lane h body) s = .next t ∧ (r' t).head o = headAuth ∧ ((r' t).meter o).unit = fieldAt body 6 8 ∧
          ((r' t).meter o).vLsb = fieldAt body 16 4 ∧ ((r' t).meter o).iLsb = fieldAt body 20 4) ∧
      (fieldAt body 24 4 ≠ 62500 → ∃ t : State, exec (.headIdent d lane h body) s = .next t ∧ (r' t).head o = headRefused ∧
        (r' t).rd .MET_EVENT_HEAD_REFUSED = 1)) ∧
    (pass 0x31 → body.length = 17 → q.head o = headAuth → q.ctx 2 o = none →
      (∃ t : State, exec (.headResp d lane h body true) s = .next t ∧ (r' t).head o = headAuth ∧ ((r' t).meter o).lastUnit = some m.unit ∧
        (r' t).ctx 2 o ≠ none) ∧
      moves (.headResp d lane h body false) headNone) ∧
    (pass 0x31 → body.length = 1 → (q.head o = headAuth → q.ctx 2 o ≠ none → moves (.headStarted d lane h body) headStreaming) ∧ moves (.headStopped d lane h body) headNone) ∧
    (pass 0x31 → body.length = 9 → ∃ t : State, exec (.headStat d lane h body) s = .next t ∧
      ((r' t).meter o).stat = [fieldAt body 1 2, fieldAt body 3 2, fieldAt body 5 4] ∧ (r' t).head o = q.head o) ∧
    (pass 0x31 → body.length = 3 → q.head o = headIdent → moves (.headErr d lane h body) headNone) ∧
    (pass 0x30 → 5 ≤ body.length → body.length ≤ 197 → q.head o = headStreaming → m.orphaned = false → m.next ≤ fieldAt body 0 4 → m.taken = [] →
      let n := fieldAt body 0 4
      (m.frags = [] → ∀ mac : Bool, ∃ t : State, exec (.dlpHeadBlock d lane h body mac) s = .next t ∧
        ((r' t).meter o).frags = [(n, byteAt body 4 % 128, body.drop 5)] ∧ (r' t).regs = q.regs) ∧
      (∀ x y : List Byte, m.frags = [(n, 0, x), (n, 1, y)] → byteAt body 4 % 128 = 2 →
        let block := x ++ y ++ body.drop 5
        (∃ t : State, exec (.dlpHeadBlock d lane h body false) s = .next t ∧ (r' t).rd .MET_EVENT_MAC_FAIL = 1 ∧
          ((r' t).meter o).taken = [] ∧ ((r' t).meter o).imp = m.imp) ∧
        (fieldAt block 0 2 = 0x0A01 → fieldAt block 4 4 = n → n = m.next → bitOf (fieldAt block 12 2) 2 = false → m.tx = none →
          let e := (samplePairs block).foldl (BlockSums.step m.iSt m.tZc) { exporting := m.exporting, idle := m.idle }
          let kvi := kVI m.vLsb m.iLsb
          let kii := kII m.iLsb m.rCable
          ∃ t : State, exec (.dlpHeadBlock d lane h body true) s = .next t ∧ ((r' t).meter o).next = n + 1 ∧
            ((r' t).meter o).imp = (m.imp + (m.impFrac + (eImp e kvi kii).toNat) / 2 ^ 32) % 2 ^ 64 ∧
            (0 ≤ eExp e kvi kii → ((r' t).meter o).exp = (m.exp + (m.expFrac + (eExp e kvi kii).toNat) / 2 ^ 32) % 2 ^ 64)) ∧
        (fieldAt block 0 2 = 0x0A01 → fieldAt block 4 4 = n → bitOf (fieldAt block 12 2) 2 = true →
          ∃ t : State, exec (.dlpHeadBlock d lane h body true) s = .next t ∧ (r' t).head o = headLost ∧ (r' t).rd .MET_EVENT_STREAM_LOST = 1 ∧
            ((r' t).meter o).imp = m.imp))) ∧
    (∀ u : Outlet, u.val = o → r.head o = headStreaming →
      ((r.meter o).taken = [] → (r.meter o).missed = [] → ∃ t : State, exec (.blockMissed u) s = .next t ∧
        ((r' t).meter o).missed = [(r.meter o).next] ∧ (r' t).rd .MET_EVENT_BLOCK_MISSED = 1) ∧
      ((r.meter o).missed.contains (r.meter o).next = true → (r.meter o).taken = [] → ∃ t : State, exec (.blockLost u) s = .next t ∧
        (r' t).head o = headLost ∧ (r' t).rd .MET_EVENT_STREAM_LOST = 1 ∧ (r' t).rd .MET_OSTATE_READY o = 0 ∧
        (r.ostate o = osCharging → (r' t).ostate o = osStopping ∧ (r' t).rd .DLK_OSTATE_CAUSE o = ocAuthLost)))

/-- Saves, legal writes, test outputs, and the safety inputs with their tests and SAFE_RESET. Rests in part on the model's choices of log entry 50 -/
def Obligations.MeterWritesAndSafetyInputs : Prop :=
  ∀ (p : Pav) (o : Outlet) (s : State),
    let c := s.site.com
    let r := (s.site.pav p).rep
    let r' (t : State) : Replica := (t.site.pav p).rep
    ((s.site.pav p).inStep = true → s.site.now / 2 ^ 31 % r.rd .MET_CTRL_SAVE_INT = 0 → ∃ t : State, exec .metrologySave s = .next t ∧
      ((r' t).meter o).saveNo = (r.meter o).saveNo + 1 ∧ ((r' t).meter o).saveBank = 1 - (r.meter o).saveBank ∧
      (r' t).legal.writes.length = r.legal.writes.length + 24) ∧
    (∀ (w : LegalWrite) (l : List LegalWrite), s.site.leader = some p → s.site.privOpen = true → (s.site.pav p).inStep = true →
      r.legal.writes = w :: l → r.rd .MET_STATUS_COPY_A = 1 → r.rd .MET_STATUS_COPY_B = 1 → ∃ t : State, exec (.legalMramWrite true true) s = .next t ∧
      t.site.com.legalA = c.legalA.wrBytes w.addr w.data ∧ t.site.com.legalB = c.legalB.wrBytes w.addr w.data ∧ (r' t).legal.writes = l) ∧
    (∀ (n : Fin 4) (v : Word), (s.site.pav p).inStep = true → ∃ t : State, exec (.metMtpWrite n v) s = .next t ∧
      (r' t).rd .MET_MTP_OUTLET n = v.toNat % 32 ∧ (r' t).rd .MET_MTP_EN n = v.toNat / 64 % 2 ∧ (r' t).rd .MET_MTP_K n = v.toNat / 65536) ∧
    (∀ n : Fin 4, (s.site.pav p).inStep = true → r.rd .MET_MTP_EN n = 1 → 0 < r.rd .MET_MTPB_BACKLOG n → ∃ t : State, exec (.mtpPulse n) s = .next t ∧
      (r' t).rd .MET_MTPB_BACKLOG n + 1 = r.rd .MET_MTPB_BACKLOG n ∧ (r' t).tx = r.tx ++ [.mtpPulse n]) ∧
    (∀ i : SafeIn,
      (∃ t : State, exec (.safetyInputDemand i) s = .next t ∧ bitOf (t.site.com.rd .SIO_IN_IN) i = false ∧ t.site.a = s.site.a ∧ t.site.b = s.site.b) ∧
      (∃ t : State, exec (.safetyInputHealthy i) s = .next t ∧ bitOf (t.site.com.rd .SIO_IN_IN) i = true ∧ t.site.a = s.site.a ∧ t.site.b = s.site.b) ∧
      (∀ (k : TestOut) (stayed fell : BitVec 16) (ok : Bool), bitOf (c.rd .SIO_TPEN_EN) k = true → c.tpOf i = k.val → stayed.getLsbD i = true →
        vget c.sio.stayRun i 0 = 1 → ∃ t : State, exec (.testPulse k stayed fell ok) s = .next t ∧ bitOf (t.site.com.rd .SIO_IN_FAULT) i = true ∧
        t.site.com.rd .SIO_EVENT_SI_PULSE = 1) ∧
      (∃ t : State, exec (.siDiscrep i) s = .next t ∧ bitOf (t.site.com.rd .SIO_IN_FAULT) i = true ∧ vget t.site.com.sio.code i 0 = siDiscrep ∧
        t.site.com.rd .SIO_EVENT_SI_DISCREP = 1) ∧
      (∃ t : State, exec (.siFaultClear i) s = .next t ∧ bitOf (t.site.com.rd .SIO_IN_FAULT) i = false ∧ vget t.site.com.sio.code i 0 = 0)) ∧
    (c.rd .SIO_RESET_JAM = 0 → ∃ t : State, exec .safeResetPress s = .next t ∧ t.site.com.sio.pressed = true ∧ t.site.com.rd .SIO_EVENT_RESET_PRESS = 1 ∧
      t.site.com.rd .SIO_RESET_LEVEL = 0) ∧
    (∃ t : State, exec .resetJam s = .next t ∧ t.site.com.rd .SIO_RESET_JAM = 1 ∧ t.site.com.rd .SIO_EVENT_RESET_JAM = 1 ∧
      t.site.com.sio.pressed = c.sio.pressed) ∧
    (∃ t : State, exec .resetJamClear s = .next t ∧ t.site.com.rd .SIO_RESET_JAM = 0 ∧ t.site.com.rd .SIO_RESET_LEVEL = 0) ∧
    (∀ k : Chan, (s.site.pav p).inStep = true → r.channelOf o = some k.val →
      (bitOf (c.rd .SIO_GATE_GATE) k = true → (∃ t : State, exec (.offPulseCheck k true) s = .next t ∧ ((r' t).so o).checkOk = true) ∧
        ∃ t : State, exec (.offPulseCheck k false) s = .next t ∧ ((r' t).so o).checkOk = false ∧ (r' t).safety.checkFail = k.val :: r.safety.checkFail) ∧
      (bitOf (c.rd .SIO_GATE_GATE) k = false → ∃ t : State, exec (.offChannelCheck k true) s = .next t ∧ ((r' t).so o).checkOk = true))

/-- What the safety engine does between closures: gates, weld tests, stale reports, blocks, confirmation, unlocking. Rests in part on the model's choices of log entry 166 -/
def Obligations.SafetyActs : Prop :=
  ∀ (p : Pav) (o : Outlet) (s : State), (s.site.pav p).inStep = true →
    let r := (s.site.pav p).rep
    let r' (t : State) : Replica := (t.site.pav p).rep
    (∀ k : Chan, (r.so o).clearing = true → r.channelOf o = some k.val → ∃ t : State, exec (.gateClearTimeout o) s = .next t ∧
      bitOf (r' t).safety.gates k = false ∧ ((r' t).so o).clearing = false ∧ ((r' t).so o).weld = .drop ∧ (r' t).regs = r.regs) ∧
    ((r.so o).weld = .drop → ∃ t : State, exec (.postOpenDropWait o) s = .next t ∧ ((r' t).so o).weld = .comparing [] ∧ (r' t).regs = r.regs) ∧
    (∀ l : List Bool, (r.so o).weld = .comparing l →
      (l = [true, true] → r.ostate o = osWeldCheck → ∃ t : State, exec (.postOpenTestEnd o) s = .next t ∧ (r' t).ostate o = osFault ∧
        (r' t).rd .DLK_OSTATE_CAUSE o = ocWelded ∧ (r' t).rd .SAF_OTRIP_WELD o = 2 ∧ (r' t).rd .SAF_EVENT_WELD_FAIL = 1) ∧
      (l.length < 2 → r.ostate o = osWeldCheck → ∃ t : State, exec (.postOpenTestEnd o) s = .next t ∧
        (r' t).ostate o = (if (r.vs o).conn then osUnplugWait else osIdle) ∧ (r' t).rd .SAF_OTRIP_WELD o = 3 ∧
        (r' t).rd .DLK_OSTATE_WELD_OWED o = 1)) ∧
    ((r.ostate o = osPrecharge ∨ r.ostate o = osCharging ∨ r.ostate o = osStopping) → ∃ t : State, exec (.imdStale o) s = .next t ∧
      ((r' t).so o).reports = (r.so o).reports ++ [(5, 0x16, ocSafetyTrip)] ∧ ((r' t).vs o).imdFresh = false) ∧
    (r.inService o = true → (r.safOut o 1 1 = 0 ∨ r.safOut o 1 1 = 2) → r.energised o = true → ∃ t : State, exec (.tCondStale o) s = .next t ∧
      ((r' t).so o).reports = (r.so o).reports ++ [(6, 0x16, ocSafetyTrip)]) ∧
    (r.rd .SAF_STATUS_DEGRADED = 1 → ∃ t : State, exec .degExpired s = .next t ∧ (r' t).rd .SAF_STATUS_DEGRADED = 0 ∧
      (r' t).rd .SAF_EVENT_DEG_EXPIRED = 1 ∧ (r' t).safety.expired = true) ∧
    (r.classL = false → (r.so o).trigger = false → ∃ t : State, exec (.classSBlockClear o) s = .next t ∧ bitOf ((r' t).rd .SAF_BLOCK_BLOCK) o = false ∧
      ∀ q : Outlet, q ≠ o → bitOf ((r' t).rd .SAF_BLOCK_BLOCK) q = bitOf (r.rd .SAF_BLOCK_BLOCK) q) ∧
    (∃ t : State, exec .confirmLapse s = .next t ∧ (r' t).safety.confirm = none ∧ (r' t).regs = r.regs) ∧
    (r.ostate o = osUnplugWait → bitOf (r.rd .SAF_UNLOCK_UNLOCK) o = false → ∃ t : State, exec (.unlockHeld o) s = .next t ∧
      (r' t).rd .SAF_EVENT_UNLOCK_HELD = 1) ∧
    (∀ v : Word, ∃ t : State, exec (.safEvsetWrite v) s = .next t ∧
      (∀ f ∈ safEvents, v.getLsbD f.info.lo = true → (r' t).rd f = 1) ∧ (∀ f ∈ safEvents, v.getLsbD f.info.lo = false → (r' t).rd f = r.rd f))

/-- Switching a channel on and off, and what each protection of the load switches does. Rests in part on the model's choices of log entry 198 -/
def Obligations.LoadSwitchTrips : Prop :=
  ∀ (p : Pav) (i : Chan) (b : Bank) (s : State),
    let c := s.site.com
    let c' (t : State) : Common := t.site.com
    let quiet : Prop := ∀ j ∈ bankChans (i / 8), j ≠ i.val → (c.sw j).shortAt = none
    (s.site.privOpen = true → (s.site.pav p).inStep = true → c.rd .LSW_STATUS_LATCHED = 0 → c.chSafety i = false → 1 ≤ c.chType i →
      (c.rd .LSW_CCTRL_ON i = 0 → c.canSwitch i = true → c.chState i ≠ chFault ∨ (c.sw i).zeroed = true → ∃ t : State, exec (.lswChannelOnWrite i true) s = .next t ∧
        (c' t).rd .LSW_CCTRL_ON i = 1 ∧ (t.site.pav p).loc.rd .LSW_CCTRL_ON i = 1 ∧ bitOf ((c' t).rd .LSW_ON_ON) i = true ∧
        (c' t).chState i = (if c.chType i = tyCoil then chPull else if c.chType i = tyLamp then chWarmup else if c.chType i = tyMotor then chStart else chOn)) ∧
      (c.rd .LSW_CCTRL_ON i = 1 → c.chState i ≠ chFault → ∃ t : State, exec (.lswChannelOnWrite i false) s = .next t ∧ (c' t).chState i = chOff ∧
        (c' t).rd .LSW_CCTRL_ON i = 0 ∧ bitOf ((c' t).rd .LSW_ON_ON) i = false)) ∧
    (c.conducts i = true → c.rd .LSW_STATUS_LATCHED = 0 →
      (c.chState i ≠ chWarmup → ∃ t : State, exec (.fastThresholdTrip i) s = .next t ∧ (c' t).rd .LSW_CSTAT_CAUSE i = caShort ∧
        (c' t).rd .LSW_EVENT_SHORT = 1 ∧ (c' t).rd .LSW_CCNT_TRIPS i = (c.rd .LSW_CCNT_TRIPS i + 1) % 2 ^ 16 ∧
        (if 0 < c.rd .LSW_CSTAT_LEFT i then (c' t).chState i = chRetryWait ∧ (c' t).rd .LSW_CSTAT_LEFT i + 1 = c.rd .LSW_CSTAT_LEFT i
         else (c' t).chState i = chFault ∧ (c' t).rd .LSW_EVENT_RETRY_EXHAUSTED = 1)) ∧
      (quiet → c.chState i ≠ chWarmup → c.chState i ≠ chPull → ∃ t : State, exec (.overloadTrip i) s = .next t ∧ (c' t).chState i = chRetryWait ∧
        (c' t).rd .LSW_CSTAT_CAUSE i = caOverload ∧ (c' t).rd .LSW_EVENT_OVERLOAD = 1 ∧ ((c' t).sw i).pending = some (s.site.ticks, caOverload) ∧
        (c' t).rd .LSW_CSTAT_LEFT i = c.rd .LSW_CSTAT_LEFT i) ∧
      (0 < c.rd .LSW_CSTAT_LEFT i → ∃ t : State, exec (.thermalTrip i) s = .next t ∧ (c' t).chState i = chRetryWait ∧
        (c' t).rd .LSW_CSTAT_CAUSE i = caThermal ∧ ((c' t).sw i).hot = true ∧ (c' t).rd .LSW_CSTAT_LEFT i + 1 = c.rd .LSW_CSTAT_LEFT i) ∧
      (∀ currents : List Nat, quiet → (bankChans b).filter c.conducts = [i.val] → i.val / 8 = b.val → currents.getD (i % 8) 0 < 6000 →
        ∃ t : State, exec (.bankLimit b currents) s = .next t ∧ (c' t).chState i = chRetryWait ∧ (c' t).rd .LSW_CSTAT_CAUSE i = caBankLimit ∧
        (c' t).rd .LSW_EVENT_BANK_LIMIT = 1)) ∧
    (∃ t : State, exec (.bankOverload b) s = .next t ∧ (c' t).rd .LSW_EVENT_BANK_OVERLOAD = 1 ∧ bitOf (c' t).lsw.cutting b = true) ∧
    (bitOf c.lsw.cutting b = true →
      (((bankChans b).filter fun j => c.conducts j && !c.chSafety j).getLast? = some i.val → ∃ t : State, exec (.bankOverloadCut b) s = .next t ∧
        (c' t).chState i = chFault ∧ (c' t).rd .LSW_CSTAT_CAUSE i = caBankOverload ∧ bitOf ((c' t).rd .LSW_FAULTMAP_FAULT) i = true) ∧
      (((bankChans b).filter fun j => c.conducts j && !c.chSafety j) = [] → ∃ t : State, exec (.bankOverloadCut b) s = .next t ∧
        bitOf (c' t).lsw.cutting b = false)) ∧
    (i.val / 8 = b.val →
      (c.chState i ≠ chFault → ∃ t : State, exec (.vbankLow b) s = .next t ∧ bitOf ((c' t).rd .LSW_STATUS_VB_OK) b = false ∧
        (c' t).rd .LSW_EVENT_VBANK_LOW = 1 ∧ (c' t).chState i = chOff ∧ (c' t).rd .LSW_CSTAT_CAUSE i = caVbankLow ∧
        (c' t).rd .LSW_CCTRL_ON i = c.rd .LSW_CCTRL_ON i) ∧
      (c.chState i = chOff → c.commanded i = true → c.rd .LSW_STATUS_LATCHED = 0 → c.rd .LSW_CSTAT_CAUSE i = caVbankLow → 1 ≤ c.chType i → c.chType i ≤ 4 →
        bitOf (c.rd .LSW_STATUS_BANK_IN) b = true → (c.sw i).hot = false → ∃ t : State, exec (.vbankRestore b) s = .next t ∧
        bitOf ((c' t).rd .LSW_STATUS_VB_OK) b = true ∧ (c' t).conducts i = true)) ∧
    (bitOf c.lsw.out b = false → bitOf (c.rd .LSW_STATUS_BANK_IN) b = false →
      (∃ t : State, exec (.bankEnterService b true) s = .next t ∧ bitOf ((c' t).rd .LSW_STATUS_BANK_IN) b = true ∧
        bitOf ((c' t).rd .LSW_STATUS_VB_OK) b = true) ∧
      (∃ t : State, exec (.bankEnterService b false) s = .next t ∧ bitOf ((c' t).rd .LSW_STATUS_BANK_IN) b = false ∧
        (c' t).rd .LSW_EVENT_SWITCH_FAULT = 1 ∧ bitOf (c' t).lsw.out b = true)) ∧
    (c.chState i = chRetryWait → (c.sw i).pending = none → (c.sw i).attrWait = false → (c.sw i).lampFrom = none →
      ((c.sw i).hot = false → c.canSwitch i = true → ∃ t : State, exec (.retryWaitExpiry i) s = .next t ∧ (c' t).conducts i = true ∧
        ((c' t).sw i).onAt = s.site.ticks) ∧
      ((c.sw i).hot = true → ∃ t : State, exec (.retryWaitExpiry i) s = .next t ∧ ((c' t).sw i).due = true ∧ (c' t).regs = c.regs))

/-- Windows, held trips, open load, faults, banks, the missing claim and the release of the latch. Rests in part on the model's choices of log entries 60, 198 -/
def Obligations.LoadSwitchWindows : Prop :=
  ∀ (p : Pav) (i : Chan) (b : Bank) (s : State),
    let c := s.site.com
    let c' (t : State) : Common := t.site.com
    let moves (x : Instr) (st : Nat) : Prop := ∃ t : State, exec x s = .next t ∧ (c' t).chState i = st
    (c.chState i = chWarmup → ∃ t : State, exec (.warmupEnd i) s = .next t ∧ (c' t).chState i = chOn ∧ (c' t).rd .LSW_CSTAT_LEFT i = c.chRetry i) ∧
    (c.chState i = chPull → moves (.pullEnd i) chHold) ∧ (c.chState i = chStart → moves (.startWindowEnd i) chOn) ∧
    (c.conducts i = true → c.chState i ≠ chWarmup → ∃ t : State, exec (.budgetRefresh i) s = .next t ∧ (c' t).rd .LSW_CSTAT_LEFT i = c.chRetry i ∧
      (c' t).chState i = c.chState i) ∧
    ((c.sw i).pending ≠ none → 0 < c.rd .LSW_CSTAT_LEFT i → ∃ t : State, exec (.attributionPendingExpiry i) s = .next t ∧
      (c' t).chState i = chRetryWait ∧ (c' t).rd .LSW_CSTAT_LEFT i + 1 = c.rd .LSW_CSTAT_LEFT i ∧ ((c' t).sw i).pending = none) ∧
    ((c.sw i).attrWait = true → c.chState i = chRetryWait → (c.sw i).lampFrom = none → c.canSwitch i = true → ∃ t : State, exec (.attributedRestart i) s = .next t ∧
      (c' t).conducts i = true ∧ (c' t).rd .LSW_CSTAT_LEFT i = c.rd .LSW_CSTAT_LEFT i) ∧
    (c.rd .LSW_STATUS_LATCHED = 0 → (c.chState i = chOn → c.rd .LSW_CSTAT_OPEN i = 0 → ∃ t : State, exec (.openLoad i true) s = .next t ∧
        (c' t).rd .LSW_CSTAT_OPEN i = 1 ∧ bitOf ((c' t).rd .LSW_OPENMAP_OPEN) i = true ∧ (c' t).rd .LSW_EVENT_OPEN_LOAD = 1) ∧
      ∃ t : State, exec (.openLoad i false) s = .next t ∧ (c' t).rd .LSW_CSTAT_OPEN i = 0 ∧ bitOf ((c' t).rd .LSW_OPENMAP_OPEN) i = false) ∧
    (c.rd .LSW_STATUS_LATCHED = 0 → c.bankGated (i / 8) = false → ∃ t : State, exec (.switchFault i) s = .next t ∧ (c' t).rd .LSW_EVENT_SWITCH_FAULT = 1 ∧
      bitOf ((c' t).rd .LSW_STATUS_BANK_IN) (i / 8) = false ∧ (c' t).chState i = chOff ∧
      (c.chState i ≠ chOff → (c' t).rd .LSW_CSTAT_CAUSE i = caBankOut)) ∧
    (bitOf c.lsw.out b = true → (∃ t : State, exec (.lswBankRestore b true) s = .next t ∧ bitOf ((c' t).rd .LSW_STATUS_BANK_IN) b = true ∧
        bitOf (c' t).lsw.out b = false ∧ ∀ j ∈ bankChans b, (c' t).chState j = chOff) ∧
      ∃ t : State, exec (.lswBankRestore b false) s = .next t ∧ (c' t).rd .LSW_EVENT_SWITCH_FAULT = 1 ∧ bitOf (c' t).lsw.out b = true) ∧
    (c.lsw.claimSeen = true → s.site.leader = none → ∃ t : State, exec .noClaim s = .next t ∧ (c' t).chState i = chFault ∧
      (c' t).rd .LSW_CSTAT_CAUSE i = caNoClaim ∧ (c' t).rd .LSW_EVENT_NO_CLAIM = 1) ∧
    (c.rd .LSW_STATUS_LATCHED = 1 → s.site.leader = some p → c.chSafety i = false → c.chState i ≠ chFault →
      ∃ t : State, exec .lswLatchRelease s = .next t ∧ (c' t).rd .LSW_STATUS_LATCHED = 0 ∧
      ((s.site.pav p).loc.rd .LSW_CCTRL_ON i = 0 → (c' t).chState i = chOff) ∧
      ((s.site.pav p).loc.rd .LSW_CCTRL_ON i = 1 → c.conducts i = true ∨ c.canSwitch i = true → (c' t).conducts i = true)) ∧
    ((c.sw i).due = false → ∃ t : State, exec (.thermalRecovered i) s = .next t ∧ ((c' t).sw i).hot = false ∧ (c' t).regs = c.regs)

/-- Connections to hosts and their sessions: connect, handshake, OPEN, requests, keepalive, retransmission, close, lane loss. Rests in part on the model's choices of log entries 64, 66, 78 -/
def Obligations.HostConnections : Prop :=
  ∀ (p q : Pav) (port : Fin 2) (n : Sess) (s : State), (s.site.pav p).inStep = true →
    let r := (s.site.pav p).rep
    let r' (t : State) : Replica := (t.site.pav p).rep
    let x := r.ses n
    let down (t : State) (body what : Nat) : Prop := Tx.net x.port what [body] ∈ (t.site.pav x.lane).loc.tx
    let ends (c : Instr) (lost : Bool) : Prop := r.calm → ∃ t : State, exec c s = .next t ∧ ((r' t).ses n).phase = 0 ∧
      (r.rd .HST_STATUS_LOCKSES = n → (r' t).rd .HST_STATUS_LOCKSES = 31) ∧ (lost = true → (r' t).rd .HST_EVENT_SESSION_LOST = 1)
    (s.site.drives p = true → (r.hasIp4 (laneSet p port) = true ∨ r.hasIp6 (laneSet p port) = true) →
      (∀ dport : Nat, dport ≠ 4718 → ∃ t : State, exec (.tcpConnect p port dport) s = .next t ∧ r' t = r ∧
        Tx.net port 1 [dport] ∈ (t.site.pav p).loc.tx) ∧
      (((List.range 16).find? fun k => (r.ses k).phase = 0 && (r.ses k).waiting = 0) = some n.val → ∃ t : State,
        exec (.tcpConnect p port 4718) s = .next t ∧ (r' t).ses n = { phase := 1, port, lane := p } ∧ Tx.net port 3 [n.val] ∈ (t.site.pav p).loc.tx) ∧
      (((List.range 16).find? fun k => (r.ses k).phase = 0 && (r.ses k).waiting = 0) = none → ∃ t : State,
        exec (.tcpConnect p port 4718) s = .next t ∧ (r' t).rd .HST_EVENT_SESSION_REFUSED = 1 ∧ Tx.net port 1 [4718] ∈ (t.site.pav p).loc.tx)) ∧
    (∀ kind : Fin 4, s.site.drives p = true → (if kind.val % 2 = 0 then r.hasIp4 (laneSet p port) else r.hasIp6 (laneSet p port)) = true →
      ∃ t : State, exec (.netEchoRequest p port kind) s = .next t ∧ r' t = r ∧ Tx.net port 0 [kind.val] ∈ (t.site.pav p).loc.tx) ∧
    (s.site.leader = some p → x.phase = 1 →
      (∃ t : State, exec (.tlsHandshakeDone n none) s = .next t ∧ (r' t).ses n = {} ∧ down t 116 2) ∧
      (∃ t : State, exec (.tlsHandshakeTimeout n) s = .next t ∧ (r' t).ses n = {} ∧ down t 4718 1) ∧
      ∀ c : ClientCert,
        (c.chainOk = true → r.anchorOk c.anchor = true → r.certValid s.site.env c.notBefore c.notAfter = true → (r.keyOf 7).isSome = true →
          r.gate.noRandom = false → ∃ t : State, exec (.tlsHandshakeDone n (some c)) s = .next t ∧ ((r' t).ses n).phase = 2 ∧
          ((r' t).ses n).principal = c.principal ∧ (r' t).ctx 1 n = some { cls := 1, slot := c.anchor, peer := c.principal }) ∧
        (c.chainOk = false → ∃ t : State, exec (.tlsHandshakeDone n (some c)) s = .next t ∧ (r' t).ses n = {} ∧
          (r' t).rd .HST_EVENT_SESSION_REFUSED = 1 ∧ down t 4718 1)) ∧
    (s.site.leader = some p → x.phase = 2 → ∃ t : State, exec (.openTimeout n) s = .next t ∧ (r' t).ses n = {} ∧ down t 4718 1) ∧
    (∀ (majors : Nat) (name : List Byte), x.phase = 2 →
      (r.majorOf majors ≠ 0 → ∃ t : State, exec (.rhpOpen n majors 0 name) s = .next t ∧ ((r' t).ses n).phase = 3 ∧ ((r' t).ses n).role = 0 ∧
        ((r' t).ses n).major = r.majorOf majors ∧ ∃ b : List Byte, Tx.rhp n mkOpenAck 0 0 0 hsOk 0 b ∈ (r' t).tx) ∧
      (r.majorOf majors = 0 → ∀ role : Nat, ∃ t : State, exec (.rhpOpen n majors role name) s = .next t ∧ (r' t).ses n = {} ∧
        (r' t).rd .HST_EVENT_SESSION_REFUSED = 1 ∧ ∃ b : List Byte, Tx.rhp n mkOpenAck 0 0 0 hsNoVersion 0 b ∈ (r' t).tx)) ∧
    (∀ (tag code : Nat) (payload : List Byte), r.hears n →
      (r.calm → ∃ t : State, exec (.rhpRequestRx n tag code payload false) s = .next t ∧ ((r' t).ses n).phase = 0 ∧
        Tx.rhp n mkResponse 0 0 0 hsBadFormat 0 (leBytes 4 0) ∈ (r' t).tx) ∧
      ((x.major ≠ 2 ∨ (r.hosts.tags.find? fun e => e.principal = x.principal && e.tag = tag) = none) → x.waiting < 8 →
        (commandCodes.contains code = false → ∃ t : State, exec (.rhpRequestRx n tag code payload true) s = .next t ∧
          (r' t).answers n tag code (refuse hsUnknown) ∧ ((r' t).ses n).waiting = x.waiting) ∧
        (commandCodes.contains code = true → ∃ t : State, exec (.rhpRequestRx n tag code payload true) s = .next t ∧
          ((r' t).ses n).waiting = x.waiting + 1 ∧ (r' t).regs = r.regs))) ∧
    (r.hears n →
      (∀ upTo : Nat, x.major = 2 → x.dropped = 0 → ∃ t : State, exec (.rhpEventAck n upTo) s = .next t ∧
        ((r' t).ses n).unacked = x.unacked.filter fun e => upTo < e.1) ∧
      (∃ t : State, exec (.rhpPing n) s = .next t ∧ Tx.rhp n mkPong 0 0 0 0 0 [] ∈ (r' t).tx ∧ (r' t).regs = r.regs) ∧
      (∃ t : State, exec (.rhpPong n) s = .next t ∧ (r' t).ses n = { x with retx := 0 } ∧ (r' t).regs = r.regs)) ∧
    (x.phase = 3 →
      ends (.rhpClose n) false ∧ ends (.rhpKeepaliveTimeout n) true ∧
      (∃ t : State, exec (.rhpPingTimer n) s = .next t ∧ Tx.rhp n mkPing 0 0 0 0 0 [] ∈ (r' t).tx ∧ (r' t).regs = r.regs) ∧
      (x.retx < r.rd .HST_CTRL_TCP_RETRIES → ∃ t : State, exec (.tcpRetransmitTimeout n) s = .next t ∧
        (r' t).ses n = { x with retx := x.retx + 1 } ∧ (r' t).regs = r.regs) ∧
      (r.rd .HST_CTRL_TCP_RETRIES ≤ x.retx → ends (.tcpRetransmitTimeout n) true) ∧
      (x.lane = q → x.port = port.val → ends (.hostLaneDown q port) true))

/-- Handles, held events and tags, the idle lock, subscriptions, operations and UTC. Rests in part on the model's choices of log entries 67, 125 -/
def Obligations.HostOperationsAndTime : Prop :=
  ∀ (p : Pav) (n : Sess) (tag handle k : Nat) (index : Fin 512) (x : HostOp) (s : State), (s.site.pav p).inStep = true →
    let r : Replica := { (s.site.pav p).rep with now := s.site.now }
    let r' (t : State) : Replica := (t.site.pav p).rep
    let own : Prop := r.opOf handle = some x ∧ x.principal = (r.ses n).principal
    let gets (c : Instr) (code : Nat) (y : Resp) : Prop := ∃ t : State, exec c s = .next t ∧ (r' t).answers n tag code y
    let finished (t : State) (y : HostOp) : Prop := y ∈ (r' t).hosts.ops ∧ y.index = x.index ∧ y.done = true
    ((r.hosts.ops.find? fun y => y.index = index.val) = some x →
      (x.done = true → (r.sessions fun y => y.principal = x.principal) = [] → ∃ t : State, exec (.handleExpiry index) s = .next t ∧
        (r' t).hosts.ops = (r.hosts.ops.filter fun y => y.index ≠ x.index) ∧ (r' t).rd .HST_EVENT_HANDLE_EXPIRED = 1) ∧
      (∀ u : Nat, x.done = false → x.kind = .capture u → ∃ (t : State) (y : HostOp), exec (.captureReadComplete index) s = .next t ∧ finished t y ∧
        y.result = hsOk ∧ y.bytes = ({ s.site.pav p with rep := r } : Pavilion).captureBytes u) ∧
      (∀ l a c : Nat, x.done = false → x.kind = .log l a c → ∃ (t : State) (y : HostOp), exec (.logReadComplete index) s = .next t ∧ finished t y ∧
        y.result = hsOk ∧ (l = 0 → c = 1 → a < 4096 → (r.slot a).state ≠ 0 → ((r' t).slot a).readouts = (r.slot a).readouts + 1))) ∧
    (∃ t : State, exec (.eventHoldExpiry k) s = .next t ∧ (r' t).hosts.absent = r.hosts.absent.eraseIdx k ∧ (r' t).regs = r.regs) ∧
    (∃ t : State, exec (.requestTagExpiry k) s = .next t ∧ (r' t).hosts.tags = r.hosts.tags.eraseIdx k ∧ (r' t).regs = r.regs) ∧
    (r.rd .HST_STATUS_LOCKSES ≠ 31 → r.calm → ∃ t : State, exec .lockIdleExpiry s = .next t ∧ (r' t).rd .HST_STATUS_LOCKSES = 31 ∧
      (r' t).rd .HST_EVENT_LOCK_LAPSED = 1 ∧ (r' t).hosts.staged = none) ∧
    (∃ t : State, exec .returnRequestExpiry s = .next t ∧ (r' t).hosts.ret = none ∧ (r' t).regs = r.regs) ∧
    (r.maySend n rolesAny false →
      (r.calm → ∃ t : State, exec (.sessionClose n tag) s = .next t ∧ (r' t).answers n tag 0x0101 {} ∧ ((r' t).ses n).phase = 0) ∧
      (∀ mask : Word, ∃ t : State, exec (.eventSubscribe n tag mask) s = .next t ∧ (r' t).answers n tag 0x0102 {} ∧
        ((r' t).ses n).mask = mask.toNat ∧ (r' t).regs = r.regs) ∧
      gets (.opList n tag) 0x0104 { body :=
        (leBytes 2 (r.hosts.ops.filter fun y => y.principal = (r.ses n).principal).length) ++
          ((r.hosts.ops.filter fun y => y.principal = (r.ses n).principal).map fun y => leBytes 4 y.handle).flatten } ∧
      (r.opOf handle = none → gets (.opStatus n tag handle) 0x0103 (refuse hsStale) ∧ gets (.opCancel n tag handle) 0x0105 (refuse hsStale) ∧
        gets (.opRelease n tag handle) 0x0106 (refuse hsStale) ∧ gets (.opRead n tag handle 0 0) 0x0107 (refuse hsStale)) ∧
      (own → x.done = true →
        gets (.opStatus n tag handle) 0x0103 { handle := handle, detail := x.detail, body := leBytes 1 2 ++ leBytes 2 x.progress ++ leBytes 2 x.result ++ leBytes 4 x.bytes.length } ∧
        gets (.opCancel n tag handle) 0x0105 { handle := handle } ∧
        (∃ t : State, exec (.opRelease n tag handle) s = .next t ∧ (r' t).answers n tag 0x0106 { handle := handle } ∧
          (r' t).hosts.ops = r.hosts.ops.filter fun y => y.index ≠ x.index) ∧
        ∀ offset count : Nat, offset ≤ x.bytes.length → count ≤ 4096 →
          gets (.opRead n tag handle offset count) 0x0107 { handle := handle, body := (x.bytes.drop offset).take count }) ∧
      (own → x.done = false →
        gets (.opStatus n tag handle) 0x0103 { handle := handle, body := leBytes 1 1 ++ leBytes 2 x.progress ++ leBytes 2 0 ++ leBytes 4 0 } ∧
        gets (.opRelease n tag handle) 0x0106 (refuse hsWrongState) ∧
        (∀ q : Nat, x.kind = .keyUpdate q → gets (.opCancel n tag handle) 0x0105 (refuse hsBusy)) ∧
        (∀ a b c : Nat, x.kind = .log a b c ∨ x.kind = .capture a → ∃ (t : State) (y : HostOp), exec (.opCancel n tag handle) s = .next t ∧
          (r' t).answers n tag 0x0105 { handle := handle } ∧ finished t y ∧ y.result = hsCancelled))) ∧
    (r.maySend n rolesBoth false → ∀ utc : Nat, 
      ((∀ m : Nat, m < 16 → (r.ses m).notBefore ≤ utc ∧ utc ≤ (r.ses m).notAfter) → ∃ t : State, exec (.timeSet n tag utc) s = .next t ∧
        (r' t).answers n tag 0x0108 {} ∧ (r' t).hosts.utc = some (utc, s.site.ticks)) ∧
      (∀ m : Sess, r.calm → (r.ses m).phase = 3 → (r.ses m).notAfter < utc → ∃ t : State, exec (.timeSet n tag utc) s = .next t ∧
        ((r' t).ses m).phase = 0))

/-- Limits, status reads, ownership, priority, start, stop, answers, fault clear, service and commissioning of outlets by a host. Rests in part on the model's choices of log entries 90, 102 -/
def Obligations.HostOutletCommands : Prop :=
  ∀ (p : Pav) (n : Sess) (tag : Nat) (o : Outlet) (s : State), (s.site.pav p).inStep = true →
    let r : Replica := { (s.site.pav p).rep with now := s.site.now }
    let r' (t : State) : Replica := (t.site.pav p).rep
    let me := (r.ses n).principal
    let owner (r : Replica) : Option Nat := vget r.owners o none
    let gets (c : Instr) (code : Nat) (y : Resp) : Prop := ∃ t : State, exec c s = .next t ∧ (r' t).answers n tag code y
    let moves (c : Instr) (code st : Nat) : Prop := ∃ t : State, exec c s = .next t ∧ (r' t).answers n tag code {} ∧ (r' t).ostate o = st
    let may (roles : List Nat) (lock : Bool) : Prop := r.maySend n roles lock
    (may rolesOp false →
      (∀ power ttl : Nat,
        (power ≠ 0 → 1 ≤ ttl → ttl ≤ 86400 → ∃ t : State, exec (.siteLimitSet n tag power ttl) s = .next t ∧ (r' t).answers n tag 0x0201 {} ∧
          ({ principal := me, outlet := none, value := power, seconds := ttl } : HostLimit) ∈ (r' t).alloc.limits) ∧
        (power ≠ 0 → ttl = 0 ∨ 86400 < ttl → gets (.siteLimitSet n tag power ttl) 0x0201 (refuse hsBadValue 20)) ∧
        (power = 0 → ∃ t : State, exec (.siteLimitSet n tag power ttl) s = .next t ∧ (r' t).answers n tag 0x0201 {} ∧
          ∀ y ∈ (r' t).alloc.limits, y.principal = me → y.outlet ≠ none)) ∧
      (∀ power amps ttl pExp iExp : Nat,
        (1 ≤ ttl → ttl ≤ 86400 → ∃ (t : State) (y : HostLimit), exec (.outletLimitSet n tag o power amps ttl pExp iExp) s = .next t ∧
          (r' t).answers n tag 0x0301 {} ∧ y ∈ (r' t).alloc.limits ∧ y.principal = me ∧ y.outlet = some o ∧ y.value = power ∧ y.amps = amps ∧
          y.seconds = ttl) ∧
        (ttl = 0 ∨ 86400 < ttl → gets (.outletLimitSet n tag o power amps ttl pExp iExp) 0x0301 (refuse hsBadValue 23))) ∧
      (∀ force : Bool, (owner r = none ∨ owner r = some me → ∃ t : State, exec (.outletOwn n tag o force) s = .next t ∧
          (r' t).answers n tag 0x0302 {} ∧ owner (r' t) = some me) ∧
        (∀ q : Nat, owner r = some q → q ≠ me → force = false → gets (.outletOwn n tag o force) 0x0302 (refuse hsOwned))) ∧
      (owner r = some me →
        (∃ t : State, exec (.outletDisown n tag o) s = .next t ∧ (r' t).answers n tag 0x0303 {} ∧ owner (r' t) = none) ∧
        (∀ prio : Nat, (prio ≤ 255 → ∃ t : State, exec (.outletPrioritySet n tag o prio) s = .next t ∧ (r' t).answers n tag 0x0304 {} ∧
            vget (r' t).alloc.prio o 0 = prio) ∧
          (255 < prio → gets (.outletPrioritySet n tag o prio) 0x0304 (refuse hsBadValue 17))) ∧
        (∀ ref : List Byte, (r.awaits o = true → ∃ t : State, exec (.outletStart n tag o ref) s = .next t ∧ (r' t).answers n tag 0x0305 {} ∧
            ((r' t).vs o).held = true) ∧
          (r.awaits o = false → gets (.outletStart n tag o ref) 0x0305 (refuse hsWrongState)) ∧
          ∀ (reqId : Nat) (pnc : Bool) (ident : List Nat), (r.vs o).asked = some (reqId, pnc, ident) → 1 ≤ reqId → reqId ≤ (r.vs o).reqNo →
            (r.awaits o = true →
              (∃ t : State, exec (.outletAuthAnswer n tag o reqId 0 ref) s = .next t ∧ (r' t).answers n tag 0x0307 {} ∧ ((r' t).vs o).held = true ∧
                ((r' t).vs o).asked = none) ∧
              (∃ t : State, exec (.outletAuthAnswer n tag o reqId 1 ref) s = .next t ∧ (r' t).answers n tag 0x0307 {} ∧
                ((r' t).vs o).held = (r.vs o).held ∧ ((r' t).vs o).asked = none)) ∧
            (r.awaits o = false → gets (.outletAuthAnswer n tag o reqId 0 ref) 0x0307 (refuse hsExpired))) ∧
        (∀ (reqId : Nat) (answer : List Byte), 1 ≤ reqId → reqId ≤ (r.vs o).reqNo → answer.length ≤ 4000 →
          ((r.vs o).certAsked = some reqId → ∃ t : State, exec (.outletCertAnswer n tag o reqId answer) s = .next t ∧
            (r' t).answers n tag 0x0308 {} ∧ ((r' t).vs o).certAsked = none) ∧
          ((r.vs o).certAsked ≠ some reqId → gets (.outletCertAnswer n tag o reqId answer) 0x0308 (refuse hsExpired)))) ∧
      (owner r ≠ some me → gets (.outletDisown n tag o) 0x0303 (refuse hsNotOwner) ∧ gets (.outletStart n tag o []) 0x0305 (refuse hsNotOwner)) ∧
      (r.ostate o = osIdle → ∃ t : State, exec (.outletServiceSet n tag o 1) s = .next t ∧ (r' t).answers n tag 0x030A {} ∧
        (r' t).ostate o = osUnavailable ∧ ((r' t).vs o).outOfService = true) ∧
      (∃ t : State, exec (.outletServiceSet n tag o 0) s = .next t ∧ (r' t).answers n tag 0x030A {} ∧ ((r' t).vs o).outOfService = false ∧
        (r' t).ostate o = r.ostate o)) ∧
    (may rolesBoth false →
      (osCableCheck ≤ r.ostate o → r.ostate o ≤ osCharging → ∃ t : State, exec (.outletStop n tag o) s = .next t ∧ (r' t).answers n tag 0x0306 {} ∧
        (r' t).ostate o = osStopping ∧ (r' t).rd .DLK_OSTATE_CAUSE o = ocHostStop) ∧
      (r.ostate o < osCableCheck → gets (.outletStop n tag o) 0x0306 (refuse hsWrongState)) ∧
      (r.ostate o = osFault → (r.rd .DLK_OSTATE_WELD_OWED o = 0 → moves (.outletFaultClear n tag o) 0x0309 osIdle) ∧
        (r.rd .DLK_OSTATE_WELD_OWED o = 1 → r.dstate (o / 2) = dsActive → moves (.outletFaultClear n tag o) 0x0309 osWeldCheck)) ∧
      (r.ostate o ≠ osFault → gets (.outletFaultClear n tag o) 0x0309 (refuse hsWrongState))) ∧
    (may rolesOem true →
      (r.ostate o = osIdle → moves (.outletCommission n tag o 1) 0x030C osCommission) ∧
      (r.ostate o = osCommission → moves (.outletCommission n tag o 0) 0x030C osIdle) ∧
      (r.ostate o = osPlugged → gets (.outletCommission n tag o 1) 0x030C (refuse hsWrongState))) ∧
    (may rolesAll false →
      (∃ b : List Byte, b.length = 44 ∧ gets (.siteStatusRead n tag) 0x0202 { body := leBytes 4 (r.rd .CTL_PSITE_LIMIT) ++ b }) ∧
      (∃ b : List Byte, b.length = 28 ∧ gets (.outletStatusRead n tag o) 0x030B { body := b ++ leBytes 8 ((owner r).getD 0) }) ∧
      (∀ g : Grp, gets (.groupStatusRead n tag g) 0x0311 { body := r.statusRecord g ++ leBytes 4 (r.regs.word .CTL (0x800 + 4 * g)) }) ∧
      ∀ k : Nat, 24 ≤ k → gets (.outletStatusRead n tag k) 0x030B (refuse hsBadValue 16))

/-- The configuration lock, parameter writes and commits, safety confirmation, tuning, captures and certificates of a host. Rests in part on the model's choices of log entries 64, 68, 104 -/
def Obligations.HostConfiguration : Prop :=
  ∀ (p : Pav) (n : Sess) (tag : Nat) (o : Outlet) (s : State), (s.site.pav p).inStep = true →
    let r : Replica := { (s.site.pav p).rep with now := s.site.now }
    let r' (t : State) : Replica := (t.site.pav p).rep
    let l' (t : State) : Local := (t.site.pav p).loc
    let gets (c : Instr) (code : Nat) (y : Resp) : Prop := ∃ t : State, exec c s = .next t ∧ (r' t).answers n tag code y
    let shows (t : State) (code : Nat) : Prop := (l' t).rd .SYS_COMMIT_RESULT = code % 16 ∧ (l' t).rd .SYS_COMMIT_BUSY = 0
    (r.maySend n rolesBoth false →
      (r.rd .HST_STATUS_LOCKSES = 31 → ∃ t : State, exec (.configLockAcquire n tag) s = .next t ∧ (r' t).answers n tag 0x0501 {} ∧
        (r' t).rd .HST_STATUS_LOCKSES = n) ∧
      (r.rd .HST_STATUS_LOCKSES ≠ 31 → r.rd .HST_STATUS_LOCKSES ≠ n → gets (.configLockAcquire n tag) 0x0501 (refuse hsLocked) ∧
        gets (.configLockRelease n tag) 0x0501 (refuse hsNoLock)) ∧
      (r.rd .HST_STATUS_LOCKSES = n → r.calm → ∃ t : State, exec (.configLockRelease n tag) s = .next t ∧ (r' t).answers n tag 0x0501 {} ∧
        (r' t).rd .HST_STATUS_LOCKSES = 31 ∧ (r' t).hosts.staged = none) ∧
      (∀ unit : Nat,
        (unit < 4 → r.rd .CTL_CAPCTRL_STATE unit = 4 → r.resultFits (.capture unit) = true → r.opRoom n → ∃ t : State,
          exec (.captureRead n tag unit) s = .next t ∧ (r' t).accepts n tag 0x0603 (.capture unit)) ∧
        (unit < 4 → r.rd .CTL_CAPCTRL_STATE unit ≠ 4 → gets (.captureRead n tag unit) 0x0603 (refuse hsWrongState)) ∧
        (4 ≤ unit → gets (.captureRead n tag unit) 0x0603 (refuse hsBadValue 16)))) ∧
    (r.maySend n rolesBoth true →
      (∀ check : Word,
        (check.toNat = r.rd .SAF_CHECK_CHECK → ∃ t : State, exec (.safetyConfirm n tag check) s = .next t ∧ (r' t).answers n tag 0x0505 {} ∧
          (r' t).safety.confirm = some check.toNat) ∧
        (check.toNat ≠ r.rd .SAF_CHECK_CHECK → gets (.safetyConfirm n tag check) 0x0505 (refuse hsMismatch))) ∧
      ∀ (kind index mark : Nat) (chain : List Byte),
        (kind = 0 ∨ (kind = 1 ∧ index < 8) → chain.length ≤ 4000 → ∃ t : State, exec (.certInstall n tag kind index mark chain) s = .next t ∧
          (r' t).answers n tag 0x0801 {} ∧ (kind, index, mark, chain) ∈ (r' t).hosts.certs) ∧
        (kind = 1 → 8 ≤ index → gets (.certInstall n tag kind index mark chain) 0x0801 (refuse hsBadValue 17))) ∧
    (r.maySend n rolesAll false → gets (.safetyCheckRead n tag) 0x0504
      { body := leBytes 4 (r.rd .SAF_CHECK_CHECK) ++ leBytes 4 (r.rd .SAF_CONFIRMED_CHECK) ++ leBytes 4 (r.regs.word .SAF 0x00) }) ∧
    (r.maySend n rolesOem true →
      (∀ (record index offset : Nat) (data : List Byte),
        (∀ kind count size : Nat, recordOf record = some (kind, count, size) → index < count → offset + data.length ≤ size →
          ∃ t : State, exec (.paramWrite n tag record index offset data) s = .next t ∧ (r' t).answers n tag 0x0502 {} ∧
            (r' t).hosts.staged = some ((r.hosts.staged.getD r.params).wrBytes (kind * 2 ^ 16 + index * 2 ^ 10 + offset) data)) ∧
        (recordOf record = none → gets (.paramWrite n tag record index offset data) 0x0502 (refuse hsBadValue 16))) ∧
      (∀ (apply : Nat) (set : List Byte), set.length = 176 →
        let code := if r.rd .CTL_OSWCTL_ADDR o = 0 then 6 else if r.rd .CTL_OSWCTL_PEND o = 1 then 7 else setCheck set
        ∃ t : State, exec (.tuneCoeffLoad n tag o apply set) s = .next t ∧ (r' t).answers n tag 0x0601 (if code = 0 then {} else refuse hsFailed code) ∧
          (r' t).rd .CTL_OSWCTL_RESULT o = code ∧ (code = 0 → (r' t).rd .CTL_OSWCTL_PEND o = 1)) ∧
      (∀ (inj cap : List Byte) (i : Nat), inj.length = 24 → cap.length = 44 → fieldAt inj 0 4 / 256 % 8 ≤ 4 → fieldAt cap 0 4 / 256 % 256 ≠ 0 →
        r.running isTune = [] → (r.mode o = modeCharging ∨ r.mode o = modeCommission) → r.opRoom n →
        ((List.range 4).find? fun i => r.rd .CTL_INJCTRL_ACTIVE i = 0 && !(vget r.injs i {}).armed && r.rd .CTL_CAPSIZE_SIZE i ≠ 0 &&
          (r.rd .CTL_CAPCTRL_STATE i = 0 || r.rd .CTL_CAPCTRL_STATE i = 4)) = some i →
        (∀ j < 4, r.rd .CTL_INJCTRL_ACTIVE j = 0 ∧ (vget r.injs j {}).armed = false) →
        ∃ t : State, exec (.tuneRun n tag o inj cap) s = .next t ∧ (r' t).accepts n tag 0x0602 (.tune o i i) ∧ (vget (r' t).injs i {}).armed = true ∧
          (r' t).rd .CTL_CAPCTRL_STATE i = 1 ∧ (r' t).rd .CTL_INJCTRL_OUTLET i = o) ∧
      (s.site.leader = some p → ∀ crcOk : Bool,
        let code := (s.site.commitCheck crcOk).1
        (2 ≤ r.phase → gets (.paramCommit n tag crcOk) 0x0503 (refuse hsBusy)) ∧
        (r.phase < 2 → code ≠ coOk → ∃ t : State, exec (.paramCommit n tag crcOk) s = .next t ∧ (r' t).answers n tag 0x0503 (refuse hsCommit code) ∧
          shows t code) ∧
        (r.phase < 2 → code = coOk → ∃ t : State, exec (.paramCommit n tag crcOk) s = .next t ∧
          (r' t).answers n tag 0x0503 { detail := if r.mayCommit then 0 else 1 } ∧ shows t coOk ∧
          (r.mayCommit = false → (r' t).rd .UPD_STATUS_PENDING_PARAM = 1)))) ∧
    (∀ crcOk : Bool, ∃ t : State, exec (.sysCommitGo crcOk) s = .next t ∧ shows t (s.site.commitCheck crcOk).1 ∧
      ((s.site.commitCheck crcOk).1 ≠ coOk → (r' t).regs = r.regs))

/-- Log reads and acknowledgements, attestation, yield, rejoin, bank restore, return to the maker and service opening by a host. Rests in part on the model's choices of log entries 69, 144, 157 -/
def Obligations.HostDeviceCommands : Prop :=
  ∀ (p : Pav) (n : Sess) (tag : Nat) (s : State), (s.site.pav p).inStep = true →
    let r : Replica := { (s.site.pav p).rep with now := s.site.now }
    let r' (t : State) : Replica := (t.site.pav p).rep
    let gets (c : Instr) (code : Nat) (y : Resp) : Prop := ∃ t : State, exec c s = .next t ∧ (r' t).answers n tag code y
    (r.maySend n rolesAny false →
      (∀ log start count : Nat, log ≤ 4 → start < (if log = 0 then 4096 else if log = 4 then 32 else 2 ^ 32) → count ≤ 512 →
        r.resultFits (.log log start count) = true → r.opRoom n → ∃ t : State, exec (.logRead n tag log start count) s = .next t ∧
          (r' t).accepts n tag 0x0701 (.log log start count)) ∧
      (∀ log : Nat, 4 < log → gets (.logRead n tag log 0 0) 0x0701 (refuse hsBadValue 16)) ∧
      (∀ nonce : List Byte, (r.keyOf 11 = none → gets (.deviceAttest n tag nonce) 0x0401 (refuse hsFailed 0x0B)) ∧
        (r.keyOf 11 ≠ none → ∃ b : List Byte, b.length = 51 ∧
          gets (.deviceAttest n tag nonce) 0x0401 { body := leBytes 8 Config.unitId ++ leBytes 4 0x24480002 ++ leBytes 1 r.lifeCycle ++ b }))) ∧
    (r.maySend n rolesOp false → ∀ slot : Nat, slot < 4096 →
      ((r.slot slot).state = 2 → 0 < (r.slot slot).readouts → ∃ t : State, exec (.logAck n tag slot (r.slot slot).txNo) s = .next t ∧
        (r' t).answers n tag 0x0702 {} ∧ ((r' t).slot slot).state = 3 ∧ ((r' t).slot slot).txNo = (r.slot slot).txNo) ∧
      ((r.slot slot).state = 2 → (r.slot slot).readouts = 0 → gets (.logAck n tag slot (r.slot slot).txNo) 0x0702 (refuse hsWrongState))) ∧
    (r.maySend n rolesBoth false →
      (s.site.leader = some p →
        (s.site.handbackFree = true → r.phase < 2 → (s.site.pav p).loc.inputs = [] → (s.site.pav p).loc.log.length < 2048 → ∃ (t : State) (x : Nat),
          exec (.pavilionYield n tag) s = .next t ∧ (r' t).answers n tag 0x0402 {} ∧ (t.site.pav .A).loc.handbackAt = some x ∧
            (t.site.pav .B).loc.handbackAt = some x) ∧
        (s.site.handbackFree = false ∨ 2 ≤ r.phase → gets (.pavilionYield n tag) 0x0402 (refuse hsBusy))) ∧
      (∀ nonce : List Byte, nonce.length = 8 → r.lifeCycle = 2 → r.hosts.returning = .no →
        (r.hosts.ret = none → ∃ t : State, exec (.deviceReturn n tag nonce) s = .next t ∧ (r' t).answers n tag 0x0405 { detail := 1 } ∧
          (r' t).hosts.ret = some ((r.ses n).role, nonce) ∧ (r' t).hosts.returning = .no) ∧
        (∀ role : Nat, r.hosts.ret = some (role, nonce) → role ≠ (r.ses n).role → r.hosts.ops = [] → r.phase = 0 → ∃ t : State,
          exec (.deviceReturn n tag nonce) s = .next t ∧ (r' t).answers n tag 0x0405 { detail := 2 } ∧ (r' t).hosts.returning = .closing)) ∧
      (r.lifeCycle ≠ 2 → ∀ nonce : List Byte, nonce.length = 8 → gets (.deviceReturn n tag nonce) 0x0405 (refuse hsWrongState))) ∧
    (s.site.leader = some p → r.maySend n rolesOem false →
      (∀ pav : Nat, (pav < 2 → ∃ t : State, exec (.pavilionRejoin n tag pav) s = .next t ∧ (r' t).answers n tag 0x0403 {} ∧
          (t.site.pav (if pav = 0 then .A else .B)).loc.heldOut = false) ∧
        (2 ≤ pav → gets (.pavilionRejoin n tag pav) 0x0403 (refuse hsBadValue 16))) ∧
      ∀ (b : Bank) (pass : Bool), bitOf s.site.com.lsw.out b = true → ∃ t : State, exec (.bankRestore n tag b pass) s = .next t ∧
        (r' t).answers n tag 0x0404 {} ∧ (pass = true → bitOf (t.site.com.rd .LSW_STATUS_BANK_IN) b = true ∧ bitOf t.site.com.lsw.out b = false) ∧
        (pass = false → t.site.com.rd .LSW_EVENT_SWITCH_FAULT = 1)) ∧
    (r.maySend n [3] false →
      (r.lifeCycle = lcReturn →
        (∃ t : State, exec (.serviceUnlockChallenge n tag) s = .next t ∧ (r' t).hosts.chal = some (Config.freeBytes s.site.free 16, s.site.ticks) ∧
          (r' t).answers n tag 0x0406 { body := Config.freeBytes s.site.free 16 }) ∧
        ∀ (unit at' : Nat) (chal : List Byte) (sigOk : Bool),
          (unit ≠ Config.unitId → gets (.serviceUnlockOpen n tag unit chal sigOk) 0x0406 (refuse hsFailed 1)) ∧
          (r.hosts.chal = none → gets (.serviceUnlockOpen n tag Config.unitId chal sigOk) 0x0406 (refuse hsFailed 2)) ∧
          (r.hosts.chal = some (chal, at') → s.site.ticks < at' + 12000000000 →
            (sigOk = false → gets (.serviceUnlockOpen n tag Config.unitId chal sigOk) 0x0406 (refuse hsFailed 3)) ∧
            (sigOk = true → ∃ t : State, exec (.serviceUnlockOpen n tag Config.unitId chal sigOk) s = .next t ∧ (r' t).answers n tag 0x0406 {} ∧
              (r' t).hosts.servicePort = true ∧ (r' t).hosts.chal = none))) ∧
      (r.lifeCycle ≠ lcReturn → gets (.serviceUnlockChallenge n tag) 0x0406 (refuse hsNotPermitted)))

/-- Staging, activation, rollback and their steps, and the end of the entry into RETURN. Rests in part on the model's choices of log entries 142, 143, 146, 158 -/
def Obligations.UpdatesAndReturn : Prop :=
  ∀ (p f : Pav) (n : Sess) (tag handle : Nat) (s : State), s.site.leader = some p → (s.site.pav p).inStep = true →
    let r : Replica := { (s.site.pav p).rep with now := s.site.now }
    let r' (t : State) : Replica := (t.site.pav p).rep
    let gets (c : Instr) (code : Nat) (y : Resp) : Prop := ∃ t : State, exec c s = .next t ∧ (r' t).answers n tag code y
    let fails (c : Instr) (code : Nat) : Prop := ∃ t : State, exec c s = .next t ∧ (r' t).phase = 0 ∧ (r' t).rd .UPD_RESULT_CODE = code ∧
      (r' t).rd .UPD_EVENT_ACT_FAIL = 1
    (r.maySend n rolesOem true →
      (∀ (length : Nat) (digest : List Byte),
        (r.phase = 0 → r.running isStage = [] → r.rd .UPD_OLDPROG_OUTLETS = 0 → r.rd .UPD_OLDSAF_OUTLETS = 0 → r.opRoom n →
          ∀ c ∈ [(Instr.imageStageDelta n tag length digest, 0), (.imageStageFull n tag length digest, 1)], ∃ (t : State) (h : Nat),
            exec c.1 s = .next t ∧ (r' t).accepts n tag 0x0901 .stage ∧ (r' t).phase = 1 ∧ (r' t).rd .UPD_STATUS_PREV_VALID = 0 ∧
            (r' t).upd.staging = some (c.2, length, digest, h) ∧ (r' t).upd.bytes = []) ∧
        (r.phase ≠ 0 → gets (.imageStageDelta n tag length digest) 0x0901 (refuse hsBusy) ∧
          gets (.imageStageFull n tag length digest) 0x0901 (refuse hsBusy))) ∧
      (∀ (part length offset : Nat) (digest data : List Byte), r.upd.staging = some (part, length, digest, handle) →
        let b := r.upd.bytes ++ data
        (offset ≠ r.upd.bytes.length → gets (.imageData n tag handle offset data true true) 0x0902 (refuse hsFailed updSequence)) ∧
        (offset = r.upd.bytes.length → data.length ≤ 4096 → (s.site.pav p).loc.deltaFault (r.rd .UPD_STATUS_ACTIVE) part b = none →
          (b.length < length → ∃ t : State, exec (.imageData n tag handle offset data true true) s = .next t ∧
            (r' t).answers n tag 0x0902 { handle := handle } ∧ (r' t).upd.bytes = b ∧ (r' t).upd.staging = r.upd.staging) ∧
          (b.length = length → ∃ t : State, exec (.imageData n tag handle offset data true true) s = .next t ∧
            (r' t).answers n tag 0x0902 { handle := handle } ∧ (r' t).upd.staging = none ∧ (r' t).phase = 0 ∧
            ((r' t).rd .UPD_EVENT_STAGE_DONE = 1 ∨ (r' t).rd .UPD_EVENT_STAGE_FAIL = 1)))) ∧
      (s.site.actBusy r = true → gets (.imageActivate n tag handle) 0x0903 (refuse hsBusy) ∧ gets (.imageRollback n tag) 0x0904 (refuse hsBusy)) ∧
      (s.site.actBusy r = false →
        (r.rd .UPD_STATUS_PENDING_PARAM = 0 → gets (.imageActivate n tag 0) 0x0903 (refuse hsWrongState)) ∧
        (r.rd .UPD_STATUS_PREV_VALID = 0 → gets (.imageRollback n tag) 0x0904 (refuse hsFailed updNoPrevious)) ∧
        (r.opRoom n →
          (r.rd .UPD_STATUS_PENDING_PARAM = 1 → ∃ t : State, exec (.imageActivate n tag 0) s = .next t ∧ (r' t).accepts n tag 0x0903 .activate ∧
            (r' t).phase = 2 ∧ (r' t).upd.paramOnly = true ∧ (r' t).upd.lead = p) ∧
          (∀ x : HostOp, r.opOf handle = some x → handle ≠ 0 → x.principal = (r.ses n).principal → x.kind = .stage → x.done = true →
            x.result = hsOk → r.rd .UPD_STATUS_STAGED = 1 → ∃ t : State, exec (.imageActivate n tag handle) s = .next t ∧
            (r' t).accepts n tag 0x0903 .activate ∧ (r' t).phase = 2 ∧ (r' t).upd.paramOnly = false ∧ (r' t).upd.target = r.otherSlot) ∧
          (r.rd .UPD_STATUS_PREV_VALID = 1 → ∃ t : State, exec (.imageRollback n tag) s = .next t ∧ (r' t).accepts n tag 0x0904 .rollback ∧
            (r' t).phase = 2 ∧ (r' t).upd.target = r.otherSlot)))) ∧
    (s.site.actFirst = some f → f = p.other →
      (let q := (s.site.pav f).rep
       q.phase = 2 → q.upd.slWait = false → s.site.redundant = true → q.upd.paramOnly = true →
        (s.site.mayRestart f = true → ∃ t : State, exec .activationVerifyDone s = .next t ∧ (r' t).phase = 3 ∧
          t.site.role f = roleSetAside ∧ (t.site.pav f).loc.inReset = true) ∧
        (s.site.mayRestart f = false → ∃ t : State, exec .activationVerifyDone s = .next t ∧ (r' t).upd.slWait = true ∧ (r' t).regs = r.regs)) ∧
      (r.phase = 3 → fails .activationJoinTimeout updStartFail) ∧
      (r.phase = 4 → (s.site.pav f).inStep = true →
        ((s.site.pav f).loc.indicated = false → ∃ t : State, exec .warmElapsed s = .next t ∧ (r' t).phase = 5) ∧
        ((s.site.pav f).loc.indicated = true → fails .warmElapsed updStartFail)) ∧
      (r.upd.slWait = true → r.phase < 5 → fails .slWaitExpiry updSingleLane)) ∧
    (r.upd.slWait = true → 5 ≤ r.phase → ∃ t : State, exec .slWaitExpiry s = .next t ∧ (r' t).upd.slOut = true ∧ (r' t).regs = r.regs) ∧
    (r.hosts.returning = .closing → ∃ t : State, exec .returnCloseTimeout s = .next t ∧ (r' t).hosts.returning = .reset ∧
      (r' t).lifeCycle = lcReturn ∧ (r' t).params = [] ∧ (r' t).rd .KEY_EVENT_LC_ADVANCE = 1) ∧
    (r.hosts.returning = .reset → ∃ t : State, exec .returnLifecycleReset s = .next t ∧ t.site.com.rd .AON_CAUSE_CAUSE = rcLifecycle ∧
      (∀ q : Pav, (t.site.pav q).loc.inReset = true) ∧ t.site.com.power.inReset = true)

/-- Key update messages: acceptance, the first failing check, the effect on the slot, and completion. Rests in part on the model's choices of log entries 30, 72 -/
def Obligations.KeyUpdates : Prop :=
  ∀ (p : Pav) (n : Sess) (tag : Nat) (b material : List Byte) (sigOk cipherOk keyOk : Bool) (s : State), (s.site.pav p).inStep = true →
    let r : Replica := { (s.site.pav p).rep with now := s.site.now }
    let r' (t : State) : Replica := (t.site.pav p).rep
    let slot := byteAt b 5
    let idle : Prop := r.running (fun k => match k with | .keyUpdate q => q = slot | _ => false) = []
    let busy (c : Instr) : Prop := ∃ t : State, exec c s = .next t ∧ (r' t).answers n tag 0x0802 (refuse hsBusy)
    (r.maySend n [1, 2, 3] false →
      (¬ idle → busy (.kuInstall n tag b sigOk cipherOk keyOk material) ∧ busy (.kuGenerate n tag b sigOk) ∧ busy (.kuInvalidate n tag b sigOk) ∧
        busy (.kuReadpub n tag b) ∧ busy (.kuAdvance n tag b sigOk)) ∧
      (r.gate.noRandom = true → busy (.kuGenerate n tag b sigOk)) ∧
      (idle → r.opRoom n →
        (let code := r.keyCheck 1 b sigOk cipherOk keyOk
         ∃ (t : State) (x : HostOp), exec (.kuInstall n tag b sigOk cipherOk keyOk material) s = .next t ∧ (r' t).keyAccepts n tag slot code x ∧
          (code = 0 → (r' t).keyState slot = 1 ∧ (r' t).keyAlg slot = byteAt b 7)) ∧
        (r.gate.noRandom = false → let code := r.keyCheck 2 b sigOk true true
         ∃ (t : State) (x : HostOp), exec (.kuGenerate n tag b sigOk) s = .next t ∧ (r' t).keyAccepts n tag slot code x ∧
          (code = 0 → (r' t).keyState slot = 1 ∧ (r' t).keyAlg slot = byteAt b 7)) ∧
        (let code := r.keyCheck 3 b sigOk true true
         ∃ (t : State) (x : HostOp), exec (.kuInvalidate n tag b sigOk) s = .next t ∧ (r' t).keyAccepts n tag slot code x ∧
          (code = 0 → (r' t).keyState slot = 2 ∧ (r' t).material slot = [])) ∧
        (let code := r.keyCheck 4 b true true true
         ∃ (t : State) (x : HostOp), exec (.kuReadpub n tag b) s = .next t ∧ (r' t).keyAccepts n tag slot code x ∧
          (∀ k : Nat, (r' t).keyAttr k = r.keyAttr k ∧ (r' t).material k = r.material k) ∧
          (code = 0 → x.bytes.take 2 = [0, BitVec.ofNat 8 (r.keyAlg slot)])) ∧
        (let code := r.keyCheck 5 b sigOk true true
         ∃ (t : State) (x : HostOp), exec (.kuAdvance n tag b sigOk) s = .next t ∧ (r' t).keyAccepts n tag slot code x ∧
          (code = 0 → (r' t).lifeCycle = r.lifeCycle + 1 ∧ (r' t).rd .KEY_EVENT_LC_ADVANCE = 1) ∧ (code ≠ 0 → (r' t).lifeCycle = r.lifeCycle)))) ∧
    (∀ (index : Fin 512) (x : HostOp) (q : Nat), (r.hosts.ops.find? fun x => x.index = index.val && !x.done) = some x → x.kind = .keyUpdate q →
      x.detail < 256 → q < 128 → ∃ (t : State) (y : HostOp), exec (.keyUpdateComplete index) s = .next t ∧ y ∈ (r' t).hosts.ops ∧
        y.index = x.index ∧ y.done = true ∧ y.result = x.result ∧ y.bytes = x.bytes ∧ (r' t).rd .KEY_RESULT_CODE = x.detail ∧
        (r' t).rd .KEY_RESULT_SLOT = q ∧ (r' t).rd (if x.detail = 0 then .KEY_EVENT_UPDATE_DONE else .KEY_EVENT_UPDATE_REFUSED) = 1)

/-- Requests to the Gatehouse: the checks, the result of each operation, the reply, and the self-test and random source. Rests in part on the model's choices of log entries 30, 70 -/
def Obligations.GatehouseRequests : Prop :=
  ∀ (p : Pav) (e : Eng) (desc : Word) (s : State), (s.site.pav p).loc.powered = true → (s.site.pav p).loc.inReset = false →
    let l := (s.site.pav p).loc
    let r := (s.site.pav p).rep
    let r' (t : State) : Replica := (t.site.pav p).rep
    let q := l.ghReq desc
    let asks (c : Instr) (st : Nat) (out : List Byte) (g : Replica → Prop) : Prop := ∃ (t : State) (w : GateRequest), exec c s = .next t ∧
      (r' t).gate.work = r.gate.work ++ [w] ∧ w.desc = desc.toNat ∧ w.engine = e.val ∧ w.status = st ∧ (st = ghOk → w.out = out) ∧ g (r' t)
    let plain (c : Instr) (st : Nat) (out : List Byte) : Prop := asks c st out fun _ => True
    let ok (op : Nat) : Prop := r.ghCheck e op (l.ghDesc desc) q = ghOk
    let ctxs (r : Replica) : Option KeyContext := vget r.gate.contexts q.ctx none
    (∀ good : Bool, ∀ c ∈ [(Instr.ghSign p e desc, 1), (.ghVerify p e desc good, 2), (.ghKeyAgree p e desc, 3), (.ghChallenge p e desc, 4),
        (.ghCheckResp p e desc good, 5), (.ghMac p e desc, 6), (.ghSeal p e desc, 7), (.ghOpen p e desc good, 7), (.ghHash p e desc, 8),
        (.ghRandom p e desc, 9), (.ghCtxFree p e desc, 10), (.ghReadState p e desc, 11)],
      r.ghCheck e c.2 (l.ghDesc desc) q ≠ ghOk → plain c.1 (r.ghCheck e c.2 (l.ghDesc desc) q) []) ∧
    (ok 1 → q.slot < 128 → usagePublic (r.keyUsage q.slot) = false → 2 ≤ r.keyAlg q.slot → sigLen (r.keyAlg q.slot) ≤ q.outLen →
      plain (.ghSign p e desc) ghOk (padTo (sigLen (r.keyAlg q.slot)) (Config.signature (r.keyVal q.slot) q.input))) ∧
    (ok 2 → q.slot < 128 → 2 ≤ r.keyAlg q.slot → plain (.ghVerify p e desc true) ghOk [] ∧ plain (.ghVerify p e desc false) ghAuthFail []) ∧
    (ok 3 → q.slot < 128 → q.ctx < 192 →
      (ctxs r = none → asks (.ghKeyAgree p e desc) ghOk [] fun r' => (ctxs r').map (·.slot) = some q.slot) ∧
      (ctxs r ≠ none → asks (.ghKeyAgree p e desc) ghCtxFull [] fun r' => r'.rd .KEY_EVENT_CTX_FULL = 1)) ∧
    (ok 4 → q.slot < 128 → 12 ≤ r.keyUsage q.slot → 16 ≤ q.outLen → r.gate.noRandom = false →
      asks (.ghChallenge p e desc) ghOk (Config.freeBytes s.site.free 16) fun r' =>
        ∃ h ∈ r'.gate.challenges, h.slot = q.slot ∧ h.peer = fieldAt q.param 0 8 ∧ h.c = Config.freeBytes s.site.free 16) ∧
    (ok 5 → let known := r.gate.challenges.find? fun x => x.slot = q.slot && x.peer = fieldAt q.param 0 8 && x.lane = byteAt q.param 8
      (known = none → ∀ good : Bool, plain (.ghCheckResp p e desc good) ghBadRequest []) ∧
      (known ≠ none → plain (.ghCheckResp p e desc false) ghAuthFail []) ∧
      (known ≠ none → r.keyUsage q.slot = 12 → plain (.ghCheckResp p e desc true) ghOk []) ∧
      (known ≠ none → r.keyUsage q.slot ≠ 12 → classOf q.ctx = authClass (r.keyUsage q.slot) → q.ctx < 192 → ctxs r = none →
        asks (.ghCheckResp p e desc true) ghOk [] fun r' => (ctxs r').map (·.slot) = some q.slot)) ∧
    (ok 6 → q.slot < 128 → 16 ≤ q.outLen → plain (.ghMac p e desc) ghOk (padTo 16 (Config.mac (r.keyVal q.slot) q.input))) ∧
    (∀ k : KeyContext, ctxs r = some k → ok 7 →
      (q.input.length + 16 ≤ q.outLen → plain (.ghSeal p e desc) ghOk (padTo (q.input.length + 16) (Config.sealed (ofLe k.key) q.input)) ∧
        plain (.ghOpen p e desc true) ghOk (padTo (q.input.length - 16) (Config.opened (ofLe k.key) q.input))) ∧
      plain (.ghOpen p e desc false) ghAuthFail []) ∧
    (ok 8 → plain (.ghHash p e desc) ghOk ((Config.hash q.input).take q.outLen)) ∧
    (ok 9 → (r.gate.noRandom = true → plain (.ghRandom p e desc) ghNotReady []) ∧
      (r.gate.noRandom = false → plain (.ghRandom p e desc) ghOk (Config.freeBytes s.site.free (min 65536 q.outLen)))) ∧
    (ok 10 → q.ctx < 192 → asks (.ghCtxFree p e desc) ghOk [] fun r' => ctxs r' = none) ∧
    (ok 11 → plain (.ghReadState p e desc) ghOk ((((List.range 320).map fun k => leBytes 4 (r.regs.word .KEY (4 * k))).flatten).take q.outLen)) ∧
    (∀ (w : GateRequest) (ws : List GateRequest) (m : List Msg), r.gate.work = w :: ws →
      let en (t : State) : List Msg := (t.site.eng p (Fin.ofNat 12 w.engine)).queues.get (Fin.ofNat 8 w.replyQ)
      en s = m → m.length < 16 → ∃ t : State, exec (.ghRequestDone p) s = .next t ∧ (r' t).gate.work = ws ∧
        (t.site.pav p).loc.sram.rdN (w.desc + 24) 2 = w.status % 2 ^ 16 ∧ en t = m ++ [⟨BitVec.ofNat 64 w.desc, BitVec.ofNat 8 gatehouse.val⟩]) ∧
    (∃ t : State, exec (.ghSelftestDone p true) s = .next t ∧ (r' t).rd .KEY_STATUS_SELFTEST_OK = 1 ∧ (r' t).rd .KEY_STATUS_RNG_OK = 1) ∧
    (∃ t : State, exec (.ghSelftestDone p false) s = .next t ∧ (r' t).rd .KEY_STATUS_SELFTEST_OK = 0 ∧ (r' t).rd .KEY_EVENT_SELFTEST_FAIL = 1) ∧
    (s.site.alone p = true → ∃ t : State, exec (.rngFail p) s = .next t ∧ (r' t).gate.noRandom = true ∧ (r' t).rd .KEY_EVENT_RNG_FAIL = 1 ∧
      t.site.role p = s.site.role p) ∧
    (s.site.alone p = false → ∃ t : State, exec (.rngFail p) s = .next t ∧ t.site.role p = roleSetAside) ∧
    (∃ t : State, exec (.gatehouseGuardTrip p) s = .next t ∧ (t.site.pav p).loc.inReset = true ∧ (t.site.pav p).loc.resetCause = pcGuard ∧
      t.site.role p = roleSetAside)

/-- CAN FD mailboxes, transmissions, error states, reception and wake. Rests in part on the model's choices of log entries 81, 160, 161 -/
def Obligations.CanFrames : Prop :=
  ∀ (p : Pav) (ch : CanCh) (m : Mailbox) (s : State), (s.site.pav p).inStep = true →
    let r : Replica := { (s.site.pav p).rep with now := s.site.now }
    let r' (t : State) : Replica := (t.site.pav p).rep
    let i := mbIx ch m
    let fits : Prop := dlcBytes (r.rd .CAN_MBHDR_FDF i = 1) (r.rd .CAN_MBCTRL_DLC i) ≤ r.rd .CAN_CCTRL_MAXP ch ∧
      (r.rd .CAN_MBHDR_FDF i = 1 → r.rd .CAN_CCTRL_FD ch = 1)
    let mb (c : Instr) (st : Nat) : Prop := ∃ t : State, exec c s = .next t ∧ (r' t).mbState ch m = st
    let lapses (c : Instr) : Prop := ∃ t : State, exec c s = .next t ∧ (r' t).mbState ch m = mbLapsed ∧ (r' t).rd .CAN_CEVENT_DEADLINE_LAPSED ch = 1
    (r.mbState ch m = mbPending ∨ ¬ fits → ∃ t : State, exec (.canMailboxGo ch m) s = .next t ∧ (r' t).rd .CAN_CEVENT_TX_REFUSED ch = 1 ∧
      (r' t).mbState ch m = r.mbState ch m) ∧
    (r.mbState ch m ≠ mbPending → fits →
      (r.rd .CAN_MBCTRL_DL_EN i = 1 → r.mbDeadline ch m ≤ s.site.now → lapses (.canMailboxGo ch m)) ∧
      (r.rd .CAN_MBCTRL_DL_EN i = 0 ∨ s.site.now < r.mbDeadline ch m → ∃ t : State, exec (.canMailboxGo ch m) s = .next t ∧
        (r' t).mbState ch m = mbPending ∧ bitOf ((r' t).rd .CAN_CPEND_PEND ch) m = true)) ∧
    (r.mbState ch m = mbPending →
      ((r.can ch).sending ≠ some m.val → mb (.canMailboxAbort ch m) mbAborted ∧
        (r.rd .CAN_MBCTRL_DL_EN i = 1 → lapses (.canDeadlineLapse ch m))) ∧
      ((r.can ch).sending = some m.val → (r.can ch).onFail = none →
        (∃ t : State, exec (.canMailboxAbort ch m) s = .next t ∧ (r' t).mbState ch m = mbPending ∧ ((r' t).can ch).onFail = some mbAborted) ∧
        (r.rd .CAN_MBCTRL_DL_EN i = 1 → ∃ t : State, exec (.canDeadlineLapse ch m) s = .next t ∧ (r' t).mbState ch m = mbPending ∧
          ((r' t).can ch).onFail = some mbLapsed)) ∧
      (r.canState ch < csBusOff →
        (∃ (t : State) (h : Nat) (d : List Nat), exec (.canTxComplete ch m true true) s = .next t ∧ (r' t).mbState ch m = mbSent ∧
          Tx.can ch m h d ∈ (r' t).tx ∧ (r' t).rd .CAN_CSTAT_TEC ch = r.rd .CAN_CSTAT_TEC ch - 1) ∧
        (s.site.redundant = true → ∃ t : State, exec (.canTxComplete ch m true false) s = .next t ∧ (r' t).mbState ch m = mbSent ∧
          (r' t).rd .CAN_CEVENT_SHADOW_MISMATCH ch = 1)) ∧
      (r.canState ch = csActive → r.rd .CAN_CSTAT_TEC ch + 8 < 128 → (r.can ch).onFail = none → ∃ t : State,
        exec (.canTxComplete ch m false true) s = .next t ∧ (r' t).mbState ch m = mbPending ∧
        (r' t).rd .CAN_CSTAT_TEC ch = r.rd .CAN_CSTAT_TEC ch + 8)) ∧
    (∀ tec rec : Nat, r.canState ch = csActive → ∃ t : State, exec (.canErrorPassive ch tec rec) s = .next t ∧ (r' t).canState ch = csPassive ∧
      (r' t).rd .CAN_CEVENT_ERR_PASSIVE ch = 1 ∧ (r' t).rd .CAN_CSTAT_TEC ch = min tec 255) ∧
    (r.canState ch < csBusOff → ∃ t : State, exec (.canBusOff ch) s = .next t ∧ (r' t).canState ch = csBusOff ∧
      (r' t).rd .CAN_CEVENT_BUS_OFF ch = 1 ∧ (r' t).rd .CAN_CSTAT_TEC ch = 255 ∧ ((r' t).can ch).sending = none) ∧
    (r.canState ch = csBusOff →
      (∃ t : State, exec (.canBusOn ch) s = .next t ∧ (r' t).canState ch = csActive ∧ (r' t).rd .CAN_CEVENT_BUS_ON ch = 1 ∧
        (r' t).rd .CAN_CSTAT_TEC ch = 0 ∧ (r' t).rd .CAN_CSTAT_REC ch = 0) ∧
      ((r.can ch).busy = false → ∃ t : State, exec (.canFailed ch) s = .next t ∧ (r' t).rd .CAN_CEVENT_CAN_FAILED ch = 1)) ∧
    (∀ f : CanFrame, r.rd .CAN_CCTRL_EN ch = 1 → r.canState ch < csBusOff →
      (f.remote = true → ∃ t : State, exec (.canFrameRx p ch f) s = .next t ∧ (r' t).rd .CAN_CEVENT_REMOTE_RX ch = 1) ∧
      (f.remote = false → r.canAccepts ch f = true →
        (s.site.leader ≠ some p → let held := vget (s.site.pav p).loc.canRx ch []
          (held.length < 64 → ∃ t : State, exec (.canFrameRx p ch f) s = .next t ∧ vget (t.site.pav p).loc.canRx ch [] = held ++ [f]) ∧
          (64 ≤ held.length → ∃ t : State, exec (.canFrameRx p ch f) s = .next t ∧ (r' t).rd .CAN_CEVENT_RX_OVERFLOW ch = 1)) ∧
        (s.site.leader = some p → (s.site.pav p).loc.inputs = [] → (s.site.pav p).loc.log.length < 64 → f.data.length ≤ 64 →
          ∃ (t : State) (x : LogEntry), exec (.canFrameRx p ch f) s = .next t ∧ (t.site.pav p).loc.log = (s.site.pav p).loc.log ++ [x] ∧
            x.kind = 2 ∧ x.source = canSource ch ∧ x.payload = canPayload f false))) ∧
    (∀ k : Nat, ∃ t : State, exec (.canHeldFrameExpiry p ch k) s = .next t ∧
      vget (t.site.pav p).loc.canRx ch [] = (vget (s.site.pav p).loc.canRx ch []).eraseIdx k ∧ r' t = (s.site.pav p).rep) ∧
    (∀ f : Option CanFrame, s.site.leader = some p → r.canState ch = csAsleep → r.canWakes ch f = true →
      (∃ t : State, exec (.canWakeDetect ch f) s = .next t ∧ (r' t).rd .CAN_CEVENT_WAKE ch = 1) ∧
      (s.site.powerState = psNight → s.site.com.power.asked = false → bitOf (s.site.com.rd .AON_WAKEEN_EN) (2 + ch) = true →
        ∃ t : State, exec (.canWakeDetect ch f) s = .next t ∧ t.site.powerState = psWaking ∧ t.site.com.rd .AON_EVENT_WAKE = 1))

/-- The mains carrier: slots, hops, acknowledgements, data, joining, reports, wake and leave. Rests in part on the model's choices of log entries 80, 163, 164 -/
def Obligations.MainsCarrier : Prop :=
  ∀ (p : Pav) (f : MccFrame) (s : State), s.site.leader = some p → (s.site.pav p).inStep = true → (s.site.pav p).rep.rd .MCC_CTRL_EN = 1 →
    let r : Replica := { (s.site.pav p).rep with now := s.site.now }
    let r' (t : State) : Replica := (t.site.pav p).rep
    let member : Prop := r.isMember f.origin = true ∧ f.tagOk = true ∧ (r.node f.origin).fresh f.seq = true
    let eui := fieldAt f.payload 0 8
    (∀ heard acked : Bool,
      (r.carrier.slot = none → ∃ (t : State) (b : List Nat), exec (.mccSlotStart heard acked) s = .next t ∧ (r' t).carrier.slot = some 0 ∧
        (r' t).carrier.superframe = (r.carrier.superframe + 1) % 2 ^ 32 ∧ Tx.mcc 0xFF mtBeacon b ∈ (r' t).tx) ∧
      (∀ k : Nat, r.carrier.slot = some k → k + 1 < r.rd .MCC_CTRL_NSLOT → ∃ t : State, exec (.mccSlotStart heard acked) s = .next t ∧
        (r' t).carrier.slot = some (k + 1) ∧ (r' t).carrier.superframe = r.carrier.superframe)) ∧
    (∀ (k : Nat) (x : CarrierTrans), r.carrier.trans[k]? = some x →
      (x.tries + 1 < r.rd .MCC_RETRY_RTRY → ∃ t : State, exec (.mccHopFail k) s = .next t ∧
        (r' t).carrier.trans = (r.carrier.trans.map fun y => if y.no = x.no then { x with tries := x.tries + 1 } else y) ∧ (r' t).regs = r.regs) ∧
      (r.rd .MCC_RETRY_RTRY ≤ x.tries + 1 → r.rd .MCC_RETRY_ALT ≤ x.alts → x.node < 65 → r.nodeState x.node = nsJoined →
        ∃ t : State, exec (.mccHopFail k) s = .next t ∧ (r' t).nodeState x.node = nsUnreachable ∧ (r' t).rd .MCC_EVENT_NODE_LOST = 1 ∧
        (x.sender, x.receiver) ∈ (r' t).carrier.unusable ∧ (r' t).carrier.trans = r.carrier.trans.filter fun y => y.no ≠ x.no)) ∧
    (f.dst = 0 → r.isMember f.src = true → ∃ t : State, exec (.mccAck f) s = .next t ∧ (r' t).rd .MCC_NSTAT_LQI f.src = byteAt f.payload 3 ∧
      ((r' t).node f.src).recMod = byteAt f.payload 1 % 4 ∧ ((r' t).node f.src).recTm = byteAt f.payload 2 % 64) ∧
    (member →
      (∃ t : State, exec (.mccData f) s = .next t ∧ ((r' t).node f.origin).pend = bitOf f.flags 4 ∧ ((r' t).node f.origin).fresh f.seq = false ∧
        (f.final = 0 → f.dst = 0 → (r' t).nodeState f.origin = nsJoined ∧
          ∀ x ∈ (r' t).carrier.trans, x.node = f.origin → x.up = false)) ∧
      (∃ t : State, exec (.mccLqiReport f) s = .next t ∧ ((r' t).node f.origin).lqi =
        ((List.range (byteAt f.payload 2)).map fun k => (byteAt f.payload (3 + 2 * k), byteAt f.payload (4 + 2 * k)))) ∧
      (bitOf (r.node f.origin).caps 1 = true → s.site.powerState = psNight → s.site.com.power.asked = false →
        bitOf (s.site.com.rd .AON_WAKEEN_EN) 1 = true → ∃ t : State, exec (.mccWake f) s = .next t ∧ (r' t).rd .MCC_EVENT_WAKE_RX = 1 ∧
        t.site.powerState = psWaking) ∧
      (∃ t : State, exec (.mccLeave f) s = .next t ∧ (r' t).nodeState f.origin = nsFree ∧ (r' t).euiOf f.origin = 0 ∧
        (r' t).ctx 4 (f.origin - 1) = none)) ∧
    ((∀ a < 65, r.nodeState a = nsJoining → r.euiOf a ≠ eui) → ∀ a : Nat, r.freeNode = some a →
      (bitOf (byteAt f.payload 12) 0 = false → ∃ t : State, exec (.mccJoinReq f) s = .next t ∧ (r' t).nodeState a = nsRefused ∧
        (r' t).rd .MCC_NSTAT_REFUSE a = 1 ∧ (r' t).rd .MCC_EVENT_JOIN_REFUSED = 1 ∧ (r' t).euiOf a = eui) ∧
      (bitOf (byteAt f.payload 12) 0 = true → r.authSlot 4 ≠ none → r.gate.noRandom = false → ∃ (t : State) (j : CarrierJoin),
        exec (.mccJoinReq f) s = .next t ∧ (r' t).nodeState a = nsJoining ∧ (r' t).euiOf a = eui ∧ j ∈ (r' t).carrier.joining ∧ j.eui = eui ∧
        j.entry = a)) ∧
    (∀ j : CarrierJoin, (r.carrier.joining.find? fun x => x.eui = eui) = some j → 1 ≤ j.entry → j.entry < 65 →
      r.nodeState j.entry = nsJoining → r.euiOf j.entry = eui →
      (∃ t : State, exec (.mccJoinResp f false) s = .next t ∧ (r' t).nodeState j.entry = nsRefused ∧ (r' t).rd .MCC_NSTAT_REFUSE j.entry = 2 ∧
        (r' t).rd .MCC_EVENT_JOIN_REFUSED = 1) ∧
      (∃ (t : State) (a : Nat), exec (.mccJoinResp f true) s = .next t ∧ (r' t).nodeState a = nsJoined ∧ (r' t).euiOf a = eui ∧
        (r' t).rd .MCC_EVENT_NODE_JOIN = 1 ∧ ∀ x ∈ (r' t).carrier.joining, x.eui ≠ eui)) ∧
    (∀ k : Nat, ∃ t : State, exec (.mccLinkUnusableExpiry k) s = .next t ∧ (r' t).carrier.unusable = r.carrier.unusable.eraseIdx k ∧
      (r' t).regs = r.regs) ∧
    (∀ a : Node, r.nodeState a = nsJoined → ∃ t : State, exec (.mccReachTimeout a) s = .next t ∧ (r' t).nodeState a = nsUnreachable ∧
      (r' t).rd .MCC_EVENT_NODE_LOST = 1) ∧
    (∃ t : State, exec .mccCrcFail s = .next t ∧ (r' t).rd .MCC_EVENT_CRC_FAIL = 1)

/-- Whole-device resets, supply faults, release from reset, image check and recovery, engine starts and the first lease. Rests in part on the model's choices of log entries 121, 135, 152, 156 -/
def Obligations.SuppliesAndResets : Prop :=
  ∀ (p : Pav) (s : State),
    let l := (s.site.pav p).loc
    let r := (s.site.pav p).rep
    let l' (t : State) : Local := (t.site.pav p).loc
    let r' (t : State) : Replica := (t.site.pav p).rep
    let device (c : Instr) (cause : Nat) : Prop := ∃ t : State, exec c s = .next t ∧ t.site.com.rd .AON_CAUSE_CAUSE = cause ∧
      t.site.com.power.inReset = true ∧ t.site.com.legalA = s.site.com.legalA ∧ t.site.com.legalB = s.site.com.legalB ∧
      ∀ q : Pav, (t.site.pav q).loc.inReset = true ∧ t.site.role q = roleSetAside ∧ (t.site.pav q).loc.mram = (s.site.pav q).loc.mram
    let pav (c : Instr) (cause : Nat) : Prop := ∃ t : State, exec c s = .next t ∧ (l' t).inReset = true ∧ (l' t).resetCause = cause ∧
      t.site.role p = roleSetAside ∧ t.site.com.rd .AON_EVENT_PAV_RESET = 1 ∧
      t.site.com.rd (match p with | .A => .AON_CAUSE_PCAUSE_A | .B => .AON_CAUSE_PCAUSE_B) = cause
    let starts (t : State) : Prop := (l' t).booted = true ∧ (l' t).recovering = false ∧ ∀ e : Eng, (t.site.eng p e).run = .running
    device .powerOn 1 ∧ device .brownOut 3 ∧ (∀ ns : Nat, (1000 ≤ ns → device (.nrstPulse ns) 2) ∧ (ns < 1000 → exec (.nrstPulse ns) s = .next s)) ∧
    (∀ rail : Fin 3, pav (.supplyMonitorTrip p rail) 0x10) ∧
    (l.inReset = false → l.powered = true → pav (.sysPavilionReset p) 0x16 ∧
      ∀ mask : BitVec 12, ∃ t : State, exec (.sysEngineStart p mask) s = .next t ∧ ∀ e : Eng,
        (e.val ≠ 0 → bitOf mask.toNat e = true → (s.site.eng p e).run ≠ .running →
          (t.site.eng p e).run = .running ∧ (t.site.eng p e).pc = vget l.entries e 0) ∧
        (e.val = 0 ∨ bitOf mask.toNat e = false ∨ (s.site.eng p e).run = .running → t.site.eng p e = s.site.eng p e)) ∧
    (s.site.com.vio33Lost p = false → ∃ t : State, exec (.vio33Loss p) s = .next t ∧ t.site.com.vio33Lost p = true ∧
      t.site.com.rd .AON_EVENT_VIO33_LOSS = 1 ∧ (l' t).rd .SYS_SUPPLY_VIO33_OK = 0 ∧
      t.site.com.rd (match p with | .A => .AON_SUPPLY_VIO33A_OK | .B => .AON_SUPPLY_VIO33B_OK) = 0) ∧
    (s.site.com.vio33Lost .A = false ∨ s.site.com.vio33Lost .B = false → ∃ t : State, exec (.deviceResetRelease none) s = .next t ∧
      t.site.com.power.inReset = false ∧ t.site.com.rd .AON_SUPPLY_VCB_OK = 1) ∧
    (l.inReset = true → l.powered = true → l.heldOut = false → s.site.com.power.inReset = false → s.site.com.vio33Lost p = false →
      ∃ t : State, exec (.deviceResetRelease (some p)) s = .next t ∧ (l' t).inReset = false ∧
        (l' t).rd .SYS_BOOT_BOOT = (l.rd .SYS_BOOT_BOOT + 1) % 2 ^ 32 ∧ (t.site.eng p lodge).run = .running ∧
        ∀ e : Eng, e ≠ lodge → t.site.eng p e = s.site.eng p e) ∧
    (l.inReset = false → l.booted = false → l.recovering = false →
      let trial := r.rd .UPD_STATUS_TRIAL
      let slot := if trial = 1 then r.rd .UPD_STATUS_TRIAL_SLOT else r.rd .UPD_STATUS_ACTIVE
      let good (k : Nat) : Prop := (l.checkImage r k).1 = updOk
      ∃ t : State, exec (.bootImageCheckDone p) s = .next t ∧ (r' t).rd .UPD_STATUS_TRIAL = 0 ∧
        (good slot → (s.site.actFirst ≠ some p → starts t) ∧ (s.site.actFirst = some p → starts t ∨ (l' t).inReset = true)) ∧
        (¬ good slot → trial = 0 → r.rd .UPD_STATUS_PREV_VALID = 1 → good (1 - slot) → s.site.actFirst ≠ some p → starts t ∧ (r' t).rd .UPD_EVENT_BOOT_FALLBACK = 1) ∧
        (¬ good slot → trial = 0 → r.rd .UPD_STATUS_PREV_VALID = 0 → (l' t).recovering = true ∧ (l' t).booted = false)) ∧
    (s.site.leader = some p.other → l.recovering = true → l.inReset = false → s.site.actFirst ≠ some p →
      let q := s.site.pav p.other
      let slot := r.rd .UPD_STATUS_ACTIVE
      let x : Local := { l with mram := l.mram.copyRange q.loc.mram (slotBase slot) (slotBase (q.rep.rd .UPD_STATUS_ACTIVE)) 0xC00000 }
      ∃ t : State, exec (.imageRecoveryDone p) s = .next t ∧
        ((x.checkImage r slot).1 = updOk → starts t ∧ (r' t).rd .UPD_EVENT_IMAGE_RECOVERED = 1) ∧
        ((x.checkImage r slot).1 ≠ updOk → l' t = x)) ∧
    (s.site.leader = none → s.site.startReady p = true →
      (s.site.startReady p.other = false ∨ l.rd .FBR_CTRL_HOME = (match p with | .A => 0 | .B => 1)) → l.nextClaim ≤ 0xFFFFFFFF →
      r.rd .UPD_STATUS_PHASE = 0 → ∃ t : State, exec (.startupLeaseWait p) s = .next t ∧ t.site.leader = some p ∧ t.site.role p = roleLeader ∧
        (l' t).rd .FBR_CLAIM_STORED = l.nextClaim) ∧
    ((s.site.pav p).inStep = true → ∃ t : State, exec .discoveryStart s = .next t ∧ (r' t).discovery = true ∧ (r' t).regs = r.regs)

/-- The idle timer, the sleep agreement, entry into NIGHT, wake and the pad release. Rests in part on the model's choices of log entries 147, 148, 151 -/
def Obligations.NightAndWake : Prop :=
  ∀ (p : Pav) (src : Fin 7) (s : State), s.site.leader = some p → (s.site.pav p).inStep = true →
    let c := s.site.com
    let c' (t : State) : Common := t.site.com
    let bit := 2 ^ src.val
    (c.rd .AON_CTRL_IDLE_T ≠ 0 → s.site.powerState ≤ psIdle → c.power.asked = false →
      (s.site.nightConditions = true → (s.site.pav p).loc.inputs = [] → (s.site.pav p).loc.log.length < 64 → ∃ (t : State) (x : LogEntry),
        exec .idleTimerExpiry s = .next t ∧ (c' t).power.asked = true ∧ (t.site.pav p).loc.log = (s.site.pav p).loc.log ++ [x] ∧ x.kind = 4) ∧
      (s.site.nightConditions = false → exec .idleTimerExpiry s = .next s)) ∧
    (c.power.asked = true →
      (∀ b reason : Nat, s.site.sleepRefusal = some (b, reason) → ∃ t : State, exec .sleepEntry s = .next t ∧
        (c' t).rd .AON_SLEEP_BLOCK = b ∧ (c' t).rd .AON_SLEEP_REASON = reason ∧ (c' t).rd .AON_EVENT_SLEEP_REFUSED = 1 ∧
        (c' t).power.asked = false ∧ t.site.powerState = s.site.powerState) ∧
      (s.site.sleepRefusal = none → ∃ t : State, exec .sleepEntry s = .next t ∧ t.site.powerState = psNight ∧
        (c' t).rd .AON_EVENT_NIGHT_ENTER = 1 ∧ (c' t).rd .AON_STATE_LATCHED = 1 ∧ (c' t).rd .LSW_STATUS_LATCHED = 1 ∧
        (c' t).rd .LSW_LATCHED_STATE = c.rd .LSW_ON_ON ∧ t.site.role p = roleLeader ∧
        (s.site.redundant = true → (t.site.pav p.other).loc.powered = false ∧ t.site.role p.other = roleSetAside))) ∧
    (bitOf (c.rd .AON_WAKEEN_EN) src = true →
      (c.power.asked = true → ∃ t : State, exec (.wakeDetect src) s = .next t ∧ bitOf (c' t).power.waking src = true ∧
        t.site.powerState = s.site.powerState) ∧
      (c.power.asked = false → s.site.powerState = psNight → ∃ t : State, exec (.wakeDetect src) s = .next t ∧ t.site.powerState = psWaking ∧
        (c' t).rd .AON_WAKESRC_SRC = bit ∧ (c' t).rd .AON_EVENT_WAKE = 1 ∧ (c' t).rd .AON_STATE_LATCHED = c.rd .AON_STATE_LATCHED) ∧
      (c.power.asked = false → s.site.powerState = psWaking → ∃ t : State, exec (.wakeDetect src) s = .next t ∧
        t.site.powerState = psWaking ∧ bitOf ((c' t).rd .AON_WAKESRC_SRC) src = true)) ∧
    (bitOf (c.rd .AON_WAKEEN_EN) src = false → exec (.wakeDetect src) s = .next s) ∧
    (c.rd .AON_STATE_LATCHED = 1 → ∃ t : State, exec .aonPadRelease s = .next t ∧ (c' t).rd .AON_STATE_LATCHED = 0 ∧
      (t.site.pav p).rep.discovery = true) ∧
    (c.rd .AON_STATE_LATCHED = 0 → exec .aonPadRelease s = .next s)

/-- An effect at an input-log position changes replicas in step and journals, nothing else -/
def Obligations.LoggedCommandsFrame : Prop :=
  ∀ (c : Instr) (s t : State), atLog c = true → exec c s = .next t →
    t.pending = s.pending ∧ t.site.com = s.site.com ∧ ∀ p : Pav, t.site.role p = s.site.role p ∧
      (∃ (m : Mem) (n : Nat), (t.site.pav p).loc = { (s.site.pav p).loc with mram := m, jNext := n }) ∧
      (∀ a : Nat, a < 0x21C10040 ∨ 0x21C14040 ≤ a → (t.site.pav p).loc.mram.rd a = (s.site.pav p).loc.mram.rd a) ∧
      ((s.site.pav p).inStep = false → t.site.pav p = s.site.pav p)

/-- A command of one pavilion leaves the other pavilion and the common block as they are -/
def Obligations.OnePavilionCommandsFrame : Prop :=
  ∀ (c : Instr) (p : Pav) (s t : State), keepsTo c = some p → exec c s = .next t →
    t.pending = s.pending ∧ t.site.com = s.site.com ∧ t.site.pav p.other = s.site.pav p.other

/-- g0 reads as zero and discards writes, and no step gives a base-profile engine a non-zero accumulator -/
def Obligations.BaseProfileAccumulatorsStayZero : Prop :=
  (∀ en : Engine, en.g 0 = 0 ∧ ∀ v : Word, (en.setG 0 v).gpr = en.gpr) ∧
    (∀ (p : Pav) (e : Eng), loopProfile e = false → (State.reset.site.eng p e).acc = Vector.replicate 8 0) ∧
    ∀ s t : State, (∀ (p : Pav) (e : Eng), loopProfile e = false → (s.site.eng p e).acc = Vector.replicate 8 0) → step s = .next t →
      ∀ (p : Pav) (e : Eng), loopProfile e = false → (t.site.eng p e).acc = Vector.replicate 8 0

/-- ABORT withdraws a PENDING CAN mailbox, at once or when its frame fails, and nothing else. Rests in part on the model's choices of log entry 81 -/
def Obligations.AbortWithdrawsMailbox : Prop :=
  ∀ (p : Pav) (ch : CanCh) (m : Mailbox) (s : State), (s.site.pav p).inStep = true →
    let r : Replica := { (s.site.pav p).rep with now := s.site.now }
    let r' (t : State) : Replica := (t.site.pav p).rep
    (r.mbState ch m = mbPending → (r.can ch).sending ≠ some m.val →
      ∃ t : State, exec (.canMailboxAbort ch m) s = .next t ∧ (r' t).mbState ch m = mbAborted) ∧
    (r.mbState ch m = mbPending → (r.can ch).sending = some m.val → (r.can ch).onFail = none → r.canState ch < csBusOff →
      ∃ t : State, exec (.canMailboxAbort ch m) s = .next t ∧ (r' t).mbState ch m = mbPending ∧
        (∃ u : State, exec (.canTxComplete ch m true true) t = .next u ∧ (r' u).mbState ch m = mbSent) ∧
        (∃ u : State, exec (.canTxComplete ch m false true) t = .next u ∧ (r' u).mbState ch m = mbAborted ∧
          bitOf ((r' u).rd .CAN_CPEND_PEND ch) m = false)) ∧
    (r.mbState ch m ≠ mbPending → ∃ t : State, exec (.canMailboxAbort ch m) s = .next t ∧ r' t = { r with jq := [] })

/-- Accumulates are exact in 72 bits, saturate beyond and set Q; 256 products never saturate -/
def Obligations.AccumulatorArithmeticIsExact : Prop :=
  ∀ (p : Pav) (e : Eng) (s1 s2 : Gpr) (k : AccIx) (s : State), s.site.ready p e = true → loopProfile e = true →
    let en := s.site.eng p e
    let gives (c : Instr) (x : Int) : Prop := ∃ t : State, exec c s = .next t ∧
      ((t.site.eng p e).a k).toInt = max (-(2 ^ 71)) (min (2 ^ 71 - 1) x) ∧
      (t.site.eng p e).flag flagQ = (en.flag flagQ || decide (x < -(2 ^ 71) ∨ 2 ^ 71 - 1 < x))
    gives (.macc p e s1 s2 k) ((en.a k).toInt + prod (en.g s1) (en.g s2)) ∧
    gives (.msub p e s1 s2 k) ((en.a k).toInt - prod (en.g s1) (en.g s2)) ∧
    (∀ x y : Word, -(2 ^ 63) ≤ prod x y ∧ prod x y ≤ 2 ^ 63 - 1) ∧
    ∀ ws : List (Word × Word), ws.length ≤ 256 →
      let done := ws.foldl (fun en w => en.setAccSat k ((en.a k).toInt + prod w.1 w.2)) (en.setA k 0)
      (done.a k).toInt = (ws.map fun w => prod w.1 w.2).sum ∧ done.flag flagQ = en.flag flagQ
end

