-- ==== Sys2Proof/Laws/Sparse.lean ====
section
/-! SUPPORT. The two laws of a sparse map, for any list, and that every write keeps the canonical form. -/
namespace Sys2Proof.Machine

theorem Sparse.get_above {α : Type} (d : α) (m : Sparse α) (k j : Nat) (h : k < j) :
    Sparse.get d (Sparse.above k m) j = Sparse.get d m j := by
  induction m with
  | nil => rfl
  | cons e r ih =>
    obtain ⟨a, v⟩ := e
    by_cases ha : a ≤ k
    · have h1 : ¬ j < a := by omega
      have h2 : j ≠ a := by omega
      simp [Sparse.above, Sparse.get, ha, h1, h2, ih]
    · simp [Sparse.above, ha]

theorem Sparse.get_above_low {α : Type} (d : α) (m : Sparse α) (k j : Nat) (h : j ≤ k) :
    Sparse.get d (Sparse.above k m) j = d := by
  induction m with
  | nil => rfl
  | cons e r ih =>
    obtain ⟨a, v⟩ := e
    by_cases ha : a ≤ k
    · simp [Sparse.above, ha, ih]
    · have : j < a := by omega
      simp [Sparse.above, Sparse.get, ha, this]

/-- A read at the key just written gives the value written. -/
theorem Sparse.get_put_same {α : Type} [DecidableEq α] (d : α) (m : Sparse α) (k : Nat) (v : α) :
    Sparse.get d (Sparse.put d m k v) k = v := by
  induction m with
  | nil => by_cases h : v = d <;> simp [Sparse.put, Sparse.get, h]
  | cons e r ih =>
    obtain ⟨a, w⟩ := e
    by_cases h1 : k < a
    · by_cases h : v = d <;> simp [Sparse.put, Sparse.get, h1, h]
    · by_cases h2 : k = a
      · subst h2
        by_cases h : v = d <;> simp [Sparse.put, Sparse.get, h, Sparse.get_above_low]
      · simp [Sparse.put, Sparse.get, h1, h2, ih]

/-- A write leaves every other key alone, whatever an unlisted key is taken to read as. -/
theorem Sparse.get_put_ne {α : Type} [DecidableEq α] (d d' : α) (m : Sparse α) (k j : Nat) (v : α) (hne : j ≠ k) :
    Sparse.get d' (Sparse.put d m k v) j = Sparse.get d' m j := by
  induction m with
  | nil =>
    by_cases h : v = d
    · simp [Sparse.put, h]
    · by_cases hj : j < k <;> simp [Sparse.put, Sparse.get, h, hj, hne]
  | cons e r ih =>
    obtain ⟨a, w⟩ := e
    by_cases h1 : k < a
    · by_cases h : v = d
      · simp [Sparse.put, h1, h]
      · by_cases hj : j < k
        · have : j < a := by omega
          simp [Sparse.put, Sparse.get, h1, h, hj, this]
        · simp [Sparse.put, Sparse.get, h1, h, hj, hne]
    · by_cases h2 : k = a
      · subst h2
        by_cases hj : j < k
        · by_cases h : v = d
          · simp [Sparse.put, Sparse.get, h, hj, Sparse.get_above_low d' r k j (by omega)]
          · simp [Sparse.put, Sparse.get, h, hj]
        · have hk : k < j := by omega
          by_cases h : v = d <;> simp [Sparse.put, Sparse.get, h, hj, hne, Sparse.get_above d' r k j hk]
      · by_cases hja : j < a
        · simp [Sparse.put, Sparse.get, h1, h2, hja]
        · by_cases hj2 : j = a <;> simp [Sparse.put, Sparse.get, h1, h2, hja, hj2, ih]

theorem Sparse.wfFrom_cons {α : Type} [DecidableEq α] (d : α) (lo : Option Nat) (k : Nat) (v : α) (r : Sparse α) :
    Sparse.wfFrom d lo ((k, v) :: r) = true ↔ (∀ l, lo = some l → l < k) ∧ v ≠ d ∧ Sparse.wfFrom d (some k) r = true := by
  cases lo <;> simp [Sparse.wfFrom, and_assoc]

/-- A later lower bound that the first key meets does as well. -/
theorem Sparse.wfFrom_le {α : Type} [DecidableEq α] (d : α) (m : Sparse α) (lo : Option Nat) (k : Nat)
    (h : Sparse.wfFrom d (some k) m = true) (hk : ∀ l, lo = some l → l ≤ k) : Sparse.wfFrom d lo m = true := by
  cases m with
  | nil => cases lo <;> rfl
  | cons e r =>
    obtain ⟨a, v⟩ := e
    rw [Sparse.wfFrom_cons] at h ⊢
    refine ⟨fun l hl => ?_, h.2⟩
    exact lt_of_le_of_lt (hk l hl) (h.1 k rfl)

theorem Sparse.above_of_wf {α : Type} [DecidableEq α] (d : α) (m : Sparse α) (k : Nat) (h : Sparse.wfFrom d (some k) m = true) :
    Sparse.above k m = m := by
  cases m with
  | nil => rfl
  | cons e r =>
    obtain ⟨a, v⟩ := e
    have := ((Sparse.wfFrom_cons d (some k) a v r).mp h).1 k rfl
    simp [Sparse.above, Nat.not_le.mpr this]

theorem Sparse.wfFrom_put {α : Type} [DecidableEq α] (d : α) (m : Sparse α) (k : Nat) (v : α) :
    ∀ lo : Option Nat, Sparse.wfFrom d lo m = true → (∀ l, lo = some l → l < k) → Sparse.wfFrom d lo (Sparse.put d m k v) = true := by
  induction m with
  | nil =>
    intro lo _ hk
    by_cases h : v = d
    · simpa [Sparse.put, h] using ‹Sparse.wfFrom d lo [] = true›
    · simp only [Sparse.put, h, if_false]
      exact (Sparse.wfFrom_cons d lo k v []).mpr ⟨hk, h, rfl⟩
  | cons e r ih =>
    intro lo hw hk
    obtain ⟨a, w⟩ := e
    have hw' := (Sparse.wfFrom_cons d lo a w r).mp hw
    by_cases h1 : k < a
    · by_cases h : v = d
      · simpa [Sparse.put, h1, h] using hw
      · simp only [Sparse.put, h1, h, if_true, if_false]
        exact (Sparse.wfFrom_cons _ _ _ _ _).mpr ⟨hk, h, (Sparse.wfFrom_cons _ _ _ _ _).mpr
          ⟨fun l hl => by cases hl; exact h1, hw'.2⟩⟩
    · by_cases h2 : k = a
      · subst h2
        by_cases h : v = d
        · simp only [Sparse.put, h1, h, if_true, if_false, Sparse.above_of_wf d r k hw'.2.2]
          exact Sparse.wfFrom_le d r lo k hw'.2.2 fun l hl => le_of_lt (hk l hl)
        · simp only [Sparse.put, h1, h, if_true, if_false, Sparse.above_of_wf d r k hw'.2.2]
          exact (Sparse.wfFrom_cons _ _ _ _ _).mpr ⟨hk, h, hw'.2.2⟩
      · simp only [Sparse.put, h1, h2, if_false]
        exact (Sparse.wfFrom_cons _ _ _ _ _).mpr ⟨hw'.1, hw'.2.1, ih (some a) hw'.2.2 fun l hl => by cases hl; omega⟩

/-- A write keeps the canonical form. -/
theorem Sparse.wf_put {α : Type} [DecidableEq α] (d : α) (m : Sparse α) (k : Nat) (v : α) (h : Sparse.wf d m = true) :
    Sparse.wf d (Sparse.put d m k v) = true :=
  Sparse.wfFrom_put d m k v none h (fun _ h => by cases h)

end Sys2Proof.Machine
end

