-- ==== Sys2Proof/Laws/Memory.lean ====
section
/-! SUPPORT. Byte memories and register files: a read after a write, every other place left alone, the canonical form kept. -/
namespace Sys2Proof.Machine

@[simp] theorem Mem.rd_wr_same (m : Mem) (a : Nat) (b : Byte) : (m.wr a b).rd a = b := Sparse.get_put_same _ m a b
theorem Mem.rd_wr_ne (m : Mem) (a c : Nat) (b : Byte) (h : c ≠ a) : (m.wr a b).rd c = m.rd c := Sparse.get_put_ne _ _ m a c b h
theorem Mem.wf_wr (m : Mem) (a : Nat) (b : Byte) (h : m.wf = true) : (m.wr a b).wf = true := Sparse.wf_put _ m a b h

theorem Mem.wf_wrBytes (bs : List Byte) : ∀ (m : Mem) (a : Nat), m.wf = true → (m.wrBytes a bs).wf = true := by
  induction bs with
  | nil => intro m a h; exact h
  | cons b r ih => intro m a h; exact ih (m.wr a b) (a + 1) (Mem.wf_wr m a b h)
theorem Mem.wf_wrN (m : Mem) (a n v : Nat) (h : m.wf = true) : (m.wrN a n v).wf = true := Mem.wf_wrBytes _ m a h

/-- Bytes below or beyond the stored ones stay. -/
theorem Mem.rd_wrBytes_outside (bs : List Byte) : ∀ (m : Mem) (a c : Nat), (c < a ∨ a + bs.length ≤ c) → (m.wrBytes a bs).rd c = m.rd c := by
  induction bs with
  | nil => intro m a c _; rfl
  | cons b r ih =>
    intro m a c h
    have hl : (b :: r).length = r.length + 1 := rfl
    have h' : c < a + 1 ∨ a + 1 + r.length ≤ c := by omega
    have hne : c ≠ a := by omega
    exact (ih (m.wr a b) (a + 1) c h').trans (Mem.rd_wr_ne m a c b hne)

/-- The stored bytes read back. -/
theorem Mem.rd_wrBytes_inside (bs : List Byte) : ∀ (m : Mem) (a i : Nat) (hi : i < bs.length), (m.wrBytes a bs).rd (a + i) = bs[i] := by
  induction bs with
  | nil => intro m a i hi; exact absurd hi (Nat.not_lt_zero i)
  | cons b r ih =>
    intro m a i hi
    cases i with
    | zero => exact (Mem.rd_wrBytes_outside r (m.wr a b) (a + 1) a (by omega)).trans (Mem.rd_wr_same m a b)
    | succ j =>
      have := ih (m.wr a b) (a + 1) j (by simpa using hi)
      simpa [Mem.wrBytes, Nat.add_assoc, Nat.add_comm 1 j] using this

theorem leBytes_length (n : Nat) : ∀ v, (leBytes n v).length = n := by
  induction n with
  | zero => intro v; rfl
  | succ k ih => intro v; simp [leBytes, ih]

theorem Mem.rd_wrN_outside (m : Mem) (a n v c : Nat) (h : c < a ∨ a + n ≤ c) : (m.wrN a n v).rd c = m.rd c :=
  Mem.rd_wrBytes_outside _ m a c (by rw [leBytes_length]; exact h)

/-- A little-endian field reads back modulo its size. -/
theorem Mem.rdN_wrN (n : Nat) : ∀ (m : Mem) (a v : Nat), (m.wrN a n v).rdN a n = v % 256 ^ n := by
  induction n with
  | zero => intro m a v; simp [Mem.rdN, Nat.mod_one]
  | succ k ih =>
    intro m a v
    have h1 : (m.wrN a (k + 1) v).rd a = BitVec.ofNat 8 v :=
      (Mem.rd_wrBytes_outside (leBytes k (v / 256)) (m.wr a (BitVec.ofNat 8 v)) (a + 1) a (by omega)).trans (Mem.rd_wr_same m a _)
    have h2 : (m.wrN a (k + 1) v).rdN (a + 1) k = v / 256 % 256 ^ k := ih (m.wr a (BitVec.ofNat 8 v)) (a + 1) (v / 256)
    show ((m.wrN a (k + 1) v).rd a).toNat + 256 * (m.wrN a (k + 1) v).rdN (a + 1) k = v % 256 ^ (k + 1)
    have h3 : (256 : Nat) ^ (k + 1) = 256 * 256 ^ k := pow_succ' 256 k
    rw [h1, h2, h3, Nat.mod_mul, BitVec.toNat_ofNat]

/-! Register files. -/

theorem Field.ctorIdx_lt (f : Field) : f.ctorIdx < 1024 := by
  cases f <;> decide

theorem Field.ctorIdx_inj {f g : Field} (h : f.ctorIdx = g.ctorIdx) : f = g := by
  rw [← Field.ofNat_ctorIdx f, ← Field.ofNat_ctorIdx g, h]

theorem Field.key_inj {f g : Field} {i j : Nat} (h : f.key i = g.key j) : f = g ∧ i = j := by
  have hf := Field.ctorIdx_lt f
  have hg := Field.ctorIdx_lt g
  unfold Field.key at h
  exact ⟨Field.ctorIdx_inj (by omega), by omega⟩

@[simp] theorem Regs.rd_wr_same (r : Regs) (f : Field) (v i : Nat) : (r.wr f v i).rd f i = v % 2 ^ f.info.width := by
  unfold Regs.rd Regs.wr
  rw [Sparse.get_put_same, Nat.mod_mod]
/-- Every reset value fits its field. -/
theorem Field.reset_lt (f : Field) : f.info.reset < 2 ^ f.info.width := by
  cases f <;> decide
/-- A field's value lies within its width. -/
theorem Regs.rd_lt (r : Regs) (f : Field) (i : Nat) : r.rd f i < 2 ^ f.info.width := Nat.mod_lt _ (Nat.two_pow_pos _)
/-- Writing one field leaves every other field, and every other instance of it, alone. -/
theorem Regs.rd_wr_ne (r : Regs) (f g : Field) (v i j : Nat) (h : g ≠ f ∨ j ≠ i) : (r.wr f v i).rd g j = r.rd g j := by
  unfold Regs.rd Regs.wr
  rw [Sparse.get_put_ne]
  intro hk
  obtain ⟨h1, h2⟩ := Field.key_inj hk
  exact h.elim (fun h => h h1) (fun h => h h2)

end Sys2Proof.Machine
end

