-- ==== Sys2Proof/Laws/State.lean ====
section
/-! SUPPORT. What each update of a record leaves alone and what it sets, one lemma per field per update. -/
namespace Sys2Proof.Machine

/-! Local.wr -/
@[simp] theorem Local.wr_engines (l : Local) (f : Field) (n i : Nat) : (l.wr f n i).engines = l.engines := rfl
@[simp] theorem Local.wr_sram (l : Local) (f : Field) (n i : Nat) : (l.wr f n i).sram = l.sram := rfl
@[simp] theorem Local.wr_mram (l : Local) (f : Field) (n i : Nat) : (l.wr f n i).mram = l.mram := rfl
@[simp] theorem Local.wr_inWin (l : Local) (f : Field) (n i : Nat) : (l.wr f n i).inWin = l.inWin := rfl
@[simp] theorem Local.wr_inNext (l : Local) (f : Field) (n i : Nat) : (l.wr f n i).inNext = l.inNext := rfl
@[simp] theorem Local.wr_outWin (l : Local) (f : Field) (n i : Nat) : (l.wr f n i).outWin = l.outWin := rfl
@[simp] theorem Local.wr_rxA (l : Local) (f : Field) (n i : Nat) : (l.wr f n i).rxA = l.rxA := rfl
@[simp] theorem Local.wr_rxB (l : Local) (f : Field) (n i : Nat) : (l.wr f n i).rxB = l.rxB := rfl
@[simp] theorem Local.wr_closed (l : Local) (f : Field) (n i : Nat) : (l.wr f n i).closed = l.closed := rfl
@[simp] theorem Local.wr_vector (l : Local) (f : Field) (n i : Nat) : (l.wr f n i).vector = l.vector := rfl
@[simp] theorem Local.wr_setDone (l : Local) (f : Field) (n i : Nat) : (l.wr f n i).setDone = l.setDone := rfl
@[simp] theorem Local.wr_reports (l : Local) (f : Field) (n i : Nat) : (l.wr f n i).reports = l.reports := rfl
@[simp] theorem Local.wr_frozenReports (l : Local) (f : Field) (n i : Nat) : (l.wr f n i).frozenReports = l.frozenReports := rfl
@[simp] theorem Local.wr_lead (l : Local) (f : Field) (n i : Nat) : (l.wr f n i).lead = l.lead := rfl
@[simp] theorem Local.wr_echo (l : Local) (f : Field) (n i : Nat) : (l.wr f n i).echo = l.echo := rfl
@[simp] theorem Local.wr_echoNo (l : Local) (f : Field) (n i : Nat) : (l.wr f n i).echoNo = l.echoNo := rfl
@[simp] theorem Local.wr_log (l : Local) (f : Field) (n i : Nat) : (l.wr f n i).log = l.log := rfl
@[simp] theorem Local.wr_nextSeq (l : Local) (f : Field) (n i : Nat) : (l.wr f n i).nextSeq = l.nextSeq := rfl
@[simp] theorem Local.wr_logHeld (l : Local) (f : Field) (n i : Nat) : (l.wr f n i).logHeld = l.logHeld := rfl
@[simp] theorem Local.wr_inputs (l : Local) (f : Field) (n i : Nat) : (l.wr f n i).inputs = l.inputs := rfl
@[simp] theorem Local.wr_canRx (l : Local) (f : Field) (n i : Nat) : (l.wr f n i).canRx = l.canRx := rfl
@[simp] theorem Local.wr_canSeq (l : Local) (f : Field) (n i : Nat) : (l.wr f n i).canSeq = l.canSeq := rfl
@[simp] theorem Local.wr_shadowBad (l : Local) (f : Field) (n i : Nat) : (l.wr f n i).shadowBad = l.shadowBad := rfl
@[simp] theorem Local.wr_peerClaim (l : Local) (f : Field) (n i : Nat) : (l.wr f n i).peerClaim = l.peerClaim := rfl
@[simp] theorem Local.wr_restartDue (l : Local) (f : Field) (n i : Nat) : (l.wr f n i).restartDue = l.restartDue := rfl
@[simp] theorem Local.wr_div (l : Local) (f : Field) (n i : Nat) : (l.wr f n i).div = l.div := rfl
@[simp] theorem Local.wr_join (l : Local) (f : Field) (n i : Nat) : (l.wr f n i).join = l.join := rfl
@[simp] theorem Local.wr_ind (l : Local) (f : Field) (n i : Nat) : (l.wr f n i).ind = l.ind := rfl
@[simp] theorem Local.wr_corrected (l : Local) (f : Field) (n i : Nat) : (l.wr f n i).corrected = l.corrected := rfl
@[simp] theorem Local.wr_setAsides (l : Local) (f : Field) (n i : Nat) : (l.wr f n i).setAsides = l.setAsides := rfl
@[simp] theorem Local.wr_heldOut (l : Local) (f : Field) (n i : Nat) : (l.wr f n i).heldOut = l.heldOut := rfl
@[simp] theorem Local.wr_resetCause (l : Local) (f : Field) (n i : Nat) : (l.wr f n i).resetCause = l.resetCause := rfl
@[simp] theorem Local.wr_digMiss (l : Local) (f : Field) (n i : Nat) : (l.wr f n i).digMiss = l.digMiss := rfl
@[simp] theorem Local.wr_ownDigest (l : Local) (f : Field) (n i : Nat) : (l.wr f n i).ownDigest = l.ownDigest := rfl
@[simp] theorem Local.wr_renewedAt (l : Local) (f : Field) (n i : Nat) : (l.wr f n i).renewedAt = l.renewedAt := rfl
@[simp] theorem Local.wr_live (l : Local) (f : Field) (n i : Nat) : (l.wr f n i).live = l.live := rfl
@[simp] theorem Local.wr_liveAt (l : Local) (f : Field) (n i : Nat) : (l.wr f n i).liveAt = l.liveAt := rfl
@[simp] theorem Local.wr_healthyAt (l : Local) (f : Field) (n i : Nat) : (l.wr f n i).healthyAt = l.healthyAt := rfl
@[simp] theorem Local.wr_handbackAt (l : Local) (f : Field) (n i : Nat) : (l.wr f n i).handbackAt = l.handbackAt := rfl
@[simp] theorem Local.wr_slots (l : Local) (f : Field) (n i : Nat) : (l.wr f n i).slots = l.slots := rfl
@[simp] theorem Local.wr_jNext (l : Local) (f : Field) (n i : Nat) : (l.wr f n i).jNext = l.jNext := rfl
@[simp] theorem Local.wr_inReset (l : Local) (f : Field) (n i : Nat) : (l.wr f n i).inReset = l.inReset := rfl
@[simp] theorem Local.wr_powered (l : Local) (f : Field) (n i : Nat) : (l.wr f n i).powered = l.powered := rfl
@[simp] theorem Local.wr_rwl (l : Local) (f : Field) (n i : Nat) : (l.wr f n i).rwl = l.rwl := rfl
@[simp] theorem Local.wr_paramRegs (l : Local) (f : Field) (n i : Nat) : (l.wr f n i).paramRegs = l.paramRegs := rfl
@[simp] theorem Local.wr_booted (l : Local) (f : Field) (n i : Nat) : (l.wr f n i).booted = l.booted := rfl
@[simp] theorem Local.wr_entries (l : Local) (f : Field) (n i : Nat) : (l.wr f n i).entries = l.entries := rfl
@[simp] theorem Local.wr_recovering (l : Local) (f : Field) (n i : Nat) : (l.wr f n i).recovering = l.recovering := rfl
@[simp] theorem Local.wr_tx (l : Local) (f : Field) (n i : Nat) : (l.wr f n i).tx = l.tx := rfl

/-! Local.raise -/
@[simp] theorem Local.raise_engines (l : Local) (f : Field) (i : Nat) : (l.raise f i).engines = l.engines := rfl
@[simp] theorem Local.raise_sram (l : Local) (f : Field) (i : Nat) : (l.raise f i).sram = l.sram := rfl
@[simp] theorem Local.raise_mram (l : Local) (f : Field) (i : Nat) : (l.raise f i).mram = l.mram := rfl
@[simp] theorem Local.raise_inWin (l : Local) (f : Field) (i : Nat) : (l.raise f i).inWin = l.inWin := rfl
@[simp] theorem Local.raise_inNext (l : Local) (f : Field) (i : Nat) : (l.raise f i).inNext = l.inNext := rfl
@[simp] theorem Local.raise_outWin (l : Local) (f : Field) (i : Nat) : (l.raise f i).outWin = l.outWin := rfl
@[simp] theorem Local.raise_rxA (l : Local) (f : Field) (i : Nat) : (l.raise f i).rxA = l.rxA := rfl
@[simp] theorem Local.raise_rxB (l : Local) (f : Field) (i : Nat) : (l.raise f i).rxB = l.rxB := rfl
@[simp] theorem Local.raise_closed (l : Local) (f : Field) (i : Nat) : (l.raise f i).closed = l.closed := rfl
@[simp] theorem Local.raise_vector (l : Local) (f : Field) (i : Nat) : (l.raise f i).vector = l.vector := rfl
@[simp] theorem Local.raise_setDone (l : Local) (f : Field) (i : Nat) : (l.raise f i).setDone = l.setDone := rfl
@[simp] theorem Local.raise_reports (l : Local) (f : Field) (i : Nat) : (l.raise f i).reports = l.reports := rfl
@[simp] theorem Local.raise_frozenReports (l : Local) (f : Field) (i : Nat) : (l.raise f i).frozenReports = l.frozenReports := rfl
@[simp] theorem Local.raise_lead (l : Local) (f : Field) (i : Nat) : (l.raise f i).lead = l.lead := rfl
@[simp] theorem Local.raise_echo (l : Local) (f : Field) (i : Nat) : (l.raise f i).echo = l.echo := rfl
@[simp] theorem Local.raise_echoNo (l : Local) (f : Field) (i : Nat) : (l.raise f i).echoNo = l.echoNo := rfl
@[simp] theorem Local.raise_log (l : Local) (f : Field) (i : Nat) : (l.raise f i).log = l.log := rfl
@[simp] theorem Local.raise_nextSeq (l : Local) (f : Field) (i : Nat) : (l.raise f i).nextSeq = l.nextSeq := rfl
@[simp] theorem Local.raise_logHeld (l : Local) (f : Field) (i : Nat) : (l.raise f i).logHeld = l.logHeld := rfl
@[simp] theorem Local.raise_inputs (l : Local) (f : Field) (i : Nat) : (l.raise f i).inputs = l.inputs := rfl
@[simp] theorem Local.raise_canRx (l : Local) (f : Field) (i : Nat) : (l.raise f i).canRx = l.canRx := rfl
@[simp] theorem Local.raise_canSeq (l : Local) (f : Field) (i : Nat) : (l.raise f i).canSeq = l.canSeq := rfl
@[simp] theorem Local.raise_shadowBad (l : Local) (f : Field) (i : Nat) : (l.raise f i).shadowBad = l.shadowBad := rfl
@[simp] theorem Local.raise_peerClaim (l : Local) (f : Field) (i : Nat) : (l.raise f i).peerClaim = l.peerClaim := rfl
@[simp] theorem Local.raise_restartDue (l : Local) (f : Field) (i : Nat) : (l.raise f i).restartDue = l.restartDue := rfl
@[simp] theorem Local.raise_div (l : Local) (f : Field) (i : Nat) : (l.raise f i).div = l.div := rfl
@[simp] theorem Local.raise_join (l : Local) (f : Field) (i : Nat) : (l.raise f i).join = l.join := rfl
@[simp] theorem Local.raise_ind (l : Local) (f : Field) (i : Nat) : (l.raise f i).ind = l.ind := rfl
@[simp] theorem Local.raise_corrected (l : Local) (f : Field) (i : Nat) : (l.raise f i).corrected = l.corrected := rfl
@[simp] theorem Local.raise_setAsides (l : Local) (f : Field) (i : Nat) : (l.raise f i).setAsides = l.setAsides := rfl
@[simp] theorem Local.raise_heldOut (l : Local) (f : Field) (i : Nat) : (l.raise f i).heldOut = l.heldOut := rfl
@[simp] theorem Local.raise_resetCause (l : Local) (f : Field) (i : Nat) : (l.raise f i).resetCause = l.resetCause := rfl
@[simp] theorem Local.raise_digMiss (l : Local) (f : Field) (i : Nat) : (l.raise f i).digMiss = l.digMiss := rfl
@[simp] theorem Local.raise_ownDigest (l : Local) (f : Field) (i : Nat) : (l.raise f i).ownDigest = l.ownDigest := rfl
@[simp] theorem Local.raise_renewedAt (l : Local) (f : Field) (i : Nat) : (l.raise f i).renewedAt = l.renewedAt := rfl
@[simp] theorem Local.raise_live (l : Local) (f : Field) (i : Nat) : (l.raise f i).live = l.live := rfl
@[simp] theorem Local.raise_liveAt (l : Local) (f : Field) (i : Nat) : (l.raise f i).liveAt = l.liveAt := rfl
@[simp] theorem Local.raise_healthyAt (l : Local) (f : Field) (i : Nat) : (l.raise f i).healthyAt = l.healthyAt := rfl
@[simp] theorem Local.raise_handbackAt (l : Local) (f : Field) (i : Nat) : (l.raise f i).handbackAt = l.handbackAt := rfl
@[simp] theorem Local.raise_slots (l : Local) (f : Field) (i : Nat) : (l.raise f i).slots = l.slots := rfl
@[simp] theorem Local.raise_jNext (l : Local) (f : Field) (i : Nat) : (l.raise f i).jNext = l.jNext := rfl
@[simp] theorem Local.raise_inReset (l : Local) (f : Field) (i : Nat) : (l.raise f i).inReset = l.inReset := rfl
@[simp] theorem Local.raise_powered (l : Local) (f : Field) (i : Nat) : (l.raise f i).powered = l.powered := rfl
@[simp] theorem Local.raise_rwl (l : Local) (f : Field) (i : Nat) : (l.raise f i).rwl = l.rwl := rfl
@[simp] theorem Local.raise_paramRegs (l : Local) (f : Field) (i : Nat) : (l.raise f i).paramRegs = l.paramRegs := rfl
@[simp] theorem Local.raise_booted (l : Local) (f : Field) (i : Nat) : (l.raise f i).booted = l.booted := rfl
@[simp] theorem Local.raise_entries (l : Local) (f : Field) (i : Nat) : (l.raise f i).entries = l.entries := rfl
@[simp] theorem Local.raise_recovering (l : Local) (f : Field) (i : Nat) : (l.raise f i).recovering = l.recovering := rfl
@[simp] theorem Local.raise_tx (l : Local) (f : Field) (i : Nat) : (l.raise f i).tx = l.tx := rfl

/-! Replica.wr -/
@[simp] theorem Replica.wr_blkMem (r : Replica) (f : Field) (n i : Nat) : (r.wr f n i).blkMem = r.blkMem := rfl
@[simp] theorem Replica.wr_links (r : Replica) (f : Field) (n i : Nat) : (r.wr f n i).links = r.links := rfl
@[simp] theorem Replica.wr_groups (r : Replica) (f : Field) (n i : Nat) : (r.wr f n i).groups = r.groups := rfl
@[simp] theorem Replica.wr_outs (r : Replica) (f : Field) (n i : Nat) : (r.wr f n i).outs = r.outs := rfl
@[simp] theorem Replica.wr_injs (r : Replica) (f : Field) (n i : Nat) : (r.wr f n i).injs = r.injs := rfl
@[simp] theorem Replica.wr_caps (r : Replica) (f : Field) (n i : Nat) : (r.wr f n i).caps = r.caps := rfl
@[simp] theorem Replica.wr_swapWord (r : Replica) (f : Field) (n i : Nat) : (r.wr f n i).swapWord = r.swapWord := rfl
@[simp] theorem Replica.wr_swapEngines (r : Replica) (f : Field) (n i : Nat) : (r.wr f n i).swapEngines = r.swapEngines := rfl
@[simp] theorem Replica.wr_phases (r : Replica) (f : Field) (n i : Nat) : (r.wr f n i).phases = r.phases := rfl
@[simp] theorem Replica.wr_hist (r : Replica) (f : Field) (n i : Nat) : (r.wr f n i).hist = r.hist := rfl
@[simp] theorem Replica.wr_frozen (r : Replica) (f : Field) (n i : Nat) : (r.wr f n i).frozen = r.frozen := rfl
@[simp] theorem Replica.wr_alloc (r : Replica) (f : Field) (n i : Nat) : (r.wr f n i).alloc = r.alloc := rfl
@[simp] theorem Replica.wr_layout (r : Replica) (f : Field) (n i : Nat) : (r.wr f n i).layout = r.layout := rfl
@[simp] theorem Replica.wr_params (r : Replica) (f : Field) (n i : Nat) : (r.wr f n i).params = r.params := rfl
@[simp] theorem Replica.wr_committed (r : Replica) (f : Field) (n i : Nat) : (r.wr f n i).committed = r.committed := rfl
@[simp] theorem Replica.wr_discovery (r : Replica) (f : Field) (n i : Nat) : (r.wr f n i).discovery = r.discovery := rfl
@[simp] theorem Replica.wr_jq (r : Replica) (f : Field) (n i : Nat) : (r.wr f n i).jq = r.jq := rfl
@[simp] theorem Replica.wr_tx (r : Replica) (f : Field) (n i : Nat) : (r.wr f n i).tx = r.tx := rfl
@[simp] theorem Replica.wr_now (r : Replica) (f : Field) (n i : Nat) : (r.wr f n i).now = r.now := rfl
@[simp] theorem Replica.wr_disps (r : Replica) (f : Field) (n i : Nat) : (r.wr f n i).disps = r.disps := rfl
@[simp] theorem Replica.wr_vehs (r : Replica) (f : Field) (n i : Nat) : (r.wr f n i).vehs = r.vehs := rfl
@[simp] theorem Replica.wr_legal (r : Replica) (f : Field) (n i : Nat) : (r.wr f n i).legal = r.legal := rfl
@[simp] theorem Replica.wr_safety (r : Replica) (f : Field) (n i : Nat) : (r.wr f n i).safety = r.safety := rfl
@[simp] theorem Replica.wr_owners (r : Replica) (f : Field) (n i : Nat) : (r.wr f n i).owners = r.owners := rfl
@[simp] theorem Replica.wr_hosts (r : Replica) (f : Field) (n i : Nat) : (r.wr f n i).hosts = r.hosts := rfl
@[simp] theorem Replica.wr_gate (r : Replica) (f : Field) (n i : Nat) : (r.wr f n i).gate = r.gate := rfl
@[simp] theorem Replica.wr_cans (r : Replica) (f : Field) (n i : Nat) : (r.wr f n i).cans = r.cans := rfl
@[simp] theorem Replica.wr_carrier (r : Replica) (f : Field) (n i : Nat) : (r.wr f n i).carrier = r.carrier := rfl
@[simp] theorem Replica.wr_upd (r : Replica) (f : Field) (n i : Nat) : (r.wr f n i).upd = r.upd := rfl
@[simp] theorem Replica.wr_rwl (r : Replica) (f : Field) (n i : Nat) : (r.wr f n i).rwl = r.rwl := rfl
@[simp] theorem Replica.wr_paramRegs (r : Replica) (f : Field) (n i : Nat) : (r.wr f n i).paramRegs = r.paramRegs := rfl

/-! Replica.raise -/
@[simp] theorem Replica.raise_blkMem (r : Replica) (f : Field) (i : Nat) : (r.raise f i).blkMem = r.blkMem := rfl
@[simp] theorem Replica.raise_links (r : Replica) (f : Field) (i : Nat) : (r.raise f i).links = r.links := rfl
@[simp] theorem Replica.raise_groups (r : Replica) (f : Field) (i : Nat) : (r.raise f i).groups = r.groups := rfl
@[simp] theorem Replica.raise_outs (r : Replica) (f : Field) (i : Nat) : (r.raise f i).outs = r.outs := rfl
@[simp] theorem Replica.raise_injs (r : Replica) (f : Field) (i : Nat) : (r.raise f i).injs = r.injs := rfl
@[simp] theorem Replica.raise_caps (r : Replica) (f : Field) (i : Nat) : (r.raise f i).caps = r.caps := rfl
@[simp] theorem Replica.raise_swapWord (r : Replica) (f : Field) (i : Nat) : (r.raise f i).swapWord = r.swapWord := rfl
@[simp] theorem Replica.raise_swapEngines (r : Replica) (f : Field) (i : Nat) : (r.raise f i).swapEngines = r.swapEngines := rfl
@[simp] theorem Replica.raise_phases (r : Replica) (f : Field) (i : Nat) : (r.raise f i).phases = r.phases := rfl
@[simp] theorem Replica.raise_hist (r : Replica) (f : Field) (i : Nat) : (r.raise f i).hist = r.hist := rfl
@[simp] theorem Replica.raise_frozen (r : Replica) (f : Field) (i : Nat) : (r.raise f i).frozen = r.frozen := rfl
@[simp] theorem Replica.raise_alloc (r : Replica) (f : Field) (i : Nat) : (r.raise f i).alloc = r.alloc := rfl
@[simp] theorem Replica.raise_layout (r : Replica) (f : Field) (i : Nat) : (r.raise f i).layout = r.layout := rfl
@[simp] theorem Replica.raise_params (r : Replica) (f : Field) (i : Nat) : (r.raise f i).params = r.params := rfl
@[simp] theorem Replica.raise_committed (r : Replica) (f : Field) (i : Nat) : (r.raise f i).committed = r.committed := rfl
@[simp] theorem Replica.raise_discovery (r : Replica) (f : Field) (i : Nat) : (r.raise f i).discovery = r.discovery := rfl
@[simp] theorem Replica.raise_jq (r : Replica) (f : Field) (i : Nat) : (r.raise f i).jq = r.jq := rfl
@[simp] theorem Replica.raise_tx (r : Replica) (f : Field) (i : Nat) : (r.raise f i).tx = r.tx := rfl
@[simp] theorem Replica.raise_now (r : Replica) (f : Field) (i : Nat) : (r.raise f i).now = r.now := rfl
@[simp] theorem Replica.raise_disps (r : Replica) (f : Field) (i : Nat) : (r.raise f i).disps = r.disps := rfl
@[simp] theorem Replica.raise_vehs (r : Replica) (f : Field) (i : Nat) : (r.raise f i).vehs = r.vehs := rfl
@[simp] theorem Replica.raise_legal (r : Replica) (f : Field) (i : Nat) : (r.raise f i).legal = r.legal := rfl
@[simp] theorem Replica.raise_safety (r : Replica) (f : Field) (i : Nat) : (r.raise f i).safety = r.safety := rfl
@[simp] theorem Replica.raise_owners (r : Replica) (f : Field) (i : Nat) : (r.raise f i).owners = r.owners := rfl
@[simp] theorem Replica.raise_hosts (r : Replica) (f : Field) (i : Nat) : (r.raise f i).hosts = r.hosts := rfl
@[simp] theorem Replica.raise_gate (r : Replica) (f : Field) (i : Nat) : (r.raise f i).gate = r.gate := rfl
@[simp] theorem Replica.raise_cans (r : Replica) (f : Field) (i : Nat) : (r.raise f i).cans = r.cans := rfl
@[simp] theorem Replica.raise_carrier (r : Replica) (f : Field) (i : Nat) : (r.raise f i).carrier = r.carrier := rfl
@[simp] theorem Replica.raise_upd (r : Replica) (f : Field) (i : Nat) : (r.raise f i).upd = r.upd := rfl
@[simp] theorem Replica.raise_rwl (r : Replica) (f : Field) (i : Nat) : (r.raise f i).rwl = r.rwl := rfl
@[simp] theorem Replica.raise_paramRegs (r : Replica) (f : Field) (i : Nat) : (r.raise f i).paramRegs = r.paramRegs := rfl

/-! Common.wr -/
@[simp] theorem Common.wr_sun (c : Common) (f : Field) (n i : Nat) : (c.wr f n i).sun = c.sun := rfl
@[simp] theorem Common.wr_xtalBadA (c : Common) (f : Field) (n i : Nat) : (c.wr f n i).xtalBadA = c.xtalBadA := rfl
@[simp] theorem Common.wr_xtalBadB (c : Common) (f : Field) (n i : Nat) : (c.wr f n i).xtalBadB = c.xtalBadB := rfl
@[simp] theorem Common.wr_legalA (c : Common) (f : Field) (n i : Nat) : (c.wr f n i).legalA = c.legalA := rfl
@[simp] theorem Common.wr_legalB (c : Common) (f : Field) (n i : Nat) : (c.wr f n i).legalB = c.legalB := rfl
@[simp] theorem Common.wr_sio (c : Common) (f : Field) (n i : Nat) : (c.wr f n i).sio = c.sio := rfl
@[simp] theorem Common.wr_lsw (c : Common) (f : Field) (n i : Nat) : (c.wr f n i).lsw = c.lsw := rfl
@[simp] theorem Common.wr_power (c : Common) (f : Field) (n i : Nat) : (c.wr f n i).power = c.power := rfl
@[simp] theorem Common.wr_tx (c : Common) (f : Field) (n i : Nat) : (c.wr f n i).tx = c.tx := rfl

/-! Common.raise -/
@[simp] theorem Common.raise_sun (c : Common) (f : Field) (i : Nat) : (c.raise f i).sun = c.sun := rfl
@[simp] theorem Common.raise_xtalBadA (c : Common) (f : Field) (i : Nat) : (c.raise f i).xtalBadA = c.xtalBadA := rfl
@[simp] theorem Common.raise_xtalBadB (c : Common) (f : Field) (i : Nat) : (c.raise f i).xtalBadB = c.xtalBadB := rfl
@[simp] theorem Common.raise_legalA (c : Common) (f : Field) (i : Nat) : (c.raise f i).legalA = c.legalA := rfl
@[simp] theorem Common.raise_legalB (c : Common) (f : Field) (i : Nat) : (c.raise f i).legalB = c.legalB := rfl
@[simp] theorem Common.raise_sio (c : Common) (f : Field) (i : Nat) : (c.raise f i).sio = c.sio := rfl
@[simp] theorem Common.raise_lsw (c : Common) (f : Field) (i : Nat) : (c.raise f i).lsw = c.lsw := rfl
@[simp] theorem Common.raise_power (c : Common) (f : Field) (i : Nat) : (c.raise f i).power = c.power := rfl
@[simp] theorem Common.raise_tx (c : Common) (f : Field) (i : Nat) : (c.raise f i).tx = c.tx := rfl

/-! Local.send -/
@[simp] theorem Local.send_regs (l : Local) (x : Tx) : (l.send x).regs = l.regs := rfl
@[simp] theorem Local.send_engines (l : Local) (x : Tx) : (l.send x).engines = l.engines := rfl
@[simp] theorem Local.send_sram (l : Local) (x : Tx) : (l.send x).sram = l.sram := rfl
@[simp] theorem Local.send_mram (l : Local) (x : Tx) : (l.send x).mram = l.mram := rfl
@[simp] theorem Local.send_inWin (l : Local) (x : Tx) : (l.send x).inWin = l.inWin := rfl
@[simp] theorem Local.send_inNext (l : Local) (x : Tx) : (l.send x).inNext = l.inNext := rfl
@[simp] theorem Local.send_outWin (l : Local) (x : Tx) : (l.send x).outWin = l.outWin := rfl
@[simp] theorem Local.send_rxA (l : Local) (x : Tx) : (l.send x).rxA = l.rxA := rfl
@[simp] theorem Local.send_rxB (l : Local) (x : Tx) : (l.send x).rxB = l.rxB := rfl
@[simp] theorem Local.send_closed (l : Local) (x : Tx) : (l.send x).closed = l.closed := rfl
@[simp] theorem Local.send_vector (l : Local) (x : Tx) : (l.send x).vector = l.vector := rfl
@[simp] theorem Local.send_setDone (l : Local) (x : Tx) : (l.send x).setDone = l.setDone := rfl
@[simp] theorem Local.send_reports (l : Local) (x : Tx) : (l.send x).reports = l.reports := rfl
@[simp] theorem Local.send_frozenReports (l : Local) (x : Tx) : (l.send x).frozenReports = l.frozenReports := rfl
@[simp] theorem Local.send_lead (l : Local) (x : Tx) : (l.send x).lead = l.lead := rfl
@[simp] theorem Local.send_echo (l : Local) (x : Tx) : (l.send x).echo = l.echo := rfl
@[simp] theorem Local.send_echoNo (l : Local) (x : Tx) : (l.send x).echoNo = l.echoNo := rfl
@[simp] theorem Local.send_log (l : Local) (x : Tx) : (l.send x).log = l.log := rfl
@[simp] theorem Local.send_nextSeq (l : Local) (x : Tx) : (l.send x).nextSeq = l.nextSeq := rfl
@[simp] theorem Local.send_logHeld (l : Local) (x : Tx) : (l.send x).logHeld = l.logHeld := rfl
@[simp] theorem Local.send_inputs (l : Local) (x : Tx) : (l.send x).inputs = l.inputs := rfl
@[simp] theorem Local.send_canRx (l : Local) (x : Tx) : (l.send x).canRx = l.canRx := rfl
@[simp] theorem Local.send_canSeq (l : Local) (x : Tx) : (l.send x).canSeq = l.canSeq := rfl
@[simp] theorem Local.send_shadowBad (l : Local) (x : Tx) : (l.send x).shadowBad = l.shadowBad := rfl
@[simp] theorem Local.send_peerClaim (l : Local) (x : Tx) : (l.send x).peerClaim = l.peerClaim := rfl
@[simp] theorem Local.send_restartDue (l : Local) (x : Tx) : (l.send x).restartDue = l.restartDue := rfl
@[simp] theorem Local.send_div (l : Local) (x : Tx) : (l.send x).div = l.div := rfl
@[simp] theorem Local.send_join (l : Local) (x : Tx) : (l.send x).join = l.join := rfl
@[simp] theorem Local.send_ind (l : Local) (x : Tx) : (l.send x).ind = l.ind := rfl
@[simp] theorem Local.send_corrected (l : Local) (x : Tx) : (l.send x).corrected = l.corrected := rfl
@[simp] theorem Local.send_setAsides (l : Local) (x : Tx) : (l.send x).setAsides = l.setAsides := rfl
@[simp] theorem Local.send_heldOut (l : Local) (x : Tx) : (l.send x).heldOut = l.heldOut := rfl
@[simp] theorem Local.send_resetCause (l : Local) (x : Tx) : (l.send x).resetCause = l.resetCause := rfl
@[simp] theorem Local.send_digMiss (l : Local) (x : Tx) : (l.send x).digMiss = l.digMiss := rfl
@[simp] theorem Local.send_ownDigest (l : Local) (x : Tx) : (l.send x).ownDigest = l.ownDigest := rfl
@[simp] theorem Local.send_renewedAt (l : Local) (x : Tx) : (l.send x).renewedAt = l.renewedAt := rfl
@[simp] theorem Local.send_live (l : Local) (x : Tx) : (l.send x).live = l.live := rfl
@[simp] theorem Local.send_liveAt (l : Local) (x : Tx) : (l.send x).liveAt = l.liveAt := rfl
@[simp] theorem Local.send_healthyAt (l : Local) (x : Tx) : (l.send x).healthyAt = l.healthyAt := rfl
@[simp] theorem Local.send_handbackAt (l : Local) (x : Tx) : (l.send x).handbackAt = l.handbackAt := rfl
@[simp] theorem Local.send_slots (l : Local) (x : Tx) : (l.send x).slots = l.slots := rfl
@[simp] theorem Local.send_jNext (l : Local) (x : Tx) : (l.send x).jNext = l.jNext := rfl
@[simp] theorem Local.send_inReset (l : Local) (x : Tx) : (l.send x).inReset = l.inReset := rfl
@[simp] theorem Local.send_powered (l : Local) (x : Tx) : (l.send x).powered = l.powered := rfl
@[simp] theorem Local.send_rwl (l : Local) (x : Tx) : (l.send x).rwl = l.rwl := rfl
@[simp] theorem Local.send_paramRegs (l : Local) (x : Tx) : (l.send x).paramRegs = l.paramRegs := rfl
@[simp] theorem Local.send_booted (l : Local) (x : Tx) : (l.send x).booted = l.booted := rfl
@[simp] theorem Local.send_entries (l : Local) (x : Tx) : (l.send x).entries = l.entries := rfl
@[simp] theorem Local.send_recovering (l : Local) (x : Tx) : (l.send x).recovering = l.recovering := rfl

/-! Replica.send -/
@[simp] theorem Replica.send_regs (r : Replica) (x : Tx) : (r.send x).regs = r.regs := rfl
@[simp] theorem Replica.send_blkMem (r : Replica) (x : Tx) : (r.send x).blkMem = r.blkMem := rfl
@[simp] theorem Replica.send_links (r : Replica) (x : Tx) : (r.send x).links = r.links := rfl
@[simp] theorem Replica.send_groups (r : Replica) (x : Tx) : (r.send x).groups = r.groups := rfl
@[simp] theorem Replica.send_outs (r : Replica) (x : Tx) : (r.send x).outs = r.outs := rfl
@[simp] theorem Replica.send_injs (r : Replica) (x : Tx) : (r.send x).injs = r.injs := rfl
@[simp] theorem Replica.send_caps (r : Replica) (x : Tx) : (r.send x).caps = r.caps := rfl
@[simp] theorem Replica.send_swapWord (r : Replica) (x : Tx) : (r.send x).swapWord = r.swapWord := rfl
@[simp] theorem Replica.send_swapEngines (r : Replica) (x : Tx) : (r.send x).swapEngines = r.swapEngines := rfl
@[simp] theorem Replica.send_phases (r : Replica) (x : Tx) : (r.send x).phases = r.phases := rfl
@[simp] theorem Replica.send_hist (r : Replica) (x : Tx) : (r.send x).hist = r.hist := rfl
@[simp] theorem Replica.send_frozen (r : Replica) (x : Tx) : (r.send x).frozen = r.frozen := rfl
@[simp] theorem Replica.send_alloc (r : Replica) (x : Tx) : (r.send x).alloc = r.alloc := rfl
@[simp] theorem Replica.send_layout (r : Replica) (x : Tx) : (r.send x).layout = r.layout := rfl
@[simp] theorem Replica.send_params (r : Replica) (x : Tx) : (r.send x).params = r.params := rfl
@[simp] theorem Replica.send_committed (r : Replica) (x : Tx) : (r.send x).committed = r.committed := rfl
@[simp] theorem Replica.send_discovery (r : Replica) (x : Tx) : (r.send x).discovery = r.discovery := rfl
@[simp] theorem Replica.send_jq (r : Replica) (x : Tx) : (r.send x).jq = r.jq := rfl
@[simp] theorem Replica.send_now (r : Replica) (x : Tx) : (r.send x).now = r.now := rfl
@[simp] theorem Replica.send_disps (r : Replica) (x : Tx) : (r.send x).disps = r.disps := rfl
@[simp] theorem Replica.send_vehs (r : Replica) (x : Tx) : (r.send x).vehs = r.vehs := rfl
@[simp] theorem Replica.send_legal (r : Replica) (x : Tx) : (r.send x).legal = r.legal := rfl
@[simp] theorem Replica.send_safety (r : Replica) (x : Tx) : (r.send x).safety = r.safety := rfl
@[simp] theorem Replica.send_owners (r : Replica) (x : Tx) : (r.send x).owners = r.owners := rfl
@[simp] theorem Replica.send_hosts (r : Replica) (x : Tx) : (r.send x).hosts = r.hosts := rfl
@[simp] theorem Replica.send_gate (r : Replica) (x : Tx) : (r.send x).gate = r.gate := rfl
@[simp] theorem Replica.send_cans (r : Replica) (x : Tx) : (r.send x).cans = r.cans := rfl
@[simp] theorem Replica.send_carrier (r : Replica) (x : Tx) : (r.send x).carrier = r.carrier := rfl
@[simp] theorem Replica.send_upd (r : Replica) (x : Tx) : (r.send x).upd = r.upd := rfl
@[simp] theorem Replica.send_rwl (r : Replica) (x : Tx) : (r.send x).rwl = r.rwl := rfl
@[simp] theorem Replica.send_paramRegs (r : Replica) (x : Tx) : (r.send x).paramRegs = r.paramRegs := rfl

/-! Local.setEng -/
@[simp] theorem Local.setEng_regs (l : Local) (e : Eng) (en : Engine) : (l.setEng e en).regs = l.regs := rfl
@[simp] theorem Local.setEng_sram (l : Local) (e : Eng) (en : Engine) : (l.setEng e en).sram = l.sram := rfl
@[simp] theorem Local.setEng_mram (l : Local) (e : Eng) (en : Engine) : (l.setEng e en).mram = l.mram := rfl
@[simp] theorem Local.setEng_inWin (l : Local) (e : Eng) (en : Engine) : (l.setEng e en).inWin = l.inWin := rfl
@[simp] theorem Local.setEng_inNext (l : Local) (e : Eng) (en : Engine) : (l.setEng e en).inNext = l.inNext := rfl
@[simp] theorem Local.setEng_outWin (l : Local) (e : Eng) (en : Engine) : (l.setEng e en).outWin = l.outWin := rfl
@[simp] theorem Local.setEng_rxA (l : Local) (e : Eng) (en : Engine) : (l.setEng e en).rxA = l.rxA := rfl
@[simp] theorem Local.setEng_rxB (l : Local) (e : Eng) (en : Engine) : (l.setEng e en).rxB = l.rxB := rfl
@[simp] theorem Local.setEng_closed (l : Local) (e : Eng) (en : Engine) : (l.setEng e en).closed = l.closed := rfl
@[simp] theorem Local.setEng_vector (l : Local) (e : Eng) (en : Engine) : (l.setEng e en).vector = l.vector := rfl
@[simp] theorem Local.setEng_setDone (l : Local) (e : Eng) (en : Engine) : (l.setEng e en).setDone = l.setDone := rfl
@[simp] theorem Local.setEng_reports (l : Local) (e : Eng) (en : Engine) : (l.setEng e en).reports = l.reports := rfl
@[simp] theorem Local.setEng_frozenReports (l : Local) (e : Eng) (en : Engine) : (l.setEng e en).frozenReports = l.frozenReports := rfl
@[simp] theorem Local.setEng_lead (l : Local) (e : Eng) (en : Engine) : (l.setEng e en).lead = l.lead := rfl
@[simp] theorem Local.setEng_echo (l : Local) (e : Eng) (en : Engine) : (l.setEng e en).echo = l.echo := rfl
@[simp] theorem Local.setEng_echoNo (l : Local) (e : Eng) (en : Engine) : (l.setEng e en).echoNo = l.echoNo := rfl
@[simp] theorem Local.setEng_log (l : Local) (e : Eng) (en : Engine) : (l.setEng e en).log = l.log := rfl
@[simp] theorem Local.setEng_nextSeq (l : Local) (e : Eng) (en : Engine) : (l.setEng e en).nextSeq = l.nextSeq := rfl
@[simp] theorem Local.setEng_logHeld (l : Local) (e : Eng) (en : Engine) : (l.setEng e en).logHeld = l.logHeld := rfl
@[simp] theorem Local.setEng_inputs (l : Local) (e : Eng) (en : Engine) : (l.setEng e en).inputs = l.inputs := rfl
@[simp] theorem Local.setEng_canRx (l : Local) (e : Eng) (en : Engine) : (l.setEng e en).canRx = l.canRx := rfl
@[simp] theorem Local.setEng_canSeq (l : Local) (e : Eng) (en : Engine) : (l.setEng e en).canSeq = l.canSeq := rfl
@[simp] theorem Local.setEng_shadowBad (l : Local) (e : Eng) (en : Engine) : (l.setEng e en).shadowBad = l.shadowBad := rfl
@[simp] theorem Local.setEng_peerClaim (l : Local) (e : Eng) (en : Engine) : (l.setEng e en).peerClaim = l.peerClaim := rfl
@[simp] theorem Local.setEng_restartDue (l : Local) (e : Eng) (en : Engine) : (l.setEng e en).restartDue = l.restartDue := rfl
@[simp] theorem Local.setEng_div (l : Local) (e : Eng) (en : Engine) : (l.setEng e en).div = l.div := rfl
@[simp] theorem Local.setEng_join (l : Local) (e : Eng) (en : Engine) : (l.setEng e en).join = l.join := rfl
@[simp] theorem Local.setEng_ind (l : Local) (e : Eng) (en : Engine) : (l.setEng e en).ind = l.ind := rfl
@[simp] theorem Local.setEng_corrected (l : Local) (e : Eng) (en : Engine) : (l.setEng e en).corrected = l.corrected := rfl
@[simp] theorem Local.setEng_setAsides (l : Local) (e : Eng) (en : Engine) : (l.setEng e en).setAsides = l.setAsides := rfl
@[simp] theorem Local.setEng_heldOut (l : Local) (e : Eng) (en : Engine) : (l.setEng e en).heldOut = l.heldOut := rfl
@[simp] theorem Local.setEng_resetCause (l : Local) (e : Eng) (en : Engine) : (l.setEng e en).resetCause = l.resetCause := rfl
@[simp] theorem Local.setEng_digMiss (l : Local) (e : Eng) (en : Engine) : (l.setEng e en).digMiss = l.digMiss := rfl
@[simp] theorem Local.setEng_ownDigest (l : Local) (e : Eng) (en : Engine) : (l.setEng e en).ownDigest = l.ownDigest := rfl
@[simp] theorem Local.setEng_renewedAt (l : Local) (e : Eng) (en : Engine) : (l.setEng e en).renewedAt = l.renewedAt := rfl
@[simp] theorem Local.setEng_live (l : Local) (e : Eng) (en : Engine) : (l.setEng e en).live = l.live := rfl
@[simp] theorem Local.setEng_liveAt (l : Local) (e : Eng) (en : Engine) : (l.setEng e en).liveAt = l.liveAt := rfl
@[simp] theorem Local.setEng_healthyAt (l : Local) (e : Eng) (en : Engine) : (l.setEng e en).healthyAt = l.healthyAt := rfl
@[simp] theorem Local.setEng_handbackAt (l : Local) (e : Eng) (en : Engine) : (l.setEng e en).handbackAt = l.handbackAt := rfl
@[simp] theorem Local.setEng_slots (l : Local) (e : Eng) (en : Engine) : (l.setEng e en).slots = l.slots := rfl
@[simp] theorem Local.setEng_jNext (l : Local) (e : Eng) (en : Engine) : (l.setEng e en).jNext = l.jNext := rfl
@[simp] theorem Local.setEng_inReset (l : Local) (e : Eng) (en : Engine) : (l.setEng e en).inReset = l.inReset := rfl
@[simp] theorem Local.setEng_powered (l : Local) (e : Eng) (en : Engine) : (l.setEng e en).powered = l.powered := rfl
@[simp] theorem Local.setEng_rwl (l : Local) (e : Eng) (en : Engine) : (l.setEng e en).rwl = l.rwl := rfl
@[simp] theorem Local.setEng_paramRegs (l : Local) (e : Eng) (en : Engine) : (l.setEng e en).paramRegs = l.paramRegs := rfl
@[simp] theorem Local.setEng_booted (l : Local) (e : Eng) (en : Engine) : (l.setEng e en).booted = l.booted := rfl
@[simp] theorem Local.setEng_entries (l : Local) (e : Eng) (en : Engine) : (l.setEng e en).entries = l.entries := rfl
@[simp] theorem Local.setEng_recovering (l : Local) (e : Eng) (en : Engine) : (l.setEng e en).recovering = l.recovering := rfl
@[simp] theorem Local.setEng_tx (l : Local) (e : Eng) (en : Engine) : (l.setEng e en).tx = l.tx := rfl

/-! Replica.setLink -/
@[simp] theorem Replica.setLink_regs (r : Replica) (g : Nat) (x : StageLink) : (r.setLink g x).regs = r.regs := rfl
@[simp] theorem Replica.setLink_blkMem (r : Replica) (g : Nat) (x : StageLink) : (r.setLink g x).blkMem = r.blkMem := rfl
@[simp] theorem Replica.setLink_groups (r : Replica) (g : Nat) (x : StageLink) : (r.setLink g x).groups = r.groups := rfl
@[simp] theorem Replica.setLink_outs (r : Replica) (g : Nat) (x : StageLink) : (r.setLink g x).outs = r.outs := rfl
@[simp] theorem Replica.setLink_injs (r : Replica) (g : Nat) (x : StageLink) : (r.setLink g x).injs = r.injs := rfl
@[simp] theorem Replica.setLink_caps (r : Replica) (g : Nat) (x : StageLink) : (r.setLink g x).caps = r.caps := rfl
@[simp] theorem Replica.setLink_swapWord (r : Replica) (g : Nat) (x : StageLink) : (r.setLink g x).swapWord = r.swapWord := rfl
@[simp] theorem Replica.setLink_swapEngines (r : Replica) (g : Nat) (x : StageLink) : (r.setLink g x).swapEngines = r.swapEngines := rfl
@[simp] theorem Replica.setLink_phases (r : Replica) (g : Nat) (x : StageLink) : (r.setLink g x).phases = r.phases := rfl
@[simp] theorem Replica.setLink_hist (r : Replica) (g : Nat) (x : StageLink) : (r.setLink g x).hist = r.hist := rfl
@[simp] theorem Replica.setLink_frozen (r : Replica) (g : Nat) (x : StageLink) : (r.setLink g x).frozen = r.frozen := rfl
@[simp] theorem Replica.setLink_alloc (r : Replica) (g : Nat) (x : StageLink) : (r.setLink g x).alloc = r.alloc := rfl
@[simp] theorem Replica.setLink_layout (r : Replica) (g : Nat) (x : StageLink) : (r.setLink g x).layout = r.layout := rfl
@[simp] theorem Replica.setLink_params (r : Replica) (g : Nat) (x : StageLink) : (r.setLink g x).params = r.params := rfl
@[simp] theorem Replica.setLink_committed (r : Replica) (g : Nat) (x : StageLink) : (r.setLink g x).committed = r.committed := rfl
@[simp] theorem Replica.setLink_discovery (r : Replica) (g : Nat) (x : StageLink) : (r.setLink g x).discovery = r.discovery := rfl
@[simp] theorem Replica.setLink_jq (r : Replica) (g : Nat) (x : StageLink) : (r.setLink g x).jq = r.jq := rfl
@[simp] theorem Replica.setLink_tx (r : Replica) (g : Nat) (x : StageLink) : (r.setLink g x).tx = r.tx := rfl
@[simp] theorem Replica.setLink_now (r : Replica) (g : Nat) (x : StageLink) : (r.setLink g x).now = r.now := rfl
@[simp] theorem Replica.setLink_disps (r : Replica) (g : Nat) (x : StageLink) : (r.setLink g x).disps = r.disps := rfl
@[simp] theorem Replica.setLink_vehs (r : Replica) (g : Nat) (x : StageLink) : (r.setLink g x).vehs = r.vehs := rfl
@[simp] theorem Replica.setLink_legal (r : Replica) (g : Nat) (x : StageLink) : (r.setLink g x).legal = r.legal := rfl
@[simp] theorem Replica.setLink_safety (r : Replica) (g : Nat) (x : StageLink) : (r.setLink g x).safety = r.safety := rfl
@[simp] theorem Replica.setLink_owners (r : Replica) (g : Nat) (x : StageLink) : (r.setLink g x).owners = r.owners := rfl
@[simp] theorem Replica.setLink_hosts (r : Replica) (g : Nat) (x : StageLink) : (r.setLink g x).hosts = r.hosts := rfl
@[simp] theorem Replica.setLink_gate (r : Replica) (g : Nat) (x : StageLink) : (r.setLink g x).gate = r.gate := rfl
@[simp] theorem Replica.setLink_cans (r : Replica) (g : Nat) (x : StageLink) : (r.setLink g x).cans = r.cans := rfl
@[simp] theorem Replica.setLink_carrier (r : Replica) (g : Nat) (x : StageLink) : (r.setLink g x).carrier = r.carrier := rfl
@[simp] theorem Replica.setLink_upd (r : Replica) (g : Nat) (x : StageLink) : (r.setLink g x).upd = r.upd := rfl
@[simp] theorem Replica.setLink_rwl (r : Replica) (g : Nat) (x : StageLink) : (r.setLink g x).rwl = r.rwl := rfl
@[simp] theorem Replica.setLink_paramRegs (r : Replica) (g : Nat) (x : StageLink) : (r.setLink g x).paramRegs = r.paramRegs := rfl

/-! Replica.setGrp -/
@[simp] theorem Replica.setGrp_regs (r : Replica) (g : Nat) (x : GroupLoop) : (r.setGrp g x).regs = r.regs := rfl
@[simp] theorem Replica.setGrp_blkMem (r : Replica) (g : Nat) (x : GroupLoop) : (r.setGrp g x).blkMem = r.blkMem := rfl
@[simp] theorem Replica.setGrp_links (r : Replica) (g : Nat) (x : GroupLoop) : (r.setGrp g x).links = r.links := rfl
@[simp] theorem Replica.setGrp_outs (r : Replica) (g : Nat) (x : GroupLoop) : (r.setGrp g x).outs = r.outs := rfl
@[simp] theorem Replica.setGrp_injs (r : Replica) (g : Nat) (x : GroupLoop) : (r.setGrp g x).injs = r.injs := rfl
@[simp] theorem Replica.setGrp_caps (r : Replica) (g : Nat) (x : GroupLoop) : (r.setGrp g x).caps = r.caps := rfl
@[simp] theorem Replica.setGrp_swapWord (r : Replica) (g : Nat) (x : GroupLoop) : (r.setGrp g x).swapWord = r.swapWord := rfl
@[simp] theorem Replica.setGrp_swapEngines (r : Replica) (g : Nat) (x : GroupLoop) : (r.setGrp g x).swapEngines = r.swapEngines := rfl
@[simp] theorem Replica.setGrp_phases (r : Replica) (g : Nat) (x : GroupLoop) : (r.setGrp g x).phases = r.phases := rfl
@[simp] theorem Replica.setGrp_hist (r : Replica) (g : Nat) (x : GroupLoop) : (r.setGrp g x).hist = r.hist := rfl
@[simp] theorem Replica.setGrp_frozen (r : Replica) (g : Nat) (x : GroupLoop) : (r.setGrp g x).frozen = r.frozen := rfl
@[simp] theorem Replica.setGrp_alloc (r : Replica) (g : Nat) (x : GroupLoop) : (r.setGrp g x).alloc = r.alloc := rfl
@[simp] theorem Replica.setGrp_layout (r : Replica) (g : Nat) (x : GroupLoop) : (r.setGrp g x).layout = r.layout := rfl
@[simp] theorem Replica.setGrp_params (r : Replica) (g : Nat) (x : GroupLoop) : (r.setGrp g x).params = r.params := rfl
@[simp] theorem Replica.setGrp_committed (r : Replica) (g : Nat) (x : GroupLoop) : (r.setGrp g x).committed = r.committed := rfl
@[simp] theorem Replica.setGrp_discovery (r : Replica) (g : Nat) (x : GroupLoop) : (r.setGrp g x).discovery = r.discovery := rfl
@[simp] theorem Replica.setGrp_jq (r : Replica) (g : Nat) (x : GroupLoop) : (r.setGrp g x).jq = r.jq := rfl
@[simp] theorem Replica.setGrp_tx (r : Replica) (g : Nat) (x : GroupLoop) : (r.setGrp g x).tx = r.tx := rfl
@[simp] theorem Replica.setGrp_now (r : Replica) (g : Nat) (x : GroupLoop) : (r.setGrp g x).now = r.now := rfl
@[simp] theorem Replica.setGrp_disps (r : Replica) (g : Nat) (x : GroupLoop) : (r.setGrp g x).disps = r.disps := rfl
@[simp] theorem Replica.setGrp_vehs (r : Replica) (g : Nat) (x : GroupLoop) : (r.setGrp g x).vehs = r.vehs := rfl
@[simp] theorem Replica.setGrp_legal (r : Replica) (g : Nat) (x : GroupLoop) : (r.setGrp g x).legal = r.legal := rfl
@[simp] theorem Replica.setGrp_safety (r : Replica) (g : Nat) (x : GroupLoop) : (r.setGrp g x).safety = r.safety := rfl
@[simp] theorem Replica.setGrp_owners (r : Replica) (g : Nat) (x : GroupLoop) : (r.setGrp g x).owners = r.owners := rfl
@[simp] theorem Replica.setGrp_hosts (r : Replica) (g : Nat) (x : GroupLoop) : (r.setGrp g x).hosts = r.hosts := rfl
@[simp] theorem Replica.setGrp_gate (r : Replica) (g : Nat) (x : GroupLoop) : (r.setGrp g x).gate = r.gate := rfl
@[simp] theorem Replica.setGrp_cans (r : Replica) (g : Nat) (x : GroupLoop) : (r.setGrp g x).cans = r.cans := rfl
@[simp] theorem Replica.setGrp_carrier (r : Replica) (g : Nat) (x : GroupLoop) : (r.setGrp g x).carrier = r.carrier := rfl
@[simp] theorem Replica.setGrp_upd (r : Replica) (g : Nat) (x : GroupLoop) : (r.setGrp g x).upd = r.upd := rfl
@[simp] theorem Replica.setGrp_rwl (r : Replica) (g : Nat) (x : GroupLoop) : (r.setGrp g x).rwl = r.rwl := rfl
@[simp] theorem Replica.setGrp_paramRegs (r : Replica) (g : Nat) (x : GroupLoop) : (r.setGrp g x).paramRegs = r.paramRegs := rfl

/-! Replica.setOut -/
@[simp] theorem Replica.setOut_regs (r : Replica) (g : Nat) (x : OutletLoop) : (r.setOut g x).regs = r.regs := rfl
@[simp] theorem Replica.setOut_blkMem (r : Replica) (g : Nat) (x : OutletLoop) : (r.setOut g x).blkMem = r.blkMem := rfl
@[simp] theorem Replica.setOut_links (r : Replica) (g : Nat) (x : OutletLoop) : (r.setOut g x).links = r.links := rfl
@[simp] theorem Replica.setOut_groups (r : Replica) (g : Nat) (x : OutletLoop) : (r.setOut g x).groups = r.groups := rfl
@[simp] theorem Replica.setOut_injs (r : Replica) (g : Nat) (x : OutletLoop) : (r.setOut g x).injs = r.injs := rfl
@[simp] theorem Replica.setOut_caps (r : Replica) (g : Nat) (x : OutletLoop) : (r.setOut g x).caps = r.caps := rfl
@[simp] theorem Replica.setOut_swapWord (r : Replica) (g : Nat) (x : OutletLoop) : (r.setOut g x).swapWord = r.swapWord := rfl
@[simp] theorem Replica.setOut_swapEngines (r : Replica) (g : Nat) (x : OutletLoop) : (r.setOut g x).swapEngines = r.swapEngines := rfl
@[simp] theorem Replica.setOut_phases (r : Replica) (g : Nat) (x : OutletLoop) : (r.setOut g x).phases = r.phases := rfl
@[simp] theorem Replica.setOut_hist (r : Replica) (g : Nat) (x : OutletLoop) : (r.setOut g x).hist = r.hist := rfl
@[simp] theorem Replica.setOut_frozen (r : Replica) (g : Nat) (x : OutletLoop) : (r.setOut g x).frozen = r.frozen := rfl
@[simp] theorem Replica.setOut_alloc (r : Replica) (g : Nat) (x : OutletLoop) : (r.setOut g x).alloc = r.alloc := rfl
@[simp] theorem Replica.setOut_layout (r : Replica) (g : Nat) (x : OutletLoop) : (r.setOut g x).layout = r.layout := rfl
@[simp] theorem Replica.setOut_params (r : Replica) (g : Nat) (x : OutletLoop) : (r.setOut g x).params = r.params := rfl
@[simp] theorem Replica.setOut_committed (r : Replica) (g : Nat) (x : OutletLoop) : (r.setOut g x).committed = r.committed := rfl
@[simp] theorem Replica.setOut_discovery (r : Replica) (g : Nat) (x : OutletLoop) : (r.setOut g x).discovery = r.discovery := rfl
@[simp] theorem Replica.setOut_jq (r : Replica) (g : Nat) (x : OutletLoop) : (r.setOut g x).jq = r.jq := rfl
@[simp] theorem Replica.setOut_tx (r : Replica) (g : Nat) (x : OutletLoop) : (r.setOut g x).tx = r.tx := rfl
@[simp] theorem Replica.setOut_now (r : Replica) (g : Nat) (x : OutletLoop) : (r.setOut g x).now = r.now := rfl
@[simp] theorem Replica.setOut_disps (r : Replica) (g : Nat) (x : OutletLoop) : (r.setOut g x).disps = r.disps := rfl
@[simp] theorem Replica.setOut_vehs (r : Replica) (g : Nat) (x : OutletLoop) : (r.setOut g x).vehs = r.vehs := rfl
@[simp] theorem Replica.setOut_legal (r : Replica) (g : Nat) (x : OutletLoop) : (r.setOut g x).legal = r.legal := rfl
@[simp] theorem Replica.setOut_safety (r : Replica) (g : Nat) (x : OutletLoop) : (r.setOut g x).safety = r.safety := rfl
@[simp] theorem Replica.setOut_owners (r : Replica) (g : Nat) (x : OutletLoop) : (r.setOut g x).owners = r.owners := rfl
@[simp] theorem Replica.setOut_hosts (r : Replica) (g : Nat) (x : OutletLoop) : (r.setOut g x).hosts = r.hosts := rfl
@[simp] theorem Replica.setOut_gate (r : Replica) (g : Nat) (x : OutletLoop) : (r.setOut g x).gate = r.gate := rfl
@[simp] theorem Replica.setOut_cans (r : Replica) (g : Nat) (x : OutletLoop) : (r.setOut g x).cans = r.cans := rfl
@[simp] theorem Replica.setOut_carrier (r : Replica) (g : Nat) (x : OutletLoop) : (r.setOut g x).carrier = r.carrier := rfl
@[simp] theorem Replica.setOut_upd (r : Replica) (g : Nat) (x : OutletLoop) : (r.setOut g x).upd = r.upd := rfl
@[simp] theorem Replica.setOut_rwl (r : Replica) (g : Nat) (x : OutletLoop) : (r.setOut g x).rwl = r.rwl := rfl
@[simp] theorem Replica.setOut_paramRegs (r : Replica) (g : Nat) (x : OutletLoop) : (r.setOut g x).paramRegs = r.paramRegs := rfl

/-! Replica.setPh -/
@[simp] theorem Replica.setPh_regs (r : Replica) (g : Nat) (x : Phases) : (r.setPh g x).regs = r.regs := rfl
@[simp] theorem Replica.setPh_blkMem (r : Replica) (g : Nat) (x : Phases) : (r.setPh g x).blkMem = r.blkMem := rfl
@[simp] theorem Replica.setPh_links (r : Replica) (g : Nat) (x : Phases) : (r.setPh g x).links = r.links := rfl
@[simp] theorem Replica.setPh_groups (r : Replica) (g : Nat) (x : Phases) : (r.setPh g x).groups = r.groups := rfl
@[simp] theorem Replica.setPh_outs (r : Replica) (g : Nat) (x : Phases) : (r.setPh g x).outs = r.outs := rfl
@[simp] theorem Replica.setPh_injs (r : Replica) (g : Nat) (x : Phases) : (r.setPh g x).injs = r.injs := rfl
@[simp] theorem Replica.setPh_caps (r : Replica) (g : Nat) (x : Phases) : (r.setPh g x).caps = r.caps := rfl
@[simp] theorem Replica.setPh_swapWord (r : Replica) (g : Nat) (x : Phases) : (r.setPh g x).swapWord = r.swapWord := rfl
@[simp] theorem Replica.setPh_swapEngines (r : Replica) (g : Nat) (x : Phases) : (r.setPh g x).swapEngines = r.swapEngines := rfl
@[simp] theorem Replica.setPh_hist (r : Replica) (g : Nat) (x : Phases) : (r.setPh g x).hist = r.hist := rfl
@[simp] theorem Replica.setPh_frozen (r : Replica) (g : Nat) (x : Phases) : (r.setPh g x).frozen = r.frozen := rfl
@[simp] theorem Replica.setPh_alloc (r : Replica) (g : Nat) (x : Phases) : (r.setPh g x).alloc = r.alloc := rfl
@[simp] theorem Replica.setPh_layout (r : Replica) (g : Nat) (x : Phases) : (r.setPh g x).layout = r.layout := rfl
@[simp] theorem Replica.setPh_params (r : Replica) (g : Nat) (x : Phases) : (r.setPh g x).params = r.params := rfl
@[simp] theorem Replica.setPh_committed (r : Replica) (g : Nat) (x : Phases) : (r.setPh g x).committed = r.committed := rfl
@[simp] theorem Replica.setPh_discovery (r : Replica) (g : Nat) (x : Phases) : (r.setPh g x).discovery = r.discovery := rfl
@[simp] theorem Replica.setPh_jq (r : Replica) (g : Nat) (x : Phases) : (r.setPh g x).jq = r.jq := rfl
@[simp] theorem Replica.setPh_tx (r : Replica) (g : Nat) (x : Phases) : (r.setPh g x).tx = r.tx := rfl
@[simp] theorem Replica.setPh_now (r : Replica) (g : Nat) (x : Phases) : (r.setPh g x).now = r.now := rfl
@[simp] theorem Replica.setPh_disps (r : Replica) (g : Nat) (x : Phases) : (r.setPh g x).disps = r.disps := rfl
@[simp] theorem Replica.setPh_vehs (r : Replica) (g : Nat) (x : Phases) : (r.setPh g x).vehs = r.vehs := rfl
@[simp] theorem Replica.setPh_legal (r : Replica) (g : Nat) (x : Phases) : (r.setPh g x).legal = r.legal := rfl
@[simp] theorem Replica.setPh_safety (r : Replica) (g : Nat) (x : Phases) : (r.setPh g x).safety = r.safety := rfl
@[simp] theorem Replica.setPh_owners (r : Replica) (g : Nat) (x : Phases) : (r.setPh g x).owners = r.owners := rfl
@[simp] theorem Replica.setPh_hosts (r : Replica) (g : Nat) (x : Phases) : (r.setPh g x).hosts = r.hosts := rfl
@[simp] theorem Replica.setPh_gate (r : Replica) (g : Nat) (x : Phases) : (r.setPh g x).gate = r.gate := rfl
@[simp] theorem Replica.setPh_cans (r : Replica) (g : Nat) (x : Phases) : (r.setPh g x).cans = r.cans := rfl
@[simp] theorem Replica.setPh_carrier (r : Replica) (g : Nat) (x : Phases) : (r.setPh g x).carrier = r.carrier := rfl
@[simp] theorem Replica.setPh_upd (r : Replica) (g : Nat) (x : Phases) : (r.setPh g x).upd = r.upd := rfl
@[simp] theorem Replica.setPh_rwl (r : Replica) (g : Nat) (x : Phases) : (r.setPh g x).rwl = r.rwl := rfl
@[simp] theorem Replica.setPh_paramRegs (r : Replica) (g : Nat) (x : Phases) : (r.setPh g x).paramRegs = r.paramRegs := rfl

/-! Replica.setVs -/
@[simp] theorem Replica.setVs_regs (r : Replica) (g : Nat) (x : VehSession) : (r.setVs g x).regs = r.regs := rfl
@[simp] theorem Replica.setVs_blkMem (r : Replica) (g : Nat) (x : VehSession) : (r.setVs g x).blkMem = r.blkMem := rfl
@[simp] theorem Replica.setVs_links (r : Replica) (g : Nat) (x : VehSession) : (r.setVs g x).links = r.links := rfl
@[simp] theorem Replica.setVs_groups (r : Replica) (g : Nat) (x : VehSession) : (r.setVs g x).groups = r.groups := rfl
@[simp] theorem Replica.setVs_outs (r : Replica) (g : Nat) (x : VehSession) : (r.setVs g x).outs = r.outs := rfl
@[simp] theorem Replica.setVs_injs (r : Replica) (g : Nat) (x : VehSession) : (r.setVs g x).injs = r.injs := rfl
@[simp] theorem Replica.setVs_caps (r : Replica) (g : Nat) (x : VehSession) : (r.setVs g x).caps = r.caps := rfl
@[simp] theorem Replica.setVs_swapWord (r : Replica) (g : Nat) (x : VehSession) : (r.setVs g x).swapWord = r.swapWord := rfl
@[simp] theorem Replica.setVs_swapEngines (r : Replica) (g : Nat) (x : VehSession) : (r.setVs g x).swapEngines = r.swapEngines := rfl
@[simp] theorem Replica.setVs_phases (r : Replica) (g : Nat) (x : VehSession) : (r.setVs g x).phases = r.phases := rfl
@[simp] theorem Replica.setVs_hist (r : Replica) (g : Nat) (x : VehSession) : (r.setVs g x).hist = r.hist := rfl
@[simp] theorem Replica.setVs_frozen (r : Replica) (g : Nat) (x : VehSession) : (r.setVs g x).frozen = r.frozen := rfl
@[simp] theorem Replica.setVs_alloc (r : Replica) (g : Nat) (x : VehSession) : (r.setVs g x).alloc = r.alloc := rfl
@[simp] theorem Replica.setVs_layout (r : Replica) (g : Nat) (x : VehSession) : (r.setVs g x).layout = r.layout := rfl
@[simp] theorem Replica.setVs_params (r : Replica) (g : Nat) (x : VehSession) : (r.setVs g x).params = r.params := rfl
@[simp] theorem Replica.setVs_committed (r : Replica) (g : Nat) (x : VehSession) : (r.setVs g x).committed = r.committed := rfl
@[simp] theorem Replica.setVs_discovery (r : Replica) (g : Nat) (x : VehSession) : (r.setVs g x).discovery = r.discovery := rfl
@[simp] theorem Replica.setVs_jq (r : Replica) (g : Nat) (x : VehSession) : (r.setVs g x).jq = r.jq := rfl
@[simp] theorem Replica.setVs_tx (r : Replica) (g : Nat) (x : VehSession) : (r.setVs g x).tx = r.tx := rfl
@[simp] theorem Replica.setVs_now (r : Replica) (g : Nat) (x : VehSession) : (r.setVs g x).now = r.now := rfl
@[simp] theorem Replica.setVs_disps (r : Replica) (g : Nat) (x : VehSession) : (r.setVs g x).disps = r.disps := rfl
@[simp] theorem Replica.setVs_legal (r : Replica) (g : Nat) (x : VehSession) : (r.setVs g x).legal = r.legal := rfl
@[simp] theorem Replica.setVs_safety (r : Replica) (g : Nat) (x : VehSession) : (r.setVs g x).safety = r.safety := rfl
@[simp] theorem Replica.setVs_owners (r : Replica) (g : Nat) (x : VehSession) : (r.setVs g x).owners = r.owners := rfl
@[simp] theorem Replica.setVs_hosts (r : Replica) (g : Nat) (x : VehSession) : (r.setVs g x).hosts = r.hosts := rfl
@[simp] theorem Replica.setVs_gate (r : Replica) (g : Nat) (x : VehSession) : (r.setVs g x).gate = r.gate := rfl
@[simp] theorem Replica.setVs_cans (r : Replica) (g : Nat) (x : VehSession) : (r.setVs g x).cans = r.cans := rfl
@[simp] theorem Replica.setVs_carrier (r : Replica) (g : Nat) (x : VehSession) : (r.setVs g x).carrier = r.carrier := rfl
@[simp] theorem Replica.setVs_upd (r : Replica) (g : Nat) (x : VehSession) : (r.setVs g x).upd = r.upd := rfl
@[simp] theorem Replica.setVs_rwl (r : Replica) (g : Nat) (x : VehSession) : (r.setVs g x).rwl = r.rwl := rfl
@[simp] theorem Replica.setVs_paramRegs (r : Replica) (g : Nat) (x : VehSession) : (r.setVs g x).paramRegs = r.paramRegs := rfl

/-! Replica.setSes -/
@[simp] theorem Replica.setSes_regs (r : Replica) (g : Nat) (x : Session) : (r.setSes g x).regs = r.regs := rfl
@[simp] theorem Replica.setSes_blkMem (r : Replica) (g : Nat) (x : Session) : (r.setSes g x).blkMem = r.blkMem := rfl
@[simp] theorem Replica.setSes_links (r : Replica) (g : Nat) (x : Session) : (r.setSes g x).links = r.links := rfl
@[simp] theorem Replica.setSes_groups (r : Replica) (g : Nat) (x : Session) : (r.setSes g x).groups = r.groups := rfl
@[simp] theorem Replica.setSes_outs (r : Replica) (g : Nat) (x : Session) : (r.setSes g x).outs = r.outs := rfl
@[simp] theorem Replica.setSes_injs (r : Replica) (g : Nat) (x : Session) : (r.setSes g x).injs = r.injs := rfl
@[simp] theorem Replica.setSes_caps (r : Replica) (g : Nat) (x : Session) : (r.setSes g x).caps = r.caps := rfl
@[simp] theorem Replica.setSes_swapWord (r : Replica) (g : Nat) (x : Session) : (r.setSes g x).swapWord = r.swapWord := rfl
@[simp] theorem Replica.setSes_swapEngines (r : Replica) (g : Nat) (x : Session) : (r.setSes g x).swapEngines = r.swapEngines := rfl
@[simp] theorem Replica.setSes_phases (r : Replica) (g : Nat) (x : Session) : (r.setSes g x).phases = r.phases := rfl
@[simp] theorem Replica.setSes_hist (r : Replica) (g : Nat) (x : Session) : (r.setSes g x).hist = r.hist := rfl
@[simp] theorem Replica.setSes_frozen (r : Replica) (g : Nat) (x : Session) : (r.setSes g x).frozen = r.frozen := rfl
@[simp] theorem Replica.setSes_alloc (r : Replica) (g : Nat) (x : Session) : (r.setSes g x).alloc = r.alloc := rfl
@[simp] theorem Replica.setSes_layout (r : Replica) (g : Nat) (x : Session) : (r.setSes g x).layout = r.layout := rfl
@[simp] theorem Replica.setSes_params (r : Replica) (g : Nat) (x : Session) : (r.setSes g x).params = r.params := rfl
@[simp] theorem Replica.setSes_committed (r : Replica) (g : Nat) (x : Session) : (r.setSes g x).committed = r.committed := rfl
@[simp] theorem Replica.setSes_discovery (r : Replica) (g : Nat) (x : Session) : (r.setSes g x).discovery = r.discovery := rfl
@[simp] theorem Replica.setSes_jq (r : Replica) (g : Nat) (x : Session) : (r.setSes g x).jq = r.jq := rfl
@[simp] theorem Replica.setSes_tx (r : Replica) (g : Nat) (x : Session) : (r.setSes g x).tx = r.tx := rfl
@[simp] theorem Replica.setSes_now (r : Replica) (g : Nat) (x : Session) : (r.setSes g x).now = r.now := rfl
@[simp] theorem Replica.setSes_disps (r : Replica) (g : Nat) (x : Session) : (r.setSes g x).disps = r.disps := rfl
@[simp] theorem Replica.setSes_vehs (r : Replica) (g : Nat) (x : Session) : (r.setSes g x).vehs = r.vehs := rfl
@[simp] theorem Replica.setSes_legal (r : Replica) (g : Nat) (x : Session) : (r.setSes g x).legal = r.legal := rfl
@[simp] theorem Replica.setSes_safety (r : Replica) (g : Nat) (x : Session) : (r.setSes g x).safety = r.safety := rfl
@[simp] theorem Replica.setSes_owners (r : Replica) (g : Nat) (x : Session) : (r.setSes g x).owners = r.owners := rfl
@[simp] theorem Replica.setSes_gate (r : Replica) (g : Nat) (x : Session) : (r.setSes g x).gate = r.gate := rfl
@[simp] theorem Replica.setSes_cans (r : Replica) (g : Nat) (x : Session) : (r.setSes g x).cans = r.cans := rfl
@[simp] theorem Replica.setSes_carrier (r : Replica) (g : Nat) (x : Session) : (r.setSes g x).carrier = r.carrier := rfl
@[simp] theorem Replica.setSes_upd (r : Replica) (g : Nat) (x : Session) : (r.setSes g x).upd = r.upd := rfl
@[simp] theorem Replica.setSes_rwl (r : Replica) (g : Nat) (x : Session) : (r.setSes g x).rwl = r.rwl := rfl
@[simp] theorem Replica.setSes_paramRegs (r : Replica) (g : Nat) (x : Session) : (r.setSes g x).paramRegs = r.paramRegs := rfl

/-! Replica.withHosts -/
@[simp] theorem Replica.withHosts_regs (r : Replica) (f : Hosts → Hosts) : (r.withHosts f).regs = r.regs := rfl
@[simp] theorem Replica.withHosts_blkMem (r : Replica) (f : Hosts → Hosts) : (r.withHosts f).blkMem = r.blkMem := rfl
@[simp] theorem Replica.withHosts_links (r : Replica) (f : Hosts → Hosts) : (r.withHosts f).links = r.links := rfl
@[simp] theorem Replica.withHosts_groups (r : Replica) (f : Hosts → Hosts) : (r.withHosts f).groups = r.groups := rfl
@[simp] theorem Replica.withHosts_outs (r : Replica) (f : Hosts → Hosts) : (r.withHosts f).outs = r.outs := rfl
@[simp] theorem Replica.withHosts_injs (r : Replica) (f : Hosts → Hosts) : (r.withHosts f).injs = r.injs := rfl
@[simp] theorem Replica.withHosts_caps (r : Replica) (f : Hosts → Hosts) : (r.withHosts f).caps = r.caps := rfl
@[simp] theorem Replica.withHosts_swapWord (r : Replica) (f : Hosts → Hosts) : (r.withHosts f).swapWord = r.swapWord := rfl
@[simp] theorem Replica.withHosts_swapEngines (r : Replica) (f : Hosts → Hosts) : (r.withHosts f).swapEngines = r.swapEngines := rfl
@[simp] theorem Replica.withHosts_phases (r : Replica) (f : Hosts → Hosts) : (r.withHosts f).phases = r.phases := rfl
@[simp] theorem Replica.withHosts_hist (r : Replica) (f : Hosts → Hosts) : (r.withHosts f).hist = r.hist := rfl
@[simp] theorem Replica.withHosts_frozen (r : Replica) (f : Hosts → Hosts) : (r.withHosts f).frozen = r.frozen := rfl
@[simp] theorem Replica.withHosts_alloc (r : Replica) (f : Hosts → Hosts) : (r.withHosts f).alloc = r.alloc := rfl
@[simp] theorem Replica.withHosts_layout (r : Replica) (f : Hosts → Hosts) : (r.withHosts f).layout = r.layout := rfl
@[simp] theorem Replica.withHosts_params (r : Replica) (f : Hosts → Hosts) : (r.withHosts f).params = r.params := rfl
@[simp] theorem Replica.withHosts_committed (r : Replica) (f : Hosts → Hosts) : (r.withHosts f).committed = r.committed := rfl
@[simp] theorem Replica.withHosts_discovery (r : Replica) (f : Hosts → Hosts) : (r.withHosts f).discovery = r.discovery := rfl
@[simp] theorem Replica.withHosts_jq (r : Replica) (f : Hosts → Hosts) : (r.withHosts f).jq = r.jq := rfl
@[simp] theorem Replica.withHosts_tx (r : Replica) (f : Hosts → Hosts) : (r.withHosts f).tx = r.tx := rfl
@[simp] theorem Replica.withHosts_now (r : Replica) (f : Hosts → Hosts) : (r.withHosts f).now = r.now := rfl
@[simp] theorem Replica.withHosts_disps (r : Replica) (f : Hosts → Hosts) : (r.withHosts f).disps = r.disps := rfl
@[simp] theorem Replica.withHosts_vehs (r : Replica) (f : Hosts → Hosts) : (r.withHosts f).vehs = r.vehs := rfl
@[simp] theorem Replica.withHosts_legal (r : Replica) (f : Hosts → Hosts) : (r.withHosts f).legal = r.legal := rfl
@[simp] theorem Replica.withHosts_safety (r : Replica) (f : Hosts → Hosts) : (r.withHosts f).safety = r.safety := rfl
@[simp] theorem Replica.withHosts_owners (r : Replica) (f : Hosts → Hosts) : (r.withHosts f).owners = r.owners := rfl
@[simp] theorem Replica.withHosts_gate (r : Replica) (f : Hosts → Hosts) : (r.withHosts f).gate = r.gate := rfl
@[simp] theorem Replica.withHosts_cans (r : Replica) (f : Hosts → Hosts) : (r.withHosts f).cans = r.cans := rfl
@[simp] theorem Replica.withHosts_carrier (r : Replica) (f : Hosts → Hosts) : (r.withHosts f).carrier = r.carrier := rfl
@[simp] theorem Replica.withHosts_upd (r : Replica) (f : Hosts → Hosts) : (r.withHosts f).upd = r.upd := rfl
@[simp] theorem Replica.withHosts_rwl (r : Replica) (f : Hosts → Hosts) : (r.withHosts f).rwl = r.rwl := rfl
@[simp] theorem Replica.withHosts_paramRegs (r : Replica) (f : Hosts → Hosts) : (r.withHosts f).paramRegs = r.paramRegs := rfl

/-! Engine.setG -/
@[simp] theorem Engine.setG_run (en : Engine) (r : Gpr) (w : Word) : (en.setG r w).run = en.run := by unfold Engine.setG; split <;> rfl
@[simp] theorem Engine.setG_wait (en : Engine) (r : Gpr) (w : Word) : (en.setG r w).wait = en.wait := by unfold Engine.setG; split <;> rfl
@[simp] theorem Engine.setG_pc (en : Engine) (r : Gpr) (w : Word) : (en.setG r w).pc = en.pc := by unfold Engine.setG; split <;> rfl
@[simp] theorem Engine.setG_acc (en : Engine) (r : Gpr) (w : Word) : (en.setG r w).acc = en.acc := by unfold Engine.setG; split <;> rfl
@[simp] theorem Engine.setG_flags (en : Engine) (r : Gpr) (w : Word) : (en.setG r w).flags = en.flags := by unfold Engine.setG; split <;> rfl
@[simp] theorem Engine.setG_epc (en : Engine) (r : Gpr) (w : Word) : (en.setG r w).epc = en.epc := by unfold Engine.setG; split <;> rfl
@[simp] theorem Engine.setG_ecause (en : Engine) (r : Gpr) (w : Word) : (en.setG r w).ecause = en.ecause := by unfold Engine.setG; split <;> rfl
@[simp] theorem Engine.setG_eaddr (en : Engine) (r : Gpr) (w : Word) : (en.setG r w).eaddr = en.eaddr := by unfold Engine.setG; split <;> rfl
@[simp] theorem Engine.setG_evec (en : Engine) (r : Gpr) (w : Word) : (en.setG r w).evec = en.evec := by unfold Engine.setG; split <;> rfl
@[simp] theorem Engine.setG_escr (en : Engine) (r : Gpr) (w : Word) : (en.setG r w).escr = en.escr := by unfold Engine.setG; split <;> rfl
@[simp] theorem Engine.setG_imask (en : Engine) (r : Gpr) (w : Word) : (en.setG r w).imask = en.imask := by unfold Engine.setG; split <;> rfl
@[simp] theorem Engine.setG_msrc (en : Engine) (r : Gpr) (w : Word) : (en.setG r w).msrc = en.msrc := by unfold Engine.setG; split <;> rfl
@[simp] theorem Engine.setG_work (en : Engine) (r : Gpr) (w : Word) : (en.setG r w).work = en.work := by unfold Engine.setG; split <;> rfl
@[simp] theorem Engine.setG_workMax (en : Engine) (r : Gpr) (w : Word) : (en.setG r w).workMax = en.workMax := by unfold Engine.setG; split <;> rfl
@[simp] theorem Engine.setG_slotPl (en : Engine) (r : Gpr) (w : Word) : (en.setG r w).slotPl = en.slotPl := by unfold Engine.setG; split <;> rfl
@[simp] theorem Engine.setG_slotPh (en : Engine) (r : Gpr) (w : Word) : (en.setG r w).slotPh = en.slotPh := by unfold Engine.setG; split <;> rfl
@[simp] theorem Engine.setG_queues (en : Engine) (r : Gpr) (w : Word) : (en.setG r w).queues = en.queues := by unfold Engine.setG; split <;> rfl
@[simp] theorem Engine.setG_wbuf (en : Engine) (r : Gpr) (w : Word) : (en.setG r w).wbuf = en.wbuf := by unfold Engine.setG; split <;> rfl
@[simp] theorem Engine.setG_shadow (en : Engine) (r : Gpr) (w : Word) : (en.setG r w).shadow = en.shadow := by unfold Engine.setG; split <;> rfl
@[simp] theorem Engine.setG_endMark (en : Engine) (r : Gpr) (w : Word) : (en.setG r w).endMark = en.endMark := by unfold Engine.setG; split <;> rfl
@[simp] theorem Engine.setG_itcm (en : Engine) (r : Gpr) (w : Word) : (en.setG r w).itcm = en.itcm := by unfold Engine.setG; split <;> rfl
@[simp] theorem Engine.setG_dtcm (en : Engine) (r : Gpr) (w : Word) : (en.setG r w).dtcm = en.dtcm := by unfold Engine.setG; split <;> rfl

/-! Engine.setFlag -/
@[simp] theorem Engine.setFlag_run (en : Engine) (n : Nat) (b : Bool) : (en.setFlag n b).run = en.run := rfl
@[simp] theorem Engine.setFlag_wait (en : Engine) (n : Nat) (b : Bool) : (en.setFlag n b).wait = en.wait := rfl
@[simp] theorem Engine.setFlag_pc (en : Engine) (n : Nat) (b : Bool) : (en.setFlag n b).pc = en.pc := rfl
@[simp] theorem Engine.setFlag_gpr (en : Engine) (n : Nat) (b : Bool) : (en.setFlag n b).gpr = en.gpr := rfl
@[simp] theorem Engine.setFlag_acc (en : Engine) (n : Nat) (b : Bool) : (en.setFlag n b).acc = en.acc := rfl
@[simp] theorem Engine.setFlag_epc (en : Engine) (n : Nat) (b : Bool) : (en.setFlag n b).epc = en.epc := rfl
@[simp] theorem Engine.setFlag_ecause (en : Engine) (n : Nat) (b : Bool) : (en.setFlag n b).ecause = en.ecause := rfl
@[simp] theorem Engine.setFlag_eaddr (en : Engine) (n : Nat) (b : Bool) : (en.setFlag n b).eaddr = en.eaddr := rfl
@[simp] theorem Engine.setFlag_evec (en : Engine) (n : Nat) (b : Bool) : (en.setFlag n b).evec = en.evec := rfl
@[simp] theorem Engine.setFlag_escr (en : Engine) (n : Nat) (b : Bool) : (en.setFlag n b).escr = en.escr := rfl
@[simp] theorem Engine.setFlag_imask (en : Engine) (n : Nat) (b : Bool) : (en.setFlag n b).imask = en.imask := rfl
@[simp] theorem Engine.setFlag_msrc (en : Engine) (n : Nat) (b : Bool) : (en.setFlag n b).msrc = en.msrc := rfl
@[simp] theorem Engine.setFlag_work (en : Engine) (n : Nat) (b : Bool) : (en.setFlag n b).work = en.work := rfl
@[simp] theorem Engine.setFlag_workMax (en : Engine) (n : Nat) (b : Bool) : (en.setFlag n b).workMax = en.workMax := rfl
@[simp] theorem Engine.setFlag_slotPl (en : Engine) (n : Nat) (b : Bool) : (en.setFlag n b).slotPl = en.slotPl := rfl
@[simp] theorem Engine.setFlag_slotPh (en : Engine) (n : Nat) (b : Bool) : (en.setFlag n b).slotPh = en.slotPh := rfl
@[simp] theorem Engine.setFlag_queues (en : Engine) (n : Nat) (b : Bool) : (en.setFlag n b).queues = en.queues := rfl
@[simp] theorem Engine.setFlag_wbuf (en : Engine) (n : Nat) (b : Bool) : (en.setFlag n b).wbuf = en.wbuf := rfl
@[simp] theorem Engine.setFlag_shadow (en : Engine) (n : Nat) (b : Bool) : (en.setFlag n b).shadow = en.shadow := rfl
@[simp] theorem Engine.setFlag_endMark (en : Engine) (n : Nat) (b : Bool) : (en.setFlag n b).endMark = en.endMark := rfl
@[simp] theorem Engine.setFlag_itcm (en : Engine) (n : Nat) (b : Bool) : (en.setFlag n b).itcm = en.itcm := rfl
@[simp] theorem Engine.setFlag_dtcm (en : Engine) (n : Nat) (b : Bool) : (en.setFlag n b).dtcm = en.dtcm := rfl

/-! Engine.stick -/
@[simp] theorem Engine.stick_run (en : Engine) (n : Nat) (b : Bool) : (en.stick n b).run = en.run := by unfold Engine.stick; split <;> rfl
@[simp] theorem Engine.stick_wait (en : Engine) (n : Nat) (b : Bool) : (en.stick n b).wait = en.wait := by unfold Engine.stick; split <;> rfl
@[simp] theorem Engine.stick_pc (en : Engine) (n : Nat) (b : Bool) : (en.stick n b).pc = en.pc := by unfold Engine.stick; split <;> rfl
@[simp] theorem Engine.stick_gpr (en : Engine) (n : Nat) (b : Bool) : (en.stick n b).gpr = en.gpr := by unfold Engine.stick; split <;> rfl
@[simp] theorem Engine.stick_acc (en : Engine) (n : Nat) (b : Bool) : (en.stick n b).acc = en.acc := by unfold Engine.stick; split <;> rfl
@[simp] theorem Engine.stick_epc (en : Engine) (n : Nat) (b : Bool) : (en.stick n b).epc = en.epc := by unfold Engine.stick; split <;> rfl
@[simp] theorem Engine.stick_ecause (en : Engine) (n : Nat) (b : Bool) : (en.stick n b).ecause = en.ecause := by unfold Engine.stick; split <;> rfl
@[simp] theorem Engine.stick_eaddr (en : Engine) (n : Nat) (b : Bool) : (en.stick n b).eaddr = en.eaddr := by unfold Engine.stick; split <;> rfl
@[simp] theorem Engine.stick_evec (en : Engine) (n : Nat) (b : Bool) : (en.stick n b).evec = en.evec := by unfold Engine.stick; split <;> rfl
@[simp] theorem Engine.stick_escr (en : Engine) (n : Nat) (b : Bool) : (en.stick n b).escr = en.escr := by unfold Engine.stick; split <;> rfl
@[simp] theorem Engine.stick_imask (en : Engine) (n : Nat) (b : Bool) : (en.stick n b).imask = en.imask := by unfold Engine.stick; split <;> rfl
@[simp] theorem Engine.stick_msrc (en : Engine) (n : Nat) (b : Bool) : (en.stick n b).msrc = en.msrc := by unfold Engine.stick; split <;> rfl
@[simp] theorem Engine.stick_work (en : Engine) (n : Nat) (b : Bool) : (en.stick n b).work = en.work := by unfold Engine.stick; split <;> rfl
@[simp] theorem Engine.stick_workMax (en : Engine) (n : Nat) (b : Bool) : (en.stick n b).workMax = en.workMax := by unfold Engine.stick; split <;> rfl
@[simp] theorem Engine.stick_slotPl (en : Engine) (n : Nat) (b : Bool) : (en.stick n b).slotPl = en.slotPl := by unfold Engine.stick; split <;> rfl
@[simp] theorem Engine.stick_slotPh (en : Engine) (n : Nat) (b : Bool) : (en.stick n b).slotPh = en.slotPh := by unfold Engine.stick; split <;> rfl
@[simp] theorem Engine.stick_queues (en : Engine) (n : Nat) (b : Bool) : (en.stick n b).queues = en.queues := by unfold Engine.stick; split <;> rfl
@[simp] theorem Engine.stick_wbuf (en : Engine) (n : Nat) (b : Bool) : (en.stick n b).wbuf = en.wbuf := by unfold Engine.stick; split <;> rfl
@[simp] theorem Engine.stick_shadow (en : Engine) (n : Nat) (b : Bool) : (en.stick n b).shadow = en.shadow := by unfold Engine.stick; split <;> rfl
@[simp] theorem Engine.stick_endMark (en : Engine) (n : Nat) (b : Bool) : (en.stick n b).endMark = en.endMark := by unfold Engine.stick; split <;> rfl
@[simp] theorem Engine.stick_itcm (en : Engine) (n : Nat) (b : Bool) : (en.stick n b).itcm = en.itcm := by unfold Engine.stick; split <;> rfl
@[simp] theorem Engine.stick_dtcm (en : Engine) (n : Nat) (b : Bool) : (en.stick n b).dtcm = en.dtcm := by unfold Engine.stick; split <;> rfl

/-! Engine.setA -/
@[simp] theorem Engine.setA_run (en : Engine) (a : AccIx) (x : Acc) : (en.setA a x).run = en.run := rfl
@[simp] theorem Engine.setA_wait (en : Engine) (a : AccIx) (x : Acc) : (en.setA a x).wait = en.wait := rfl
@[simp] theorem Engine.setA_pc (en : Engine) (a : AccIx) (x : Acc) : (en.setA a x).pc = en.pc := rfl
@[simp] theorem Engine.setA_gpr (en : Engine) (a : AccIx) (x : Acc) : (en.setA a x).gpr = en.gpr := rfl
@[simp] theorem Engine.setA_flags (en : Engine) (a : AccIx) (x : Acc) : (en.setA a x).flags = en.flags := rfl
@[simp] theorem Engine.setA_epc (en : Engine) (a : AccIx) (x : Acc) : (en.setA a x).epc = en.epc := rfl
@[simp] theorem Engine.setA_ecause (en : Engine) (a : AccIx) (x : Acc) : (en.setA a x).ecause = en.ecause := rfl
@[simp] theorem Engine.setA_eaddr (en : Engine) (a : AccIx) (x : Acc) : (en.setA a x).eaddr = en.eaddr := rfl
@[simp] theorem Engine.setA_evec (en : Engine) (a : AccIx) (x : Acc) : (en.setA a x).evec = en.evec := rfl
@[simp] theorem Engine.setA_escr (en : Engine) (a : AccIx) (x : Acc) : (en.setA a x).escr = en.escr := rfl
@[simp] theorem Engine.setA_imask (en : Engine) (a : AccIx) (x : Acc) : (en.setA a x).imask = en.imask := rfl
@[simp] theorem Engine.setA_msrc (en : Engine) (a : AccIx) (x : Acc) : (en.setA a x).msrc = en.msrc := rfl
@[simp] theorem Engine.setA_work (en : Engine) (a : AccIx) (x : Acc) : (en.setA a x).work = en.work := rfl
@[simp] theorem Engine.setA_workMax (en : Engine) (a : AccIx) (x : Acc) : (en.setA a x).workMax = en.workMax := rfl
@[simp] theorem Engine.setA_slotPl (en : Engine) (a : AccIx) (x : Acc) : (en.setA a x).slotPl = en.slotPl := rfl
@[simp] theorem Engine.setA_slotPh (en : Engine) (a : AccIx) (x : Acc) : (en.setA a x).slotPh = en.slotPh := rfl
@[simp] theorem Engine.setA_queues (en : Engine) (a : AccIx) (x : Acc) : (en.setA a x).queues = en.queues := rfl
@[simp] theorem Engine.setA_wbuf (en : Engine) (a : AccIx) (x : Acc) : (en.setA a x).wbuf = en.wbuf := rfl
@[simp] theorem Engine.setA_shadow (en : Engine) (a : AccIx) (x : Acc) : (en.setA a x).shadow = en.shadow := rfl
@[simp] theorem Engine.setA_endMark (en : Engine) (a : AccIx) (x : Acc) : (en.setA a x).endMark = en.endMark := rfl
@[simp] theorem Engine.setA_itcm (en : Engine) (a : AccIx) (x : Acc) : (en.setA a x).itcm = en.itcm := rfl
@[simp] theorem Engine.setA_dtcm (en : Engine) (a : AccIx) (x : Acc) : (en.setA a x).dtcm = en.dtcm := rfl

/-! Engine.next -/
@[simp] theorem Engine.next_run (en : Engine)  : (en.next).run = en.run := rfl
@[simp] theorem Engine.next_wait (en : Engine)  : (en.next).wait = en.wait := rfl
@[simp] theorem Engine.next_gpr (en : Engine)  : (en.next).gpr = en.gpr := rfl
@[simp] theorem Engine.next_acc (en : Engine)  : (en.next).acc = en.acc := rfl
@[simp] theorem Engine.next_flags (en : Engine)  : (en.next).flags = en.flags := rfl
@[simp] theorem Engine.next_epc (en : Engine)  : (en.next).epc = en.epc := rfl
@[simp] theorem Engine.next_ecause (en : Engine)  : (en.next).ecause = en.ecause := rfl
@[simp] theorem Engine.next_eaddr (en : Engine)  : (en.next).eaddr = en.eaddr := rfl
@[simp] theorem Engine.next_evec (en : Engine)  : (en.next).evec = en.evec := rfl
@[simp] theorem Engine.next_escr (en : Engine)  : (en.next).escr = en.escr := rfl
@[simp] theorem Engine.next_imask (en : Engine)  : (en.next).imask = en.imask := rfl
@[simp] theorem Engine.next_msrc (en : Engine)  : (en.next).msrc = en.msrc := rfl
@[simp] theorem Engine.next_work (en : Engine)  : (en.next).work = en.work := rfl
@[simp] theorem Engine.next_workMax (en : Engine)  : (en.next).workMax = en.workMax := rfl
@[simp] theorem Engine.next_slotPl (en : Engine)  : (en.next).slotPl = en.slotPl := rfl
@[simp] theorem Engine.next_slotPh (en : Engine)  : (en.next).slotPh = en.slotPh := rfl
@[simp] theorem Engine.next_queues (en : Engine)  : (en.next).queues = en.queues := rfl
@[simp] theorem Engine.next_wbuf (en : Engine)  : (en.next).wbuf = en.wbuf := rfl
@[simp] theorem Engine.next_shadow (en : Engine)  : (en.next).shadow = en.shadow := rfl
@[simp] theorem Engine.next_endMark (en : Engine)  : (en.next).endMark = en.endMark := rfl
@[simp] theorem Engine.next_itcm (en : Engine)  : (en.next).itcm = en.itcm := rfl
@[simp] theorem Engine.next_dtcm (en : Engine)  : (en.next).dtcm = en.dtcm := rfl

/-! Engine.push -/
@[simp] theorem Engine.push_run (en : Engine) (q : Fin 8) (m : Msg) : (en.push q m).run = en.run := rfl
@[simp] theorem Engine.push_wait (en : Engine) (q : Fin 8) (m : Msg) : (en.push q m).wait = en.wait := rfl
@[simp] theorem Engine.push_pc (en : Engine) (q : Fin 8) (m : Msg) : (en.push q m).pc = en.pc := rfl
@[simp] theorem Engine.push_gpr (en : Engine) (q : Fin 8) (m : Msg) : (en.push q m).gpr = en.gpr := rfl
@[simp] theorem Engine.push_acc (en : Engine) (q : Fin 8) (m : Msg) : (en.push q m).acc = en.acc := rfl
@[simp] theorem Engine.push_flags (en : Engine) (q : Fin 8) (m : Msg) : (en.push q m).flags = en.flags := rfl
@[simp] theorem Engine.push_epc (en : Engine) (q : Fin 8) (m : Msg) : (en.push q m).epc = en.epc := rfl
@[simp] theorem Engine.push_ecause (en : Engine) (q : Fin 8) (m : Msg) : (en.push q m).ecause = en.ecause := rfl
@[simp] theorem Engine.push_eaddr (en : Engine) (q : Fin 8) (m : Msg) : (en.push q m).eaddr = en.eaddr := rfl
@[simp] theorem Engine.push_evec (en : Engine) (q : Fin 8) (m : Msg) : (en.push q m).evec = en.evec := rfl
@[simp] theorem Engine.push_escr (en : Engine) (q : Fin 8) (m : Msg) : (en.push q m).escr = en.escr := rfl
@[simp] theorem Engine.push_imask (en : Engine) (q : Fin 8) (m : Msg) : (en.push q m).imask = en.imask := rfl
@[simp] theorem Engine.push_msrc (en : Engine) (q : Fin 8) (m : Msg) : (en.push q m).msrc = en.msrc := rfl
@[simp] theorem Engine.push_work (en : Engine) (q : Fin 8) (m : Msg) : (en.push q m).work = en.work := rfl
@[simp] theorem Engine.push_workMax (en : Engine) (q : Fin 8) (m : Msg) : (en.push q m).workMax = en.workMax := rfl
@[simp] theorem Engine.push_slotPl (en : Engine) (q : Fin 8) (m : Msg) : (en.push q m).slotPl = en.slotPl := rfl
@[simp] theorem Engine.push_slotPh (en : Engine) (q : Fin 8) (m : Msg) : (en.push q m).slotPh = en.slotPh := rfl
@[simp] theorem Engine.push_wbuf (en : Engine) (q : Fin 8) (m : Msg) : (en.push q m).wbuf = en.wbuf := rfl
@[simp] theorem Engine.push_shadow (en : Engine) (q : Fin 8) (m : Msg) : (en.push q m).shadow = en.shadow := rfl
@[simp] theorem Engine.push_endMark (en : Engine) (q : Fin 8) (m : Msg) : (en.push q m).endMark = en.endMark := rfl
@[simp] theorem Engine.push_itcm (en : Engine) (q : Fin 8) (m : Msg) : (en.push q m).itcm = en.itcm := rfl
@[simp] theorem Engine.push_dtcm (en : Engine) (q : Fin 8) (m : Msg) : (en.push q m).dtcm = en.dtcm := rfl
@[simp] theorem Engine.next_pc (en : Engine) : en.next.pc = en.pc + 4 := rfl

/-! ### Places -/

@[simp] theorem vget_vput_same {α : Type} {n : Nat} (v : Vector α n) (i : Nat) (x d : α) (h : i < n) : vget (vput v i x) i d = x := by
  simp [vget, vput, h, Vector.get_eq_getElem]
theorem vget_vput_ne {α : Type} {n : Nat} (v : Vector α n) (i j : Nat) (x d : α) (h : j ≠ i) : vget (vput v i x) j d = vget v j d := by
  unfold vget vput
  by_cases hj : j < n <;> by_cases hi : i < n <;> simp [hi, hj, Vector.get_eq_getElem, Ne.symm h]

@[simp] theorem Site.pav_modPav_same (t : Site) (p : Pav) (f : Pavilion → Pavilion) : (t.modPav p f).pav p = f (t.pav p) := by
  cases p <;> rfl
@[simp] theorem Site.pav_modPav_other (t : Site) (p : Pav) (f : Pavilion → Pavilion) : (t.modPav p f).pav p.other = t.pav p.other := by
  cases p <;> rfl
@[simp] theorem Site.com_modPav (t : Site) (p : Pav) (f : Pavilion → Pavilion) : (t.modPav p f).com = t.com := by cases p <;> rfl
@[simp] theorem Site.free_modPav (t : Site) (p : Pav) (f : Pavilion → Pavilion) : (t.modPav p f).free = t.free := by cases p <;> rfl
@[simp] theorem Site.pav_modCom (t : Site) (p : Pav) (f : Common → Common) : (t.modCom f).pav p = t.pav p := by cases p <;> rfl
@[simp] theorem Site.com_modCom (t : Site) (f : Common → Common) : (t.modCom f).com = f t.com := rfl
@[simp] theorem Site.pav_modLoc_same (t : Site) (p : Pav) (f : Local → Local) :
    (t.modLoc p f).pav p = { t.pav p with loc := f (t.pav p).loc } := by cases p <;> rfl
@[simp] theorem Site.pav_modLoc_other (t : Site) (p : Pav) (f : Local → Local) : (t.modLoc p f).pav p.other = t.pav p.other := by
  cases p <;> rfl
@[simp] theorem Site.com_modLoc (t : Site) (p : Pav) (f : Local → Local) : (t.modLoc p f).com = t.com := by cases p <;> rfl
@[simp] theorem Site.pav_modRep_same (t : Site) (p : Pav) (f : Replica → Replica) :
    (t.modRep p f).pav p = { t.pav p with rep := f (t.pav p).rep } := by cases p <;> rfl
@[simp] theorem Site.com_modRep (t : Site) (p : Pav) (f : Replica → Replica) : (t.modRep p f).com = t.com := by cases p <;> rfl

@[simp] theorem Local.eng_setEng_same (l : Local) (e : Eng) (en : Engine) : (l.setEng e en).eng e = en := by
  simp [Local.eng, Local.setEng, Vector.get_eq_getElem]
theorem Local.eng_setEng_ne (l : Local) (e e' : Eng) (en : Engine) (h : e' ≠ e) : (l.setEng e en).eng e' = l.eng e' := by
  have : e.val ≠ e'.val := fun h' => h (Fin.ext h'.symm)
  simp [Local.eng, Local.setEng, Vector.get_eq_getElem, this]
@[simp] theorem Site.eng_setEng_same (t : Site) (p : Pav) (e : Eng) (en : Engine) : (t.setEng p e en).eng p e = en := by
  simp [Site.eng, Site.setEng]
@[simp] theorem Site.eng_modEng_same (t : Site) (p : Pav) (e : Eng) (f : Engine → Engine) : (t.modEng p e f).eng p e = f (t.eng p e) := by
  simp [Site.modEng]
@[simp] theorem Site.pav_modEng_other (t : Site) (p : Pav) (e : Eng) (f : Engine → Engine) : (t.modEng p e f).pav p.other = t.pav p.other := by
  simp [Site.modEng, Site.setEng]
@[simp] theorem Site.com_modEng (t : Site) (p : Pav) (e : Eng) (f : Engine → Engine) : (t.modEng p e f).com = t.com := by
  simp [Site.modEng, Site.setEng]

/-- What is written to a register other than g0 reads back; a write to g0 leaves the engine as it is (R110). -/
theorem Engine.g_setG_same (en : Engine) (r : Gpr) (v : Word) (h : r ≠ 0) : (en.setG r v).g r = v := by
  simp [Engine.g, Engine.setG, h, Vector.get_eq_getElem]
theorem Engine.g_setG_ne (en : Engine) (r k : Gpr) (v : Word) (h : k ≠ r) : (en.setG r v).g k = en.g k := by
  by_cases hr : r = 0
  · simp [Engine.setG, hr]
  · have : r.val ≠ k.val := fun h' => h (Fin.ext h'.symm)
    simp [Engine.g, Engine.setG, hr, Vector.get_eq_getElem, this]
@[simp] theorem Engine.setG_zero (en : Engine) (v : Word) : en.setG 0 v = en := rfl
@[simp] theorem Engine.g_zero (en : Engine) : en.g 0 = 0 := rfl
@[simp] theorem Engine.g_next (en : Engine) (k : Gpr) : en.next.g k = en.g k := rfl
@[simp] theorem Engine.flag_setG (en : Engine) (r : Gpr) (v : Word) (n : Nat) : (en.setG r v).flag n = en.flag n := by simp [Engine.flag]
@[simp] theorem Engine.flag_next (en : Engine) (n : Nat) : en.next.flag n = en.flag n := rfl

end Sys2Proof.Machine
end

