-- ==== Sys2Proof/Laws/Ops.lean ====
section
/-! SUPPORT. What the shared operations do, once each: the forms of a meaning, and an effect at an input-log position. -/
namespace Sys2Proof.Machine

@[simp] theorem State.run_eq (s : State) (f : Site → Site) : s.run f = .next { s with site := f s.site } := rfl

/-- An instruction of an engine that executes acts on that engine. -/
theorem State.engine_ready (s : State) (p : Pav) (e : Eng) (f : Engine → Engine) (h : s.site.ready p e = true) :
    s.engine p e f = .next { s with site := s.site.modEng p e f } := by simp [State.engine, h]
/-- An instruction of an engine that does not execute leaves all as it is. -/
theorem State.engine_idle (s : State) (p : Pav) (e : Eng) (f : Engine → Engine) (h : s.site.ready p e = false) :
    s.engine p e f = .next s := by simp [State.engine, h]
theorem State.engineX_ok (s : State) (p : Pav) (e : Eng) (f : Engine → EngRes) (en : Engine) (h : s.site.ready p e = true)
    (hf : f (s.site.eng p e) = .ok en) : s.engineX p e f = .next { s with site := s.site.setEng p e en } := by
  simp [State.engineX, h, hf]
theorem State.engineX_exc (s : State) (p : Pav) (e : Eng) (f : Engine → EngRes) (c : Nat) (a : Word) (h : s.site.ready p e = true)
    (hf : f (s.site.eng p e) = .exc c a) : s.engineX p e f = .next { s with site := s.site.exception p e c a } := by
  simp [State.engineX, h, hf]
theorem State.siteX_ok (s : State) (p : Pav) (e : Eng) (f : Site → SiteRes) (t : Site) (h : s.site.ready p e = true)
    (hf : f s.site = .ok t) : s.siteX p e f = .next { s with site := t } := by simp [State.siteX, h, hf]
theorem State.siteX_exc (s : State) (p : Pav) (e : Eng) (f : Site → SiteRes) (c : Nat) (a : Word) (h : s.site.ready p e = true)
    (hf : f s.site = .exc c a) : s.siteX p e f = .next { s with site := s.site.exception p e c a } := by simp [State.siteX, h, hf]

/-! ### The journal of a pavilion touches its MRAM and its entry number only -/

theorem Local.journal_form (l : Local) (p : Pav) (red : Bool) (j : JEntry) :
    ∃ m n, l.journal p red j = { l with mram := m, jNext := n } := by
  unfold Local.journal
  exact ⟨_, _, rfl⟩
theorem Local.journal_fold_keeps {α : Type} (g : Local → α) (hg : ∀ (l : Local) (m : Mem) (n : Nat), g { l with mram := m, jNext := n } = g l)
    (p : Pav) (red : Bool) (js : List JEntry) : ∀ l : Local, g (js.foldl (fun l j => l.journal p red j) l) = g l := by
  induction js with
  | nil => intro l; rfl
  | cons j r ih =>
    intro l
    obtain ⟨m, n, h⟩ := Local.journal_form l p red j
    rw [List.foldl_cons, ih, h, hg]

theorem Local.journal_mram_wf (l : Local) (p : Pav) (red : Bool) (j : JEntry) (h : l.mram.wf = true) :
    (l.journal p red j).mram.wf = true := by
  unfold Local.journal
  dsimp only
  apply Mem.wf_wrBytes
  exact h
theorem Local.journal_fold_mram_wf (p : Pav) (red : Bool) (js : List JEntry) :
    ∀ l : Local, l.mram.wf = true → (js.foldl (fun l j => l.journal p red j) l).mram.wf = true := by
  induction js with
  | nil => intro l h; exact h
  | cons j r ih =>
    intro l h
    rw [List.foldl_cons]
    exact ih _ (Local.journal_mram_wf l p red j h)

@[simp] theorem Pavilion.flush_rep (v : Pavilion) (p : Pav) (red : Bool) : (v.flush p red).rep = { v.rep with jq := [] } := rfl
@[simp] theorem Pavilion.flush_regs (v : Pavilion) (p : Pav) (red : Bool) : (v.flush p red).loc.regs = v.loc.regs :=
  Local.journal_fold_keeps (·.regs) (fun _ _ _ => rfl) p red _ _
@[simp] theorem Pavilion.flush_engines (v : Pavilion) (p : Pav) (red : Bool) : (v.flush p red).loc.engines = v.loc.engines :=
  Local.journal_fold_keeps (·.engines) (fun _ _ _ => rfl) p red _ _
@[simp] theorem Pavilion.flush_sram (v : Pavilion) (p : Pav) (red : Bool) : (v.flush p red).loc.sram = v.loc.sram :=
  Local.journal_fold_keeps (·.sram) (fun _ _ _ => rfl) p red _ _
@[simp] theorem Pavilion.flush_inWin (v : Pavilion) (p : Pav) (red : Bool) : (v.flush p red).loc.inWin = v.loc.inWin :=
  Local.journal_fold_keeps (·.inWin) (fun _ _ _ => rfl) p red _ _
@[simp] theorem Pavilion.flush_outWin (v : Pavilion) (p : Pav) (red : Bool) : (v.flush p red).loc.outWin = v.loc.outWin :=
  Local.journal_fold_keeps (·.outWin) (fun _ _ _ => rfl) p red _ _
@[simp] theorem Pavilion.flush_inNext (v : Pavilion) (p : Pav) (red : Bool) : (v.flush p red).loc.inNext = v.loc.inNext :=
  Local.journal_fold_keeps (·.inNext) (fun _ _ _ => rfl) p red _ _
@[simp] theorem Pavilion.flush_join (v : Pavilion) (p : Pav) (red : Bool) : (v.flush p red).loc.join = v.loc.join :=
  Local.journal_fold_keeps (·.join) (fun _ _ _ => rfl) p red _ _
@[simp] theorem Pavilion.flush_role (v : Pavilion) (p : Pav) (red : Bool) : (v.flush p red).role = v.role := by
  simp [Pavilion.role, Local.rd]

/-! ### An effect at an input-log position (R33) -/

/-- The replica of a pavilion in step, after an effect; of any other, as before. -/
def Pavilion.afterLog (v : Pavilion) (now : Nat) (f : Replica → Replica) : Replica :=
  if v.inStep then { f { v.rep with now := now } with jq := [] } else v.rep

theorem Site.onLog_rep (t : Site) (f : Replica → Replica) (p : Pav) : ((t.onLog f).pav p).rep = (t.pav p).afterLog t.now f := by
  have hA : ∀ t : Site, t.pav .A = t.a := fun _ => rfl
  have hB : ∀ t : Site, t.pav .B = t.b := fun _ => rfl
  cases p <;> simp only [Site.onLog, Site.onStep, Site.modPav, hA, hB, Pavilion.afterLog] <;> split <;> rfl
@[simp] theorem Site.onLog_com (t : Site) (f : Replica → Replica) : (t.onLog f).com = t.com := rfl
@[simp] theorem Site.onLog_free (t : Site) (f : Replica → Replica) : (t.onLog f).free = t.free := rfl
theorem Site.onLog_keeps {α : Type} (g : Local → α) (hg : ∀ (l : Local) (m : Mem) (n : Nat), g { l with mram := m, jNext := n } = g l)
    (t : Site) (f : Replica → Replica) (p : Pav) : g ((t.onLog f).pav p).loc = g (t.pav p).loc := by
  have h : ∀ (v : Pavilion) (q : Pav) (red : Bool), g (v.flush q red).loc = g v.loc := fun v q red =>
    Local.journal_fold_keeps g hg q red v.rep.jq v.loc
  cases p <;> simp only [Site.onLog, Site.onStep, Site.modPav, Site.pav] <;> split <;> simp [h]
/-- No effect at an input-log position touches an engine. -/
@[simp] theorem Site.onLog_engines (t : Site) (f : Replica → Replica) (p : Pav) :
    ((t.onLog f).pav p).loc.engines = (t.pav p).loc.engines := Site.onLog_keeps (·.engines) (fun _ _ _ => rfl) t f p
@[simp] theorem Site.onLog_regs (t : Site) (f : Replica → Replica) (p : Pav) :
    ((t.onLog f).pav p).loc.regs = (t.pav p).loc.regs := Site.onLog_keeps (·.regs) (fun _ _ _ => rfl) t f p
@[simp] theorem Site.onLog_role (t : Site) (f : Replica → Replica) (p : Pav) : (t.onLog f).role p = t.role p := by
  simp [Site.role, Pavilion.role, Local.rd]

end Sys2Proof.Machine
end

