-- ==== Sys2Proof/Tests/Slice0.lean ====
section
/-! SUPPORT. Tests of single steps, an ill-formed command for each check of WellFormed, and for every statement a state and operands that
meet its hypotheses. -/
namespace Sys2Proof.Machine

/-- A pavilion that runs in a role, with every engine running. -/
def testLoc (role : Nat) : Local :=
  { inReset := false, engines := Vector.replicate 12 { run := .running }, regs := Regs.wr [] .FBR_STATUS_ROLE role }
/-- Redundant running: A leads, B follows; the replicas are given. -/
def testWith (r : Replica) : State := { site := { a := { loc := testLoc roleLeader, rep := r }, b := { loc := testLoc roleFollower, rep := r } } }
def testState : State := testWith {}
/-- The same with engine `e` of Pavilion A changed. -/
def testEng (e : Eng) (f : Engine → Engine) : State := testState.upd .A e f

theorem witness_StepRunsFrontCommand : ({ testState with pending := [Instr.dlpSendPoint] } : State).pending = Instr.dlpSendPoint :: [] := rfl
theorem witness_EmptyQueueIsOneTick : testState.pending = [] := rfl
theorem witness_EveryStepKeepsEnginesSound : testState.enginesSound := by
  intro p e
  cases p <;> revert e <;> decide
theorem witness_EveryStepKeepsMemoriesCanonical : State.reset.memWf := ⟨fun p => by cases p <;> decide, by decide, by decide⟩
theorem witness_RegisterFieldLaws : Field.SDL_EVENT_EV_LATE.info.acc = .W1C ∧ Field.SDL_EVENT_EV_LATE.info.width = 1 ∧
    Field.SDL_EVENT_EV_LATE.counter 0 = some (.SDL_EVCNT_CNT, 4) ∧ Field.SDL_EVCNT_CNT ≠ .SDL_EVENT_EV_LATE := by decide
theorem witness_RegisterAluResults : testState.site.ready .A 0 = true := by decide
theorem witness_CarrySaturationDivisionResults :
    (testEng 2 fun en => en.setG 3 7).site.ready .A 2 = true ∧ ((testEng 2 fun en => en.setG 3 7).site.eng .A 2).g 3 ≠ 0 ∧
    ((testEng 2 fun en => en.setG 3 7).site.eng .A 2).g 4 = 0 ∧
    let m := testEng 2 fun en => (en.setG 3 0x80000000).setG 4 0xFFFFFFFF
    m.site.ready .A 2 = true ∧ (m.site.eng .A 2).g 3 = 0x80000000 ∧ (m.site.eng .A 2).g 4 = 0xFFFFFFFF := by decide
theorem witness_ImmediateAluResults : testState.site.ready .B 10 = true := by decide
theorem witness_BranchesAndJumps :
    testState.site.ready .A 2 = true ∧ ((testState.site.eng .A 2).pc + ((1#15).signExtend 32) <<< 2).toNat < 0x40000 ∧
    ¬ ((testState.site.eng .A 2).pc + ((0x7FFF#15).signExtend 32) <<< 2).toNat < 0x40000 ∧
    ¬ (((testState.site.eng .A 2).g 0 + (0xFFFF#16).signExtend 32) &&& 0xFFFFFFFC).toNat < 0x40000 ∧
    (let m := testEng 2 fun en => { en.setG 3 1 with pc := 0x40000 }
     m.site.ready .A 2 = true ∧ ¬ (m.site.eng .A 2).pc.toNat < 0x40000 ∧ (m.site.eng .A 2).g 3 ≠ (m.site.eng .A 2).g 0 ∧
     ((m.site.eng .A 2).g 0).toInt < ((m.site.eng .A 2).g 3).toInt ∧ ((m.site.eng .A 2).g 0).toNat < ((m.site.eng .A 2).g 3).toNat) ∧
    (let m := testEng 0 fun en => en.setFlag flagIE true
     m.site.ready .A 0 = true ∧ (m.site.eng .A 0).flag 8 = true ∧ (m.site.eng .A 0).flag 0 = false) := by decide
theorem witness_LoadsReadTheirMemory :
    testState.site.ready .A 2 = true ∧ (testState.site.eng .A 2).wbuf = [] ∧ ((testState.site.eng .A 2).g 0 + (0#15).signExtend 32).toNat < 0x60000 ∧
    ((testState.site.eng .A 2).g 0 + (1#15).signExtend 32).toNat % 2 ≠ 0 ∧ ((testState.site.eng .A 2).g 0 + (2#15).signExtend 32).toNat % 4 ≠ 0 ∧
    (let m := testEng 2 fun en => en.setG 3 0x68000
     m.site.ready .A 2 = true ∧ (m.site.eng .A 2).wbuf = [] ∧ regionOf ((m.site.eng .A 2).g 3 + (0#15).signExtend 32).toNat = .none) := by decide
theorem witness_StoresEnterTheWriteBuffer :
    testState.site.ready .A 2 = true ∧ (testState.site.eng .A 2).wbuf.length < 4 ∧
    ((testState.site.eng .A 2).g 0 + (0#15).signExtend 32).toNat < 0x60000 ∧
    ((testState.site.eng .A 2).g 0 + (1#15).signExtend 32).toNat % 2 ≠ 0 ∧ ((testState.site.eng .A 2).g 0 + (2#15).signExtend 32).toNat % 4 ≠ 0 ∧
    regionOf ((testState.site.eng .A 2).g 0 + (0x7FFF#15).signExtend 32).toNat = .none := by decide
theorem witness_StoreThenLoadReturnsIt :
    let m := testEng 2 fun en => (en.setG 3 0x40010).setG 4 99
    m.site.ready .A 2 = true ∧ (m.site.eng .A 2).wbuf = [] ∧ (5 : Gpr) ≠ 0 ∧ 0x40000 ≤ ((m.site.eng .A 2).g 3 + (0#15).signExtend 32).toNat ∧
    ((m.site.eng .A 2).g 3 + (0#15).signExtend 32).toNat < 0x60000 ∧ ((m.site.eng .A 2).g 3 + (0#15).signExtend 32).toNat % 4 = 0 := by decide
theorem witness_StoreThenLoadReturnsIt_store (p : Pav) (e : Eng) (src base : Gpr) (off : BitVec 15) (s : State) :
    ∃ t, exec (.sw p e src base off) s = .next t := ⟨_, rfl⟩
theorem witness_SpecialRegistersAndFences :
    testState.site.ready .A 0 = true ∧ sprAccess (5#12).toNat = some .RW ∧ sprAccess (7#12).toNat ≠ none ∧ sprAccess (7#12).toNat ≠ some .RW ∧
    sprAccess (0x3F#12).toNat = none ∧ (testState.site.eng .A 0).wbuf = [] ∧ loopProfile 0 = false ∧ (testState.site.eng .A 0).epc.toNat < 0x40000 ∧
    testState.site.ipend .A 0 &&& (testState.site.eng .A 0).imask = 0 ∧
    (let m := testEng 0 fun en => { en with wbuf := [⟨0x40000, 4, 0⟩], epc := 0x40000, imask := 1, queues := en.queues.set 0 [⟨5, 2⟩] }
     m.site.ready .A 0 = true ∧ (m.site.eng .A 0).wbuf ≠ [] ∧ ¬ (m.site.eng .A 0).epc.toNat < 0x40000 ∧
     m.site.ipend .A 0 &&& (m.site.eng .A 0).imask ≠ 0) ∧
    (let m := testEng 0 fun en => { en with wait := .fence }
     (m.site.eng .A 0).wait = .fence ∧ (m.site.eng .A 0).wbuf = []) ∧
    (let m := testEng 0 fun en => { en with wait := .wfi, imask := 1, queues := en.queues.set 0 [⟨5, 2⟩] }
     (m.site.eng .A 0).wait = .wfi ∧ m.site.ipend .A 0 &&& (m.site.eng .A 0).imask ≠ 0) := by decide
theorem witness_ExceptionsAndInterrupts :
    loopProfile 0 = false ∧ (testState.site.eng .A 0).flag flagEXC = false ∧ loopProfile 2 = true ∧ testState.site.ready .A 2 = true ∧
    legalWord 2 (0xF0000000#32).toNat = false ∧
    (let m := testEng 1 fun en => en.setFlag flagEXC true
     (m.site.eng .A 1).flag flagEXC = true ∧ (1 : Eng) ≠ lodge) ∧
    (let m := testEng 2 fun en => { en with wait := .msnd 3 1 0 }
     (m.site.eng .A 2).wait = .msnd 3 1 0) ∧
    (let m := testEng 0 fun en => ({ en with imask := 3, queues := en.queues.set 1 [⟨5, 2⟩] }).setFlag flagIE true
     (m.site.eng .A 0).run = .running ∧ (m.site.eng .A 0).wait = .none ∧ (m.site.eng .A 0).flag flagIE = true ∧
     (m.site.eng .A 0).flag flagEXC = false ∧ (m.site.ipend .A 0 &&& (m.site.eng .A 0).imask).getLsbD 1 = true ∧
     (∀ j < 1, (m.site.ipend .A 0 &&& (m.site.eng .A 0).imask).getLsbD j = false)) := by decide
theorem witness_QueueMessages :
    testState.site.ready .A 2 = true ∧ ((testState.site.eng .A 0).queues.get 1).length < 16 ∧ 12 ≤ (13#4).toNat ∧ pairOk 4 = true ∧
    (testState.site.eng .A 2).queues.get 1 = [] ∧
    (let m := testEng 0 fun en => { en with queues := en.queues.set 1 (List.replicate 16 ⟨0, 2⟩) }
     m.site.ready .A 2 = true ∧ 16 ≤ ((m.site.eng .A 0).queues.get 1).length) ∧
    (let m := testEng 2 fun en => { en with wait := .msnd (BitVec.ofNat 4 (0 : Eng).val) 1 7 }
     (m.site.eng .A 2).wait = .msnd (BitVec.ofNat 4 (0 : Eng).val) 1 7) ∧
    (let m := testEng 2 fun en => { en with queues := en.queues.set 1 [⟨7, 3⟩] }
     m.site.ready .A 2 = true ∧ (m.site.eng .A 2).queues.get 1 = ⟨7, 3⟩ :: []) ∧
    (let m := testEng 2 fun en => { en with wait := .mrcv 4 1, queues := en.queues.set 1 [⟨7, 3⟩] }
     (m.site.eng .A 2).wait = .mrcv 4 1 ∧ (m.site.eng .A 2).queues.get 1 = ⟨7, 3⟩ :: []) := by decide
theorem witness_AccumulatorResults :
    testState.site.ready .A 2 = true ∧ loopProfile 2 = true ∧ quadOk 4 = true ∧ quadOk 8 = true ∧ quadOk 5 = false ∧ 3 ≤ (3#5).toNat := by decide
theorem witness_VectorResults :
    testState.site.ready .A 10 = true ∧ loopProfile 10 = true ∧ quadOk 4 = true ∧ quadOk 8 = true ∧ quadOk 12 = true ∧ accQuadOk 4 = true ∧
    pairOk 2 = true ∧ quadOk 3 = false := by decide
theorem witness_FilterSectionResults :
    let m := testEng 2 fun en => { (en.setG 3 0x40010).setG 5 0x40004 with dtcm := Mem.wrN [] 0x4002C 4 1 }
    m.site.ready .A 2 = true ∧ (m.site.eng .A 2).wbuf = [] ∧ ((m.site.eng .A 2).g 3 + BitVec.ofNat 32 0).toNat = 0x40010 ∧
    (m.site.eng .A 2).dtcm.rdN (0x40010 + 28) 4 < 16 ∧ ((m.site.eng .A 2).g 5 + BitVec.ofNat 32 0).toNat % 16 ≠ 0 ∧
    ((m.site.eng .A 2).g 0 + BitVec.ofNat 32 0).toNat < 0x40000 := by decide
theorem witness_FrameWindowResults :
    let m := testEng 2 fun en => (en.setG 3 31).setG 4 32
    m.site.ready .A 2 = true ∧ loopProfile 2 = true ∧ ((m.site.eng .A 2).g 3).toNat < 32 ∧ 32 ≤ ((m.site.eng .A 2).g 4).toNat ∧ (0#2) ≠ 3 := by decide
theorem witness_TimeInstructionResults :
    let m := testEng 2 fun en => (en.setG 5 1).setG 6 1
    m.site.ready .A 2 = true ∧ pairOk 4 = true ∧ pairOk 2 = true ∧ pairOk 5 = false ∧
    m.site.now < ((m.site.eng .A 2).g (gprPlus 4 1)).toNat * 2 ^ 32 + ((m.site.eng .A 2).g 4).toNat ∧
    ((m.site.eng .A 2).g (gprPlus 2 1)).toNat * 2 ^ 32 + ((m.site.eng .A 2).g 2).toNat ≤ m.site.now ∧
    (m.site.pav .A).loc.rd .SDL_SCTRL_ARM 3 = 0 ∧
    (let k : State := { m with site := m.site.modLoc .A fun l => l.wr .SDL_SCTRL_ARM 1 3 }
     k.site.ready .A 2 = true ∧ (k.site.pav .A).loc.rd .SDL_SCTRL_ARM 3 ≠ 0) ∧
    (let k := testEng 2 fun en => { en with wait := .await 0 }
     (k.site.eng .A 2).wait = .await 0 ∧ 0 ≤ k.site.now) ∧
    (let k := testEng 2 fun en => { en with wait := .awaits 3 9 true }
     (k.site.eng .A 2).wait = .awaits 3 9 true) := by decide
theorem witness_InstructionsOfOneEngineStayThere (s : State) : ∃ t, exec (.add .A 2 3 4 5) s = .next t := ⟨_, rfl⟩
theorem witness_RegisterCommandResults :
    (testState.site.pav .A).loc.running = true ∧ (testState.site.eng .A lodge).wbuf = [] ∧ (2#32).toNat % 4 ≠ 0 ∧
    mayAccess 2 true (0x40000000#32).toNat 4 = false ∧ mayAccess 11 false (0x40300000#32).toNat 4 = false := by decide
theorem witness_SiteCycleEvents :
    (testState.site.pav .A).loc.running = true ∧ (testState.site.pav .A).inStep = true ∧ (testState.site.pav .A).loc.closed = false ∧
    (testState.site.pav .A).loc.div = none ∧ (testState.site.pav .B).loc.div = none ∧
    (let m : State := { testState with site := testState.site.modLoc .A fun l => { l with closed := true } }
     (m.site.pav .A).inStep = true ∧ (m.site.pav .A).loc.closed = true ∧ (m.site.pav .A).loc.setDone = false) := by decide
/-- One pavilion's own registers changed; both pavilions' changed. -/
def testPair (f g : Local → Local) : State := { testState with site := (testState.site.modLoc .A f).modLoc .B g }
def testLocal (p : Pav) (f : Local → Local) : State := { testState with site := testState.site.modLoc p f }
theorem witness_InputLogAndLease :
    testState.site.leader = some .A ∧ (testState.site.pav .A).loc.inputs = [] ∧ (testState.site.pav .A).loc.log.length < 64 ∧
    (testState.site.pav .B).inStep = true ∧ testState.site.role .B ≠ roleLeader ∧ testState.site.now < 5 ∧ (7 : Nat) ≠ (testState.site.pav .B).loc.nextSeq ∧
    testState.site.role (Pav.B).other = roleLeader ∧ (testState.site.pav .B).loc.inReset = false ∧ testState.site.role .B = roleFollower ∧
    (testState.site.pav .B).loc.nextClaim ≤ 0xFFFFFFFF ∧ (testState.site.pav .B).rep.rd .UPD_STATUS_PHASE = 0 ∧ testState.site.redundant = true ∧
    (testLocal .A fun l => l.wr .FBR_STATUS_ROLE roleSetAside).site.role (Pav.B).other ≠ roleLeader ∧
    (let m := testLocal .A fun l => { l.wr .FBR_PEERCLAIM_PEER 7 with handbackAt := some 9 }
     m.site.role .A = roleLeader ∧ (m.site.pav .A).loc.rd .FBR_PRESENT_OWN < (m.site.pav .A).loc.rd .FBR_PEERCLAIM_PEER ∧
     (m.site.pav .A).loc.handbackAt ≠ none ∧ (m.site.pav .A).rep.rd .UPD_STATUS_PHASE = 0) ∧
    ((testLocal .A fun l => l.wr .FBR_STATUS_CH0_OK 1).site.pav .A).loc.rd .FBR_STATUS_CH0_OK ≠ 0 ∧
    ((testLocal .A fun l => l.wr .FBR_STATUS_CH1_OK 1).site.pav .A).loc.rd .FBR_STATUS_CH1_OK ≠ 0 := by decide
theorem witness_DivergenceAndReferee :
    (let m := testPair (fun l => { l.wr .FBR_DIG_OWN_DIGEST 5 with ownDigest := true })
       (fun l => { l with ownDigest := true })
     m.site.redundant = true ∧ m.site.a.loc.ownDigest = true ∧ m.site.b.loc.ownDigest = true ∧ m.site.a.loc.div = none ∧ m.site.b.loc.div = none ∧
     m.site.a.loc.rd .FBR_DIG_OWN_DIGEST ≠ m.site.b.loc.rd .FBR_DIG_OWN_DIGEST) ∧
    (let m := testPair (fun l => { l.wr .FBR_STATUS_CH0_OK 1 with ownDigest := true })
       (fun l => { l.wr .FBR_STATUS_CH0_OK 1 with ownDigest := true })
     m.site.redundant = true ∧ m.site.a.loc.rd .FBR_DIG_OWN_DIGEST = m.site.b.loc.rd .FBR_DIG_OWN_DIGEST ∧ m.site.role .B = roleFollower ∧
     (m.site.pav (Pav.B).other).loc.ownDigest = true ∧ m.site.b.loc.rd .FBR_STATUS_CH0_OK = 1 ∧ m.site.a.loc.rd .FBR_STATUS_CH0_OK = 1) ∧
    ((testLocal .A fun l => { l with div := some { start := 0, own := true, window := false } }).site.pav .A).loc.div =
      some { start := 0, own := true, window := false } ∧
    (let m := testLocal .A fun l => { l.wr .FBR_CTRL_MODE 1 with div := some { start := 0, own := true, window := true } }
     m.site.referee = true ∧ m.site.windowOpen = true ∧ m.site.role .A = roleLeader ∧ m.site.role .B = roleFollower) ∧
    (let m := testPair (fun l => { l with div := some { start := 0, own := true, window := true } })
       (fun l => l.wr .FBR_STATUS_ROLE roleHeld)
     m.site.windowOpen = true ∧ m.site.role .A = roleLeader ∧ m.site.role .B = roleHeld) ∧
    (let m := testLocal .A fun l => l.wr .FBR_CTRL_MODE 1
     m.site.referee = true ∧ m.site.windowOpen = false) ∧
    (let m := testLocal .B fun l => l.wr .FBR_STATUS_ROLE roleSetAside
     m.site.role .B = roleSetAside ∧ (m.site.pav .B).loc.inReset = false) ∧
    (let m := testLocal .B fun l => { l with restartDue := true }
     (m.site.pav .B).loc.restartDue = true ∧ (m.site.pav .B).loc.inReset = false) ∧
    (let m := testPair (fun l => { l with ind := { l.ind with ecc := true } })
       (fun l => l.wr .FBR_STATUS_ROLE roleSetAside)
     m.site.alone .A = true ∧ (m.site.pav .A).loc.indicated = true ∧ (m.site.pav .A).loc.restartDue = false) := by decide
/-- A joiner of Pavilion A's in a phase of its joining. -/
def testJoin (j : JoinPhase) : State := testLocal .B fun l => { l.wr .FBR_STATUS_ROLE roleJoining with join := j }
theorem witness_JoiningAndHandback :
    (let k := testLocal .B fun l => { l.wr .FBR_STATUS_ROLE roleSetAside with booted := true, join := .refused }
     let m : State := { k with site := k.site.modRep .B fun r => r.wr .KEY_STATUS_SELFTEST_OK 1 }
     m.site.leader = some .A ∧ m.site.canAsk .B = true ∧ m.site.accepts .A .B = true ∧ (m.site.pav .B).loc.join = .refused) ∧
    (testJoin .mirroring).site.leader = some .A ∧ (testJoin .mirroring).site.role .B = roleJoining ∧
    ((testJoin .mirroring).site.pav .B).loc.join = .mirroring ∧ ((testJoin .mirroring).site.pav .A).loc.inputs = [] ∧
    ((testJoin .mirroring).site.pav .A).loc.log.length < 2048 ∧ (testJoin (.syncLogged 4)).site.actFirst ≠ some .B ∧
    ((testJoin (.syncLogged 4)).site.pav .B).rep.layout.build = ((testJoin (.syncLogged 4)).site.pav .A).rep.layout.build ∧
    ((testJoin (.joining 16)).site.pav .B).rep.rd .UPD_STATUS_PHASE = 0 ∧ ((testJoin (.joining 16)).site.pav .A).loc.restartDue = false ∧
    (let m := testLocal .B fun l => (l.wr .FBR_CTRL_HOME 1).wr .FBR_CTRL_REVERT 1
     m.site.leader = some .A ∧ (m.site.pav .B).loc.rd .FBR_CTRL_HOME = 1 ∧ (m.site.pav .B).loc.rd .FBR_CTRL_REVERT = 1 ∧ m.site.role .B = roleFollower ∧
     (m.site.pav .B).loc.indicated = false ∧ m.site.handbackFree = true) ∧
    (let m := testPair (fun l => { l with handbackAt := some 5 })
       (fun l => { l with handbackAt := some 5 })
     m.site.leader = some .A ∧ m.site.role .B = roleFollower ∧ (m.site.pav .B).loc.handbackAt ≠ none ∧ (m.site.pav .A).loc.handbackAt ≠ none ∧
     m.site.actFirst ≠ some .B ∧ (m.site.pav .B).loc.nextClaim ≤ 0xFFFFFFFF) := by decide
theorem witness_JoiningAndHandback_checks : paramCheck ((testJoin (.syncLogged 4)).site.pav .B).loc ((testJoin (.syncLogged 4)).site.pav .B).rep =
    paramCheck ((testJoin (.syncLogged 4)).site.pav .A).loc ((testJoin (.syncLogged 4)).site.pav .A).rep := rfl
/-- Both replicas with registers at given values. -/
def testRegs (l : List (Field × Nat × Nat)) : Replica := l.foldl (fun r x => r.wr x.1 x.2.2 x.2.1) {}
/-- A sample frame of 56 bytes for sequence number 0, with its CRC. -/
def testFrame : List Byte := let b := leBytes 1 0x81 ++ leBytes 1 56 ++ leBytes 50 0
  b ++ leBytes 4 (crc32c b).toNat
set_option maxRecDepth 100000 in
theorem witness_StageFramesAndMessages_frame :
    frameWhole true testFrame = true ∧
    sampleValid ((testState.site.pav .A).rep.rd .STG_LSTATE_SLEN 0) (testState.site.frameSeq 0) testFrame = true := by decide
theorem witness_StageFramesAndMessages :
    frameWhole true [0x81] = false ∧
    (testState.site.pav .A).loc.closed = false ∧ ((testState.site.pav .A).rep.link 0).unused .A = false ∧
    ((testState.site.pav .A).rep.link 0).unused .B = false ∧ (testState.site.pav .A).loc.setDone = false ∧
    ((testLocal .A fun l => { l with setDone := true }).site.pav .A).loc.setDone = true ∧ testState.site.drives .A = true ∧
    (testState.site.pav .A).rep.lstate 0 ≠ lsDisabled ∧
    vget ((testLocal .A fun l => { l with echo := vput l.echo 31 (some 7) }).site.pav .A).loc.echo 31 none = some 7 ∧
    (testState.site.pav .A).inStep = true ∧ (testState.site.pav .A).rep.rd .STG_LMSG_BUSY 31 = 0 ∧
    (let v := (testWith ((testRegs [(.STG_LMSG_BUSY, 31, 1)]).setLink 31 { sinceLast := 64 })).site.pav .A
     v.rep.rd .STG_LMSG_BUSY 31 = 1 ∧ (v.rep.link 31).nextFrag = none ∧ v.rep.rd .STG_RETRY_RTO ≤ (v.rep.link 31).sinceLast ∧
       (v.rep.link 31).resends = 0) ∧
    (let v := (testWith ((testRegs [(.STG_LMSG_BUSY, 31, 1)]).setLink 31 { sinceLast := 64, resends := 3 })).site.pav .A
     v.rep.rd .STG_RETRY_RTO ≤ (v.rep.link 31).sinceLast ∧ 0 < (v.rep.link 31).resends) ∧
    (let v := (testWith ((testRegs [(.STG_LMSG_DONE, 0, 1), (.STG_LSTATE_STATE, 0, 4)]).setPh 0 { configOut := true })).site.pav .A
     v.rep.replyDone 0 = true ∧ v.rep.discovering 0 = false ∧ (v.rep.ph 0).configOut = true) := by decide
/-- A reply in the buffer of link 31, in a state of its discovery. -/
def testReply (st : Nat) (b : List Byte) (l : StageLink) : Pavilion :=
  let r := (testRegs [(.STG_LMSG_DONE, 31, 1), (.STG_LSTATE_STATE, 31, st)]).setLink 31 l
  (testWith { r with blkMem := r.blkMem.wrBytes (stgRep 31) b }).site.pav .A
/-- IDENT of version 1, two lanes, one phase. -/
def testIdent : List Byte := leBytes 1 0x81 ++ leBytes 1 0 ++ leBytes 1 1 ++ leBytes 1 2 ++ leBytes 4 0 ++ leBytes 8 5 ++ leBytes 2 0 ++ leBytes 1 56 ++
  leBytes 1 42 ++ leBytes 10 0 ++ leBytes 1 1 ++ leBytes 1 1 ++ leBytes 4 0
theorem witness_StageDiscovery :
    (let v := testReply 1 testIdent {}
     v.inStep = true ∧ v.rep.replyDone 31 = true ∧ v.rep.lstate 31 = lsIdent ∧ byteAt (v.rep.stgReply 31) 2 ≠ 0 ∧ identOk (v.rep.stgReply 31) = true ∧
       (byteAt (v.rep.stgReply 31) 3 = 1 ↔ v.rep.rd .STG_LCFG_LANES 31 = 1)) ∧
    (let v := testReply 1 testIdent { lastUnit := some 4, replyB := leBytes 8 0 ++ leBytes 8 6 }
     (v.rep.link 31).lastUnit = some 4 ∧ 4 ≠ fieldAt (v.rep.stgReply 31) 8 8 ∧ byteAt (v.rep.stgReply 31) 3 ≠ 1 ∧ v.rep.rd .STG_LCFG_LANES 31 = 0 ∧
       16 ≤ (v.rep.link 31).replyB.length ∧ fieldAt (v.rep.link 31).replyB 8 8 ≠ fieldAt (v.rep.stgReply 31) 8 8) ∧
    byteAt ((testReply 1 [0x81] {}).rep.stgReply 31) 2 = 0 ∧ (testReply 2 [] {}).rep.lstate 31 = lsAuth ∧
    (let v := testReply 3 [] { awaited := 0x83 }
     v.rep.lstate 31 = lsConfig ∧ byteAt (v.rep.stgReply 31) 1 = 0 ∧ (v.rep.link 31).awaited = 0x83 ∧ v.rep.discovering 31 = true) ∧
    ((testReply 3 [] { awaited := 0x84 }).rep.link 31).awaited = 0x84 ∧
    (let v := testReply 4 [] { silentRun := 64 }
     64 ≤ (v.rep.link 31).silentRun ∧ v.rep.lstate 31 ≠ lsDown ∧ v.rep.lstate 31 ≠ lsDisabled) ∧
    (testReply 5 [] {}).rep.lstate 31 = lsFault := by decide
theorem witness_SundialResults :
    (let k : Common := ((({} : Common).wr .SDL_STATUS_FIRST_LOCK 1).wr .SDL_CTRL_NOMF 0)
     let m : State := { testState with site := testState.site.modCom fun _ => { k with sun := { k.sun with ticks := 4000000, lastPos := some 0 } } }
     m.site.com.sun.lastPos = some 0 ∧ inTracking m.site.nominal (m.site.com.sun.ticks - 0 - 0) = true ∧ m.site.com.rd .SDL_STATUS_FIRST_LOCK = 1 ∧
       m.site.com.rd .SDL_STATUS_FREE_RUN = 0 ∧ m.site.com.rd .SDL_STATUS_SLEW = 0 ∧ m.site.com.sun.candidate = none ∧
       ((m.site.com.sun.errorAt 0).natAbs : Int) ≤ deg3) ∧
    deg3 < ((({ a := { pos := 2 ^ 63 } } : Sundial).errorAt 0).natAbs : Int) ∧
    (let v := (testWith (testRegs [(.DLK_OSTATE_STATE, 23, 6)])).site.pav .A
     v.inStep = true ∧ osPlugged ≤ v.rep.ostate 23 ∧ v.rep.ostate 23 ≤ osWeldCheck) ∧
    testState.site.com.xtalBadA = false ∧ testState.site.com.xtalBadB = false ∧
    (let m := testLocal .A fun l => { (((l.wr .SDL_SCTRL_ARM 1 63).wr .SDL_SCTRL_ENGINE 11 63).wr .SDL_SCTRL_QUEUE 7 63).wr .SDL_SCTRL_TARGET 3 63 with
       slots := vput l.slots 63 { held := true } }
     let l := (m.site.pav .A).loc
     l.rd .SDL_SCTRL_ENGINE 63 = 11 ∧ l.rd .SDL_SCTRL_QUEUE 63 = 7 ∧ l.rd .SDL_SCTRL_ARM 63 = 1 ∧ (vget l.slots 63 {}).time ≤ m.site.now ∧
       l.rd .SDL_SCTRL_TARGET 63 = 3 ∧ m.site.queueFull .A 11 7 = false ∧ (vget l.slots 63 {}).held = true) ∧
    (let m := testLocal .A fun l => (l.wr .SDL_SCTRL_ARM 1 31).wr .SDL_SCTRL_TARGET 4 31
     (m.site.pav .A).loc.rd .SDL_SCTRL_TARGET 31 = 4 ∧ (31 : Slot).val < 32 ∧ (m.site.pav .A).loc.rd .SDL_SCTRL_ARM 31 = 1) := by decide
theorem witness_ConverterGuards :
    (testState.site.pav .A).inStep = true ∧
    (let r := (testRegs [(.CTL_OMODE_SOFT, 23, 1), (.CTL_LAYER_SHORT_CYC, 0, 3)]).setOut 23 { ocRun := 2, shortCnt := 3 }
     r.rd .CTL_OMODE_SOFT 23 = 1 ∧ 2 ≤ (r.out 23).ocRun ∧ r.isOpen 23 = false ∧ 0 < r.rd .CTL_LAYER_SHORT_CYC ∧
       r.rd .CTL_LAYER_SHORT_CYC ≤ (r.out 23).shortCnt) ∧
    (let r := testRegs [(.STG_LSTATE_STATE, 31, 4), (.CTL_GFEED_OUTLET, 31, 23), (.CTL_OMODE_MODE, 23, 3), (.CTL_GFEED_NF_RUN, 31, 2)]
     r.guarded 31 = true ∧ r.rd .CTL_GFEED_OUTLET 31 = 23 ∧ r.rd .CTL_CTRL_LOST_CYC ≤ r.rd .CTL_GFEED_NF_RUN 31 ∧ (r.grp 31).lossSaid = false ∧ r.isOpen 23 = false ∧
       (r.grp 31).runValid = true ∧ ((r.setGrp 31 { runValid := false }).grp 31).runValid = false ∧ (0x800000#24).getLsbD 23 = true ∧
       1 ≤ r.mode 23 ∧ r.mode 23 ≤ 4) ∧
    (let r := (testRegs [(.CTL_OMODE_SOFT, 23, 1), (.CTL_LAYER_SHORT_CYC, 0, 3), (.CTL_OMODE_RAMP, 23, 1), (.CTL_OMODE_CAUSE, 23, 1)]).setOut 23
       { ocRun := 2, shortCnt := 3, openSeq := some 0 }
     r.rd .CTL_OMODE_SOFT 23 = 1 ∧ 0 < r.rd .CTL_LAYER_SHORT_CYC ∧ r.rd .CTL_LAYER_SHORT_CYC ≤ (r.out 23).shortCnt ∧ r.isOpen 23 = true ∧
       (r.out 23).openSeq = some testState.site.seq ∧ r.rd .CTL_OMODE_CAUSE 23 = coFeedbackLost ∧ 2 ≤ (r.out 23).ocRun ∧
       r.rd .CTL_OMODE_RAMP 23 = 1 ∧ r.rd .CTL_OMODE_STOPPED 23 = 0 ∧ ((r.setOut 23 { openSeq := none }).out 23).openSeq ≠ some testState.site.seq) ∧
    (let r := (testRegs [(.CTL_GFEED_OUTLET, 31, 23), (.CTL_OMODE_RAMP, 23, 1)]).setGrp 31 { rampK := 4 }
     r.rd .CTL_OMODE_RAMP 23 = 1 ∧ ∀ h : Grp, r.rd .CTL_GFEED_OUTLET h = 23 → 4 ≤ (r.grp h).rampK) := by decide
theorem witness_SwapsInjectionsCaptures :
    (let r := testRegs [(.CTL_OSWCTL_PEND, 23, 1), (.CTL_OSWCTL_ENGINE, 23, 2)]
     let m : State := (testWith r).upd .A 2 fun en => { en with endMark := true, wait := .awaits 0 0 false }
     (m.site.pav .A).inStep = true ∧ r.rd .CTL_OSWCTL_PEND 23 = 1 ∧ r.rd .CTL_OSWCTL_ENGINE 23 = 2 ∧
       seqReached (r.rd .CTL_OSWAP_APPLY 23) m.site.seq = true ∧ (m.site.eng .A 2).inEndWait = true ∧ r.swapEngines.contains 2 = false ∧
       ∀ q : Outlet, q < 23 → ¬(r.rd .CTL_OSWCTL_PEND q = 1 ∧ r.rd .CTL_OSWCTL_ENGINE q = 2)) ∧
    (let r := testRegs [(.CTL_INJCTRL_WAVE, 3, 4), (.CTL_INJCTRL_OUTLET, 3, 23), (.CTL_OMODE_MODE, 23, 3), (.CTL_INJCTRL_ACTIVE, 3, 1)]
     r.rd .CTL_INJCTRL_WAVE 3 ≤ 4 ∧ r.rd .CTL_INJCTRL_OUTLET 3 < 24 ∧ r.mode (r.rd .CTL_INJCTRL_OUTLET 3) = modeCharging ∧
       (∀ j : Unit4, j ≠ 3 → r.rd .CTL_INJCTRL_OUTLET j ≠ r.rd .CTL_INJCTRL_OUTLET 3) ∧ r.rd .CTL_INJCTRL_ACTIVE 3 = 1 ∧
       r.rd .CTL_INJLEN_LEN 3 ≤ (vget r.injs 3 {}).t ∧ r.rd .CTL_INJSTART_START 3 = testState.site.seq ∧
       (vget ({ r with injs := vput r.injs 3 { armed := true } } : Replica).injs 3 {}).armed = true) ∧
    (let r := testRegs [(.CTL_CAPCTRL_TRIG, 3, 1), (.CTL_CAPSIZE_SIZE, 3, 1), (.CTL_CAPCTRL_STATE, 3, 2)]
     r.rd .CTL_CAPCTRL_TRIG 3 = 1 ∧ r.rd .CTL_CAPCTRL_DEC 3 ≠ 0 ∧ r.rd .CTL_CAPSIZE_SIZE 3 ≠ 0 ∧ r.rd .CTL_CAPCTRL_STATE 3 = 2) ∧
    (let r := testRegs [(.CTL_CAPCTRL_STATE, 3, 3)]
     r.rd .CTL_CAPCTRL_STATE 3 = 3 ∧ (vget r.caps 3 {}).post = 0) := by decide
theorem witness_PhasesAndAllocation :
    (testState.site.pav .A).inStep = true ∧
    (let r := (({} : Replica).setPh 31 { hold := 1, en := 128 })
     r.shedHold 31 ≤ (r.ph 31).hold ∧ 0 < (r.ph 31).hold ∧ (r.ph 31).shed = none ∧ (r.ph 31).adds = [] ∧ (r.ph 31).rampOut = none ∧
       (r.ph 31).en % 256 ≠ 0) ∧
    (let r := ({ params := Mem.wrN [] (31 * 2 ^ 10 + 15) 2 0x0101 } : Replica).setPh 31 { ticks := 1, rampOut := some (0, 23) }
     r.ilvMode 31 = 1 ∧ 0 < r.rotInt 31 ∧ r.rotInt 31 ≤ (r.ph 31).ticks ∧ (r.ph 31).rampOut = some (0, 23) ∧ r.shedRamp 31 ≤ 0 ∧
       ((r.setLink 31 { zcRun := 8 }).rd .STG_ZC_ZC_CYC ≤ ((r.setLink 31 { zcRun := 8 }).link 31).zcRun) ∧ (r.ph 31).en = 0) ∧
    (0x80000000#32).getLsbD 31 = true ∧
    (let z : Frozen := { cause := 1, outlet := 0, link := 0, time := 0, seq := 0, en := 0, shedPh := 0, fault := 0 }
     vget ({ frozen := vput (Replica.frozen {}) 31 (some z) } : Replica).frozen 31 none ≠ none) ∧
    (let r : Replica := (testRegs [(.DLK_OSTATE_STATE, 23, 6)]).withAlloc fun a => { a with
       lateRun := 3, breachRun := vput a.breachRun 23 16, headMiss := 3, limits := [{ principal := 1, outlet := none, value := 1, seconds := 1 }]
       cabinets := vput a.cabinets 14 { age := 3 }, coolant := vput a.coolant 23 { age := 51 } }
     r.rd .CTL_ACTRL_LATE_FB ≤ r.alloc.lateRun ∧ r.alloc.fallback = false ∧ r.rd .CTL_INVTOL_CYC ≤ vget r.alloc.breachRun 23 0 ∧
       0 < vget r.alloc.breachRun 23 0 ∧ osNegotiating ≤ r.ostate 23 ∧ r.ostate 23 ≤ osCharging ∧ 3 ≤ r.alloc.headMiss ∧
       r.alloc.limits[0]?.isSome = true ∧ r.rd .CTL_FRESH_FE < (vget r.alloc.cabinets 14 {}).age ∧
       r.rd .CTL_FRESH_COOL < (vget r.alloc.coolant 23 {}).age) := by decide
/-- A header with sequence number 5, no acknowledgement, for an outlet. -/
def testHdr (o : Nat) : DlpHdr := { ver := 3, seq := 5, ackSeq := 0, ackMap := 0, outlet := o, flags := 0, src := 1, tagOk := false, valid := true }
/-- Dispenser link 11 on one lane, without authentication, ACTIVE with version 3 unless the list says otherwise. -/
def testDl (l : List (Field × Nat × Nat)) : Replica :=
  testRegs ([(.DLK_LCFG_LANES, 11, 1), (.DLK_CTRL_AUTHREQ, 0, 0), (.DLK_LSTATE_STATE, 11, 4), (.DLK_LSTATE_VER, 11, 3)] ++ l)
/-- What lets a PDU pass, as a checked fact of a replica. -/
def testPasses (r : Replica) (o type ver : Nat) : Bool :=
  let d := 11
  let h := testHdr o
  r.rd .DLK_LCFG_EN_LINK d ≠ 0 && h.valid && r.tagRule d .A h type = 0 && (r.dl d).fresh h.seq &&
    decide (ver ≤ (r.received d .A h).rd .DLK_LSTATE_VER d)
theorem testPasses_passes (r : Replica) (o type ver : Nat) (h : testPasses r o type ver = true) : r.passes 11 .A (testHdr o) type ver := by
  simp only [testPasses, Bool.and_eq_true, decide_eq_true_eq, ne_eq] at h
  exact ⟨by simpa using h.1.1.1.1, Or.inl rfl, h.1.1.1.2, by simpa using h.1.1.2, h.1.2, h.2⟩
theorem witness_DispenserLinks :
    testState.site.drives .A = true ∧ (testState.site.pav .A).inStep = true ∧ testPasses (testDl []) 0 0x05 0 = true ∧
    testPasses (testDl []) 0 0x0F 3 = true ∧ testPasses (testDl []) 0 0xFF 0 = true ∧ testPasses (testDl []) 0 0x77 0 = true ∧
    (let r := testDl [(.DLK_LSTATE_STATE, 11, 0)]
     let q := r.received 11 .A (testHdr 0)
     testPasses r 0 0x01 0 = true ∧ q.dstate 11 = dsDown ∧ (q.dl 11).unitA = none ∧ (q.dl 11).unitB = none ∧ (q.dl 11).lastUnit = none ∧
       q.lanesOf 11 = 1 ∧ commonVer 7 (q.rd .DLK_CTRL_VERS) ≠ 0 ∧ commonVer 8 (q.rd .DLK_CTRL_VERS) = 0) ∧
    (let r := testDl [(.DLK_LSTATE_STATE, 11, 2), (.DLK_CTRL_AUTHREQ, 0, 1)]
     let q := r.received 11 .A (testHdr 0)
     testPasses r 0 0x03 0 = true ∧ q.rd .DLK_CTRL_AUTHREQ = 1 ∧ (q.dl 11).unacked = [] ∧ q.dstate 11 = dsAuth ∧ q.lanesOf 11 = 1) ∧
    (let r := (testDl []).setDl 11 { unacked := [{ seq := 4, type := 0x40, outlet := 0, body := [], left := 0 }, { seq := 5, type := 0x40, outlet := 1, body := [], left := 2 }] }
     (((r.dl 11).unacked.find? fun x => x.seq = 4).map (·.left)) = some 0 ∧ (((r.dl 11).unacked.find? fun x => x.seq = 5).map (·.left)) = some 2 ∧
       r.dstate 11 = dsActive ∧ r.rd .DLK_LCFG_EN_LINK 11 = 1 ∧ (r.dl 11).sentA = false) ∧
    (let r := testRegs [(.DLK_LANEB_UP, 0, 0x800)]
     bitOf (r.rd .DLK_LANEB_UP) 11 = true ∧ r.lanesOf 11 = 2) ∧
    (testDl [(.DLK_OSTATE_STATE, 22, 6)]).ostate 22 = osCharging ∧ (testDl [(.DLK_LSTATE_STATE, 11, 5)]).dstate 11 = dsFault := by decide
theorem witness_DispenserOutlets :
    (testHdr 1).outlet = (1 : Fin 2).val ∧
    (let q := (testDl [(.DLK_OSTATE_STATE, 23, 1)]).received 11 .A (testHdr 1)
     testPasses (testDl [(.DLK_OSTATE_STATE, 23, 1)]) 1 0x10 0 = true ∧ q.ostate 23 = osIdle ∧ (q.vs 23).linkUp = false ∧
       testPasses (testDl [(.DLK_OSTATE_STATE, 23, 1)]) 1 0x13 0 = true) ∧
    (let q := (testDl [(.DLK_OSTATE_STATE, 23, 2)]).received 11 .A (testHdr 1)
     testPasses (testDl [(.DLK_OSTATE_STATE, 23, 2)]) 1 0x10 0 = true ∧ q.ostate 23 = osPlugged ∧ q.chooseProto 23 7 ≠ 0 ∧
       testPasses (testDl [(.DLK_OSTATE_STATE, 23, 2)]) 1 0x42 0 = true ∧ q.awaits 23 = true ∧ (q.vs 23).asked = none) ∧
    (let r := (testDl [(.DLK_OSTATE_STATE, 23, 2)]).setVs 23 { linkUp := true, shook := true }
     let q := r.received 11 .A (testHdr 1)
     testPasses r 1 0x20 0 = true ∧ testPasses r 1 0x21 0 = true ∧ (q.vs 23).linkUp = true ∧ (q.vs 23).shook = true ∧ q.ostate 23 = osPlugged ∧
       q.ctxOrphaned 0 46 = false ∧ q.ctxOrphaned 0 47 = false) ∧
    (let q := (testDl [(.DLK_OSTATE_STATE, 23, 3)]).received 11 .A (testHdr 1)
     testPasses (testDl [(.DLK_OSTATE_STATE, 23, 3)]) 1 0x13 0 = true ∧ q.ostate 23 = osNegotiating) ∧
    (let q := (testDl [(.DLK_OSTATE_STATE, 23, 6)]).received 11 .A (testHdr 1)
     testPasses (testDl [(.DLK_OSTATE_STATE, 23, 6)]) 1 0x15 0 = true ∧ testPasses (testDl [(.DLK_OSTATE_STATE, 23, 6)]) 1 0x41 0 = true ∧
       q.energised 23 = true ∧ osNegotiating ≤ q.ostate 23 ∧ q.ostate 23 ≤ osCharging ∧ testPasses (testDl []) 1 0x50 2 = true) ∧
    (let r : Replica := { (testDl []).setVs 23 { asked := some (1, false, []), pump := some 100 } with params := Mem.wrN [] (2 ^ 16 + 23 * 2 ^ 10 + 24) 2 9 }
     (r.vs 23).asked ≠ none ∧ (vget r.alloc.coolant 23 {}).flow < r.cab 23 24 2 ∧ (r.vs 23).pump = some 100 ∧
       (vget r.alloc.coolant 23 {}).pumpFault = false) := by decide
theorem witness_OutletTimers :
    (testState.site.pav .A).inStep = true ∧ (testRegs [(.DLK_OSTATE_STATE, 23, 2)]).ostate 23 = osPlugged ∧
    (let r := (testRegs [(.DLK_OSTATE_STATE, 23, 3)]).setVs 23 { lockCmd := true }
     r.ostate 23 = osNegotiating ∧ r.startMet 23 = false ∧ (r.vs 23).lockCmd = true ∧ (r.vs 23).lock ≠ some 1 ∧ osNegotiating ≤ r.ostate 23 ∧ r.ostate 23 ≤ osCharging) ∧
    (testRegs [(.DLK_OSTATE_STATE, 23, 4)]).ostate 23 = osCableCheck ∧ (testRegs [(.DLK_OSTATE_STATE, 23, 5)]).ostate 23 = osPrecharge ∧
    (testRegs [(.DLK_OSTATE_STATE, 23, 6)]).ostate 23 = osCharging ∧
    (let r := (testRegs [(.DLK_OSTATE_STATE, 23, 7)]).setOut 23 { stopRun := 4 }
     r.ostate 23 = osStopping ∧ r.stopped 23 = false ∧ 4 ≤ (r.out 23).stopRun) := by decide
/-- Outlet 23 with its head in a state. -/
def testHead (st : Nat) (f : Meter → Meter) : Replica := let r := testDl [(.MET_OSTATE_HEAD, 23, st)]
  r.setMeter 23 (f (r.meter 23))
def testIdentBody : List Byte := leBytes 1 1 ++ leBytes 1 1 ++ leBytes 4 0 ++ leBytes 8 9 ++ leBytes 2 0 ++ leBytes 4 1 ++ leBytes 4 1 ++ leBytes 4 62500 ++
  leBytes 1 3 ++ leBytes 3 0
def testKeyHead : Replica := let r := testHead 1 id
  r.wr .KEY_SATTR_ATTR (14 + 16 + 512 * 31 + 16384 * 0) 0
theorem witness_SensorHeads :
    (testHdr 1).outlet = (1 : Fin 2).val ∧ testIdentBody.length = 32 ∧
    (let q := testKeyHead.received 11 .A (testHdr 1)
     let a := q.adoptMeter testState.site.env 23
     testPasses testKeyHead 1 0x31 0 = true ∧ a.head 23 = headIdent ∧ byteAt testIdentBody 1 ≠ 0 ∧ fieldAt testIdentBody 24 4 = 62500 ∧
       3 ≤ byteAt testIdentBody 28 ∧ kVI (fieldAt testIdentBody 16 4) (fieldAt testIdentBody 20 4) < 2 ^ 64 ∧
       kII (fieldAt testIdentBody 20 4) (a.meter 23).rCable < 2 ^ 64 ∧ fieldAt (a.meter 23).record 12 8 = 0 ∧ a.headKey 23 ≠ none ∧
       q.head 23 = headIdent) ∧
    (let q := (testHead 2 id).received 11 .A (testHdr 1)
     testPasses (testHead 2 id) 1 0x31 0 = true ∧ q.head 23 = headAuth ∧ (q.ctx 2 23).isNone = true) ∧
    (let r := (testHead 2 id).setCtx 2 23 (some { cls := 2, slot := 0, peer := 9 })
     testPasses r 1 0x31 0 = true ∧ (r.received 11 .A (testHdr 1)).head 23 = headAuth ∧ ((r.received 11 .A (testHdr 1)).ctx 2 23).isSome = true) ∧
    (let q := (testHead 3 id).received 11 .A (testHdr 1)
     let body := leBytes 4 0 ++ leBytes 2 0
     testPasses (testHead 3 id) 1 0x30 0 = true ∧ q.head 23 = headStreaming ∧ (q.meter 23).orphaned = false ∧ (q.meter 23).next ≤ fieldAt body 0 4 ∧
       (q.meter 23).taken = [] ∧ (q.meter 23).frags = [] ∧ (q.meter 23).missed = []) ∧
    (let r := testHead 3 fun m => { m with frags := [(0, 0, leBytes 4 0x0A01 ++ leBytes 4 0), (0, 1, leBytes 8 0)] }
     let q := r.received 11 .A (testHdr 1)
     let body := leBytes 4 0 ++ leBytes 1 0x82 ++ leBytes 8 0
     let block := (leBytes 4 0x0A01 ++ leBytes 4 0) ++ leBytes 8 0 ++ body.drop 5
     testPasses r 1 0x30 0 = true ∧ (q.meter 23).frags = [(0, 0, leBytes 4 0x0A01 ++ leBytes 4 0), (0, 1, leBytes 8 0)] ∧ byteAt body 4 % 128 = 2 ∧
       fieldAt block 0 2 = 0x0A01 ∧ fieldAt block 4 4 = 0 ∧ (q.meter 23).next = 0 ∧ bitOf (fieldAt block 12 2) 2 = false ∧ (q.meter 23).tx.isNone = true ∧
       0 ≤ eExp ((samplePairs block).foldl (BlockSums.step (q.meter 23).iSt (q.meter 23).tZc) { exporting := none, idle := 0 }) (kVI 0 0) (kII 0 0)) ∧
    (let r := testHead 3 fun m => { m with frags := [(0, 0, leBytes 4 0x0A01 ++ leBytes 4 0), (0, 1, leBytes 4 0 ++ leBytes 4 4)] }
     let body := leBytes 4 0 ++ leBytes 1 0x82 ++ leBytes 8 0
     let block := (leBytes 4 0x0A01 ++ leBytes 4 0) ++ (leBytes 4 0 ++ leBytes 4 4) ++ body.drop 5
     testPasses r 1 0x30 0 = true ∧ fieldAt block 0 2 = 0x0A01 ∧ fieldAt block 4 4 = 0 ∧ bitOf (fieldAt block 12 2) 2 = true) ∧
    (let r := testHead 3 fun m => { m with missed := [0] }
     r.head 23 = headStreaming ∧ (r.meter 23).missed.contains (r.meter 23).next = true ∧ (r.meter 23).taken = [] ∧
       (r.wr .DLK_OSTATE_STATE 6 23).ostate 23 = osCharging) := by decide
/-- Outlet 23 in service with safety channel 31. -/
def testSafe (r : Replica) : Replica := { r with safety := { r.safety with inForce := padTo 580 (padTo 8 [] ++ leBytes 4 0x800000 ++ padTo 548 [] ++ leBytes 1 31) } }
set_option maxRecDepth 20000 in
theorem witness_MeterWritesAndSafetyInputs_channel : (testSafe {}).channelOf 23 = some 31 := by decide
theorem witness_MeterWritesAndSafetyInputs :
    (testState.site.pav .A).inStep = true ∧ testState.site.now / 2 ^ 31 % (testState.site.pav .A).rep.rd .MET_CTRL_SAVE_INT = 0 ∧
    (let m := testWith (((testRegs [(.MET_STATUS_COPY_A, 0, 1), (.MET_STATUS_COPY_B, 0, 1)])).legalWrite 0x30000000 [1] none)
     m.site.leader = some .A ∧ m.site.privOpen = true ∧ (m.site.pav .A).rep.legal.writes = [{ addr := 0x30000000, data := [1], forSave := none }] ∧
       (m.site.pav .A).rep.rd .MET_STATUS_COPY_A = 1 ∧ (m.site.pav .A).rep.rd .MET_STATUS_COPY_B = 1) ∧
    (let r := testRegs [(.MET_MTP_EN, 3, 1), (.MET_MTPB_BACKLOG, 3, 2)]
     r.rd .MET_MTP_EN 3 = 1 ∧ 0 < r.rd .MET_MTPB_BACKLOG 3) ∧
    (let c : Common := ({} : Common).wr .SIO_TPEN_EN 15
     let c := { c with sio := { c.sio with stayRun := vput c.sio.stayRun 15 1 } }
     bitOf (c.rd .SIO_TPEN_EN) (c.tpOf 15) = true ∧ c.tpOf 15 < 4 ∧ (0x8000#16).getLsbD 15 = true ∧ vget c.sio.stayRun 15 0 = 1 ∧
       c.rd .SIO_RESET_JAM = 0 ∧ bitOf (c.rd .SIO_GATE_GATE) 31 = false ∧ bitOf ((c.wr .SIO_GATE_GATE 0x80000000).rd .SIO_GATE_GATE) 31 = true) := by decide
theorem witness_SafetyActs :
    (testState.site.pav .A).inStep = true ∧
    (let r : Replica := ({} : Replica).setSo 23 { clearing := true, weld := .drop }
     (r.so 23).clearing = true ∧ (r.so 23).weld = .drop ∧ (r.so 23).trigger = false ∧ r.classL = false) ∧
    (let r := (testRegs [(.DLK_OSTATE_STATE, 23, 8)]).setSo 23 { weld := .comparing [true, true] }
     (r.so 23).weld = .comparing [true, true] ∧ r.ostate 23 = osWeldCheck ∧
       ((r.setSo 23 { weld := .comparing [] }).so 23).weld = .comparing [] ∧ (r.vs 23).conn = false) ∧
    (testRegs [(.DLK_OSTATE_STATE, 23, 6)]).ostate 23 = osCharging ∧ (testRegs [(.DLK_OSTATE_STATE, 23, 6)]).energised 23 = true ∧
    (testRegs [(.SAF_STATUS_DEGRADED, 0, 1)]).rd .SAF_STATUS_DEGRADED = 1 ∧
    (testRegs [(.DLK_OSTATE_STATE, 23, 9)]).ostate 23 = osUnplugWait ∧ bitOf ((testRegs []).rd .SAF_UNLOCK_UNLOCK) 23 = false := by decide
set_option maxRecDepth 20000 in
theorem witness_SafetyActs_source : (testSafe {}).inService 23 = true ∧ (testSafe {}).safOut 23 1 1 = 0 := by decide
/-- The common block with registers and channel 31's switch at given values. -/
def testCom (l : List (Field × Nat × Nat)) (x : Switch) : Common := (l.foldl (fun c y => c.wr y.1 y.2.2 y.2.1) ({} : Common)).setSw 31 x
theorem witness_LoadSwitchTrips :
    testState.site.privOpen = true ∧ (testState.site.pav .A).inStep = true ∧
    (let c := testCom [(.LSW_CCFG_TYPE, 31, 2), (.LSW_STATUS_BANK_IN, 0, 8), (.LSW_STATUS_VB_OK, 0, 8)] {}
     c.rd .LSW_STATUS_LATCHED = 0 ∧ c.chSafety 31 = false ∧ 1 ≤ c.chType 31 ∧ c.rd .LSW_CCTRL_ON 31 = 0 ∧ c.canSwitch 31 = true ∧ c.chState 31 ≠ chFault ∧
       ((c.setSw 31 { zeroed := true }).sw 31).zeroed = true) ∧
    (let c := testCom [(.LSW_CCFG_TYPE, 31, 3), (.LSW_CCTRL_ON, 31, 1), (.LSW_CSTAT_STATE, 31, 1), (.LSW_CSTAT_LEFT, 31, 2)] {}
     c.rd .LSW_CCTRL_ON 31 = 1 ∧ c.chState 31 ≠ chFault ∧ c.conducts 31 = true ∧ c.chState 31 ≠ chWarmup ∧ c.chState 31 ≠ chPull ∧
       0 < c.rd .LSW_CSTAT_LEFT 31 ∧ (∀ j ∈ bankChans (31 / 8), j ≠ 31 → (c.sw j).shortAt = none) ∧ (bankChans 3).filter c.conducts = [31] ∧
       31 / 8 = (3 : Bank).val ∧ ((bankChans 3).filter fun j => c.conducts j && !c.chSafety j).getLast? = some 31 ∧ c.chState 31 ≠ chOff ∧
       ((bankChans 2).filter fun j => c.conducts j && !c.chSafety j) = [] ∧
       bitOf ({ c with lsw := { c.lsw with cutting := 15 } } : Common).lsw.cutting 3 = true) ∧
    (let c := testCom [(.LSW_CCFG_TYPE, 31, 1), (.LSW_CCTRL_ON, 31, 1), (.LSW_CSTAT_CAUSE, 31, 7), (.LSW_STATUS_BANK_IN, 0, 8)] {}
     c.chState 31 = chOff ∧ c.commanded 31 = true ∧ c.rd .LSW_STATUS_LATCHED = 0 ∧ c.rd .LSW_CSTAT_CAUSE 31 = caVbankLow ∧ 1 ≤ c.chType 31 ∧ c.chType 31 ≤ 4 ∧
       bitOf (c.rd .LSW_STATUS_BANK_IN) 3 = true ∧ (c.sw 31).hot = false ∧ bitOf c.lsw.out 2 = false ∧ bitOf (c.rd .LSW_STATUS_BANK_IN) 2 = false) ∧
    (let c := testCom [(.LSW_CSTAT_STATE, 31, 6), (.LSW_CCFG_TYPE, 31, 1), (.LSW_STATUS_BANK_IN, 0, 8), (.LSW_STATUS_VB_OK, 0, 8)] {}
     c.chState 31 = chRetryWait ∧ (c.sw 31).pending = none ∧ (c.sw 31).attrWait = false ∧ (c.sw 31).lampFrom = none ∧ (c.sw 31).hot = false ∧
       c.canSwitch 31 = true ∧ ((c.setSw 31 { hot := true }).sw 31).hot = true) := by decide
theorem witness_LoadSwitchWindows :
    (testCom [(.LSW_CSTAT_STATE, 31, 2)] {}).chState 31 = chWarmup ∧ (testCom [(.LSW_CSTAT_STATE, 31, 4)] {}).chState 31 = chPull ∧
    (testCom [(.LSW_CSTAT_STATE, 31, 3)] {}).chState 31 = chStart ∧
    (let c := testCom [(.LSW_CSTAT_STATE, 31, 1), (.LSW_CSTAT_LEFT, 31, 1)] { pending := some (0, 3) }
     c.conducts 31 = true ∧ c.chState 31 ≠ chWarmup ∧ (c.sw 31).pending ≠ none ∧ 0 < c.rd .LSW_CSTAT_LEFT 31 ∧ c.rd .LSW_STATUS_LATCHED = 0 ∧
       c.chState 31 = chOn ∧ c.rd .LSW_CSTAT_OPEN 31 = 0 ∧ c.bankGated (31 / 8) = false ∧ c.chState 31 ≠ chOff ∧ (c.sw 31).due = false) ∧
    (let c := testCom [(.LSW_CSTAT_STATE, 31, 6), (.LSW_CCFG_TYPE, 31, 1), (.LSW_STATUS_BANK_IN, 0, 8), (.LSW_STATUS_VB_OK, 0, 8)] { attrWait := true }
     (c.sw 31).attrWait = true ∧ c.chState 31 = chRetryWait ∧ (c.sw 31).lampFrom = none ∧ c.canSwitch 31 = true ∧
       bitOf ({ c with lsw := { c.lsw with out := 15 } } : Common).lsw.out 3 = true) ∧
    (let m : State := { site := { com := { lsw := { claimSeen := true } } } }
     m.site.com.lsw.claimSeen = true ∧ m.site.leader = none) ∧
    (let m : State := { testState with site := { testState.site with com := testCom [(.LSW_STATUS_LATCHED, 0, 1), (.LSW_CSTAT_STATE, 31, 1)] {} } }
     m.site.com.rd .LSW_STATUS_LATCHED = 1 ∧ m.site.leader = some .A ∧ m.site.com.chSafety 31 = false ∧ m.site.com.chState 31 ≠ chFault ∧
       (m.site.pav .A).loc.rd .LSW_CCTRL_ON 31 = 0 ∧ m.site.com.conducts 31 = true ∧
       ((testLocal .A fun l => l.wr .LSW_CCTRL_ON 1 31).site.pav .A).loc.rd .LSW_CCTRL_ON 31 = 1) := by decide
/-- A replica with session 15 as given, a root in slot 4, and registers. -/
def testSes (x : Session) (l : List (Field × Nat × Nat)) : Replica :=
  (testRegs ([(.KEY_SATTR_ATTR, 4, attrWord 1 1 1 7 4 0 0)] ++ l)).setSes 15 x
/-- An open session 15 of principal 9 in a role, major 2. -/
def testHost (role : Nat) (l : List (Field × Nat × Nat)) : Replica :=
  testSes { phase := 3, principal := 9, role, major := 2, anchor := 4, waiting := 1 } l
/-- A replica's open session 15 hears; and no outlet is in COMMISSION. -/
def testHears (r : Replica) : Bool :=
  (r.ses 15).phase = 3 && r.keyState (r.ses 15).anchor = 1 && ((r.keyChain 4 (r.ses 15).anchor).all fun k => r.keyState k = 1) &&
    (List.range 24).all fun o => r.ostate o ≠ osCommission
theorem testHears_hears (r : Replica) (h : testHears r = true) : r.hears 15 ∧ r.calm := by
  simp only [testHears, Bool.and_eq_true, decide_eq_true_eq, ne_eq, List.all_eq_true, List.mem_range, decide_not, Bool.not_eq_true',
    decide_eq_false_iff_not] at h
  exact ⟨⟨h.1.1.1, h.1.1.2, by simpa using h.1.2⟩, h.2⟩
theorem witness_HostConnections :
    (testState.site.pav .A).inStep = true ∧ testState.site.drives .A = true ∧ testState.site.leader = some .A ∧
    (testRegs [(.HST_ADDR4_IP4, 0, 5)]).hasIp4 (laneSet .A 0) = true ∧ (testRegs [(.HST_ADDR6_IP6, 3, 5)]).hasIp6 (laneSet .A 0) = true ∧
    ((List.range 16).find? fun k => ((testSes {} []).ses k).phase = 0 && ((testSes {} []).ses k).waiting = 0) = some 0 ∧
    (let r : Replica := (List.range 16).foldl (fun r k => r.setSes k { phase := 1 }) {}
     ((List.range 16).find? fun k => (r.ses k).phase = 0 && (r.ses k).waiting = 0) = none) ∧
    (let r := testSes { phase := 1 } [(.KEY_STATUS_LC, 0, 2), (.KEY_SATTR_ATTR, 5, attrWord 5 1 1 7 4 0 0), (.KEY_SATTR_ATTR, 6, attrWord 7 1 1 7 4 0 0)]
     (r.ses 15).phase = 1 ∧ r.anchorOk 5 = true ∧ r.certValid testState.site.env 0 9 = true ∧ (r.keyOf 7).isSome = true ∧ r.gate.noRandom = false) ∧
    ((testSes { phase := 2 } []).ses 15).phase = 2 ∧ (testSes {} []).majorOf 3 ≠ 0 ∧ (testSes {} []).majorOf 4 = 0 ∧
    (let r := testHost 1 []
     testHears r = true ∧ (r.hosts.tags.find? fun e => e.principal = (r.ses 15).principal && e.tag = 7) = none ∧ (r.ses 15).waiting < 8 ∧
       commandCodes.contains 0x0999 = false ∧ commandCodes.contains 0x0904 = true ∧ (r.ses 15).major = 2 ∧ (r.ses 15).dropped = 0 ∧
       (r.ses 15).retx < r.rd .HST_CTRL_TCP_RETRIES ∧ (r.ses 15).lane = .A ∧ (r.ses 15).port = (0 : Fin 2).val) ∧
    (let r := testSes { phase := 3, retx := 5 } []
     r.rd .HST_CTRL_TCP_RETRIES ≤ (r.ses 15).retx) := by decide
/-- An open session 15 of principal 9 in a role, with an operation of index 2, generation 257 (handle 0x0101_0002). -/
def testOp (role : Nat) (done : Bool) (kind : OpKind) : Replica :=
  (testHost role [(.HST_STATUS_LOCKSES, 0, 15)]).withHosts fun h =>
    { h with ops := [{ index := 2, gen := 257, principal := 9, kind, done, bytes := [1, 2, 3] }] }
theorem witness_HostOperationsAndTime :
    (testState.site.pav .A).inStep = true ∧
    (let r := (testOp 1 true .stage).setSes 15 {}
     ((r.hosts.ops.find? fun y => y.index = (2 : Fin 512).val).map (·.done)) = some true ∧ (r.sessions fun y => y.principal = 9) = []) ∧
    (let r := testOp 1 true .stage
     (r.ses 15).phase = 3 ∧ r.admits 15 rolesAny false = none ∧ r.admits 15 rolesBoth false = none ∧ r.rd .HST_STATUS_LOCKSES ≠ 31 ∧
       testHears r = true ∧ (r.opOf 0x01010002).map (·.done) = some true ∧ (r.opOf 0x01010002).map (·.principal) = some (r.ses 15).principal ∧
       r.opOf 7 = none ∧ 3 ≤ (((r.opOf 0x01010002).map (·.bytes)).getD []).length ∧ (∀ m < 16, (r.ses m).notBefore ≤ 0 ∧ 0 ≤ (r.ses m).notAfter) ∧
       (r.ses 15).notAfter < 5) ∧
    ((testOp 1 false (.capture 3)).opOf 0x01010002).map (fun x => (x.done, x.kind)) = some (false, .capture 3) ∧
    ((testOp 1 false (.keyUpdate 5)).opOf 0x01010002).map (fun x => (x.done, x.kind)) = some (false, .keyUpdate 5) ∧
    (let r := (testOp 1 false (.log 0 4095 1)).withLegal fun g => { g with slots := Sparse.put {} g.slots 4095 { state := 2 } }
     ((r.opOf 0x01010002).map (·.kind)) = some (.log 0 4095 1) ∧ (r.slot 4095).state ≠ 0) := by decide
theorem witness_HostOutletCommands :
    (testState.site.pav .A).inStep = true ∧
    (let r : Replica := { (testHost 1 [(.DLK_OSTATE_STATE, 23, 2)]).setVs 23 { asked := some (3, false, []), certAsked := some 2, reqNo := 3 } with
       owners := vput (Vector.replicate 24 none) 23 (some 9) }
     (r.ses 15).phase = 3 ∧ r.admits 15 rolesOp false = none ∧ r.admits 15 rolesBoth false = none ∧ r.admits 15 rolesAll false = none ∧
       vget r.owners 23 none = some (r.ses 15).principal ∧ vget r.owners 22 none ≠ some (r.ses 15).principal ∧ vget r.owners 22 none = none ∧
       r.awaits 23 = true ∧ r.awaits 22 = false ∧ (r.vs 23).asked = some (3, false, []) ∧ (r.vs 23).certAsked = some 2 ∧ 3 ≤ (r.vs 23).reqNo ∧
       r.ostate 23 = osPlugged ∧ r.ostate 23 < osCableCheck) ∧
    (let r := testHost 1 [(.DLK_OSTATE_STATE, 23, 6), (.DLK_OSTATE_STATE, 22, 1), (.DLK_OSTATE_STATE, 21, 10), (.DLK_OSTATE_STATE, 20, 10),
       (.DLK_OSTATE_WELD_OWED, 20, 1), (.DLK_LSTATE_STATE, 10, 4)]
     osCableCheck ≤ r.ostate 23 ∧ r.ostate 23 ≤ osCharging ∧ r.ostate 22 = osIdle ∧ r.ostate 21 = osFault ∧ r.rd .DLK_OSTATE_WELD_OWED 21 = 0 ∧
       r.ostate 20 = osFault ∧ r.rd .DLK_OSTATE_WELD_OWED 20 = 1 ∧ r.dstate (20 / 2) = dsActive ∧ r.ostate 23 ≠ osFault) ∧
    (let r := testHost 2 [(.DLK_OSTATE_STATE, 22, 1), (.DLK_OSTATE_STATE, 21, 11), (.DLK_OSTATE_STATE, 20, 2), (.HST_STATUS_LOCKSES, 0, 15)]
     (r.ses 15).phase = 3 ∧ r.admits 15 rolesOem true = none ∧ r.ostate 22 = osIdle ∧ r.ostate 21 = osCommission ∧ r.ostate 20 = osPlugged) := by decide
theorem witness_HostConfiguration :
    (testState.site.pav .A).inStep = true ∧ testState.site.leader = some .A ∧ (testState.site.commitCheck false).1 ≠ coOk ∧
    (let r := testHost 1 []
     (r.ses 15).phase = 3 ∧ r.admits 15 rolesBoth false = none ∧ r.admits 15 rolesAll false = none ∧ r.rd .HST_STATUS_LOCKSES = 31) ∧
    (let r := testHost 2 [(.HST_STATUS_LOCKSES, 0, 3), (.CTL_CAPCTRL_STATE, 3, 4)]
     r.rd .HST_STATUS_LOCKSES ≠ 31 ∧ r.rd .HST_STATUS_LOCKSES ≠ 15 ∧ r.rd .CTL_CAPCTRL_STATE 3 = 4 ∧ r.rd .CTL_CAPCTRL_STATE 2 ≠ 4 ∧
       ({ r with layout := { r.layout with resultArea := 64 } } : Replica).resultFits (.capture 3) = true ∧ r.hosts.ops.length < r.quotaOf 2) ∧
    (let r := testHost 2 [(.HST_STATUS_LOCKSES, 0, 15), (.CTL_OMODE_MODE, 23, 3), (.CTL_CAPSIZE_SIZE, 3, 1)]
     r.admits 15 rolesOem true = none ∧ r.admits 15 rolesBoth true = none ∧ testHears r = true ∧ recordOf 0x0B01 = some (recSafety, 1, 580) ∧
       recordOf 0x0999 = none ∧ r.running isTune = [] ∧ r.mode 23 = modeCharging ∧ r.phase < 2 ∧ (leBytes 24 0x400).length = 24 ∧
       fieldAt (leBytes 24 0x400) 0 4 / 256 % 8 ≤ 4 ∧ (leBytes 44 0xFF00).length = 44 ∧ fieldAt (leBytes 44 0xFF00) 0 4 / 256 % 256 ≠ 0 ∧
       ((List.range 4).find? fun i => r.rd .CTL_INJCTRL_ACTIVE i = 0 && !(vget r.injs i {}).armed && r.rd .CTL_CAPSIZE_SIZE i ≠ 0 &&
          (r.rd .CTL_CAPCTRL_STATE i = 0 || r.rd .CTL_CAPCTRL_STATE i = 4)) = some 3 ∧
       (∀ j < 4, r.rd .CTL_INJCTRL_ACTIVE j = 0 ∧ (vget r.injs j {}).armed = false)) ∧
    2 ≤ (testHost 2 [(.UPD_STATUS_PHASE, 0, 4)]).phase := by decide
theorem witness_HostDeviceCommands :
    (testState.site.pav .A).inStep = true ∧ testState.site.leader = some .A ∧ testState.site.handbackFree = true ∧
    (testState.site.pav .A).loc.inputs = [] ∧ (testState.site.pav .A).loc.log.length < 2048 ∧ testState.site.ticks < 0 + 12000000000 ∧
    (let r := (testHost 1 [(.KEY_STATUS_LC, 0, 2)]).withLegal fun g =>
       { g with slots := Sparse.put {} (Sparse.put {} g.slots 4095 { state := 2, txNo := 7, readouts := 1 }) 4094 { state := 2 } }
     (r.ses 15).phase = 3 ∧ r.admits 15 rolesAny false = none ∧ r.admits 15 rolesOp false = none ∧ r.admits 15 rolesBoth false = none ∧
       ({ r with layout := { r.layout with resultArea := 2 ^ 20 } } : Replica).resultFits (.log 0 4095 512) = true ∧ r.keyOf 11 = none ∧
       (r.slot 4095).state = 2 ∧ 0 < (r.slot 4095).readouts ∧ (r.slot 4094).state = 2 ∧ (r.slot 4094).readouts = 0 ∧ r.phase < 2 ∧
       r.lifeCycle = 2 ∧ r.hosts.returning = .no ∧ r.hosts.ret = none ∧
       (r.withHosts fun h => { h with ret := some (2, leBytes 8 1) }).hosts.ret = some (2, leBytes 8 1) ∧ 2 ≠ (r.ses 15).role ∧ r.hosts.ops = [] ∧
       r.hosts.ops.length < r.quotaOf 1 ∧ r.phase = 0 ∧ (leBytes 8 1).length = 8) ∧
    (testHost 2 [(.KEY_STATUS_LC, 0, 2), (.KEY_SATTR_ATTR, 9, attrWord 11 1 2 4 9 0 0)]).keyOf 11 ≠ none ∧
    (testHost 2 []).admits 15 rolesOem false = none ∧ (testHost 2 []).lifeCycle ≠ 2 ∧
    bitOf ({ testState.site.com with lsw := { testState.site.com.lsw with out := 8 } } : Common).lsw.out 3 = true ∧
    (let r := testHost 3 [(.KEY_STATUS_LC, 0, 3)]
     r.admits 15 [3] false = none ∧ r.lifeCycle = lcReturn ∧ r.hosts.chal = none ∧
       (r.withHosts fun h => { h with chal := some ([], 0) }).hosts.chal = some ([], 0)) ∧ (testHost 3 []).lifeCycle ≠ lcReturn := by decide
/-- Both replicas in a phase of an activation that Pavilion A leads, the OEM's session 15 with the lock. -/
def testUpd (ph : Nat) (l : List (Field × Nat × Nat)) (u : Update) : Replica :=
  { testHost 2 ([(.HST_STATUS_LOCKSES, 0, 15), (.UPD_STATUS_PHASE, 0, ph)] ++ l) with upd := u }
theorem witness_UpdatesAndReturn :
    testState.site.leader = some .A ∧ (testState.site.pav .A).inStep = true ∧
    (let r := testUpd 0 [] {}
     (r.ses 15).phase = 3 ∧ r.admits 15 rolesOem true = none ∧ r.phase = 0 ∧ r.running isStage = [] ∧ r.rd .UPD_OLDPROG_OUTLETS = 0 ∧
       r.rd .UPD_OLDSAF_OUTLETS = 0 ∧ r.hosts.ops.length < r.quotaOf 2 ∧ (testWith r).site.actBusy r = false ∧
       r.rd .UPD_STATUS_PENDING_PARAM = 0 ∧ r.rd .UPD_STATUS_PREV_VALID = 0) ∧
    (let r := testUpd 1 [] { staging := some (0, 9, [], 7), bytes := [1, 2] }
     r.phase ≠ 0 ∧ r.upd.staging = some (0, 9, [], 7) ∧ 3 ≠ r.upd.bytes.length ∧ 2 = r.upd.bytes.length ∧ ([5] : List Byte).length ≤ 4096 ∧
       (testLoc 3).deltaFault (r.rd .UPD_STATUS_ACTIVE) 0 (r.upd.bytes ++ [5]) = none ∧ (r.upd.bytes ++ [5]).length < 9 ∧
       (testLoc 3).deltaFault 0 0 (r.upd.bytes ++ [5, 5, 5, 5, 5, 5, 5]) = none ∧ (r.upd.bytes ++ [5, 5, 5, 5, 5, 5, 5]).length = 9 ∧
       (testWith r).site.actBusy r = true) ∧
    (let r := (testUpd 0 [(.UPD_STATUS_PENDING_PARAM, 0, 1), (.UPD_STATUS_PREV_VALID, 0, 1), (.UPD_STATUS_STAGED, 0, 1)] {}).withHosts fun h =>
       { h with ops := [{ index := 2, gen := 257, principal := 9, kind := .stage, done := true }] }
     r.rd .UPD_STATUS_PENDING_PARAM = 1 ∧ r.rd .UPD_STATUS_PREV_VALID = 1 ∧ r.rd .UPD_STATUS_STAGED = 1 ∧
       (r.opOf 0x01010002).map (fun x => (x.principal, x.kind, x.done, x.result)) = some ((r.ses 15).principal, .stage, true, hsOk)) := by decide
theorem witness_UpdatesAndReturn_steps :
    (let q := testUpd 2 [] { act := some 7, paramOnly := true }
     (testWith q).site.actFirst = some .B ∧ q.phase = 2 ∧ q.upd.slWait = false ∧ (testWith q).site.redundant = true ∧ q.upd.paramOnly = true ∧
       (testWith q).site.mayRestart .B = true) ∧
    (testUpd 3 [] {}).phase = 3 ∧ (testUpd 4 [] {}).phase = 4 ∧ (testWith (testUpd 4 [] {})).site.actFirst = some .B ∧
    (testLoc 2).indicated = false ∧ ({ testLoc 2 with ind := { (testLoc 2).ind with ecc := true } } : Local).indicated = true ∧
    (testUpd 5 [] { slWait := true }).phase = 5 ∧ (testUpd 2 [] { slWait := true }).phase < 5 := by decide
theorem witness_UpdatesAndReturn_single :
    let q := testUpd 2 [(.STG_LCFG_LANES, 31, 1)] { act := some 7, paramOnly := true, lead := .B }
    let s : State := { site := { a := { loc := testLoc roleFollower, rep := q }, b := { loc := testLoc roleLeader, rep := q } } }
    s.site.leader = some .B ∧ s.site.actFirst = some .A ∧ s.site.redundant = true ∧ s.site.mayRestart .A = false := by decide
/-- A key update message for this unit and model, all but its named fields 0. -/
def testMsg (op slot signer alg counter attr klen : Nat) : List Byte :=
  leBytes 2 0x0F01 ++ leBytes 2 (256 + klen) ++ leBytes 1 op ++ leBytes 1 slot ++ leBytes 1 signer ++ leBytes 1 alg ++
    leBytes 8 Config.unitId ++ (leBytes 4 0x24480002 ++ leBytes 4 counter ++ leBytes 4 attr ++ leBytes 2 klen ++ leBytes (226 + klen) 0)
theorem testMsg_unit (op slot signer alg counter attr klen : Nat) : fieldAt (testMsg op slot signer alg counter attr klen) 8 8 = Config.unitId := by
  have h : ∀ x : BitVec 64, ofLe (leBytes 8 x.toNat) = x.toNat := by
    intro x
    simp only [leBytes, ofLe, BitVec.toNat_ofNat]
    omega
  exact h Config.unitWord
/-- DEPLOYED, with an operator's root in slot 4 and an AUTH key of it in slot 9. -/
def testKeys (lc : Nat) (l : List (Field × Nat × Nat)) : Replica :=
  testHost 1 ([(.KEY_STATUS_LC, 0, lc), (.KEY_SINFO_ALG, 4, 3), (.KEY_SATTR_ATTR, 9, attrWord 11 1 1 7 4 1 0)] ++ l)
set_option maxRecDepth 20000 in
theorem witness_KeyUpdates_install : (testKeys 2 []).keyCheck 1 (testMsg 1 127 4 1 1 (attrWord 11 0 1 7 4 0 0) 32) true true true = 0 := by
  unfold Replica.keyCheck
  simp only [testMsg_unit, ne_eq, not_true_eq_false]
  decide
set_option maxRecDepth 20000 in
theorem witness_KeyUpdates_generate : (testKeys 2 []).keyCheck 2 (testMsg 2 127 4 3 1 (attrWord 10 0 1 7 4 0 0) 0) true true true = 0 := by
  unfold Replica.keyCheck
  simp only [testMsg_unit, ne_eq, not_true_eq_false]
  decide
set_option maxRecDepth 20000 in
theorem witness_KeyUpdates_invalidate : (testKeys 2 []).keyCheck 3 (testMsg 3 9 4 0 2 0 0) true true true = 0 := by
  unfold Replica.keyCheck
  simp only [testMsg_unit, ne_eq, not_true_eq_false]
  decide
set_option maxRecDepth 20000 in
theorem witness_KeyUpdates_readpub : (testKeys 2 []).keyCheck 4 (testMsg 4 4 255 0 0 0 0) true true true = 0 := by
  unfold Replica.keyCheck
  simp only [testMsg_unit, ne_eq, not_true_eq_false]
  decide
set_option maxRecDepth 20000 in
theorem witness_KeyUpdates_advance :
    (testKeys 1 [(.KEY_SATTR_ATTR, 5, attrWord 1 1 2 7 5 0 0), (.KEY_SATTR_ATTR, 6, attrWord 7 1 2 7 5 0 0), (.KEY_SATTR_ATTR, 7, attrWord 10 1 2 7 5 0 0),
      (.KEY_SATTR_ATTR, 8, attrWord 5 1 2 7 5 0 0)]).keyCheck 5 (testMsg 5 255 5 0 2 0 0) true true true = 0 := by
  unfold Replica.keyCheck
  simp only [testMsg_unit, ne_eq, not_true_eq_false]
  decide
theorem witness_KeyUpdates :
    (testState.site.pav .A).inStep = true ∧ (testKeys 2 []).hosts.ops.length < (testKeys 2 []).quotaOf 1 ∧
    ((testKeys 2 []).ses 15).phase = 3 ∧ (testKeys 2 []).admits 15 [1, 2, 3] false = none ∧ (testKeys 2 []).hosts.ops = [] ∧
    (testKeys 2 []).gate.noRandom = false ∧ ({ (testKeys 2 []).gate with noRandom := true } : Gate).noRandom = true ∧
    (let r := testOp 1 false (.keyUpdate 127)
     (r.running fun k => match k with | .keyUpdate q => q = 127 | _ => false) ≠ [] ∧
       ((r.hosts.ops.find? fun x => x.index = (2 : Fin 512).val && !x.done).map fun x => (x.kind, x.detail)) = some (.keyUpdate 127, 0)) := by decide
/-- Pavilion A's shared SRAM with a descriptor at its start: OP, SLOT, CTX, a place for OUT_LEN bytes. -/
def testDesc (op slot ctx out : Nat) : Local :=
  { testLoc roleLeader with
    sram := Mem.wrBytes [] 0x10000000 (leBytes 2 op ++ leBytes 1 slot ++ leBytes 1 ctx ++ leBytes 16 0 ++ leBytes 4 out ++ leBytes 40 0) }
/-- A tested Gatehouse with the key of a usage in slot 9 (usages 5 and 15 are a pilot engine's, 7 and 8 its TLS keys). -/
def testGate (usage alg : Nat) (x : Option KeyContext) (hs : List Challenge) : Replica :=
  let r := testRegs [(.KEY_STATUS_SELFTEST_OK, 0, 1), (.KEY_STATUS_LC, 0, 2), (.KEY_SATTR_ATTR, 9, attrWord usage 1 1 7 9 0 0), (.KEY_SINFO_ALG, 9, alg)]
  { r with gate := { r.gate with contexts := vput r.gate.contexts 191 x, challenges := hs } }
/-- What the checks answer to the communication engine 8. -/
def testAsk (op usage alg slot ctx : Nat) (x : Option KeyContext) : Nat :=
  let l := testDesc op slot ctx 4096
  (testGate usage alg x []).ghCheck 8 op (l.ghDesc 0x10000000) (l.ghReq 0x10000000)
set_option maxRecDepth 20000 in
theorem witness_GatehouseRequests_checks :
    (testLoc roleLeader).powered = true ∧ (testLoc roleLeader).inReset = false ∧ testAsk 1 7 3 9 255 none = ghOk ∧ testAsk 2 5 3 9 255 none = ghOk ∧
    testAsk 3 7 3 9 191 none = ghOk ∧ testAsk 3 7 3 9 191 (some { cls := 5, slot := 9, peer := 0 }) = ghOk ∧ testAsk 4 15 1 9 191 none = ghOk ∧
    testAsk 5 15 1 9 191 none = ghOk ∧ testAsk 6 15 1 9 191 none = ghOk ∧ testAsk 7 8 4 255 191 (some { cls := 5, slot := 9, peer := 0 }) = ghOk ∧
    testAsk 8 7 3 255 255 none = ghOk ∧ testAsk 9 7 3 255 255 none = ghOk ∧ testAsk 10 7 3 255 191 none = ghOk ∧ testAsk 11 7 3 255 255 none = ghOk ∧
    testAsk 1 11 1 9 255 none ≠ ghOk := by decide
set_option maxRecDepth 20000 in
theorem witness_GatehouseRequests :
    (let q := (testDesc 1 9 191 4096).ghReq 0x10000000
     let r := testGate 15 3 none []
     q.slot < 128 ∧ usagePublic 7 = false ∧ usagePublic (r.keyUsage q.slot) = false ∧ 2 ≤ r.keyAlg q.slot ∧ sigLen (r.keyAlg q.slot) ≤ q.outLen ∧ q.ctx < 192 ∧
       vget r.gate.contexts q.ctx none = none ∧ 12 ≤ r.keyUsage q.slot ∧ 16 ≤ q.outLen ∧ r.gate.noRandom = false ∧ q.input.length + 16 ≤ q.outLen) ∧
    classOf 191 = 5 ∧ classOf 112 = authClass 15 ∧ (112 : Nat) < 192 ∧
    (let q := (testDesc 5 9 112 0).ghReq 0x10000000
     let r := testGate 15 1 none [{ ctx := 112, slot := 9, peer := 0, label := 4, lane := 0, c := [] }]
     (r.gate.challenges.find? fun x => x.slot = q.slot && x.peer = fieldAt q.param 0 8 && x.lane = byteAt q.param 8) ≠ none ∧ r.keyUsage q.slot ≠ 12 ∧
       vget r.gate.contexts q.ctx none = none) ∧
    (testGate 12 1 none []).keyUsage 9 = 12 ∧ testState.site.alone .A = false ∧ (testState.site.modLoc .B fun l => l.wr .FBR_STATUS_ROLE 0).alone .A = true ∧
    ((testState.site.eng .A (Fin.ofNat 12 8)).queues.get (Fin.ofNat 8 3)) = [] := by decide
/-- A frame with one byte of data, and a replica whose channel 1 is enabled, mailbox 31 in a state. -/
def testCanFrame : CanFrame := { ident := 0x123, ide := false, fdf := false, brs := false, esi := false, remote := false, dlc := 1, data := [7], time := 9 }
def testCan (st : Nat) (l : List (Field × Nat × Nat)) : Replica :=
  testRegs ([(.CAN_CCTRL_EN, 1, 1), (.CAN_MBCTRL_STATE, 63, st), (.CAN_FLT_ID_EN, 64, 1)] ++ l)
theorem witness_CanFrames :
    (testState.site.pav .A).inStep = true ∧ testState.site.leader = some .A ∧ testState.site.leader ≠ some .B ∧ testState.site.redundant = true ∧
    (testState.site.pav .A).loc.inputs = [] ∧ (testState.site.pav .A).loc.log.length < 64 ∧ testCanFrame.data.length ≤ 64 ∧
    (let r := testCan 0 []
     r.mbState 1 31 ≠ mbPending ∧ dlcBytes (r.rd .CAN_MBHDR_FDF 63 = 1) (r.rd .CAN_MBCTRL_DLC 63) ≤ r.rd .CAN_CCTRL_MAXP 1 ∧
       r.rd .CAN_MBHDR_FDF 63 ≠ 1 ∧ r.rd .CAN_MBCTRL_DL_EN 63 = 0 ∧ r.rd .CAN_CCTRL_EN 1 = 1 ∧ r.canState 1 < csBusOff ∧
       ({ testCanFrame with remote := true } : CanFrame).remote = true ∧ r.canState 1 = csActive) ∧
    (let r := testCan 0 [(.CAN_MBCTRL_DL_EN, 63, 1)]
     r.rd .CAN_MBCTRL_DL_EN 63 = 1 ∧ r.mbDeadline 1 31 ≤ testState.site.now) ∧
    (let r := testCan 1 [(.CAN_MBCTRL_DL_EN, 63, 1), (.CAN_CSTAT_TEC, 1, 119)]
     r.mbState 1 31 = mbPending ∧ (r.can 1).sending ≠ some (31 : Mailbox).val ∧ ((r.setCan 1 { sending := some 31 }).can 1).sending = some 31 ∧
       (r.can 1).onFail = none ∧ r.rd .CAN_CSTAT_TEC 1 + 8 < 128) ∧
    (testCan 0 [(.CAN_CSTAT_STATE, 1, 2)]).canState 1 = csBusOff ∧ ((testCan 0 []).can 1).busy = false ∧
    (testCan 0 []).canAccepts 1 testCanFrame = true ∧ (vget (testState.site.pav .B).loc.canRx 1 []).length < 64 ∧
    64 ≤ (List.replicate 64 testCanFrame).length ∧
    (let r := testCan 0 [(.CAN_CSTAT_STATE, 1, 3), (.CAN_CCTRL_WAKE, 1, 1)]
     r.canState 1 = csAsleep ∧ r.canWakes 1 none = true) ∧
    (let t := testState.site.modCom fun c => (c.wr .AON_STATE_STATE 2).wr .AON_WAKEEN_EN 127
     t.powerState = psNight ∧ t.com.power.asked = false ∧ bitOf (t.com.rd .AON_WAKEEN_EN) 3 = true) := by decide
/-- A frame from node 64 to the device, and a replica with that node JOINED. -/
def testMccFrame (payload : List Byte) : MccFrame :=
  { src := 64, dst := 0, origin := 64, final := 0, route := [], hop := 0, seq := 5, flags := 16, frag := 0, payload, tagOk := true }
def testMcc (c : Carrier) (l : List (Field × Nat × Nat)) : Replica :=
  { testRegs ([(.MCC_CTRL_EN, 0, 1), (.MCC_NSTAT_STATE, 64, 2), (.KEY_SATTR_ATTR, 9, attrWord 15 1 1 7 9 0 0)] ++ l) with carrier := c }
theorem witness_MainsCarrier :
    testState.site.leader = some .A ∧ (testState.site.pav .A).inStep = true ∧
    (let r := testMcc {} []
     let f := testMccFrame (leBytes 8 7 ++ leBytes 4 0 ++ leBytes 1 1)
     r.rd .MCC_CTRL_EN = 1 ∧ r.carrier.slot = none ∧ r.isMember f.origin = true ∧ f.tagOk = true ∧ (r.node f.origin).fresh f.seq = true ∧ f.dst = 0 ∧
       r.isMember f.src = true ∧ f.final = 0 ∧ (∀ a < 65, r.nodeState a = nsJoining → r.euiOf a ≠ fieldAt f.payload 0 8) ∧ r.freeNode = some 1 ∧
       bitOf (byteAt f.payload 12) 0 = true ∧ bitOf (byteAt (testMccFrame []).payload 12) 0 = false ∧ r.authSlot 4 ≠ none ∧
       r.gate.noRandom = false ∧ r.nodeState 64 = nsJoined) ∧
    (let r := testMcc { slot := some 14, trans := [{ no := 3, node := 64, tries := 1 }, { no := 4, node := 64, tries := 2, alts := 2 }] } []
     r.carrier.slot = some 14 ∧ 14 + 1 < r.rd .MCC_CTRL_NSLOT ∧ r.carrier.trans[0]? = some { no := 3, node := 64, tries := 1 } ∧
       1 + 1 < r.rd .MCC_RETRY_RTRY ∧ r.carrier.trans[1]? = some { no := 4, node := 64, tries := 2, alts := 2 } ∧ r.rd .MCC_RETRY_RTRY ≤ 2 + 1 ∧
       r.rd .MCC_RETRY_ALT ≤ 2 ∧ r.nodeState 64 = nsJoined) ∧
    (let r := (testMcc {} []).setNode 64 { caps := 2 }
     bitOf (r.node 64).caps 1 = true) ∧
    (let t := testState.site.modCom fun c => (c.wr .AON_STATE_STATE 2).wr .AON_WAKEEN_EN 127
     t.powerState = psNight ∧ t.com.power.asked = false ∧ bitOf (t.com.rd .AON_WAKEEN_EN) 1 = true) ∧
    (let j : CarrierJoin := { eui := 7, caps := 0, zcOfs := 0, angle := 0, entry := 64, chal := [], route := [] }
     let r := testMcc { joining := [j] } [(.MCC_NSTAT_STATE, 64, 1), (.MCC_NEUI_LO_EUI, 64, 7)]
     (r.carrier.joining.find? fun x => x.eui = fieldAt (leBytes 8 7) 0 8) = some j ∧ 1 ≤ j.entry ∧ j.entry < 65 ∧ r.nodeState j.entry = nsJoining ∧
       r.euiOf j.entry = fieldAt (leBytes 8 7) 0 8) := by decide
theorem witness_SuppliesAndResets :
    (testLoc 3).inReset = false ∧ (testLoc 3).powered = true ∧ testState.site.com.vio33Lost .A = false ∧ bitOf (0xFFF : BitVec 12).toNat 11 = true ∧
    (({} : Engine).run ≠ .running) ∧ State.reset.site.com.power.inReset = true ∧
    (let s : State := { State.reset with site := State.reset.site.modCom fun c => { c with power := { c.power with inReset := false } } }
     let l := (s.site.pav .A).loc
     l.inReset = true ∧ l.powered = true ∧ l.heldOut = false ∧ s.site.com.power.inReset = false ∧ s.site.com.vio33Lost .A = false) ∧
    (testLoc 0).booted = false ∧ (testLoc 0).recovering = false ∧ ({} : Replica).rd .UPD_STATUS_TRIAL = 0 ∧
    ({} : Replica).rd .UPD_STATUS_PREV_VALID = 0 ∧ (testRegs [(.UPD_STATUS_PREV_VALID, 0, 1)]).rd .UPD_STATUS_PREV_VALID = 1 ∧
    ((testLoc 0).checkImage {} 0).1 ≠ updOk ∧ testState.site.leader = some (Pav.B).other ∧ testState.site.actFirst ≠ some .B ∧ (testWith (testUpd 3 [] {})).site.actFirst = some .B ∧
    ({ testLoc 0 with recovering := true } : Local).recovering = true ∧
    (let s : State := { site := { a := { loc := { testLoc 0 with booted := true } } } }
     s.site.leader = none ∧ s.site.startReady .A = true ∧ s.site.startReady .B = false ∧ (s.site.pav .A).loc.nextClaim ≤ 0xFFFFFFFF ∧
       (s.site.pav .A).rep.rd .UPD_STATUS_PHASE = 0) ∧ (testState.site.pav .A).inStep = true := by decide
/-- Redundant running with registers and the power state of the common block given. -/
def testNight (l : List (Field × Nat × Nat)) (asked : Bool) : State :=
  { testState with site := testState.site.modCom fun c =>
      { l.foldl (fun c x => c.wr x.1 x.2.2 x.2.1) c with power := { c.power with asked } } }
theorem witness_NightAndWake :
    testState.site.leader = some .A ∧ (testState.site.pav .A).inStep = true ∧ testState.site.redundant = true ∧
    (testState.site.pav .A).loc.inputs = [] ∧ (testState.site.pav .A).loc.log.length < 64 ∧
    (let s := testNight [(.AON_CTRL_IDLE_T, 0, 10), (.AON_WAKEEN_EN, 0, 127)] false
     s.site.leader = some .A ∧ s.site.com.rd .AON_CTRL_IDLE_T ≠ 0 ∧ s.site.powerState ≤ psIdle ∧ s.site.com.power.asked = false ∧
       s.site.nightConditions = true ∧ bitOf (s.site.com.rd .AON_WAKEEN_EN) 6 = true ∧ s.site.com.rd .AON_STATE_LATCHED = 0) ∧
    (testWith (testRegs [(.DLK_OSTATE_STATE, 23, 2)])).site.nightConditions = false ∧
    (testNight [] true).site.com.power.asked = true ∧ (testNight [] true).site.sleepRefusal = none ∧
    (testNight [(.SIO_IN_FAULT, 0, 1)] true).site.sleepRefusal = some (3, 0x0A) ∧
    (testNight [(.AON_STATE_STATE, 0, 2)] false).site.powerState = psNight ∧ (testNight [(.AON_STATE_STATE, 0, 3)] false).site.powerState = psWaking ∧
    bitOf ((testNight [(.AON_WAKEEN_EN, 0, 63)] false).site.com.rd .AON_WAKEEN_EN) 6 = false ∧
    (testNight [(.AON_STATE_LATCHED, 0, 1)] false).site.com.rd .AON_STATE_LATCHED = 1 := by decide
theorem witness_LoggedCommandsFrame : atLog .dlpSendPoint = true ∧ (∃ t, exec .dlpSendPoint State.reset = .next t) ∧
    (State.reset.site.pav .A).inStep = false := ⟨rfl, ⟨_, rfl⟩, by decide⟩
theorem witness_OnePavilionCommandsFrame : keepsTo (.ghHash .B 0 0) = some .B ∧ ∃ t, exec (.ghHash .B 0 0) State.reset = .next t := ⟨rfl, ⟨_, rfl⟩⟩
theorem witness_BaseProfileAccumulatorsStayZero : ∀ (p : Pav) (e : Eng), loopProfile e = false →
    (testState.site.eng p e).acc = Vector.replicate 8 0 := by intro p e _; cases p <;> revert e <;> decide
theorem witness_AbortWithdrawsMailbox :
    let i := mbIx 0 0
    let a : Replica := testRegs [(.CAN_MBCTRL_STATE, i, 1), (.CAN_CPEND_PEND, 0, 1)]
    a.mbState 0 0 = mbPending ∧ (a.can 0).sending ≠ some 0 ∧ (testRegs []).mbState 0 0 ≠ mbPending ∧ (a.can 0).onFail = none ∧
      a.canState 0 < csBusOff ∧ ((a.setCan 0 { a.can 0 with sending := some 0 }).can 0).sending = some 0 ∧
      ((testWith a).site.pav .B).inStep = true := by decide
theorem witness_AccumulatorArithmeticIsExact : testState.site.ready .A 2 = true ∧ loopProfile 2 = true := by decide
/-! ### The worked examples of the spec, and single steps with hand-calculated results -/

/-- R117: `sos g13, g12, g9, 48` is the word 0x86B0_1203. -/
theorem test_sos_word : encSec 0 13 12 9 3 = 0x86B01203 := by decide
/-- R116: the word of an sosp with FUNC 2 in its place (class 8, FUNC at [17:14], R115). -/
theorem test_sosp_word : encSec 2 13 12 9 3 = 0x86B09203 := by decide

/-- Engine LE0 of Pavilion A runs command `c` with g1 and g2 set; what it leaves in engine LE0. -/
def testRun (f : Engine → Engine) (c : Instr) : Engine :=
  match exec c (testEng 2 f) with
  | .next t => t.site.eng .A 2
  | _ => {}
def testOps (x y : Word) (en : Engine) : Engine := (en.setG 1 x).setG 2 y

/-- R120: sums wrap modulo 2^32 and touch no flag. -/
theorem test_add_wraps : let en := testRun (testOps 0xFFFFFFFF 2) (.add .A 2 3 1 2); en.g 3 = 1 ∧ en.flags = 0 ∧ en.pc = 4 := by decide
/-- R120: the carry of addc. -/
theorem test_addc_carry : let en := testRun (testOps 0xFFFFFFFF 1) (.addc .A 2 3 1 2); en.g 3 = 0 ∧ en.flag flagC = true := by decide
/-- R120: subc is S1 + not S2 + C; with C = 0 it takes one more away. -/
theorem test_subc : let en := testRun (testOps 5 3) (.subc .A 2 3 1 2); en.g 3 = 1 ∧ en.flag flagC = true := by decide
/-- R118, R120: saturation sets Q. -/
theorem test_adds_saturates : let en := testRun (testOps 0x7FFFFFFF 1) (.adds .A 2 3 1 2); en.g 3 = 0x7FFFFFFF ∧ en.flag flagQ = true := by decide
/-- R120: 0.5 × 0.5 = 0.25 in Q1.31. -/
theorem test_mulq_quarter : (testRun (testOps 0x40000000 0x40000000) (.mulq .A 2 3 1 2)).g 3 = 0x20000000 := by decide
/-- R121: a division by zero sets DZ, and a negative dividend gives the lower bound. -/
theorem test_div_zero : let en := testRun (testOps 0xFFFFFFFB 0) (.div .A 2 3 1 2); en.g 3 = 0x80000000 ∧ en.flag flagDZ = true := by decide
/-- R120: the quotient truncates towards zero, the remainder has the dividend's sign. -/
theorem test_div_rem : (testRun (testOps 0xFFFFFFF9 2) (.div .A 2 3 1 2)).g 3 = 0xFFFFFFFD ∧
    (testRun (testOps 0xFFFFFFF9 2) (.rem .A 2 3 1 2)).g 3 = 0xFFFFFFFF := by decide
/-- R122: lhi builds a constant; the shift is by 14. -/
theorem test_lhi : (testRun (testOps 3 0) (.lhi .A 2 3 1 5)).g 3 = 0xC005 := by decide
/-- R110: a write to g0 is discarded. -/
theorem test_g0 : (testRun (testOps 3 4) (.add .A 2 0 1 2)).g 0 = 0 := by decide
/-- R125: a taken branch goes to PC + 4 × OFF. -/
theorem test_beq_back : (testRun (fun en => { en with pc := 0x100 }) (.beq .A 2 0 0 0x7FFF)).pc = 0xFC := by decide
/-- R126: jal links PC + 4 and jumps to 4 × IMM. -/
theorem test_jal : let en := testRun (fun en => { en with pc := 0x100 }) (.jal .A 2 31 0x20); en.pc = 0x80 ∧ en.g 31 = 0x104 := by decide
/-- R128: msub of a full-scale product. -/
theorem test_msub : (testRun (testOps 0x80000000 0x80000000) (.msub .A 2 1 2 0)).a 0 = BitVec.ofInt 72 (-(2 ^ 62)) := by decide
/-- R123: lb sign-extends, lbu does not. -/
theorem test_lb : let f (en : Engine) : Engine := { en with dtcm := en.dtcm.wr 0x40010 0xF0, gpr := en.gpr.set 1 0x40000 }
    (testRun f (.lb .A 2 3 1 0x10 .none)).g 3 = 0xFFFFFFF0 ∧ (testRun f (.lbu .A 2 3 1 0x10 .none)).g 3 = 0xF0 := by decide
/-- R123, R145: a misaligned word load halts a loop engine with ALIGN and the address. -/
theorem test_lw_misaligned : let en := testRun (testOps 0x40002 0) (.lw .A 2 3 1 0 .none)
    en.run = .halted ∧ en.ecause = 3 ∧ en.eaddr = 0x40002 := by decide
/-- R124: a store waits in the write buffer. -/
theorem test_sw_waits : (testRun (testOps 0x40010 7) (.sw .A 2 2 1 0)).wbuf = [⟨0x40010, 4, 7⟩] := by decide

/-- The record of the worked example of R133 at 0x4_0030, with the state X1, Y1 given. -/
def testPi (x1 y1 : Nat) (x : Word) (en : Engine) : Engine :=
  let m := ([(0, 0x20A3D70A), (4, 0xE0000000), (12, 0xC0000000), (24, 0x60000000), (28, 1), (32, x1), (40, y1)] : List (Nat × Nat)).foldl
    (fun m w => m.wrN (0x40030 + w.1) 4 w.2) en.dtcm
  { en with dtcm := m, gpr := (en.gpr.set 9 0x40000).set 12 x }
/-- Step 1 of the example: 0.752 is clamped to 0.75, and LIM is set. -/
theorem test_pi_clamps : let en := testRun (testPi 0x0CCCCCCD 0x5999999A 0x1999999A) (.sos .A 2 13 12 9 3)
    en.g 13 = 0x60000000 ∧ en.dtcm.rdN 0x40058 4 = 0x60000000 ∧ en.flag flagLIM = true ∧ en.flag flagQ = false := by decide
/-- Step 3: the output leaves the limit at 0.599. -/
theorem test_pi_leaves : let en := testRun (testPi 0x1999999A 0x60000000 0xF3333333) (.sos .A 2 13 12 9 3)
    en.g 13 = 0x4CAC0831 ∧ en.flag flagLIM = false ∧ en.dtcm.rdN 0x40050 4 = 0xF3333333 := by decide

/-! ### Ill-formed commands -/

def wfHdr : DlpHdr := { ver := 2, seq := 1, ackSeq := 0, ackMap := 0, outlet := 0, flags := 0, src := 1, tagOk := true, valid := true }
def wfCan : CanFrame := { ident := 5, ide := false, fdf := false, brs := false, esi := false, remote := false, dlc := 1, data := [0], time := 0 }
def wfMcc : MccFrame :=
  { src := 1, dst := 0, origin := 1, final := 0, route := [], hop := 0, seq := 1, flags := 0, frag := 0, payload := [], tagOk := true }
theorem wf_good : Instr.wf (.dlpPlug 0 .A wfHdr [1]) = true ∧ Instr.wf (.canFrameRx .A 0 wfCan) = true ∧ Instr.wf (.mccData wfMcc) = true ∧
    Instr.wf (.add .A 0 1 2 3) = true ∧ Instr.wf (.outletStart 0 1 2 (List.replicate 16 0)) = true := by decide
theorem wf_refuses_frames : Instr.wf (.stgSampleFrameRx .A 0 (List.replicate 95 0) true) = false ∧
    Instr.wf (.footbridgeFrameRx .A .B 0 (List.replicate 95 0)) = false ∧
    Instr.wf (.logEntrySequence 0x10000 0 [] false) = false ∧ Instr.wf (.logEntrySequence 1 (2 ^ 32) [] false) = false ∧
    Instr.wf (.logEntryRx .A (2 ^ 64) 1 1 1 [] true false) = false ∧
    Instr.wf (.hostLimitExpiry 25) = false ∧ Instr.wf (.bankLimit 0 (List.replicate 33 0)) = false := by decide
theorem wf_refuses_headers : ([{ wfHdr with ver := 256 }, { wfHdr with seq := 2 ^ 32 }, { wfHdr with ackSeq := 2 ^ 32 }, { wfHdr with ackMap := 2 ^ 32 },
    { wfHdr with outlet := 256 }, { wfHdr with flags := 256 }, { wfHdr with src := 2 ^ 48 }] : List DlpHdr).all
      (fun h => !Instr.wf (.dlpPlug 0 .A h [1])) = true ∧ Instr.wf (.dlpVehFrame 0 .A wfHdr 1477 .connect) = false ∧
    Instr.wf (.dlpVehFrame 0 .A { wfHdr with flags := 4 } 1461 .connect) = false ∧ Instr.wf (.dlpRetxTimeout 0 (2 ^ 32)) = false := by decide
theorem wf_refuses_bus_frames : ([{ wfCan with ident := 2 ^ 11 }, { wfCan with ide := true, ident := 2 ^ 29 }, { wfCan with dlc := 16 }, { wfCan with time := 2 ^ 64 }] : List CanFrame).all
      (fun f => !Instr.wf (.canFrameRx .A 0 f) && !Instr.wf (.canWakeDetect 0 (some f))) = true ∧
    ([{ wfMcc with src := 256 }, { wfMcc with dst := 256 }, { wfMcc with origin := 256 }, { wfMcc with final := 256 },
      { wfMcc with route := [1, 2, 3, 4] }, { wfMcc with route := [256] }, { wfMcc with hop := 256 }, { wfMcc with seq := 256 },
      { wfMcc with flags := 256 }, { wfMcc with frag := 256 }] : List MccFrame).all
      (fun f => !Instr.wf (.mccData f)) = true := by decide
theorem wf_refuses_host : ([.tcpConnect .A 0 65536, .rhpOpen 0 256 0 (List.replicate 32 0), .rhpOpen 0 1 256 (List.replicate 32 0), .rhpOpen 0 1 1 [],
    .rhpRequestRx 0 (2 ^ 32) 1 [] true, .rhpRequestRx 0 1 65536 [] true, .rhpEventAck 0 (2 ^ 32), .opStatus 0 1 (2 ^ 32),
    .opRead 0 1 1 (2 ^ 32) 1, .opRead 0 1 1 1 65536, .timeSet 0 1 (2 ^ 64), .siteLimitSet 0 1 (2 ^ 32) 1, .outletLimitSet 0 1 256 1 1 1 1 1,
    .outletPrioritySet 0 1 1 256, .outletStart 0 1 1 [0], .outletAuthAnswer 0 1 1 1 256 (List.replicate 16 0), .deviceAttest 0 1 [],
    .pavilionRejoin 0 1 256, .bankRestore 0 1 256 true, .serviceUnlockOpen 0 1 (2 ^ 64) (List.replicate 16 0) true, .serviceUnlockOpen 0 1 1 [] true,
    .paramWrite 0 1 65536 0 0 [], .tuneCoeffLoad 0 1 0 (2 ^ 32) [], .captureRead 0 1 256, .logRead 0 1 256 0 0, .logAck 0 1 65536 0,
    .certInstall 0 1 256 0 0 [], .imageStageDelta 0 1 (2 ^ 32) (List.replicate 32 0), .imageStageFull 0 1 1 [], .imageActivate 0 1 (2 ^ 32)] : List Instr).all
      (fun c => !c.wf) = true := by decide
theorem wf_refuses_long_frames (b : List Byte) : (64 < b.length → Instr.wf (.canFrameRx .A 0 { wfCan with data := b }) = false) ∧
    (200 < b.length → Instr.wf (.mccData { wfMcc with payload := b }) = false) := by
  constructor <;> intro h
  · show ({ wfCan with data := b } : CanFrame).wf = false
    simp [CanFrame.wf, Nat.not_le.mpr h]
  · show ({ wfMcc with payload := b } : MccFrame).wf = false
    simp [MccFrame.wf, Nat.not_le.mpr h]
/-- No length of a message is above 4,104 bytes (R430). -/
theorem wf_refuses_long (b : List Byte) (h : 4104 < b.length) : Instr.wf (.kuReadpub 0 1 b) = false := by
  show (inW 1 && decide (b.length ≤ 4104)) = false
  simp [Nat.not_le.mpr h]
/-- No payload of a log entry is above 228 bytes (R82). -/
theorem wf_refuses_long_entry (b : List Byte) (h : 228 < b.length) : Instr.wf (.logEntryRx .A 1 1 1 1 b true false) = false := by
  show (inD 1 && inD 1 && inH 1 && inW 1 && decide (b.length ≤ 228)) = false
  simp [Nat.not_le.mpr h]

end Sys2Proof.Machine
end

section
/-! PROOFS. Register files and the state after reset. -/
namespace Sys2Proof.Machine

/-! ### Register files (R9, R10, R34) -/

/-- A register file that lists nothing reads the Reset column everywhere. -/
@[simp] theorem Regs.rd_nil (f : Field) (i : Nat) : Regs.rd [] f i = f.info.reset :=
  Nat.mod_eq_of_lt f.reset_lt

/-- A flag that has an event counter is set, and then the counter's value one up is written to it (R34). -/
theorem Regs.raise_counted (r : Regs) (f c : Field) (i k : Nat) (h : f.counter i = some (c, k)) :
    r.raise f i = (r.wr f 1 i).wr c ((r.wr f 1 i).rd c k + 1) k := by
  simp [Regs.raise, h]

/-- Settles O8: no two fields or places share a key in the register file, and the counter a raised flag advances is another field. -/
theorem registerFieldLaws : Obligations.RegisterFieldLaws := by
  intro r f g v i j
  refine ⟨Regs.rd_wr_same r f v i, Regs.rd_wr_ne r f g v i j, fun c k _ hwidth hcounter hne => ?_⟩
  rw [Regs.raise_counted r f c i k hcounter]
  constructor
  · rw [Regs.rd_wr_ne _ _ _ _ _ _ (.inl hne.symm), Regs.rd_wr_same, hwidth]
    rfl
  · rw [Regs.rd_wr_same, Regs.rd_wr_ne _ _ _ _ _ _ (.inl hne)]

/-! ### The state after power-on reset (R10, R111, R564) -/

/-- Of a pavilion that has just been reset, every engine stands at the default. -/
@[simp] theorem Local.eng_default (e : Eng) : ({} : Local).eng e = {} := by
  simp [Local.eng, Vector.get_eq_getElem]
@[simp] theorem Local.rd_default (f : Field) (i : Nat) : ({} : Local).rd f i = f.info.reset := Regs.rd_nil f i

theorem State.reset_loc (p : Pav) : (State.reset.site.pav p).loc = {} := by cases p <;> rfl

/-- Settles O4: a reset pavilion's own part is the default record, and its empty register file reads the Reset column. -/
theorem resetLeaves : Obligations.ResetLeaves := by
  refine ⟨fun p e => ?_, rfl, rfl, rfl, rfl, fun p => ?_, fun f i => Regs.rd_nil f i, rfl⟩
  · rw [Site.eng, State.reset_loc, Local.eng_default]
  · have hrole : State.reset.site.role p = roleSetAside := by
      rw [Site.role, Pavilion.role, State.reset_loc, Local.rd_default]
      rfl
    rw [State.reset_loc]
    exact ⟨rfl, rfl, rfl, hrole, Local.rd_default _ _, Local.rd_default⟩

end Sys2Proof.Machine
end

section
/-! PROOFS. Loads: what each outcome of `State.load` is. -/
namespace Sys2Proof.Machine

/-! ### Loads (R23, R25, R26, R123, R124) -/

/-- An address whose read is a plain memory read: the engine's own TCMs, or shared SRAM, which the Gatehouse does not reach (R26). -/
def PlainAddr (e : Eng) (a : Nat) : Prop := a < 0x60000 ∨ (e ≠ gatehouse ∧ 0x10000000 ≤ a ∧ a < 0x10400000)

/-- The little-endian bytes at a plain address, as an engine of pavilion `p` sees them (R23, R24). -/
def Site.plainBytes (t : Site) (p : Pav) (a size : Nat) (en : Engine) : Nat :=
  if a < 0x40000 then en.itcm.rdN a size else if a < 0x60000 then en.dtcm.rdN a size else (t.pav p).loc.sram.rdN a size

theorem regionOf_tcm {a : Nat} (h : a < 0x60000) : regionOf a = .tcm := by simp [regionOf, h]

theorem regionOf_sram {a : Nat} (hlo : 0x10000000 ≤ a) (hhi : a < 0x10400000) : regionOf a = .sram := by
  have htcm : ¬ a < 0x60000 := by omega
  have hin : ¬ a < 0x68000 := by omega
  have hout : ¬ a < 0x78000 := by omega
  simp [regionOf, htcm, hin, hout, hlo, hhi]

theorem PlainAddr.mayAccess_eq_true {e : Eng} {a : Nat} (h : PlainAddr e a) (size : Nat) : mayAccess e false a size = true := by
  obtain htcm | ⟨hne, hlo, hhi⟩ := h
  · simp [mayAccess, regionOf_tcm htcm]
  · simp [mayAccess, regionOf_sram hlo hhi, hne]

/-- A plain address stands in a memory with ECC. -/
theorem PlainAddr.exists_memoryOf {e : Eng} {a : Nat} (h : PlainAddr e a) : ∃ m, memoryOf e a = some m := by
  obtain htcm | ⟨_, hlo, hhi⟩ := h
  · exact ⟨_, by rw [memoryOf, regionOf_tcm htcm]⟩
  · exact ⟨_, by rw [memoryOf, regionOf_sram hlo hhi]⟩

theorem PlainAddr.loadBytes_eq {e : Eng} {a : Nat} (h : PlainAddr e a) (t : Site) (p : Pav) (size : Nat) :
    t.loadBytes p e a size = (t.plainBytes p a size (t.eng p e), t) := by
  obtain htcm | ⟨_, hlo, hhi⟩ := h
  · by_cases hitcm : a < 0x40000 <;>
      simp [Site.loadBytes, regionOf_tcm htcm, Site.plainBytes, Site.eng, hitcm, htcm]
  · have hitcm : ¬ a < 0x40000 := by omega
    have hdtcm : ¬ a < 0x60000 := by omega
    simp [Site.loadBytes, regionOf_sram hlo hhi, Site.plainBytes, hitcm, hdtcm]

/-- An address no region covers is no engine's to read or write (R26). -/
theorem mayAccess_of_no_region (e : Eng) (write : Bool) {a : Nat} (size : Nat) (h : regionOf a = .none) :
    mayAccess e write a size = false := by
  simp [mayAccess, h]

theorem Site.drainBuffer_nil (t : Site) (p : Pav) (e : Eng) (h : (t.eng p e).wbuf = []) : t.drainBuffer p e = t := by
  simp [Site.drainBuffer, h]

/-- A misalignment is no bus error: nothing is counted before the exception (R123). -/
theorem Site.refuseAccess_align (t : Site) (p : Pav) (e : Eng) (a : Word) : t.refuseAccess p e exALIGN a = t.exception p e exALIGN a := rfl

/-- The fault of a double-bit error leaves the engine as it is until ECC is taken (R23, R42). -/
theorem Site.doubleBit_form (t : Site) (p : Pav) (e : Eng) (m : Nat) (a : Word) :
    ∃ u : Site, t.doubleBit p e m a = u.exception p e exECC a ∧ u.eng p e = t.eng p e :=
  ⟨_, rfl, by simp [Site.eng, Local.eng]⟩

section
variable {s : State} {p : Pav} {e : Eng} {d base : Gpr} {off : BitVec 15} {ecc : Ecc} (size : Nat) (conv : Nat → Word)
  (hready : s.site.ready p e = true)
include hready

theorem State.load_misaligned (hmisaligned : ((s.site.eng p e).ea base off).toNat % size ≠ 0) :
    s.load p e d base off ecc size conv = .next (s.raises p e exALIGN ((s.site.eng p e).ea base off)) := by
  simp [State.load, State.raises, hready, accessFault, hmisaligned, Site.refuseAccess_align]

theorem State.load_refused (halign : ((s.site.eng p e).ea base off).toNat % size = 0)
    (hno : mayAccess e false ((s.site.eng p e).ea base off).toNat size = false) :
    s.load p e d base off ecc size conv = .next (s.refuses p e ((s.site.eng p e).ea base off)) := by
  simp [State.load, State.refuses, hready, accessFault, halign, hno]

variable (hbuf : (s.site.eng p e).wbuf = []) (h : PlainAddr e ((s.site.eng p e).ea base off).toNat)
  (halign : ((s.site.eng p e).ea base off).toNat % size = 0)
include hbuf h halign

/-- With no store waiting and no bit in error, D takes the converted bytes and nothing else changes. -/
theorem State.load_plain : s.load p e d base off .none size conv =
    .next (s.put p e d fun en => conv (s.site.plainBytes p ((s.site.eng p e).ea base off).toNat size en)) := by
  simp [State.load, State.put, State.upd, Site.modEng, hready, accessFault, halign, h.mayAccess_eq_true, h.loadBytes_eq,
    Site.drainBuffer_nil _ _ _ hbuf]

/-- A double-bit error ends a plain load in ECC, and D has kept its value until then (R23). -/
theorem State.load_doubleBit : ∃ t : Site, s.load p e d base off .double size conv =
    .next { s with site := t.exception p e exECC ((s.site.eng p e).ea base off) } ∧ t.eng p e = s.site.eng p e := by
  obtain ⟨m, hm⟩ := h.exists_memoryOf
  obtain ⟨t, hfault, hkept⟩ := s.site.doubleBit_form p e m ((s.site.eng p e).ea base off)
  refine ⟨t, ?_, hkept⟩
  simp [State.load, hready, accessFault, halign, h.mayAccess_eq_true, hm, Site.drainBuffer_nil _ _ _ hbuf, hfault]

end

/-- Settles O13: each load is `State.load` at its width and conversion, and its outcomes are those of the lemmas above. -/
theorem loadsReadTheirMemory : Obligations.LoadsReadTheirMemory := by
  intro p e d base off s hready hbuf a rd plain
  exact
   ⟨fun h => State.load_plain 1 sext8 hready hbuf h (Nat.mod_one _),
    fun h => State.load_plain 1 zext hready hbuf h (Nat.mod_one _),
    fun h halign => ⟨State.load_plain 2 sext16 hready hbuf h halign, State.load_plain 2 zext hready hbuf h halign⟩,
    fun h halign => State.load_plain 4 zext hready hbuf h halign,
    fun _ hmisaligned => ⟨State.load_misaligned 2 sext16 hready hmisaligned, State.load_misaligned 2 zext hready hmisaligned⟩,
    fun _ hmisaligned => State.load_misaligned 4 zext hready hmisaligned,
    fun _ halign hnone => State.load_refused 4 zext hready halign (mayAccess_of_no_region e false 4 hnone),
    fun h halign => State.load_doubleBit 4 zext hready hbuf h halign⟩

end Sys2Proof.Machine
end

section
/-! PROOFS. Laws of the site that speak of each engine by itself and of the form of every memory: what such a law is, and that the
operations on engines, local parts and the site keep every one of them. -/
namespace Sys2Proof.Machine

-- One proof after another: a proof that uses a default argument below waits for the kernel to have checked all before it.
set_option Elab.async false

/-! ### What an instruction may do to its engine -/

/-- What a step may do to an engine other than put a store into its write buffer, reset it or hand it another's context: stored g0 stays
(R110), no queue grows beyond 16 entries (R27), the buffer does not grow (R124), the TCMs stay canonical, and only an engine of the loop
profile has its accumulators changed (R116). -/
def Engine.Moves (e : Eng) (en en' : Engine) : Prop :=
  en'.gpr.get 0 = en.gpr.get 0 ∧ (∀ q : Fin 8, (en'.queues.get q).length ≤ max 16 (en.queues.get q).length) ∧
    en'.wbuf.length ≤ en.wbuf.length ∧ ((en.itcm.wf = true → en'.itcm.wf = true) ∧ (en.dtcm.wf = true → en'.dtcm.wf = true)) ∧
    (loopProfile e = false → en'.acc = en.acc)

section
variable {e : Eng} {en en' : Engine}

theorem Engine.Moves.refl (e : Eng) (en : Engine) : Engine.Moves e en en :=
  ⟨rfl, fun _ => le_max_right _ _, le_rfl, ⟨id, id⟩, fun _ => rfl⟩

theorem Engine.Moves.trans {en'' : Engine} (h : Engine.Moves e en en') (h' : Engine.Moves e en' en'') : Engine.Moves e en en'' := by
  obtain ⟨hg, hq, hw, ⟨hi, hd⟩, ha⟩ := h
  obtain ⟨hg', hq', hw', ⟨hi', hd'⟩, ha'⟩ := h'
  exact ⟨hg'.trans hg, fun q => by have := hq q; have := hq' q; omega, hw'.trans hw, ⟨hi' ∘ hi, hd' ∘ hd⟩, fun hl => (ha' hl).trans (ha hl)⟩

/-- A write to a general register never reaches stored g0 (R110). -/
theorem Engine.Moves.setG (h : Engine.Moves e en en') (r : Gpr) (v : Word) : Engine.Moves e en (en'.setG r v) := by
  by_cases hr : r = 0
  · simpa [hr] using h
  · have hne : r.val ≠ 0 := fun h0 => hr (Fin.ext h0)
    have hg0 : (en'.setG r v).gpr.get 0 = en'.gpr.get 0 := by simp [Engine.setG, hr, Vector.get_eq_getElem, hne]
    simpa [Engine.Moves, hg0] using h

theorem Engine.Moves.setPair (h : Engine.Moves e en en') (r : Gpr) (lo hi : Word) : Engine.Moves e en (en'.setPair r lo hi) :=
  (h.setG _ _).setG _ _

theorem Engine.Moves.setQuad (h : Engine.Moves e en en') (r : Gpr) (v : Nat → Word) : Engine.Moves e en (en'.setQuad r v) :=
  (((h.setG _ _).setG _ _).setG _ _).setG _ _

theorem Engine.Moves.stick (h : Engine.Moves e en en') (n : Nat) (b : Bool) : Engine.Moves e en (en'.stick n b) := by
  cases b <;> exact h

/-- Only the loop profile has accumulators to change. -/
theorem Engine.Moves.setA (hl : loopProfile e = true) (h : Engine.Moves e en en') (a : AccIx) (v : Acc) : Engine.Moves e en (en'.setA a v) := by
  obtain ⟨hg, hq, hw, hm, _⟩ := h
  exact ⟨hg, hq, hw, hm, fun hb => by simp [hl] at hb⟩

theorem Engine.Moves.setAccSat (hl : loopProfile e = true) (h : Engine.Moves e en en') (a : AccIx) (x : Int) :
    Engine.Moves e en (en'.setAccSat a x) := (h.setA hl a _).stick _ _

theorem Engine.Moves.setAcc4 (hl : loopProfile e = true) (h : Engine.Moves e en en') (a : AccIx) (x : Nat → Int) :
    Engine.Moves e en (en'.setAcc4 a x) :=
  (((h.setAccSat hl _ _).setAccSat hl _ _).setAccSat hl _ _).setAccSat hl _ _

theorem Engine.Moves.setQuadSat (h : Engine.Moves e en en') (r : Gpr) (x : Nat → Int) : Engine.Moves e en (en'.setQuadSat r x) :=
  (h.setQuad r _).stick _ _

/-- A queue with room takes an entry (R27). -/
theorem Engine.Moves.push (h : Engine.Moves e en en') (q : Fin 8) (m : Msg) (hroom : (en'.queues.get q).length < 16) :
    Engine.Moves e en (en'.push q m) := by
  obtain ⟨hg, hq, hw, hm, ha⟩ := h
  refine ⟨hg, fun k => ?_, hw, hm, ha⟩
  by_cases hk : q = k
  · subst hk
    simp [Engine.push, Vector.get_eq_getElem] at hroom ⊢
    omega
  · have hne : q.val ≠ k.val := fun h => hk (Fin.ext h)
    simpa [Engine.push, Vector.get_eq_getElem, hne] using hq k

/-- An entry taken from a queue leaves it shorter. -/
theorem Engine.Moves.pop (h : Engine.Moves e en en') (q : Fin 8) (m : Msg) (ms : List Msg) (hq : en'.queues.get q = m :: ms) :
    Engine.Moves e en { en' with queues := en'.queues.set q.val ms q.isLt } := by
  obtain ⟨hg, hlen, hw, hm, ha⟩ := h
  refine ⟨hg, fun k => ?_, hw, hm, ha⟩
  by_cases hk : q = k
  · subst hk
    have := hlen q
    rw [hq] at this
    simp [Vector.get_eq_getElem] at this ⊢
    omega
  · have hne : q.val ≠ k.val := fun h => hk (Fin.ext h)
    simpa [Vector.get_eq_getElem, hne] using hlen k

theorem Engine.Moves.receive (h : Engine.Moves e en en') (d : Gpr) (q : Fin 8) (nb : Bool) : Engine.Moves e en (en'.receive d q nb) := by
  unfold Engine.receive
  cases hq : en'.queues.get q with
  | nil => exact h
  | cons m ms =>
    have hpop : Engine.Moves e en { en' with queues := en'.queues.set q.val ms q.isLt, msrc := m.src } := h.pop q m ms hq
    cases nb <;> exact hpop.setPair d _ _

theorem Engine.Moves.setItcm (h : Engine.Moves e en en') {m : Mem} (hm : en'.itcm.wf = true → m.wf = true) :
    Engine.Moves e en { en' with itcm := m } := by
  obtain ⟨hg, hq, hw, ⟨hi, hd⟩, ha⟩ := h
  exact ⟨hg, hq, hw, ⟨hm ∘ hi, hd⟩, ha⟩

theorem Engine.Moves.setDtcm (h : Engine.Moves e en en') {m : Mem} (hm : en'.dtcm.wf = true → m.wf = true) :
    Engine.Moves e en { en' with dtcm := m } := by
  obtain ⟨hg, hq, hw, ⟨hi, hd⟩, ha⟩ := h
  exact ⟨hg, hq, hw, ⟨hi, hm ∘ hd⟩, ha⟩

theorem Engine.Moves.putTcm (h : Engine.Moves e en en') (x : Store) : Engine.Moves e en (en'.putTcm x) := by
  unfold Engine.putTcm
  split
  · exact h.setItcm (Mem.wf_wrN _ _ _ _)
  · exact h.setDtcm (Mem.wf_wrN _ _ _ _)

theorem Engine.Moves.putSectionState (h : Engine.Moves e en en') (a : Nat) (x1 x2 y1 y2 : Int) :
    Engine.Moves e en (en'.putSectionState a x1 x2 y1 y2) :=
  (((h.setDtcm (Mem.wf_wrN _ _ _ _)).setDtcm (Mem.wf_wrN _ _ _ _)).setDtcm (Mem.wf_wrN _ _ _ _)).setDtcm (Mem.wf_wrN _ _ _ _)

theorem Engine.Moves.sectionOut (h : Engine.Moves e en en') (d : Gpr) (r : SectionRecord) (x : Int) :
    Engine.Moves e en (en'.sectionOut d r x) :=
  Engine.Moves.stick (en' := ((en'.setG d _).setFlag flagLIM _)) (h.setG d _) _ _

/-- A buffer that has lost stores. -/
theorem Engine.Moves.dropStores (h : Engine.Moves e en en') {b : List Store} (hb : b.length ≤ en'.wbuf.length) :
    Engine.Moves e en { en' with wbuf := b } := by
  obtain ⟨hg, hq, hw, hm, ha⟩ := h
  exact ⟨hg, hq, hb.trans hw, hm, ha⟩

theorem Engine.Moves.settleTcm (h : Engine.Moves e en en') : Engine.Moves e en en'.settleTcm := by
  have hfold : ∀ (b : List Store) (x : Engine), Engine.Moves e en x →
      Engine.Moves e en (b.foldl (fun en s => if s.addr.toNat < 0x60000 then en.putTcm s else en) x) := by
    intro b
    induction b with
    | nil => exact fun x hx => hx
    | cons s r ih =>
      intro x hx
      rw [List.foldl_cons]
      split
      · exact ih _ (hx.putTcm s)
      · exact ih _ hx
  exact hfold _ _ (h.dropStores (List.length_filter_le _ _))

theorem Engine.Moves.loadSet (h : Engine.Moves e en en') (base : Nat) (b : List Byte) : Engine.Moves e en (en'.loadSet base b) :=
  h.setDtcm fun hd => by
    iterate 6 apply Mem.wf_wrBytes
    exact hd

theorem Engine.Moves.aluDiv (h : Engine.Moves e en en') (d s1 s2 : Gpr) (f : Word → Word → Word) (q : Word → Word → Bool) :
    Engine.Moves e en (en'.aluDiv d s1 s2 f q) :=
  Engine.Moves.stick (Engine.Moves.stick (en' := en'.alu d s1 s2 f) (h.setG d _) _ _) _ _

theorem Engine.Moves.aluSat (h : Engine.Moves e en en') (d : Gpr) (x : Int) : Engine.Moves e en (en'.aluSat d x) :=
  Engine.Moves.stick (h.setG d _) _ _

theorem Engine.Moves.sprWrite (h : Engine.Moves e en en') (n : Nat) (v : Word) : Engine.Moves e en (en'.sprWrite e n v) := by
  unfold Engine.sprWrite
  cases loopProfile e <;> (dsimp only; split <;> exact h)

theorem Engine.Moves.markEnd (h : Engine.Moves e en en') (b : Bool) : Engine.Moves e en (en'.markEnd b) := by
  cases b <;> exact h

end

/-! ### Laws of the site -/

/-- A law of the site that speaks of each engine by itself and, where `canonical`, of the form of every memory. -/
structure SiteLaw where
  eng : Pav → Eng → Engine → Prop
  canonical : Prop
  fresh : ∀ p e, eng p e {}
  moves : ∀ {p e en en'}, eng p e en → Engine.Moves e en en' → eng p e en'
  handed : ∀ {p q e en lead} (convert : Option Nat), eng p e en → eng q e lead → eng p e (en.handed lead convert)

/-- The memories of a pavilion outside its engines are in canonical form. -/
def Local.sharedWf (l : Local) : Prop :=
  l.sram.wf = true ∧ l.mram.wf = true ∧ l.inWin.wf = true ∧ l.outWin.wf = true ∧ ∀ m, l.inNext = some m → m.wf = true

def Local.Meets (L : SiteLaw) (p : Pav) (l : Local) : Prop :=
  (∀ e, L.eng p e (l.eng e)) ∧ (L.canonical → l.sharedWf)

def Site.Meets (L : SiteLaw) (t : Site) : Prop :=
  (∀ p, (t.pav p).loc.Meets L p) ∧ (L.canonical → t.com.legalA.wf = true ∧ t.com.legalB.wf = true)

variable {L : SiteLaw} {p : Pav} {l : Local} {t : Site}

/-! ### The local part of a pavilion -/

theorem Local.Meets.setEng (h : l.Meets L p) (e : Eng) {en : Engine} (hen : L.eng p e en) : (l.setEng e en).Meets L p := by
  refine ⟨fun k => ?_, h.2⟩
  by_cases hk : k = e
  · subst hk
    simpa using hen
  · rw [Local.eng_setEng_ne _ _ _ _ hk]
    exact h.1 k

/-- Every engine makes a move. -/
theorem Local.Meets.setEngines (h : l.Meets L p) {v : Vector Engine 12} (hv : ∀ e : Eng, Engine.Moves e (l.eng e) (v.get e)) :
    ({ l with engines := v } : Local).Meets L p :=
  ⟨fun e => L.moves (h.1 e) (hv e), h.2⟩

theorem Local.Meets.setSram (h : l.Meets L p) {m : Mem} (hm : l.sram.wf = true → m.wf = true) :
    ({ l with sram := m } : Local).Meets L p := by
  refine ⟨h.1, fun hc => ?_⟩
  obtain ⟨hs, hrest⟩ := h.2 hc
  exact ⟨hm hs, hrest⟩

theorem Local.Meets.setMram (h : l.Meets L p) {m : Mem} (hm : l.mram.wf = true → m.wf = true) :
    ({ l with mram := m } : Local).Meets L p := by
  refine ⟨h.1, fun hc => ?_⟩
  obtain ⟨hs, hmram, hrest⟩ := h.2 hc
  exact ⟨hs, hm hmram, hrest⟩

theorem Local.Meets.setInWin (h : l.Meets L p) {m : Mem} (hm : l.inWin.wf = true → m.wf = true) :
    ({ l with inWin := m } : Local).Meets L p := by
  refine ⟨h.1, fun hc => ?_⟩
  obtain ⟨hs, hmram, hin, hrest⟩ := h.2 hc
  exact ⟨hs, hmram, hm hin, hrest⟩

theorem Local.Meets.setOutWin (h : l.Meets L p) {m : Mem} (hm : l.outWin.wf = true → m.wf = true) :
    ({ l with outWin := m } : Local).Meets L p := by
  refine ⟨h.1, fun hc => ?_⟩
  obtain ⟨hs, hmram, hin, hout, hrest⟩ := h.2 hc
  exact ⟨hs, hmram, hin, hm hout, hrest⟩

theorem winReset_wf : winReset.wf = true := by decide

theorem Mem.wf_nil : Mem.wf [] = true := rfl

/-- A pavilion in its reset keeps nothing but its MRAM. -/
theorem Local.Meets.restart (h : l.Meets L p) : l.restart.Meets L p := by
  refine ⟨fun e => ?_, fun hc => ?_⟩
  · have : l.restart.eng e = {} := Local.eng_default e
    rw [this]
    exact L.fresh p e
  · obtain ⟨_, hmram, _⟩ := h.2 hc
    exact ⟨Mem.wf_nil, hmram, winReset_wf, Mem.wf_nil, fun _ hm => by cases hm⟩

theorem Local.Meets.journal (h : l.Meets L p) (q : Pav) (red : Bool) (j : JEntry) : (l.journal q red j).Meets L p :=
  h.setMram (Mem.wf_wrBytes _ _ _)

theorem Local.Meets.foldl {α : Type} (f : Local → α → Local) (hf : ∀ l a, l.Meets L p → (f l a).Meets L p) (xs : List α) (l : Local)
    (h : l.Meets L p) : (xs.foldl f l).Meets L p :=
  List.foldlRecOn (motive := fun l => l.Meets L p) xs f h fun l h a _ => hf l a h

theorem Pavilion.flush_meets {v : Pavilion} (h : v.loc.Meets L p) (q : Pav) (red : Bool) : (v.flush q red).loc.Meets L p :=
  Local.Meets.foldl (fun l j => l.journal q red j) (fun _ j h => h.journal q red j) _ _ h

/-! ### The site -/

theorem Site.Meets.modPav (h : t.Meets L) {f : Pavilion → Pavilion} (hf : ∀ v, v.loc.Meets L p → (f v).loc.Meets L p) :
    (t.modPav p f).Meets L := by
  refine ⟨fun q => ?_, by simpa using h.2⟩
  obtain rfl | rfl : q = p ∨ q = p.other := by cases p <;> cases q <;> simp [Pav.other]
  · simpa using hf _ (h.1 _)
  · simpa using h.1 _

theorem Site.Meets.modLoc (h : t.Meets L) {f : Local → Local} (hf : ∀ l, l.Meets L p → (f l).Meets L p := by exact fun _ => id) :
    (t.modLoc p f).Meets L :=
  h.modPav fun v => hf v.loc

theorem Site.Meets.modRep (h : t.Meets L) {f : Replica → Replica} : (t.modRep p f).Meets L := h.modPav fun _ => id

theorem Site.Meets.setFree (h : t.Meets L) (n : Nat) : ({ t with free := n } : Site).Meets L := h

/-- The two copies of the legal MRAM hold `A` and `B` (R20, R326). -/
def Common.Legal (A B : Mem) (c : Common) : Prop := c.legalA = A ∧ c.legalB = B

/-- A change of the common block that writes nothing to the legal MRAM. -/
theorem Site.Meets.modCom (h : t.Meets L) {f : Common → Common} (hf : ∀ A B c, c.Legal A B → (f c).Legal A B := by exact fun _ _ _ => id) :
    (t.modCom f).Meets L := by
  obtain ⟨hA, hB⟩ := hf _ _ t.com ⟨rfl, rfl⟩
  refine ⟨fun q => by simpa using h.1 q, ?_⟩
  rw [Site.com_modCom, hA, hB]
  exact h.2

theorem Site.Meets.setEng (h : t.Meets L) {e : Eng} {en : Engine} (hen : L.eng p e en) : (t.setEng p e en).Meets L :=
  h.modLoc fun _ hl => hl.setEng e hen

theorem Site.Meets.eng (h : t.Meets L) (p : Pav) (e : Eng) : L.eng p e (t.eng p e) := (h.1 p).1 e

theorem Site.Meets.modEng (h : t.Meets L) {e : Eng} {f : Engine → Engine} (hf : ∀ en, Engine.Moves e en (f en) := by exact fun en => Engine.Moves.refl _ en) : (t.modEng p e f).Meets L :=
  h.setEng (L.moves (h.eng p e) (hf _))

theorem Site.Meets.onStep (h : t.Meets L) {f : Pavilion → Pavilion} (hf : ∀ p v, v.loc.Meets L p → (f v).loc.Meets L p := by exact fun _ _ => id) :
    (t.onStep f).Meets L := by
  have hgo : ∀ (u : Site) (q : Pav), u.Meets L → (u.modPav q fun v =>
      if v.inStep then (f { v with rep := { v.rep with now := u.now } }).flush q u.redundant else v).Meets L := fun u q hu =>
    hu.modPav fun v hv => by
      split
      · refine Pavilion.flush_meets (hf q _ ?_) q _
        exact hv
      · exact hv
  exact hgo _ _ (hgo _ _ h)

theorem Site.Meets.onLog (h : t.Meets L) {f : Replica → Replica} : (t.onLog f).Meets L := h.onStep

/-- A queue that is not full takes a message. -/
theorem Site.Meets.enqueue (h : t.Meets L) {e : Eng} {q : Fin 8} {m : Msg} (hroom : t.queueFull p e q = false) :
    (t.enqueue p e q m).Meets L :=
  h.setEng (L.moves (h.eng p e) ((Engine.Moves.refl _ _).push q m (by simpa [Site.queueFull] using hroom)))

theorem Site.Meets.foldl {α : Type} (f : Site → α → Site) (hf : ∀ u a, u.Meets L → (f u a).Meets L) (xs : List α) (t : Site)
    (h : t.Meets L) : (xs.foldl f t).Meets L :=
  List.foldlRecOn (motive := fun t => t.Meets L) xs f h fun t h a _ => hf t a h

theorem Pavilion.foldl_meets {α : Type} (f : Pavilion → α → Pavilion) (hf : ∀ v a, v.loc.Meets L p → (f v a).loc.Meets L p) (xs : List α) (v : Pavilion)
    (h : v.loc.Meets L p) : (xs.foldl f v).loc.Meets L p :=
  List.foldlRecOn (motive := fun v => v.loc.Meets L p) xs f h fun v h a _ => hf v a h

end Sys2Proof.Machine
end

section
/-! PROOFS. The load switches, the safety inputs and the Sundial write nothing to the legal MRAM. -/
namespace Sys2Proof.Machine

-- One proof after another: a proof that uses a default argument below waits for the kernel to have checked all before it.
set_option Elab.async false

variable {A B : Mem} {c : Common}

theorem Common.Legal.ite {P : Prop} {_ : Decidable P} {c d : Common} (hc : c.Legal A B) (hd : d.Legal A B) : (if P then c else d).Legal A B := by
  split
  · exact hc
  · exact hd

theorem Common.Legal.foldl {α : Type} (f : Common → α → Common) (hf : ∀ c a, c.Legal A B → (f c a).Legal A B) (xs : List α) (c : Common)
    (h : c.Legal A B) : (xs.foldl f c).Legal A B :=
  List.foldlRecOn (motive := fun c => c.Legal A B) xs f h fun c h a _ => hf c a h

/-! ### Load switches (R397 to R424) -/

theorem Common.Legal.setCh (h : c.Legal A B) (i st : Nat) : (c.setCh i st).Legal A B := by
  unfold Common.setCh
  split <;> exact h

theorem Common.Legal.switchOn (h : c.Legal A B) (now i : Nat) (new : Bool) : (c.switchOn now i new).Legal A B := by
  unfold Common.switchOn
  dsimp only
  split
  · exact h.setCh _ _
  split
  · exact Common.Legal.setCh (c := c.setSw _ _) h _ _
  · refine Common.Legal.setCh ?_ _ _
    exact Common.Legal.ite h h

theorem Common.Legal.writeOn (h : c.Legal A B) (now i : Nat) (on : Bool) : (c.writeOn now i on).Legal A B := by
  unfold Common.writeOn
  dsimp only
  split
  · exact h
  split
  · exact h
  split
  · exact h
  split
  · exact Common.Legal.switchOn (c := (c.wr _ _ _).wr _ _ _) h _ _ _
  split
  · exact Common.Legal.setCh (c := (c.wr _ _ _).setSw _ _) h _ _
  · exact h

theorem Common.Legal.writeGate (h : c.Legal A B) (now i : Nat) (on : Bool) : (c.writeGate now i on).Legal A B := by
  unfold Common.writeGate
  dsimp only
  split
  · exact h
  split
  · exact Common.Legal.switchOn (c := (c.wr _ _ _).wr _ _ _) h _ _ _
  split
  · exact h
  · exact Common.Legal.setCh (c := (c.wr _ _ _).setSw _ _) h _ _

theorem Common.Legal.countTrip (h : c.Legal A B) (i : Nat) : (c.countTrip i).Legal A B := by
  have hput : ∀ c : Common, c.Legal A B → (if 0 < c.rd .LSW_CSTAT_LEFT i then (c.wr .LSW_CSTAT_LEFT (c.rd .LSW_CSTAT_LEFT i - 1) i).setCh i chRetryWait
      else (c.setCh i chFault).raise .LSW_EVENT_RETRY_EXHAUSTED).Legal A B := fun c h => by
    split
    · exact Common.Legal.setCh (c := c.wr _ _ _) h _ _
    · exact h.setCh i chFault
  unfold Common.countTrip
  dsimp only
  split <;> exact hput _ h

/-- A trip put down to another channel of the bank (R410), however often that has happened. -/
theorem Common.Legal.attributed (h : c.Legal A B) (i n v : Nat) (x : Switch) : (if 4 ≤ n then c.countTrip i else
    ((((c.setSw i x).wr .LSW_CSTAT_ATTR 1 i).wr .LSW_CCNT_ATTRIB v i).raise .LSW_EVENT_ATTRIBUTED).setCh i chRetryWait).Legal A B := by
  split
  · exact h.countTrip i
  · exact Common.Legal.setCh (c := ((((c.setSw _ _).wr _ _ _).wr _ _ _).raise _ _)) h _ _

theorem Common.Legal.tripChan (h : c.Legal A B) (now i cause : Nat) : (c.tripChan now i cause).Legal A B := by
  unfold Common.tripChan
  dsimp only
  refine Common.Legal.ite h ?_
  generalize hc : (if cause = caShort then _ else _ : Common) = d
  have hd : d.Legal A B := hc ▸ Common.Legal.ite h (Common.Legal.ite h (Common.Legal.ite h (Common.Legal.ite h h)))
  refine Common.Legal.ite (hd.setCh i chFault) (Common.Legal.ite ?_ (Common.Legal.ite (hd.countTrip i) (Common.Legal.ite (hd.attributed i _ _ _)
    (Common.Legal.setCh (c := d.setSw _ _) hd _ _))))
  refine Common.Legal.foldl _ (fun c j hc => ?_) _ _ (hd.countTrip i)
  split
  · exact Common.Legal.ite (hc.attributed j _ _ _) hc
  · exact hc

theorem Common.Legal.tryAgain (h : c.Legal A B) (now i : Nat) : (c.tryAgain now i).Legal A B := by
  unfold Common.tryAgain
  split
  · split
    · exact h.setCh _ _
    · exact h.switchOn _ _ _
  · exact h.switchOn _ _ _

theorem Common.Legal.retry (h : c.Legal A B) (now i : Nat) : (c.retry now i).Legal A B := by
  unfold Common.retry
  dsimp only
  split
  · exact h
  split
  · exact h
  split
  · exact h.switchOn _ _ _
  · exact h.tryAgain _ _

theorem Common.Legal.bankOff (h : c.Legal A B) (b : Nat) : (c.bankOff b).Legal A B := by
  refine Common.Legal.foldl _ (fun c i hc => ?_) _ _ h
  split
  · exact hc
  · exact Common.Legal.setCh (c := (c.setSw _ _).wr _ _ _) hc _ _

theorem Common.Legal.latchRelease (h : c.Legal A B) (now : Nat) : (c.latchRelease now).Legal A B := by
  unfold Common.latchRelease
  split
  · exact h
  refine Common.Legal.foldl _ (fun c i hc => ?_) _ _ h
  split
  · exact hc
  split
  · split
    · exact hc
    · exact hc.switchOn _ _ _
  · exact hc.setCh _ _

/-! ### Safety inputs (R360 to R364) -/

theorem Common.Legal.judgeInput (h : c.Legal A B) (k i : Nat) (stayed fell : Bool) : (c.judgeInput k i stayed fell).Legal A B := by
  unfold Common.judgeInput
  dsimp only
  split_ifs <;> exact h

/-! ### The Sundial (R46 to R67) -/

theorem Common.Legal.firstLock (h : c.Legal A B) (valid : Bool) (e : Int) (ago : Nat) : (c.firstLock valid e ago).Legal A B := by
  unfold Common.firstLock
  dsimp only
  split
  · split <;> exact h
  split
  · split <;> exact h
  · exact h

theorem Common.Legal.gridBack (h : c.Legal A B) (nom : Nat) (valid : Bool) (e : Int) : (c.gridBack nom valid e).Legal A B := by
  unfold Common.gridBack
  split
  · split
    · dsimp only
      split <;> exact h
    · exact h
  · exact h

theorem Common.Legal.trackCrossing (h : c.Legal A B) (nom : Nat) (valid : Bool) (e : Int) : (c.trackCrossing nom valid e).Legal A B := by
  unfold Common.trackCrossing
  dsimp only
  split
  · split <;> exact h
  split
  · split <;> exact h
  · split_ifs <;> exact h

theorem Common.Legal.crossing (h : c.Legal A B) (nom : Nat) (positive : Bool) (ago : Nat) : (c.crossing nom positive ago).Legal A B := by
  have hloop : ∀ (c : Common) (valid : Bool) (e : Int), c.Legal A B →
      (if c.rd .SDL_STATUS_FIRST_LOCK = 0 then c.firstLock valid e ago
        else if c.rd .SDL_STATUS_FREE_RUN = 1 then c.gridBack nom valid e else c.trackCrossing nom valid e).sunStatus.Legal A B := by
    intro c valid e hc
    split
    · exact hc.firstLock valid e ago
    split
    · exact hc.gridBack nom valid e
    · exact hc.trackCrossing nom valid e
  have hrange : ∀ b : Bool, (if b then c else c.wr .SDL_EVENT_FREQ_RANGE 1).Legal A B := fun b => Common.Legal.ite h h
  unfold Common.crossing
  dsimp only
  split
  · exact h
  · refine Common.Legal.ite (hrange _) (hloop _ _ _ ?_)
    exact Common.Legal.ite (hrange _) (hrange _)

end Sys2Proof.Machine
end

section
/-! PROOFS. Resets, exceptions and the register accesses of an engine keep every law of the site. -/
namespace Sys2Proof.Machine

-- One proof after another: a proof that uses a default argument below waits for the kernel to have checked all before it.
set_option Elab.async false

variable {L : SiteLaw} {p : Pav} {t : Site}

theorem Site.Meets.ite {P : Prop} {_ : Decidable P} {t u : Site} (ht : t.Meets L) (hu : u.Meets L) : (if P then t else u).Meets L := by
  split
  · exact ht
  · exact hu

theorem Local.Meets.ite {P : Prop} {_ : Decidable P} {l m : Local} (hl : l.Meets L p) (hm : m.Meets L p) :
    (if P then l else m).Meets L p := by
  split
  · exact hl
  · exact hm

/-! ### Roles and resets (R74, R85, R88, R540, R564) -/

theorem Site.Meets.setRole (h : t.Meets L) (p : Pav) (role : Nat) : (t.setRole p role).Meets L :=
  Site.Meets.modLoc (Site.Meets.modLoc (Site.Meets.modLoc (Site.Meets.modLoc h)))

theorem Site.Meets.present (h : t.Meets L) (p : Pav) (claim : Nat) : (t.present p claim).Meets L :=
  Site.Meets.modCom (Site.Meets.modLoc (Site.Meets.modLoc h))

theorem Site.Meets.firstFails (h : t.Meets L) (p : Pav) : (t.firstFails p).Meets L :=
  Site.Meets.ite (Site.Meets.onLog (Site.Meets.modRep h)) h

theorem Site.Meets.pavReset (h : t.Meets L) (p : Pav) (cause : Nat) : (t.pavReset p cause).Meets L := by
  have hfirst : (if cause = pcActivation then t else t.firstFails p).Meets L := Site.Meets.ite h (h.firstFails p)
  have hreset : ∀ u : Site, u.Meets L → (((u.modPav p fun v =>
      { loc := { v.loc.restart with resetCause := cause }, rep := v.rep.restart }).setRole p roleSetAside).present p 0).Meets L :=
    fun u hu => Site.Meets.present (Site.Meets.setRole (Site.Meets.modPav hu fun _ => Local.Meets.restart) _ _) _ _
  have hcom := Site.Meets.modCom (f := fun c => (c.pcause p cause).raise .AON_EVENT_PAV_RESET) (hreset _ hfirst)
    fun _ _ _ => by cases p <;> exact id
  exact Site.Meets.ite hcom.onLog (Site.Meets.ite hcom.onLog hcom)

/-! ### Exceptions (R145 to R147) -/

theorem Site.Meets.sysReport (h : t.Meets L) (p : Pav) (e : Eng) : (t.sysReport p e).Meets L := by
  unfold Site.sysReport
  split
  · exact h
  · next hfull => exact h.enqueue (eq_false_of_ne_true hfull)

theorem Site.Meets.haltEngine (h : t.Meets L) (p : Pav) (e : Eng) (cause second : Nat) (eaddr : Word) :
    (t.haltEngine p e cause second eaddr).Meets L :=
  Site.Meets.sysReport (Site.Meets.modLoc (Site.Meets.modEng h)) _ _

theorem Engine.Moves.exceptionEntry (e : Eng) (en : Engine) (cause : Nat) (eaddr : Word) :
    Engine.Moves e en (en.exceptionEntry cause eaddr) := Engine.Moves.refl e en

theorem Site.Meets.exception (h : t.Meets L) (p : Pav) (e : Eng) (cause : Nat) (eaddr : Word) : (t.exception p e cause eaddr).Meets L := by
  have hmark : (t.modLoc p fun l =>
      let l := { l with ind := { l.ind with engine := true, ecc := l.ind.ecc || cause = exECC } }
      if cause = exECC then l.wr .SYS_ECC_DOUBLE (l.rd .SYS_ECC_DOUBLE + 1) else l).Meets L :=
    h.modLoc fun _ hl => Local.Meets.ite hl hl
  unfold Site.exception
  refine Site.Meets.ite ?_ (Site.Meets.ite ?_ (Site.Meets.ite (hmark.pavReset p _) (hmark.haltEngine p e _ _ _)))
  · have hhalt := hmark.haltEngine p e cause 0 eaddr
    exact Site.Meets.ite hhalt.modRep (Site.Meets.ite (hhalt.onLog.modCom) hhalt)
  · exact hmark.setEng (L.moves (h.eng p e) (Engine.Moves.exceptionEntry e _ cause eaddr))

theorem Site.Meets.refuseAccess (h : t.Meets L) (p : Pav) (e : Eng) (cause : Nat) (a : Word) : (t.refuseAccess p e cause a).Meets L := 
  Site.Meets.exception (Site.Meets.ite (Site.Meets.modLoc h) h) _ _ _ _

theorem Site.Meets.controlledStop (h : t.Meets L) : t.controlledStop.Meets L := h.onLog

end Sys2Proof.Machine
end

section
/-! PROOFS. Converter control, phases, closures, releases and the input log keep every law of the site. -/
namespace Sys2Proof.Machine

-- One proof after another: a proof that uses a default argument below waits for the kernel to have checked all before it.
set_option Elab.async false

variable {L : SiteLaw} {p : Pav} {t : Site} {v : Pavilion}

theorem Pavilion.meets_ite {P : Prop} {_ : Decidable P} {v w : Pavilion} (hv : v.loc.Meets L p) (hw : w.loc.Meets L p) :
    (if P then v else w).loc.Meets L p := by
  split
  · exact hv
  · exact hw

/-! ### Captures and fault records (R219 to R223, R252) -/

theorem Pavilion.capStep_meets (h : v.loc.Meets L p) (e : Env) (i : Nat) : (v.capStep e i).loc.Meets L p := by
  unfold Pavilion.capStep
  refine Pavilion.meets_ite h (Pavilion.meets_ite h ?_)
  exact h.setSram (Mem.wf_wrBytes _ _ _)

theorem Pavilion.releaseRing_meets (h : v.loc.Meets L p) (q : Pav) (red : Bool) (g : Nat) : (v.releaseRing q red g).loc.Meets L p := by
  unfold Pavilion.releaseRing
  split
  · exact h
  · exact h.setMram (Mem.wf_wrBytes _ _ _)

theorem Pavilion.releaseRings_meets (h : v.loc.Meets L p) (q : Pav) (red : Bool) (mask : Nat) :
    (v.releaseRings q red mask).loc.Meets L p :=
  Pavilion.foldl_meets _ (fun _ g hv => Pavilion.meets_ite (Pavilion.releaseRing_meets hv q red g) hv) _ _ h

/-! ### Phases (R229 to R247) -/

theorem Pavilion.putEn_meets (h : v.loc.Meets L p) (g : Nat) : (v.putEn g).loc.Meets L p := h.setOutWin (Mem.wf_wrN _ _ _ _)

theorem Pavilion.routeChange_meets (h : v.loc.Meets L p) (g : Nat) : (v.routeChange g).loc.Meets L p := by
  unfold Pavilion.routeChange
  dsimp only
  split
  · exact h
  · exact h.setOutWin (Mem.wf_wrN _ _ _ _)

/-! ### Closures (R77 to R80, R136) -/

theorem Mem.wf_foldl {α : Type} (f : Mem → α → Mem) (hf : ∀ m a, m.wf = true → (f m a).wf = true) (xs : List α) (m : Mem)
    (h : m.wf = true) : (xs.foldl f m).wf = true :=
  List.foldlRecOn (motive := fun m => m.wf = true) xs f h fun m h a _ => hf m a h

theorem Pavilion.groupClosure_meets (h : v.loc.Meets L p) (e : Env) (g : Nat) (x : Taken) : (v.groupClosure e g x).loc.Meets L p := by
  unfold Pavilion.groupClosure
  refine Pavilion.meets_ite h (h.setInWin fun hw => ?_)
  split
  · exact Mem.wf_wrBytes _ _ _ (Mem.wf_wrN _ _ _ _ hw)
  · exact Mem.wf_wrN _ _ _ _ hw

theorem Pavilion.statusArea_meets (h : v.loc.Meets L p) : v.statusArea.loc.Meets L p :=
  Pavilion.meets_ite h (h.setSram (Mem.wf_foldl _ (fun m _ hm => Mem.wf_wrBytes _ m _ hm) _ _))

theorem Pavilion.ctlClosure_meets (h : v.loc.Meets L p) (x : ClosureIn) : (v.ctlClosure x).loc.Meets L p := by
  unfold Pavilion.ctlClosure
  refine Pavilion.foldl_meets _ (fun _ i hv => Pavilion.capStep_meets hv _ i) _ _ ?_
  exact Pavilion.foldl_meets _ (fun _ g hv => Pavilion.meets_ite (Pavilion.putEn_meets hv g) hv) _ _ h

theorem Pavilion.safetyEval_meets (h : v.loc.Meets L p) (x : ClosureIn) : (v.safetyEval x).loc.Meets L p := Pavilion.meets_ite h h

/-- The windows of a pavilion replaced by canonical ones. -/
theorem Local.Meets.setWindows {l : Local} (h : l.Meets L p) {m : Mem} {n : Option Mem}
    (hm : L.canonical → l.sharedWf → m.wf = true ∧ ∀ k, n = some k → k.wf = true) : ({ l with inWin := m, inNext := n } : Local).Meets L p := by
  refine ⟨h.1, fun hc => ?_⟩
  obtain ⟨hin, hnext⟩ := hm hc (h.2 hc)
  obtain ⟨hs, hmram, _, hout, _⟩ := h.2 hc
  exact ⟨hs, hmram, hin, hout, hnext⟩

/-- The set that waits for the boundary, or else the window shown, is canonical. -/
theorem Local.sharedWf.inNext_getD {l : Local} (h : l.sharedWf) : (l.inNext.getD l.inWin).wf = true := by
  obtain ⟨_, _, hin, _, hnext⟩ := h
  cases hn : l.inNext with
  | none => exact hin
  | some m => exact hnext m hn

theorem Replica.ctlWords_wf (r : Replica) (m : Mem) (h : m.wf = true) : (r.ctlWords m).wf = true := by
  unfold Replica.ctlWords
  refine Mem.wf_foldl _ (fun m _ hm => Mem.wf_wrN _ _ _ _ hm) _ _ (Mem.wf_wrN _ _ _ _ ?_)
  exact Mem.wf_foldl _ (fun m _ hm => Mem.wf_wrN _ _ _ _ (Mem.wf_wrN _ _ _ _ hm)) _ _ (Mem.wf_wrN _ _ _ _ h)

theorem Replica.allocWords_wf (r : Replica) (m : Mem) (h : m.wf = true) : (r.allocWords m).wf = true := by
  unfold Replica.allocWords
  iterate 4 refine Mem.wf_wrN _ _ _ _ ?_
  exact Mem.wf_foldl _ (fun m _ hm => Mem.wf_wrN _ _ _ _ (Mem.wf_wrN _ _ _ _ (Mem.wf_wrN _ _ _ _ (Mem.wf_wrN _ _ _ _ hm)))) _ _ h

/-- The set written at a closure is canonical, and so is the window shown before it. -/
theorem Pavilion.closure_meets (h : v.loc.Meets L p) (x : ClosureIn) : (v.closure x).loc.Meets L p := by
  have hshow : ∀ (w : Pavilion) (set : Mem) (two : Bool) (r : Replica), w.loc.Meets L p → (L.canonical → set.wf = true) →
      ({ loc := { w.loc with inWin := if two then v.loc.inWin else set, inNext := if two then some set else none, setDone := true,
                             frozenReports := [] }, rep := r } : Pavilion).statusArea.loc.Meets L p := fun w set two r hw hset => by
    refine Pavilion.statusArea_meets (Local.Meets.setWindows (l := w.loc) hw fun hc _ => ?_)
    obtain ⟨_, _, hin, _⟩ := h.2 hc
    cases two
    · exact ⟨hset hc, fun _ hk => by cases hk⟩
    · exact ⟨hin, fun _ hk => by cases hk; exact hset hc⟩
  unfold Pavilion.closure
  extract_lets shown r _ v₀ v₁ v₂ set two
  have h₀ : v₀.loc.Meets L p := h.setWindows fun _ hl => ⟨hl.inNext_getD, hl.2.2.2.2⟩
  have h₁ : v₁.loc.Meets L p := Pavilion.foldl_meets _ (fun _ g hv => Pavilion.groupClosure_meets hv _ g _) _ _ h₀
  have h₂ : v₂.loc.Meets L p := Pavilion.safetyEval_meets (Pavilion.ctlClosure_meets h₁ x) x
  refine hshow v₂ set two _ h₂ fun hc => ?_
  obtain ⟨_, _, hin, _⟩ := h₂.2 hc
  exact Mem.wf_wrN _ _ _ _ (Mem.wf_wrN _ _ _ _ (Replica.allocWords_wf _ _ (Replica.ctlWords_wf _ _ hin)))

end Sys2Proof.Machine
end

section
/-! PROOFS. Releases, slots, the input log, roles, divergence and handovers keep every law of the site. -/
namespace Sys2Proof.Machine

-- One proof after another: a proof that uses a default argument below waits for the kernel to have checked all before it.
set_option Elab.async false

variable {L : SiteLaw} {p : Pav} {t : Site} {v : Pavilion} {l : Local}

/-! ### Load switches and safety inputs (R366, R397 to R424) -/

theorem Site.Meets.takeSwitches (h : t.Meets L) : t.takeSwitches.Meets L := by
  unfold Site.takeSwitches
  split
  · exact h
  · refine Site.Meets.onLog (h.modCom ?_)
    intro A B c hc
    refine Common.Legal.foldl _ (fun c i hc => ?_) _ _ hc
    extract_lets c₁ on c₂
    have h₁ : c₁.Legal A B := hc
    have h₂ : c₂.Legal A B := Common.Legal.ite h₁ (h₁.writeOn _ _ _)
    exact Common.Legal.ite h₂ (h₂.writeGate _ _ _)

theorem Site.Meets.journalFault (h : t.Meets L) (loc inst outcome reaction cause : Nat) :
    (t.journalFault loc inst outcome reaction cause).Meets L := h.onLog

theorem Site.Meets.openBanks (h : t.Meets L) : t.openBanks.Meets L := by
  refine Site.Meets.foldl _ (fun u b hu => ?_) _ _ h
  refine Site.Meets.ite (Site.Meets.onLog (hu.modCom ?_)) hu
  exact fun _ _ _ hc => hc.bankOff b

theorem Site.Meets.restoreBank (h : t.Meets L) (b : Bank) (pass : Bool) : (t.restoreBank b pass).Meets L := by
  unfold Site.restoreBank
  refine Site.Meets.ite h (Site.Meets.ite (h.modCom ?_) (h.modCom))
  exact fun _ _ _ hc => Common.Legal.foldl _ (fun c i hc => hc.setCh i chOff) _ _ hc

theorem Site.Meets.latchRelease (h : t.Meets L) : t.latchRelease.Meets L := by
  have hrelease : ∀ u : Site, u.Meets L → (u.modCom fun c => c.latchRelease u.ticks).Meets L :=
    fun u hu => hu.modCom fun _ _ _ hc => hc.latchRelease _
  refine hrelease _ ?_
  split
  · refine h.modCom fun _ _ _ hc => Common.Legal.foldl _ ?_ _ _ hc
    exact fun _ _ hc => hc
  · exact h

/-! ### The input log (R81 to R83) -/

theorem Local.Meets.noteCan (h : l.Meets L p) (source : Nat) (payload : List Byte) : (l.noteCan source payload).Meets L p :=
  Local.Meets.ite h (Local.Meets.ite h h)

theorem Site.Meets.sequence (h : t.Meets L) {kind source : Nat} {payload : List Byte} {switching : Bool} {u : Site}
    (hu : t.sequence p kind source payload switching = some u) : u.Meets L := by
  unfold Site.sequence at hu
  dsimp only at hu
  split at hu
  · cases hu
  · cases hu
    refine h.modLoc fun _ hl => ?_
    refine Local.Meets.noteCan ?_ _ _
    exact hl

theorem Site.Meets.holdLog (h : t.Meets L) (p : Pav) : (t.holdLog p).Meets L := h.modLoc fun _ hl => Local.Meets.ite hl hl

theorem Site.Meets.drainInputs (p : Pav) : ∀ (k : Nat) (t : Site), t.Meets L → (t.drainInputs p k).Meets L
  | 0, _, h => h
  | k + 1, t, h => by
    unfold Site.drainInputs
    split
    · exact h.modLoc
    · split
      · next hu => exact Site.Meets.drainInputs p k _ (Site.Meets.modLoc (h.sequence hu))
      · exact h.holdLog p

theorem Site.Meets.drain (h : t.Meets L) (p : Pav) : (t.drain p).Meets L := Site.Meets.drainInputs p _ t h

theorem Site.Meets.input (h : t.Meets L) (kind source : Nat) (payload : List Byte) (switching : Bool) :
    (t.input kind source payload switching).Meets L := by
  unfold Site.input
  split
  · exact h
  · exact Site.Meets.drain (h.modLoc) _

theorem Site.Meets.entry (h : t.Meets L) {kind : Nat} {payload : List Byte} {u : Site} (hu : t.entry p kind payload = some u) :
    u.Meets L := by
  unfold Site.entry at hu
  split at hu
  · exact h.sequence hu
  · cases hu

/-! ### Parameter sets (R38 to R41) -/

theorem Pavilion.takeCand_meets (h : v.loc.Meets L p) (e : Env) (c : Cand) : (v.takeCand e c).loc.Meets L p := h

theorem Pavilion.takePending_meets (h : v.loc.Meets L p) (e : Env) : (v.takePending e).loc.Meets L p := by
  unfold Pavilion.takePending
  split
  · exact h
  · exact h

theorem Site.Meets.copyUp (h : t.Meets L) (p : Pav) : (t.copyUp p).Meets L := h.modCom

theorem Site.Meets.commitTake (h : t.Meets L) : t.commitTake.Meets L := by
  have hstep : ∀ now : Bool, (t.onStep fun v =>
      if now then v.takeCand t.env v.cand
      else { v with rep := { v.rep.wr .UPD_STATUS_PENDING_PARAM 1 with
                               hosts := { v.rep.hosts with pending := some v.cand.recs, staged := none } } }).Meets L :=
    fun now => h.onStep fun _ _ hv => Pavilion.meets_ite (Pavilion.takeCand_meets hv _ _) hv
  unfold Site.commitTake
  extract_lets now u
  split
  · exact Site.Meets.ite (Site.Meets.copyUp (hstep now) _) (hstep now)
  · exact hstep now

theorem Site.Meets.commit (h : t.Meets L) (crcOk : Bool) : (t.commit crcOk).Meets L := by
  unfold Site.commit
  extract_lets c show' u
  have hu : u.Meets L := Site.Meets.onStep (Site.Meets.ite h.commitTake h)
  exact hu.setFree _

/-! ### Setting aside and takeover (R85 to R90, R96) -/

theorem Site.Meets.setAside (h : t.Meets L) (p : Pav) (cause : Nat) : (t.setAside p cause).Meets L := by
  unfold Site.setAside
  refine Site.Meets.modPav (Site.Meets.modLoc (Site.Meets.present (Site.Meets.setRole (h.firstFails p) _ _) _ _) fun l hl => ?_) fun v hl => ?_
  · refine Local.Meets.journal ?_ _ _ _
    exact hl
  · refine Pavilion.meets_ite hl (Pavilion.flush_meets ?_ _ _)
    exact hl

theorem Site.Meets.renew (h : t.Meets L) (p : Pav) : (t.renew p).Meets L := h.modLoc

theorem Site.Meets.takeClaim (h : t.Meets L) (p : Pav) : (t.takeClaim p).Meets L :=
  Site.Meets.renew (Site.Meets.present (Site.Meets.setRole (h.modLoc) _ _) _ _) _

theorem Pavilion.atT_meets (h : v.loc.Meets L p) (e : Env) : (v.atT e).loc.Meets L p := by
  have hp := Pavilion.takePending_meets h e
  exact Pavilion.meets_ite hp hp

theorem Site.Meets.atT (h : t.Meets L) (f : Pav) : (t.atT f).Meets L :=
  Site.Meets.setFree (Site.Meets.modRep (h.onStep fun _ _ hv => Pavilion.atT_meets hv _)) _

theorem Site.Meets.passInputs (h : t.Meets L) (p : Pav) : (t.passInputs p).Meets L :=
  Site.Meets.drain (Site.Meets.modLoc (h.modLoc)) _

theorem Site.Meets.takeover (h : t.Meets L) (p : Pav) : (t.takeover p).Meets L := by
  unfold Site.takeover
  refine Site.Meets.ite (h.modLoc) (Site.Meets.takeSwitches (Site.Meets.passInputs ?_ p))
  have hclaim : ((t.takeClaim p).modLoc p fun l => { l.raise .FBR_EVENT_TAKEOVER with handbackAt := none }).Meets L :=
    (h.takeClaim p).modLoc
  exact Site.Meets.ite (hclaim.atT p) (Site.Meets.ite hclaim.onLog hclaim)

/-! ### Divergence and the referee (R91 to R100) -/

theorem Site.Meets.startDivergence (h : t.Meets L) (katA katB : Bool) : (t.startDivergence katA katB).Meets L := by
  unfold Site.startDivergence
  refine Site.Meets.ite h ?_
  extract_lets referee go u
  have hu : u.Meets L := Site.Meets.modLoc (h.modLoc)
  exact Site.Meets.ite (hu.modCom) hu

theorem Site.Meets.decideOutcome (h : t.Meets L) (p : Pav) (peer : Bool) : (t.decideOutcome p peer).Meets L := by
  unfold Site.decideOutcome
  split
  · exact Site.Meets.ite h (h.modLoc)
  · exact h

theorem Site.Meets.hold (h : t.Meets L) (p : Pav) : (t.hold p).Meets L :=
  Site.Meets.modLoc (Site.Meets.present (h.setRole p _) _ _)

theorem Site.Meets.clearDiv (h : t.Meets L) : t.clearDiv.Meets L := Site.Meets.modLoc h.modLoc

theorem Site.Meets.stopOne (h : t.Meets L) (p : Pav) : (t.stopOne p).Meets L :=
  h.modPav fun v hl => by
    refine Pavilion.flush_meets ?_ _ _
    exact hl

theorem Site.Meets.stopBoth (h : t.Meets L) : t.stopBoth.Meets L := (h.stopOne _).stopOne _

theorem Site.Meets.outOf (h : t.Meets L) (p : Pav) (d : Divergence) (cause : Nat) : (t.outOf p d cause).Meets L :=
  Site.Meets.ite (h.hold p) (h.setAside p cause)

theorem Site.Meets.applyOne (h : t.Meets L) (p : Pav) (d : Divergence) : (t.applyOne p d).Meets L := by
  have hdone : ∀ u : Site, u.Meets L →
      (if d.window then u else u.modLoc p fun l => { l.wr .FBR_STATUS_DIVERGENT 0 with div := none }).Meets L :=
    fun u hu => Site.Meets.ite hu (hu.modLoc)
  unfold Site.applyOne
  refine Site.Meets.ite h ?_
  split
  · exact h
  · exact hdone t h
  · exact Site.Meets.ite (h.outOf _ _ _) h
  · exact Site.Meets.ite (h.outOf _ _ _) h
  · exact Site.Meets.ite (hdone _ (h.takeover p)) h
  · exact h.stopOne p

theorem Site.Meets.applyOutcome (h : t.Meets L) : t.applyOutcome.Meets L := by
  unfold Site.applyOutcome
  split
  · exact h
  · extract_lets one u
    have hone : ∀ (t : Site) (p : Pav) (d : Option Divergence), t.Meets L → (one t p d).Meets L := fun t p d ht => by
      cases d with
      | none => exact ht
      | some d => exact ht.applyOne p d
    have hu : u.Meets L := hone _ _ _ (hone _ _ _ h)
    exact Site.Meets.ite hu.takeSwitches hu

theorem Site.Meets.refLevels (h : t.Meets L) (lowA lowB : Bool) : (t.refLevels lowA lowB).Meets L := Site.Meets.modLoc h.modLoc

theorem Site.Meets.condemn (h : t.Meets L) (p : Pav) : (t.condemn p).Meets L :=
  Site.Meets.ite (Site.Meets.ite ((h.setAside p _).takeover _) (h.modLoc)) (Site.Meets.ite (h.setAside p _).takeSwitches h)

theorem Site.Meets.verdict (h : t.Meets L) (lowA lowB : Bool) : (t.verdict lowA lowB).Meets L := by
  unfold Site.verdict
  refine Site.Meets.ite h.stopBoth ?_
  have hA : (if lowA && t.runs .A then t.condemn .A else t).Meets L := Site.Meets.ite (h.condemn .A) h
  exact Site.Meets.ite (hA.condemn .B) hA

/-! ### Joining and handback (R101 to R104) -/

theorem Site.Meets.askJoin (h : t.Meets L) (p : Pav) : (t.askJoin p).Meets L := by
  unfold Site.askJoin
  split
  · exact h
  · refine Site.Meets.ite h ?_
    have hask : (t.modLoc p fun l => l.send (.joinRequest p)).Meets L := h.modLoc
    exact Site.Meets.ite (Site.Meets.setRole (hask.modLoc) _ _) (Site.Meets.modLoc (hask.modLoc))

/-- A joiner takes the leader's contexts, and with them what the law says of the leader's engines (R101, R102). -/
theorem Pavilion.handed_meets {lead : Pavilion} {q : Pav} (h : v.loc.Meets L p) (hlead : lead.loc.Meets L q) (act : Bool) :
    (v.handed lead act).loc.Meets L p := by
  refine ⟨fun e => ?_, fun hc => ?_⟩
  · simpa [Pavilion.handed, Local.showSeq, Local.eng, Vector.get_eq_getElem] using L.handed _ (h.1 e) (hlead.1 e)
  · obtain ⟨_, hmram, _⟩ := h.2 hc
    obtain ⟨hs, _, hrest⟩ := hlead.2 hc
    exact ⟨hs, hmram, hrest⟩

theorem Site.Meets.orderHandback (h : t.Meets L) : t.orderHandback.Meets L := by
  unfold Site.orderHandback
  split
  · exact h
  · dsimp only
    split
    · exact h.holdLog _
    · next hu => exact Site.Meets.modLoc (Site.Meets.modLoc (h.entry hu))

theorem Site.Meets.yield (h : t.Meets L) : t.yield.Meets L := Site.Meets.ite h.orderHandback h

theorem Site.Meets.rejoin (h : t.Meets L) (p : Pav) : (t.rejoin p).Meets L := h.modLoc

/-! ### Slots and releases (R68 to R71, R135, R142) -/

/-- A slot that fires marks the waits for it and touches nothing else of the engines. -/
theorem Local.Meets.fired (h : l.Meets L p) (ticks : Nat) (n : Slot) : (l.fired ticks n).Meets L p := by
  unfold Local.fired
  extract_lets m₀ m
  have hm : m.Meets L p := Local.Meets.ite h h
  refine hm.setEngines fun e => ?_
  simp only [Vector.get_eq_getElem, Vector.getElem_map]
  have hrefl := Engine.Moves.refl e (m.eng e)
  split
  · split
    · exact hrefl
    · exact hrefl
  · exact hrefl

theorem Site.Meets.fireTarget (h : t.Meets L) (p : Pav) (target : Nat) : (t.fireTarget p target).Meets L :=
  h.modLoc fun _ hl => Local.Meets.foldl _ (fun _ n hl => Local.Meets.ite (hl.fired _ n) hl) _ _ hl

theorem Local.Meets.armSlot (h : l.Meets L p) (n : Slot) (ctrl : Word) : (l.armSlot n ctrl).Meets L p := Local.Meets.ite h h

theorem Site.Meets.armWrite (h : t.Meets L) (p : Pav) (n : Slot) (ctrl : Word) : (t.armWrite p n ctrl).Meets L := by
  have harm : (t.modLoc p fun l => l.armSlot n ctrl).Meets L := h.modLoc fun _ hl => hl.armSlot n ctrl
  exact Site.Meets.ite (harm.modLoc) harm

theorem Site.Meets.overrunCheck (h : t.Meets L) (p : Pav) (idle : Bool) : (t.overrunCheck p idle).Meets L := by
  unfold Site.overrunCheck
  refine Site.Meets.modLoc (Site.Meets.ite h (Site.Meets.foldl _ (fun u e hu => Site.Meets.ite (hu.exception p e _ _) hu) _ _ h))
    fun l hl => hl.setEngines fun e => ?_
  rw [Vector.get_eq_getElem, Vector.getElem_map]
  exact Engine.Moves.refl e _

theorem Pavilion.release_meets (h : v.loc.Meets L p) (q : Pav) (e : Env) (idle aOut drives : Bool) :
    (v.release q e idle aOut drives).loc.Meets L p := by
  refine List.foldlRecOn (motive := fun x : Pavilion × List Byte => x.1.loc.Meets L p) (List.range 32)
    (Pavilion.sendGroup q e idle aOut drives) h fun x hx g _ => ?_
  unfold Pavilion.sendGroup
  dsimp only
  split
  · exact hx
  · exact Local.Meets.ite hx hx

theorem Site.Meets.releaseOne (h : t.Meets L) (p : Pav) (idle : Bool) : (t.releaseOne p idle).Meets L := by
  unfold Site.releaseOne
  have hfire := h.fireTarget p tgtRelease
  refine Site.Meets.ite h (Site.Meets.ite hfire (Site.Meets.modPav (hfire.overrunCheck p idle) fun v hl => ?_))
  exact Pavilion.flush_meets (Pavilion.release_meets hl _ _ _ _ _) _ _

theorem Site.Meets.noteBusy (h : t.Meets L) : t.noteBusy.Meets L := Site.Meets.ite (h.modCom) h

theorem Site.Meets.publishSdl (h : t.Meets L) : t.publishSdl.Meets L := by
  refine Site.Meets.foldl _ (fun u f hu => ?_) _ _ h
  refine Site.Meets.ite (Site.Meets.modCom ?_) hu
  exact Site.Meets.modLoc hu.modLoc

theorem Site.Meets.crystalFails (h : t.Meets L) (side : Pav) : (t.crystalFails side).Meets L := by
  unfold Site.crystalFails
  refine Site.Meets.onLog ?_
  refine h.modCom fun A B c hc => ?_
  cases side <;> exact Common.Legal.ite hc hc

end Sys2Proof.Machine
end

section
/-! PROOFS. Start-up, updates, supplies, idle and NIGHT, host commands and the buses keep every law of the site. -/
namespace Sys2Proof.Machine

-- One proof after another: a proof that uses a default argument below waits for the kernel to have checked all before it.
set_option Elab.async false

variable {L : SiteLaw} {p : Pav} {t : Site} {v : Pavilion} {l : Local}

/-! ### Copies between memories -/

/-- A list is canonical above a bound when its keys lie above the bound and rise strictly, and no listed value is the unlisted one. -/
theorem Sparse.wfFrom_iff {α : Type} [DecidableEq α] (d : α) (m : Sparse α) : ∀ lo : Option Nat, Sparse.wfFrom d lo m = true ↔
    (∀ k, lo = some k → ∀ x ∈ m, k < x.1) ∧ m.Pairwise (fun x y => x.1 < y.1) ∧ ∀ x ∈ m, x.2 ≠ d := by
  induction m with
  | nil => intro lo; cases lo <;> simp [Sparse.wfFrom]
  | cons x r ih =>
    intro lo
    obtain ⟨k, w⟩ := x
    rw [Sparse.wfFrom_cons, ih (some k)]
    constructor
    · rintro ⟨hlo, hw, hk, hr, hd⟩
      refine ⟨fun j hj y hy => ?_, List.pairwise_cons.mpr ⟨hk k rfl, hr⟩, List.forall_mem_cons.mpr ⟨hw, hd⟩⟩
      obtain rfl | hy := List.mem_cons.mp hy
      · exact hlo j hj
      · exact (hlo j hj).trans (hk k rfl y hy)
    · rintro ⟨hlo, hr, hd⟩
      obtain ⟨hk, hr⟩ := List.pairwise_cons.mp hr
      obtain ⟨hw, hd⟩ := List.forall_mem_cons.mp hd
      exact ⟨fun j hj => hlo j hj _ List.mem_cons_self, hw, fun j hj => by cases hj; exact hk, hr, hd⟩

theorem Mem.wf_iff (m : Mem) : m.wf = true ↔ m.Pairwise (fun x y => x.1 < y.1) ∧ ∀ x ∈ m, x.2 ≠ 0#8 := by
  simp [Mem.wf, Sparse.wf, Sparse.wfFrom_iff]

/-- A range copied from one canonical memory into another leaves the latter canonical. -/
theorem Mem.wf_copyRange (dst src : Mem) (dest base size : Nat) (hdst : dst.wf = true) (hsrc : src.wf = true) :
    (dst.copyRange src dest base size).wf = true := by
  rw [Mem.wf_iff] at hdst hsrc ⊢
  obtain ⟨hdst, hdst0⟩ := hdst
  obtain ⟨hsrc, hsrc0⟩ := hsrc
  unfold Mem.copyRange
  have hmoved : ((src.filter fun e => base ≤ e.1 && e.1 < base + size).map fun e => (e.1 - base + dest, e.2)).Pairwise
      (fun x y => x.1 < y.1) := by
    refine List.pairwise_map.mpr ((hsrc.filter _).imp_of_mem fun {x y} hx hy hxy => ?_)
    simp only [List.mem_filter, Bool.and_eq_true, decide_eq_true_eq] at hx hy
    omega
  constructor
  · refine List.pairwise_append.mpr ⟨List.pairwise_append.mpr ⟨hdst.filter _, hmoved, ?_⟩, hdst.filter _, ?_⟩
    · intro x hx y hy
      simp only [List.mem_filter, List.mem_map, Bool.and_eq_true, decide_eq_true_eq] at hx hy
      obtain ⟨z, hz, rfl⟩ := hy
      dsimp only
      omega
    · intro x hx y hy
      simp only [List.mem_append, List.mem_filter, List.mem_map, Bool.and_eq_true, decide_eq_true_eq] at hx hy
      obtain hx | ⟨z, hz, rfl⟩ := hx
      · omega
      · dsimp only
        omega
  · intro x hx
    simp only [List.mem_append, List.mem_filter, List.mem_map] at hx
    obtain (⟨hx, _⟩ | ⟨z, ⟨hz, _⟩, rfl⟩) | ⟨hx, _⟩ := hx
    · exact hdst0 x hx
    · exact hsrc0 z hz
    · exact hdst0 x hx

/-! ### Loading an image (R527, R533) -/

theorem Local.Meets.loadRec (h : l.Meets L p) (s : Nat) (x : LoadRec) : (l.loadRec s x).Meets L p := by
  unfold Local.loadRec
  refine Local.Meets.ite h (Local.Meets.ite h (Local.Meets.ite (h.setEngines fun e => ?_) (Local.Meets.ite (h.setEngines fun e => ?_) ?_)))
  · rw [Vector.get_eq_getElem, Vector.getElem_mapFinIdx]
    split
    · exact (Engine.Moves.refl e (l.eng e)).setItcm (Mem.wf_wrBytes _ _ _)
    · exact Engine.Moves.refl e _
  · rw [Vector.get_eq_getElem, Vector.getElem_mapFinIdx]
    split
    · exact (Engine.Moves.refl e (l.eng e)).setDtcm (Mem.wf_wrBytes _ _ _)
    · exact Engine.Moves.refl e _
  · exact h.setSram (Mem.wf_wrBytes _ _ _)

theorem Local.Meets.loadImage (h : l.Meets L p) (r : Replica) (s : Nat) : (l.loadImage r s).Meets L p :=
  Local.Meets.foldl _ (fun _ _ hm => Local.Meets.foldl _ (fun _ _ hm => hm.loadRec _ _) _ _ hm) _ _ h

theorem Local.Meets.start (h : l.Meets L p) (r : Replica) (slot free : Nat) : (l.start r slot free).Meets L p := by
  have hrun : ∀ m : Local, m.Meets L p → ({ m with
      engines := m.engines.mapFinIdx fun e en _ => { en with run := .running, wait := .none, pc := vget m.entries e 0 } } : Local).Meets L p := by
    intro m hm
    refine hm.setEngines fun e => ?_
    rw [Vector.get_eq_getElem, Vector.getElem_mapFinIdx]
    exact Engine.Moves.refl e _
  exact hrun _ (h.loadImage r slot)

theorem Pavilion.restoreSet_meets (h : v.loc.Meets L p) (e : Env) : (v.restoreSet e).loc.Meets L p := by
  unfold Pavilion.restoreSet
  exact Pavilion.meets_ite (Pavilion.takeCand_meets h _ _) h

theorem Pavilion.boot_meets (h : v.loc.Meets L p) (e : Env) (q : Pav) (slot : Nat) : (v.boot e q slot).loc.Meets L p := by
  unfold Pavilion.boot
  refine Pavilion.restoreSet_meets ?_ _
  exact Local.Meets.journal (h.start _ _ _) _ _ _

/-! ### Staged activation (R535 to R540) -/

theorem Site.Meets.actFail (h : t.Meets L) (code part : Nat) : (t.actFail code part).Meets L := by
  unfold Site.actFail
  split
  · extract_lets restart u
    have hu : u.Meets L := Site.Meets.onLog (Site.Meets.modRep h)
    exact Site.Meets.ite (hu.pavReset _ _) hu
  · exact h

theorem Site.Meets.started (h : t.Meets L) (p : Pav) : (t.started p).Meets L := Site.Meets.ite (h.actFail _ _) h

theorem Site.Meets.bootFrom (h : t.Meets L) (p : Pav) (slot : Nat) : (t.bootFrom p slot).Meets L :=
  Site.Meets.setFree (Site.Meets.started (h.modPav fun _ hv => Pavilion.boot_meets hv _ _ _) _) _

theorem Site.Meets.restartFirst (h : t.Meets L) (f : Pav) : (t.restartFirst f).Meets L := by
  unfold Site.restartFirst
  extract_lets u
  have hu : u.Meets L := h.onLog
  exact (hu.pavReset f pcActivation).onLog

theorem Site.Meets.actTick (h : t.Meets L) : t.actTick.Meets L := by
  unfold Site.actTick
  split
  · extract_lets r u
    have hu : u.Meets L := h.onLog
    exact Site.Meets.ite (hu.restartFirst _) (Site.Meets.ite (hu.actFail _ _) hu)
  · exact h

/-! ### Staging (R529, R530) -/

theorem Local.Meets.applyOps (h : l.Meets L p) (active slot : Nat) (ops : List DeltaOp) : (l.applyOps active slot ops).Meets L p :=
  Local.Meets.foldl _ (fun _ _ hl => hl.setMram (Mem.wf_wrBytes _ _ _)) _ _ h

theorem Pavilion.command_meets (h : v.loc.Meets L p) (n tag code : Nat) (roles : List Nat) (lock : Bool)
    {f : Pavilion → Pavilion × Resp} (hf : ∀ v, v.loc.Meets L p → (f v).1.loc.Meets L p) :
    (v.command n tag code roles lock f).loc.Meets L p := by
  unfold Pavilion.command
  refine Pavilion.meets_ite h ?_
  split
  · exact h
  · exact hf v h

/-! ### Supplies, idle and NIGHT (R547 to R563) -/

theorem Site.Meets.deviceReset (h : t.Meets L) (cause : Nat) : (t.deviceReset cause).Meets L := by
  refine ⟨fun q => ?_, h.2⟩
  have hr : (t.pav q).loc.restart.Meets L q := (h.1 q).restart
  cases q <;> exact hr

theorem Local.Meets.startEngines (h : l.Meets L p) (mask : Nat) : (l.startEngines mask).Meets L p := by
  refine Local.Meets.foldl _ (fun m e hm => ?_) _ _ h
  refine Local.Meets.ite hm ?_
  exact hm.setEng e (L.moves (hm.1 e) (Engine.Moves.refl e (m.eng e)))

theorem Site.Meets.gateAll (h : t.Meets L) (f : Eng → Bool) : (t.gateAll f).Meets L := Site.Meets.modLoc h.modLoc

theorem Site.Meets.toIdle (h : t.Meets L) : t.toIdle.Meets L := by
  have hquiet : (t.modCom fun c => { c with power := { c.power with quiet := true } }).Meets L := h.modCom
  exact Site.Meets.ite (Site.Meets.gateAll hquiet.modCom _) hquiet

theorem Site.Meets.toRun (h : t.Meets L) : t.toRun.Meets L := by
  unfold Site.toRun
  split
  · exact h
  · exact Site.Meets.ite (Site.Meets.gateAll h.modCom _) h

theorem Site.Meets.idleTimer (h : t.Meets L) : t.idleTimer.Meets L := Site.Meets.ite h.modCom h.modCom

theorem Local.Meets.nightSlots (h : l.Meets L p) : l.nightSlots.Meets L p := by
  refine Local.Meets.foldl _ (fun m n hm => ?_) _ _ h
  refine Local.Meets.ite hm ?_
  exact hm

theorem Site.Meets.nightEnter (h : t.Meets L) (p : Pav) : (t.nightEnter p).Meets L := by
  unfold Site.nightEnter
  extract_lets t₁ t₂ t₃ t₄
  have h₁ : t₁.Meets L := h.onLog
  have h₂ : t₂.Meets L := Site.Meets.modLoc (h₁.modLoc fun _ hl => hl.nightSlots) fun _ hl => hl.nightSlots
  have h₃ : t₃.Meets L := Site.Meets.ite (Site.Meets.modLoc (h₂.pavReset _ _)) h₂
  have h₄ : t₄.Meets L := h₃.modLoc
  exact h₄.modCom

theorem Site.Meets.canAwake (h : t.Meets L) : t.canAwake.Meets L := by
  refine Site.Meets.foldl _ (fun u n hu => ?_) _ _ h
  extract_lets frame w
  have hw : w.Meets L := hu.onLog
  clear_value frame
  split
  · exact hw.input _ _ _ _
  · exact hw

theorem Site.Meets.wake (h : t.Meets L) (src : Nat) : (t.wake src).Meets L :=
  Site.Meets.ite h (Site.Meets.ite h.modCom (Site.Meets.ite (Site.Meets.canAwake (Site.Meets.gateAll h.modCom _)) (Site.Meets.ite h.modCom h)))

theorem Site.Meets.wakeDone (h : t.Meets L) : t.wakeDone.Meets L := by
  refine Site.Meets.ite h ?_
  extract_lets t₁ on
  have h₁ : t₁.Meets L := h.onLog
  have hon : (on (on t₁ .A) .B).Meets L := Site.Meets.modLoc h₁.modLoc
  exact hon.modCom

theorem Site.Meets.padRelease (h : t.Meets L) : t.padRelease.Meets L := Site.Meets.ite h (Site.Meets.onLog h.modCom)

/-! ### Entry into RETURN (R592 to R598) -/

theorem Local.Meets.eraseOem (h : l.Meets L p) (s : Nat) : (l.eraseOem s).Meets L p :=
  h.setMram (Mem.wf_foldl _ (fun _ _ hm => Mem.wf_copyRange _ _ _ _ _ hm Mem.wf_nil) _ _)

theorem Pavilion.eraseStores_meets (h : v.loc.Meets L p) (e : Env) : (v.eraseStores e).loc.Meets L p := (h.eraseOem 0).eraseOem 1

theorem Site.Meets.returnDone (h : t.Meets L) : t.returnDone.Meets L := by
  unfold Site.returnDone
  extract_lets t₁ t₂ t₃
  have h₁ : t₁.Meets L := h.onStep fun _ _ hv => Local.Meets.foldl (fun l i => l.wr .LSW_CCTRL_ON 0 i) (fun _ _ hl => hl) _ _ hv
  have h₃ : t₃.Meets L := Site.Meets.modPav (h₁.takeSwitches.modPav fun _ hv => Pavilion.eraseStores_meets hv _)
    fun _ hv => Pavilion.eraseStores_meets hv _
  exact h₃.onLog

theorem Site.Meets.returnTick (h : t.Meets L) : t.returnTick.Meets L := by
  unfold Site.returnTick
  split
  · exact h
  · exact Site.Meets.ite h.returnDone h

/-! ### The site-cycle boundary, the closure and the tick -/

theorem Site.Meets.safetyPins (h : t.Meets L) : t.safetyPins.Meets L := by
  unfold Site.safetyPins
  split
  · exact h
  · exact Site.Meets.ite h h.modCom

theorem Site.Meets.closureCompare (h : t.Meets L) (katA katB : Bool) : (t.closureCompare katA katB).Meets L := by
  unfold Site.closureCompare
  extract_lets bad u
  have hu : u.Meets L := Site.Meets.modLoc h.modLoc
  exact Site.Meets.ite (hu.startDivergence _ _) hu

theorem Site.Meets.cycleMarks (h : t.Meets L) (p : Pav) : (t.cycleMarks p).Meets L := Site.Meets.ite h h.modLoc

theorem Site.Meets.logGap (h : t.Meets L) : t.logGap.Meets L := by
  unfold Site.logGap
  split
  · exact h
  · exact Site.Meets.ite (Site.Meets.setAside h.modLoc _ _) h

theorem Site.Meets.logBoundary (h : t.Meets L) : t.logBoundary.Meets L := by
  unfold Site.logBoundary
  extract_lets take u
  have hu : u.Meets L := Site.Meets.modLoc h.logGap.modLoc
  split
  · exact hu.drain _
  · exact hu

theorem Local.Meets.newCycle (h : l.Meets L p) (free : Nat) : (l.newCycle free).Meets L p := by
  unfold Local.newCycle
  refine Local.Meets.ite h ?_
  have hwin : ({ l with inWin := l.inNext.getD l.inWin, inNext := none } : Local).Meets L p :=
    h.setWindows fun _ hl => ⟨hl.inNext_getD, fun _ hk => by cases hk⟩
  refine Local.Meets.setEngines hwin fun e => ?_
  rw [Vector.get_eq_getElem, Vector.getElem_mapFinIdx]
  exact Engine.Moves.refl e _

theorem Pavilion.tick_meets (h : v.loc.Meets L p) (e : Env) : (v.tick e).loc.Meets L p := h.setSram (Mem.wf_wrBytes _ _ _)

theorem Site.Meets.enterSnapshot (h : t.Meets L) : t.enterSnapshot.Meets L := by
  unfold Site.enterSnapshot
  split
  · exact h
  · exact h.input _ _ _ _

theorem Site.Meets.journalCorrections (h : t.Meets L) (p : Pav) : (t.journalCorrections p).Meets L :=
  Site.Meets.modLoc (Site.Meets.foldl _ (fun _ _ hu => hu.onLog) _ _ h)

theorem Site.Meets.showHealthy (h : t.Meets L) : t.showHealthy.Meets L := Site.Meets.modLoc h.modLoc

/-! ### The buses (R456 to R494) -/

theorem Site.Meets.canFrame (h : t.Meets L) (p : Pav) (n : Nat) (f : CanFrame) : (t.canFrame p n f).Meets L := by
  unfold Site.canFrame
  extract_lets r l u queued
  refine Site.Meets.ite h ?_
  have hu : u.Meets L := h.modRep
  exact Site.Meets.ite hu (Site.Meets.ite hu.modRep (Site.Meets.ite hu (Site.Meets.ite hu.modRep (Site.Meets.ite (hu.input _ _ _ _) hu.modLoc))))

end Sys2Proof.Machine
end

section
/-! PROOFS. Register writes, write buffers and loads keep every law of the site; a law that admits stores is kept by a store. -/
namespace Sys2Proof.Machine

-- One proof after another: a proof that uses a default argument below waits for the kernel to have checked all before it.
set_option Elab.async false

variable {L : SiteLaw} {p : Pav} {t : Site}

/-! ### Registers of a block (R9, R34, R38) -/

theorem Site.Meets.putField (h : t.Meets L) (p : Pav) (f : Field) (i v : Nat) : (t.putField p f i v).Meets L := by
  unfold Site.putField
  split
  · exact h.modRep
  · exact h.modLoc
  · exact Site.Meets.ite h.modCom h
  · extract_lets u
    have hu : u.Meets L := h.modLoc
    exact Site.Meets.ite hu.modCom hu

theorem Site.Meets.stageField (h : t.Meets L) (p : Pav) (f : Field) (i v : Nat) : (t.stageField p f i v).Meets L :=
  Site.Meets.ite h (Site.Meets.ite h.modRep h.modLoc)

theorem Site.Meets.putWord (h : t.Meets L) (p : Pav) (b : Blk) (off w : Nat) : (t.putWord p b off w).Meets L := by
  refine Site.Meets.foldl _ (fun u f hu => ?_) _ _ h
  split
  · exact hu
  · dsimp only
    split
    · exact hu
    · exact hu
    · exact Site.Meets.ite hu (hu.putField _ _ _ _)
    · exact Site.Meets.ite hu (hu.putField _ _ _ _)
    · exact hu.stageField _ _ _ _

theorem Site.Meets.onSet (h : t.Meets L) (f : Field) (off w : Nat) {g : Site → Nat → Site} (hg : ∀ u i, u.Meets L → (g u i).Meets L) :
    (t.onSet f off w g).Meets L := by
  unfold Site.onSet
  split
  · exact Site.Meets.ite h (hg _ _ h)
  · exact h

theorem Site.Meets.onHit (h : t.Meets L) (f : Field) (off : Nat) {g : Site → Nat → Site} (hg : ∀ u i, u.Meets L → (g u i).Meets L) :
    (t.onHit f off g).Meets L := by
  unfold Site.onHit
  split
  · exact hg _ _ h
  · exact h

theorem Site.Meets.commitAsked (h : t.Meets L) (p : Pav) : (t.commitAsked p).Meets L := by
  unfold Site.commitAsked
  extract_lets u
  have hu : u.Meets L := h.modLoc
  exact Site.Meets.ite hu (hu.commit _)

theorem Site.Meets.onWrite (h : t.Meets L) (p : Pav) (i on : Nat) : (t.onWrite p i on).Meets L := by
  unfold Site.onWrite
  extract_lets u
  have hu : u.Meets L := h.modLoc
  exact Site.Meets.ite (hu.modCom fun _ _ _ hc => hc.writeOn _ _ _) hu

/-- What a write does beyond its field keeps the law, block by block. -/
theorem Site.Meets.blockRules (h : t.Meets L) (p : Pav) (b : Blk) (off w : Nat) : (t.blockRules p b off w).Meets L := by
  have hrep : ∀ (f : Site → Nat → Replica → Replica) (u : Site) (i : Nat), u.Meets L → (u.modRep p (f u i)).Meets L :=
    fun f u i hu => hu.modRep
  unfold Site.blockRules
  cases b
  case SYS =>
    refine Site.Meets.onSet (Site.Meets.onSet (Site.Meets.onSet h _ _ _ ?_) _ _ _ ?_) _ _ _ ?_
    · exact fun u _ hu => hu.modLoc fun _ hl => hl.startEngines _
    · exact fun u _ hu => hu.commitAsked p
    · exact fun u _ hu => hu.pavReset p _
  case SDL => exact h.onHit _ _ fun u i hu => hu.armWrite p _ _
  case STG => exact Site.Meets.onSet (Site.Meets.onSet (h.onHit _ _ (hrep _)) _ _ _ (hrep _)) _ _ _ (hrep _)
  case CTL =>
    refine Site.Meets.onSet ?_ _ _ _ fun u _ hu => hu.modPav fun _ hv => Pavilion.releaseRings_meets hv _ _ _
    iterate 6 refine Site.Meets.onSet ?_ _ _ _ (hrep _)
    exact Site.Meets.onHit (h.onHit _ _ (hrep _)) _ _ (hrep _)
  case DLK => exact h.onSet _ _ _ (hrep _)
  case CAN => exact Site.Meets.onSet (h.onSet _ _ _ (hrep _)) _ _ _ (hrep _)
  case MET => exact h.onHit _ _ (hrep _)
  case SAF => exact h.onHit _ _ (hrep _)
  case FBR =>
    refine Site.Meets.onSet (Site.Meets.onSet h _ _ _ ?_) _ _ _ ?_
    · exact fun u _ hu => Site.Meets.ite hu.yield hu
    · exact fun u _ hu => hu.rejoin p
  case LSW =>
    refine Site.Meets.onSet (Site.Meets.onSet (Site.Meets.onHit h _ _ ?_) _ _ _ ?_) _ _ _ ?_
    · exact fun u i hu => hu.onWrite p i _
    · exact fun u _ hu => Site.Meets.ite hu.latchRelease hu
    · exact fun u b hu => Site.Meets.ite (hu.restoreBank _ _) hu
  case SIO => exact h.onHit _ _ (hrep _)
  case AON => exact h.onSet _ _ _ fun u _ hu => Site.Meets.ite hu.padRelease hu
  all_goals exact h

theorem Site.Meets.writeBlock (h : t.Meets L) (p : Pav) (b : Blk) (off w : Nat) : (t.writeBlock p b off w).Meets L := by
  unfold Site.writeBlock
  extract_lets u buffer
  have hu : u.Meets L := h.modRep
  have hbuffer : ∀ k, (buffer k).Meets L := fun _ => hu.modRep
  have hrules : ((u.putWord p b off w).blockRules p b off w).Meets L := (hu.putWord p b off w).blockRules p b off w
  split
  · exact Site.Meets.ite (Site.Meets.ite (hbuffer _) hu) hrules
  · exact Site.Meets.ite (hbuffer _) (Site.Meets.ite hu hrules)
  · exact hrules

/-! ### The write buffer (R124) -/

theorem Site.Meets.storeOut (h : t.Meets L) (p : Pav) (e : Eng) (x : Store) : (t.storeOut p e x).Meets L := by
  unfold Site.storeOut
  dsimp only
  split
  · exact h.modEng fun en => (Engine.Moves.refl e en).putTcm x
  · exact h.modLoc fun _ hl => hl.setOutWin (Mem.wf_wrN _ _ _ _)
  · exact h.modLoc fun _ hl => hl.setSram (Mem.wf_wrN _ _ _ _)
  · exact h.modLoc fun _ hl => hl.setMram (Mem.wf_wrN _ _ _ _)
  · exact h.modRep
  · exact Site.Meets.setFree ((h.writeBlock p _ _ _).modPav fun _ hv => Pavilion.flush_meets hv _ _) _
  · exact h
  · exact h

theorem Site.Meets.drainOne (h : t.Meets L) (p : Pav) (e : Eng) : (t.drainOne p e).Meets L := by
  unfold Site.drainOne
  split
  · exact h
  · next x rest hbuf =>
    refine Site.Meets.storeOut (Site.Meets.setEng h (L.moves (h.eng p e) ?_)) p e x
    exact (Engine.Moves.refl e _).dropStores (by simp [hbuf])

theorem Site.Meets.drainBuffer (h : t.Meets L) (p : Pav) (e : Eng) : (t.drainBuffer p e).Meets L :=
  Site.Meets.foldl _ (fun _ _ hu => hu.drainOne p e) _ _ h

theorem Site.Meets.drainAll (h : t.Meets L) (p : Pav) : (t.drainAll p).Meets L :=
  Site.Meets.ite (Site.Meets.foldl _ (fun _ e hu => hu.drainOne p e) _ _ h) h

theorem Local.Meets.ageLease {l : Local} (h : l.Meets L p) (ticks : Nat) : (l.ageLease ticks).Meets L p := Local.Meets.ite h h

/-- A tick of an empty queue. -/
theorem Site.Meets.tick (h : t.Meets L) : t.tick.Meets L := by
  unfold Site.tick
  extract_lets t₁ t₂
  have h₁ : t₁.Meets L := h.modCom
  have h₂ : t₂.Meets L := (h₁.drainAll _).drainAll _
  exact Site.Meets.modLoc (h₂.modLoc fun _ hl => hl.ageLease _) fun _ hl => hl.ageLease _

/-- No write buffer is longer than a given length. -/
def SiteLaw.buffers (b : Pav → Eng → Nat) : SiteLaw where
  eng p e en := en.wbuf.length ≤ b p e
  canonical := False
  fresh _ _ := Nat.zero_le _
  moves h hm := hm.2.2.1.trans h
  handed _ h _ := h

/-- A store that takes effect puts nothing into any write buffer. -/
theorem Site.wbuf_storeOut_le (t : Site) (p q : Pav) (e f : Eng) (x : Store) :
    ((t.storeOut p e x).eng q f).wbuf.length ≤ (t.eng q f).wbuf.length :=
  Site.Meets.eng (Site.Meets.storeOut (L := SiteLaw.buffers fun q f => (t.eng q f).wbuf.length)
    ⟨fun _ => ⟨fun _ => le_rfl, False.elim⟩, False.elim⟩ p e x) q f

theorem Site.wbuf_drainOne_lt (t : Site) (p : Pav) (e : Eng) (hne : (t.eng p e).wbuf ≠ []) :
    ((t.drainOne p e).eng p e).wbuf.length < (t.eng p e).wbuf.length := by
  unfold Site.drainOne
  split
  · next hbuf => exact absurd hbuf hne
  · next x rest hbuf =>
    refine lt_of_le_of_lt (Site.wbuf_storeOut_le _ p p e e x) ?_
    simp [hbuf]

/-- The law admits a store that leaves the buffer no longer than 4, or than it was. -/
def SiteLaw.TakesStores (L : SiteLaw) : Prop :=
  ∀ {p e en en'} (x : Store), L.eng p e en → L.eng p e en' → en'.wbuf.length < max 4 en.wbuf.length →
    L.eng p e { en' with wbuf := en'.wbuf ++ [x] }

/-! ### Accesses (R26, R37, R123) -/

theorem Site.Meets.readBlock (h : t.Meets L) (p : Pav) (e : Eng) (b : Blk) (a : Nat) : (t.readBlock p e b a).2.Meets L := by
  unfold Site.readBlock
  extract_lets off w u
  have hu : u.Meets L := h.setFree _
  split
  · exact hu.modEng
  · split
    · split
      · exact hu.modEng
      · exact hu
    · exact hu

theorem Site.Meets.guarded (h : t.Meets L) (p : Pav) (e : Eng) (write : Bool) (a : Word) {f : Site → Site} (hf : (f t).Meets L) :
    (t.guarded p e write a f).Meets L :=
  Site.Meets.ite h (Site.Meets.ite (h.exception p e _ _) (Site.Meets.ite hf (h.refuseAccess p e _ _)))

theorem Site.Meets.doubleBit (h : t.Meets L) (p : Pav) (e : Eng) (m : Nat) (a : Word) : (t.doubleBit p e m a).Meets L :=
  Site.Meets.exception h.onLog _ _ _ _

theorem Site.Meets.loadBytes (h : t.Meets L) (p : Pav) (e : Eng) (a size : Nat) : (t.loadBytes p e a size).2.Meets L := by
  unfold Site.loadBytes
  dsimp only
  split
  case h_7 => exact h.readBlock p e _ a
  all_goals exact h

end Sys2Proof.Machine
end

section
/-! PROOFS. Commands whose whole effect is one at an input-log position (R33). -/
namespace Sys2Proof.Machine

/-- Nothing happens, or the pavilions in step carry out one effect (R33) and the running number of free values moves on. -/
def Site.AtLog (t u : Site) : Prop := u = t ∨ ∃ (f : Replica → Replica) (n : Nat), u = { t.onLog f with free := n }

/-- A command answers with a site that stands so to the one before, and leaves the queue. -/
def Result.Leads (R : Site → Prop) (s : State) (r : Result) : Prop := ∃ u : Site, r = .next { s with site := u } ∧ R u

section
variable (s : State)

theorem State.onLog_atLog (f : Site → Replica → Replica) : Result.Leads s.site.AtLog s (s.onLog f) :=
  ⟨_, rfl, .inr ⟨f s.site, s.site.free, rfl⟩⟩

theorem State.onLogFree_atLog (f : Site → Replica → Replica) : Result.Leads s.site.AtLog s (s.onLogFree f) :=
  ⟨_, rfl, .inr ⟨f s.site, s.site.free + 1, rfl⟩⟩

theorem State.host_atLog (n : Sess) (tag code : Nat) (roles : List Nat) (lock : Bool) (f : Site → Replica → Replica × Resp) :
    Result.Leads s.site.AtLog s (s.host n tag code roles lock f) := s.onLog_atLog _

theorem State.dlp_atLog (d : DLink) (lane : Lane) (h : DlpHdr) (type minVer : Nat) (lenOk : Bool) (f : Env → Replica → Replica) :
    Result.Leads s.site.AtLog s (s.dlp d lane h type minVer lenOk f) := by
  refine ⟨_, rfl, ?_⟩
  show Site.AtLog _ (if _ then _ else _)
  split
  · exact .inr ⟨_, _, rfl⟩
  · exact .inl rfl

theorem State.dlpOutlet_atLog (d : DLink) (lane : Lane) (h : DlpHdr) (type minVer : Nat) (lenOk : Bool) (f : Env → Replica → Nat → Replica) :
    Result.Leads s.site.AtLog s (s.dlpOutlet d lane h type minVer lenOk f) := s.dlp_atLog d lane h type minVer lenOk _

theorem State.headMsg_atLog (d : DLink) (lane : Lane) (h : DlpHdr) (lenOk : Bool) (f : Env → Replica → Nat → Replica) :
    Result.Leads s.site.AtLog s (s.headMsg d lane h lenOk f) := s.dlpOutlet_atLog d lane h 0x31 0 lenOk _

end

/-- The commands of `atLog` are what the name says. -/
theorem exec_atLog (c : Instr) (s : State) (hc : atLog c = true) : Result.Leads s.site.AtLog s (exec c s) := by
  cases c
  case stgLinkLost | stgFaultExit | stgLinkRestart | stgMsgGo | stgReplyTimeout | stgAuthRespReply | stgConfigAckReply |
    stgRouteReportReply | stgStatusReply | stgErrorReply | ctlModeWrite | ssOvercurrent | shortSoftstart | feedbackLost |
    feedbackFrozen | ctlXdisWrite | rampDone | ctlSwapGo | ctlInjGo | ctlInjStop | injectionStart | injDone | ctlCapArm | ctlCapFire |
    ctlCapStop | shedStart | rotationDue | parterreFallback | invBreach | headStale | hostLimitExpiry | frontEndDataStale |
    coolantDataStale | stopCurrentReached | dlpRetxTimeout | dlpSendPoint | dlpLaneDown | dlpSupervisionTimeout | dlkFaultExit |
    dlkLinkRestart | tLinkExpiry | tAuthExpiry | tLockExpiry | tCcExpiry | tPreExpiry | tStopExpiry | tLoopExpiry | cardAnswerTimeout |
    certAnswerTimeout | preauthExpiry | coolFlowLow | blockMissed | blockLost | metrologySave | metMtpWrite | mtpPulse |
    gateClearTimeout | postOpenDropWait | postOpenTestEnd | imdStale | tCondStale | degExpired | classSBlockClear | confirmLapse |
    unlockHeld | safEvsetWrite | rhpOpen | rhpEventAck | rhpPing | rhpPong | rhpClose | rhpPingTimer | rhpKeepaliveTimeout |
    tcpRetransmitTimeout | hostLaneDown | handleExpiry | eventHoldExpiry | requestTagExpiry | lockIdleExpiry | returnRequestExpiry |
    sessionClose | timeSet | logReadComplete | keyUpdateComplete | canMailboxGo | canMailboxAbort | canDeadlineLapse | canErrorPassive |
    canBusOff | canBusOn | canFailed | mccSlotStart | mccHopFail | mccLinkUnusableExpiry | mccReachTimeout | discoveryStart |
    protocolSequenceTimeout | mccCrcFail => dsimp only [exec]; exact s.onLog_atLog _
  case stgIdentReply => dsimp only [exec]; exact s.onLogFree_atLog _
  case eventSubscribe | opStatus | opList | opCancel | opRelease | opRead | siteLimitSet | siteStatusRead | outletLimitSet | outletOwn |
    outletDisown | outletPrioritySet | outletStart | outletStop | outletAuthAnswer | outletCertAnswer | outletFaultClear |
    outletServiceSet | outletStatusRead | outletCommission | groupStatusRead | deviceAttest | deviceReturn | serviceUnlockOpen |
    configLockAcquire | configLockRelease | paramWrite | safetyCheckRead | safetyConfirm | tuneCoeffLoad | tuneRun | captureRead |
    logRead | logAck | certInstall | imageStageDelta | imageStageFull | imageActivate | imageRollback => dsimp only [exec]; exact s.host_atLog _ _ _ _ _ _
  case dlpHello | dlpAuthResp | dlpKeepalive | dlpWake | dlpButton | dlpCard | dlpError | dlpUnknownPdu => dsimp only [exec]; exact s.dlp_atLog _ _ _ _ _ _ _
  case dlpPlug | dlpLockState | dlpImdState | dlpVehFrame | dlpVehLink | dlpHeadBlock | dlpCoolStatus => dsimp only [exec]; exact s.dlpOutlet_atLog _ _ _ _ _ _ _
  case headIdent | headResp | headStarted | headStopped | headStat | headErr => dsimp only [exec]; exact s.headMsg_atLog _ _ _ _ _
  all_goals cases hc

end Sys2Proof.Machine
end

section
/-! PROOFS. What an effect at an input-log position leaves as it is (R33, R45, R255). -/
namespace Sys2Proof.Machine

/-- A journal entry is 64 bytes long (R255). -/
theorem journalBytes_length (no boot logSeq : Nat) (p : Pav) (red : Bool) (j : JEntry) : (journalBytes no boot logSeq p red j).length = 64 := by
  have hpad : (padTo 28 j.detail).length = 28 := by
    unfold padTo
    rw [List.length_append, List.length_take, List.length_replicate]
    omega
  simp only [journalBytes, List.length_append, leBytes_length, hpad]

/-- The journal's ring of 256 entries (R255). -/
def outsideJournal (a : Nat) : Prop := a < 0x21C10040 ∨ 0x21C14040 ≤ a

theorem Local.mram_journal_outside (l : Local) (p : Pav) (red : Bool) (j : JEntry) {a : Nat} (ha : outsideJournal a) :
    (l.journal p red j).mram.rd a = l.mram.rd a := by
  unfold Local.journal
  rw [Mem.rd_wrBytes_outside]
  rw [journalBytes_length]
  unfold outsideJournal at ha
  have := Nat.mod_lt l.jNext (show 0 < 256 by decide)
  omega

theorem Pavilion.mram_flush_outside (v : Pavilion) (p : Pav) (red : Bool) {a : Nat} (ha : outsideJournal a) :
    (v.flush p red).loc.mram.rd a = v.loc.mram.rd a :=
  List.foldlRecOn (motive := fun l : Local => l.mram.rd a = v.loc.mram.rd a) v.rep.jq _ rfl
    fun l h j _ => (l.mram_journal_outside p red j ha).trans h

/-- A pavilion in step carries the effect out and writes the journal entries it queued; one out of step does neither (R33). -/
theorem Site.pav_onLog (t : Site) (f : Replica → Replica) (p : Pav) : ∃ red : Bool, (t.onLog f).pav p =
    if (t.pav p).inStep then
      Pavilion.flush { (t.pav p) with rep := f { (t.pav p).rep with now := t.now } } p red
    else t.pav p := by
  cases p
  · exact ⟨_, rfl⟩
  · exact ⟨_, rfl⟩

theorem Site.pav_onLog_of_not_inStep (t : Site) (f : Replica → Replica) (p : Pav) (h : (t.pav p).inStep = false) :
    (t.onLog f).pav p = t.pav p := by
  obtain ⟨red, hp⟩ := t.pav_onLog f p
  simp [hp, h]

theorem Site.mram_onLog_outside (t : Site) (f : Replica → Replica) (p : Pav) {a : Nat} (ha : outsideJournal a) :
    ((t.onLog f).pav p).loc.mram.rd a = (t.pav p).loc.mram.rd a := by
  obtain ⟨red, hp⟩ := t.pav_onLog f p
  rw [hp]
  split
  · exact Pavilion.mram_flush_outside _ p red ha
  · rfl

/-- Of a pavilion's own part, only its MRAM and the number of its next journal entry may change. -/
theorem Site.loc_onLog (t : Site) (f : Replica → Replica) (p : Pav) :
    ∃ (m : Mem) (n : Nat), ((t.onLog f).pav p).loc = { (t.pav p).loc with mram := m, jNext := n } := by
  let l := ((t.onLog f).pav p).loc
  have hrest : ({ l with mram := [], jNext := 0 } : Local) = { (t.pav p).loc with mram := [], jNext := 0 } :=
    t.onLog_keeps (fun k => { k with mram := [], jNext := 0 }) (fun _ _ _ => rfl) f p
  exact ⟨l.mram, l.jNext, congrArg (fun k : Local => { k with mram := l.mram, jNext := l.jNext }) hrest⟩

/-- The frame of an effect at an input-log position, pavilion by pavilion. -/
theorem Site.AtLog.frame {t u : Site} (h : t.AtLog u) :
    u.com = t.com ∧ ∀ p : Pav, u.role p = t.role p ∧
      (∃ (m : Mem) (n : Nat), (u.pav p).loc = { (t.pav p).loc with mram := m, jNext := n }) ∧
      (∀ a : Nat, outsideJournal a → (u.pav p).loc.mram.rd a = (t.pav p).loc.mram.rd a) ∧
      ((t.pav p).inStep = false → u.pav p = t.pav p) := by
  obtain rfl | ⟨f, n, rfl⟩ := h
  · exact ⟨rfl, fun p => ⟨rfl, ⟨_, _, rfl⟩, fun _ _ => rfl, fun _ => rfl⟩⟩
  · exact ⟨rfl, fun p => ⟨t.onLog_role f p, t.loc_onLog f p, fun _ ha => t.mram_onLog_outside f p ha, t.pav_onLog_of_not_inStep f p⟩⟩

/-- Settles O56: every command of `atLog` is an effect at an input-log position (`exec_atLog`), whose frame is `Site.AtLog.frame`. -/
theorem loggedCommandsFrame : Obligations.LoggedCommandsFrame := by
  intro c s t hc ht
  obtain ⟨u, hu, hat⟩ := exec_atLog c s hc
  obtain rfl : { s with site := u } = t := Host.Outcome.next.inj (hu.symm.trans ht)
  exact ⟨rfl, hat.frame⟩

end Sys2Proof.Machine
end

section
/-! PROOFS. Commands that keep to one pavilion. -/
namespace Sys2Proof.Machine

/-- The common block and the pavilion other than `p` are as before. -/
def Site.Apart (p : Pav) (t u : Site) : Prop := u.com = t.com ∧ u.pav p.other = t.pav p.other

section
variable {p : Pav} {t u : Site}

theorem Site.Apart.refl (p : Pav) (t : Site) : t.Apart p t := ⟨rfl, rfl⟩

theorem Site.Apart.modPav (h : t.Apart p u) (f : Pavilion → Pavilion) : t.Apart p (u.modPav p f) := by
  obtain ⟨hcom, hother⟩ := h
  exact ⟨(u.com_modPav p f).trans hcom, (u.pav_modPav_other p f).trans hother⟩

theorem Site.Apart.modLoc (h : t.Apart p u) (f : Local → Local) : t.Apart p (u.modLoc p f) := h.modPav _

theorem Site.Apart.modRep (h : t.Apart p u) (f : Replica → Replica) : t.Apart p (u.modRep p f) := h.modPav _

theorem Site.Apart.setEng (h : t.Apart p u) (e : Eng) (en : Engine) : t.Apart p (u.setEng p e en) := h.modLoc _

theorem Site.Apart.modEng (h : t.Apart p u) (e : Eng) (f : Engine → Engine) : t.Apart p (u.modEng p e f) := h.setEng e _

theorem Site.Apart.enqueue (h : t.Apart p u) (e : Eng) (q : Fin 8) (m : Msg) : t.Apart p (u.enqueue p e q m) := h.modEng e _

theorem Site.Apart.setFree (h : t.Apart p u) (n : Nat) : t.Apart p { u with free := n } := h

theorem Site.Apart.ite {c : Prop} [Decidable c] {v : Site} (hu : t.Apart p u) (hv : t.Apart p v) : t.Apart p (if c then u else v) := by
  split
  · exact hu
  · exact hv

end

/-- What a state's run answers is what the site leads to. -/
theorem State.run_leads {R : Site → Prop} (s : State) (f : Site → Site) (h : R (f s.site)) : Result.Leads R s (s.run f) := ⟨_, rfl, h⟩

section
variable (s : State) (p : Pav) (e : Eng)

theorem State.engine_apart (f : Engine → Engine) : Result.Leads (s.site.Apart p) s (s.engine p e f) :=
  s.run_leads _ (.ite ((Site.Apart.refl p _).modEng e f) (.refl p _))

/-- A Gatehouse request: its work item joins the replica's, the free values move on, and its message leaves the Gatehouse's queue (R518). -/
theorem State.gh_apart (desc : Word) (op : Nat) (f : GhReq → Env → Replica → Nat × List Byte × Replica) :
    Result.Leads (s.site.Apart p) s (s.gh p e desc op f) := by
  refine s.run_leads _ (.ite (.refl p _) ?_)
  exact .modEng (.setFree (.modRep (.refl p _) _) _) _ _

theorem execInterruptEntry_apart : Result.Leads (s.site.Apart p) s (execInterruptEntry p e s) :=
  s.run_leads _ (.ite (.setEng (.refl p _) _ _) (.refl p _))

theorem execAwaitWake_apart : Result.Leads (s.site.Apart p) s (execAwaitWake p e s) :=
  s.run_leads _ (.ite (.modEng (.refl p _) _ _) (.refl p _))

theorem execWfiWake_apart : Result.Leads (s.site.Apart p) s (execWfiWake p e s) :=
  s.run_leads _ (.ite (.modEng (.refl p _) _ _) (.refl p _))

theorem execFenceComplete_apart : Result.Leads (s.site.Apart p) s (execFenceComplete p e s) :=
  s.run_leads _ (.ite (.modEng (.refl p _) _ _) (.refl p _))

theorem execMrcvWake_apart : Result.Leads (s.site.Apart p) s (execMrcvWake p e s) := by
  refine s.run_leads _ ?_
  split
  · exact .ite (.modEng (.refl p _) _ _) (.refl p _)
  · exact .refl p _

theorem execMsndWake_apart : Result.Leads (s.site.Apart p) s (execMsndWake p e s) := by
  refine s.run_leads _ ?_
  split
  · split
    · exact .ite (.refl p _) (.modEng (.enqueue (.refl p _) _ _ _) _ _)
    · exact .refl p _
  · exact .refl p _

theorem execLeaseRenewalRx_apart : Result.Leads (s.site.Apart p) s (execLeaseRenewalRx p s) :=
  s.run_leads _ (.ite (.refl p _) (.modLoc (.refl p _) _))

theorem execEchoProbe_apart (g : Grp) : Result.Leads (s.site.Apart p) s (execEchoProbe p g s) :=
  s.run_leads _ (.ite (.modLoc (.refl p _) _) (.refl p _))

theorem execGhRequestDone_apart : Result.Leads (s.site.Apart p) s (execGhRequestDone p s) := by
  refine s.run_leads _ ?_
  dsimp only
  split
  · exact .refl p _
  · exact .ite (.refl p _) (.enqueue (.modPav (.refl p _) _) _ _ _)

theorem execGhSelftestDone_apart (pass : Bool) : Result.Leads (s.site.Apart p) s (execGhSelftestDone p pass s) :=
  s.run_leads _ (.ite (.refl p _) (.ite (.setFree (.modRep (.refl p _) _) _) (.modRep (.refl p _) _)))

theorem State.modPav_apart (f : Site → Pavilion → Pavilion) : Result.Leads (s.site.Apart p) s (s.run fun t => t.modPav p (f t)) :=
  s.run_leads _ (.modPav (.refl p _) _)

end

/-- The commands of `keepsTo` are what the name says. -/
theorem exec_apart (c : Instr) (p : Pav) (s : State) (hc : keepsTo c = some p) : Result.Leads (s.site.Apart p) s (exec c s) := by
  cases c
  case add | sub | and | or | xor | sll | srl | sra | slt | sltu | addc | subc | adds | subs | min | max | minu | maxu | abss | clz |
    mul | mulh | mulhu | mulq | div | divu | rem | remu | addi | andi | ori | xori | slti | sltiu | slli | srli | srai | lhi | addsi |
    jal | nop | fence => cases hc; dsimp only [exec]; exact s.engine_apart _ _ _
  case ghSign | ghVerify | ghKeyAgree | ghChallenge | ghCheckResp | ghMac | ghSeal | ghOpen | ghHash | ghRandom | ghCtxFree |
    ghReadState => cases hc; dsimp only [exec]; exact s.gh_apart _ _ _ _ _
  case interruptEntry => cases hc; dsimp only [exec]; exact execInterruptEntry_apart s _ _
  case awaitWake => cases hc; dsimp only [exec]; exact execAwaitWake_apart s _ _
  case mrcvWake => cases hc; dsimp only [exec]; exact execMrcvWake_apart s _ _
  case msndWake => cases hc; dsimp only [exec]; exact execMsndWake_apart s _ _
  case wfiWake => cases hc; dsimp only [exec]; exact execWfiWake_apart s _ _
  case fenceComplete => cases hc; dsimp only [exec]; exact execFenceComplete_apart s _ _
  case leaseRenewalRx => cases hc; dsimp only [exec]; exact execLeaseRenewalRx_apart s _
  case echoProbe => cases hc; dsimp only [exec]; exact execEchoProbe_apart s _ _
  case ghRequestDone => cases hc; dsimp only [exec]; exact execGhRequestDone_apart s _
  case ghSelftestDone => cases hc; dsimp only [exec]; exact execGhSelftestDone_apart s _ _
  case stgSampleFrameRx | footbridgeFrameRx | echoReturnRx | canHeldFrameExpiry =>
    cases hc; dsimp only [exec]; exact s.modPav_apart _ _
  all_goals cases hc

/-- Settles O57: every command of `keepsTo` leads to a site apart from the other pavilion (`exec_apart`). -/
theorem onePavilionCommandsFrame : Obligations.OnePavilionCommandsFrame := by
  intro c p s t hc ht
  obtain ⟨u, hu, hcom, hother⟩ := exec_apart c p s hc
  obtain rfl : { s with site := u } = t := Host.Outcome.next.inj (hu.symm.trans ht)
  exact ⟨rfl, hcom, hother⟩

end Sys2Proof.Machine
end

section
/-! PROOFS. The instructions keep every law of the site (R27, R110, R112, R116 to R135). -/
namespace Sys2Proof.Machine

-- One proof after another: a proof that uses a default argument below waits for the kernel to have checked all before it.
set_option Elab.async false

variable {L : SiteLaw}

/-- Whatever state this answers, its site keeps the law. -/
def Result.Meets (L : SiteLaw) (r : Result) : Prop := ∀ t : State, r = .next t → t.site.Meets L

/-- What an instruction of one engine answers is a move of that engine, or an exception. -/
def EngRes.Moves (e : Eng) (en : Engine) (r : EngRes) : Prop := ∀ en', r = .ok en' → Engine.Moves e en en'

/-- What an instruction that looks beyond its engine answers keeps the law, or is an exception. -/
def SiteRes.Meets (L : SiteLaw) (r : SiteRes) : Prop := ∀ t : Site, r = .ok t → t.Meets L

section
variable {e : Eng} {en en' : Engine}

theorem EngRes.moves_ok (h : Engine.Moves e en en') : (EngRes.ok en').Moves e en := fun _ he => EngRes.ok.inj he ▸ h

theorem EngRes.moves_exc (e : Eng) (en : Engine) (c : Nat) (a : Word) : (EngRes.exc c a).Moves e en := fun _ he => nomatch he

theorem EngRes.moves_ite {c : Prop} [Decidable c] {r r' : EngRes} (h : r.Moves e en) (h' : r'.Moves e en) :
    (if c then r else r').Moves e en := by
  split
  · exact h
  · exact h'

theorem SiteRes.meets_ok {t : Site} (h : t.Meets L) : (SiteRes.ok t).Meets L := fun _ he => SiteRes.ok.inj he ▸ h

theorem SiteRes.meets_exc (L : SiteLaw) (c : Nat) (a : Word) : (SiteRes.exc c a).Meets L := fun _ he => nomatch he

theorem SiteRes.meets_ite {c : Prop} [Decidable c] {r r' : SiteRes} (h : r.Meets L) (h' : r'.Meets L) : (if c then r else r').Meets L := by
  split
  · exact h
  · exact h'

end

section
variable {s : State} (h : s.site.Meets L) (p : Pav) (e : Eng)

theorem State.run_meets {f : Site → Site} (hf : (f s.site).Meets L) : (s.run f).Meets L := fun _ ht => Host.Outcome.next.inj ht ▸ hf

include h

theorem State.engine_meets {f : Engine → Engine} (hf : ∀ en, Engine.Moves e en (f en)) : (s.engine p e f).Meets L :=
  State.run_meets (Site.Meets.ite (h.modEng hf) h)

theorem State.engineX_meets {f : Engine → EngRes} (hf : ∀ en, (f en).Moves e en) : (s.engineX p e f).Meets L := by
  refine State.run_meets (Site.Meets.ite ?_ h)
  split
  · next en hen => exact h.setEng (L.moves (h.eng p e) (hf _ en hen))
  · exact h.exception p e _ _

theorem State.siteX_meets {f : Site → SiteRes} (hf : (f s.site).Meets L) : (s.siteX p e f).Meets L := by
  refine State.run_meets (Site.Meets.ite ?_ h)
  split
  · next t ht => exact hf t ht
  · exact h.exception p e _ _

theorem State.loopInstr_meets (word : Word) (ok : Bool) {f : Engine → Engine} (hf : loopProfile e = true → ∀ en, Engine.Moves e en (f en)) :
    (s.loopInstr p e word ok f).Meets L := by
  refine State.engineX_meets h p e fun en => ?_
  split
  · next hok => exact EngRes.moves_ok (hf (by simp_all) en)
  · exact EngRes.moves_exc _ _ _ _

theorem State.frameX_meets (word : Word) (ok : Bool) (s1 : Gpr) {f : Site → Nat → Site} (hf : ∀ g, (f s.site g).Meets L) :
    (s.frameX p e word ok s1 f).Meets L :=
  State.siteX_meets h p e
    (SiteRes.meets_ite (SiteRes.meets_exc L _ _) (SiteRes.meets_ite (SiteRes.meets_exc L _ _) (SiteRes.meets_ok (hf _).modEng)))

theorem State.sprModify_meets (func : Nat) (s1 : Gpr) (opd : BitVec 12) (f : Word → Word → Word) :
    (s.sprModify p e func s1 opd f).Meets L := by
  refine State.siteX_meets h p e ?_
  split
  · exact SiteRes.meets_ok (h.modEng fun en => (Engine.Moves.refl e en).sprWrite _ _)
  · exact SiteRes.meets_exc L _ _

/-! ### Accesses to memory (R123, R124) -/

omit h in
theorem Site.Meets.countSingle {t : Site} (ht : t.Meets L) (p : Pav) (m : Nat) : (t.countSingle p m).Meets L := ht.modLoc

theorem State.load_meets (d base : Gpr) (off : BitVec 15) (ecc : Ecc) (size : Nat) (conv : Nat → Word) :
    (s.load p e d base off ecc size conv).Meets L := by
  refine State.run_meets (Site.Meets.ite h ?_)
  extract_lets a
  split
  · exact h.refuseAccess p e _ _
  · next t _ _ =>
    have ht : t.Meets L := h.drainBuffer p e
    refine Site.Meets.ite ht ?_
    split
    · exact ht.doubleBit p e _ _
    · extract_lets u x
      have hu : u.Meets L := by
        unfold u
        split
        · exact ht.countSingle p _
        · exact ht
      exact (hu.loadBytes p e _ size).modEng fun en => (Engine.Moves.refl e en).setG d _

theorem State.store_meets (hs : L.TakesStores) (src base : Gpr) (off : BitVec 15) (size : Nat) : (s.store p e src base off size).Meets L := by
  refine State.run_meets (Site.Meets.ite h ?_)
  extract_lets a
  split
  · exact h.refuseAccess p e _ _
  · next x u _ _ =>
    have hu : u.Meets L := Site.Meets.ite (h.drainOne p e) h
    have hroom : (u.eng p e).wbuf.length < max 4 (s.site.eng p e).wbuf.length → L.eng p e { u.eng p e with wbuf := (u.eng p e).wbuf ++ [x] } :=
      hs x (h.eng p e) (hu.eng p e)
    refine Site.Meets.ite hu (hu.setEng (L.moves (hroom ?_) (Engine.Moves.refl _ _)))
    by_cases hfull : 4 ≤ (s.site.eng p e).wbuf.length
    · have hne : (s.site.eng p e).wbuf ≠ [] := by
        intro h0
        simp [h0] at hfull
      have hlt := Site.wbuf_drainOne_lt s.site p e hne
      have hux : u = s.site.drainOne p e := if_pos hfull
      rw [hux]
      omega
    · have hux : u = s.site := if_neg hfull
      rw [hux]
      omega

end

/-! ### Instructions of one engine -/

section
variable {s : State} (h : s.site.Meets L) (p : Pav) (e : Eng)
include h

theorem State.branch_meets (cond : Engine → Bool) (off : BitVec 15) : (s.engineX p e fun en => en.branch (cond en) off).Meets L := by
  refine State.engineX_meets h p e fun en => ?_
  have hmove : ∀ pc, Engine.Moves e en { en with pc := pc } := fun _ => Engine.Moves.refl e en
  exact EngRes.moves_ite (EngRes.moves_ite (EngRes.moves_ok (hmove _)) (EngRes.moves_exc _ _ _ _)) (EngRes.moves_ok (hmove _))

theorem State.flagBranch_meets {bad : Prop} {_ : Decidable bad} (word : Word) (cond : Engine → Bool) (off : BitVec 15) :
    (s.engineX p e fun en => if bad then .exc exILLEGAL word else en.branch (cond en) off).Meets L := by
  by_cases hbad : bad
  · simpa [hbad] using State.engineX_meets h p e fun en => EngRes.moves_exc e en exILLEGAL word
  · simpa [hbad] using State.branch_meets h p e cond off

end

end Sys2Proof.Machine
end

section
/-! PROOFS. The instructions keep every law of the site: one lemma for each shape. -/
namespace Sys2Proof.Machine

-- One proof after another: a proof that uses a default argument below waits for the kernel to have checked all before it.
set_option Elab.async false

section
variable {L : SiteLaw} {s : State} (h : s.site.Meets L) (p : Pav) (e : Eng)
include h

theorem execJalr_meets (d s1 : Gpr) (imm : BitVec 16) : (execJalr p e d s1 imm s).Meets L :=
  State.engineX_meets h p e fun en => EngRes.moves_ite (EngRes.moves_ok ((Engine.Moves.refl e en).setG d _)) (EngRes.moves_exc _ _ _ _)

theorem execSprd_meets (d : Gpr) (opd : BitVec 12) : (execSprd p e d opd s).Meets L := by
  refine State.siteX_meets h p e ?_
  split
  · exact SiteRes.meets_exc L _ _
  · exact SiteRes.meets_ok (h.modEng fun en => (Engine.Moves.refl e en).setG d _)

theorem execSpwr_meets (s1 : Gpr) (opd : BitVec 12) : (execSpwr p e s1 opd s).Meets L := by
  refine State.engineX_meets h p e fun en => ?_
  split
  · exact EngRes.moves_exc _ _ _ _
  · exact EngRes.moves_ok ((Engine.Moves.refl e en).sprWrite _ _)

theorem execEret_meets : (execEret p e s).Meets L :=
  State.engineX_meets h p e fun en =>
    EngRes.moves_ite (EngRes.moves_exc _ _ _ _) (EngRes.moves_ite (EngRes.moves_ok (Engine.Moves.refl e en)) (EngRes.moves_exc _ _ _ _))

theorem execTrap_meets (opd : BitVec 12) : (execTrap p e opd s).Meets L := State.engineX_meets h p e fun _ => EngRes.moves_exc _ _ _ _

theorem execWfi_meets : (execWfi p e s).Meets L := by
  refine State.siteX_meets h p e (SiteRes.meets_ite (SiteRes.meets_exc L _ _) (SiteRes.meets_ok (h.modEng fun en => ?_)))
  split
  · exact Engine.Moves.refl e en
  · exact Engine.Moves.refl e en

/-- A message that finds no room waits in its sender (R137). -/
theorem execMsnd_meets (d s1 : Gpr) (target : BitVec 4) (queue : Fin 8) : (execMsnd p e d s1 target queue s).Meets L := by
  refine State.siteX_meets h p e ?_
  split
  · exact SiteRes.meets_exc L _ _
  · split
    · exact SiteRes.meets_ok h.modEng
    · next hroom => exact SiteRes.meets_ok (h.enqueue (by simpa using hroom)).modEng

theorem execMrcv_meets (d : Gpr) (queue : Fin 8) (nb : Bool) : (execMrcv p e d queue nb s).Meets L := by
  refine State.engineX_meets h p e fun en => ?_
  have hen := Engine.Moves.refl e en
  refine EngRes.moves_ite (EngRes.moves_exc _ _ _ _) (EngRes.moves_ite ?_ (EngRes.moves_ite ?_ ?_))
  · exact EngRes.moves_ok (hen.receive d queue nb)
  · exact EngRes.moves_ok (hen.setPair d 0 0)
  · exact EngRes.moves_ok hen

theorem State.section_meets (word : Word) (s2 : Gpr) (idx : BitVec 9) {f : Engine → Nat → SectionRecord → Engine}
    (hf : ∀ en₀ en a r, Engine.Moves e en₀ en → Engine.Moves e en₀ (f en a r)) : (s.engineX p e fun en => en.withSection e word s2 idx f).Meets L := by
  refine State.engineX_meets h p e fun en => ?_
  refine EngRes.moves_ite (EngRes.moves_exc _ _ _ _) (EngRes.moves_ite (EngRes.moves_exc _ _ _ _)
    (EngRes.moves_ite (EngRes.moves_exc _ _ _ _) (EngRes.moves_ite (EngRes.moves_exc _ _ _ _) (EngRes.moves_ok ?_))))
  exact hf en _ _ _ (Engine.Moves.refl e en).settleTcm

theorem execSos_meets (d s1 s2 : Gpr) (idx : BitVec 9) : (execSos p e d s1 s2 idx s).Meets L :=
  State.section_meets h p e _ _ _ fun _ _ _ _ hen => (hen.putSectionState _ _ _ _ _).sectionOut d _ _

theorem execSosh_meets (d s1 s2 : Gpr) (idx : BitVec 9) : (execSosh p e d s1 s2 idx s).Meets L :=
  State.section_meets h p e _ _ _ fun _ _ _ _ hen => hen.sectionOut d _ _

theorem execSosp_meets (d s1 s2 : Gpr) (idx : BitVec 9) : (execSosp p e d s1 s2 idx s).Meets L :=
  State.section_meets h p e _ _ _ fun _ _ _ _ hen => hen.putSectionState _ _ _ _ _

theorem execFrld_meets (d s1 : Gpr) (fmt : BitVec 2) (hw : BitVec 6) : (execFrld p e d s1 fmt hw s).Meets L :=
  State.frameX_meets h p e _ _ _ fun _ => h.modEng fun en => (Engine.Moves.refl e en).setG d _

theorem execFrstat_meets (d s1 : Gpr) : (execFrstat p e d s1 s).Meets L :=
  State.frameX_meets h p e _ _ _ fun _ => h.modEng fun en => (Engine.Moves.refl e en).setG d _

theorem execFrst_meets (d s1 : Gpr) (fmt : BitVec 2) (hw : BitVec 6) : (execFrst p e d s1 fmt hw s).Meets L :=
  State.frameX_meets h p e _ _ _ fun _ => Site.Meets.modEng (h.modLoc fun _ hl => hl.setOutWin (Mem.wf_wrN _ _ _ _)) fun en =>
    (Engine.Moves.refl e en).stick _ _

theorem execAwait_meets (s1 : Gpr) (endMark : Bool) : (execAwait p e s1 endMark s).Meets L := by
  refine State.siteX_meets h p e (SiteRes.meets_ite (SiteRes.meets_exc L _ _) (SiteRes.meets_ok ?_))
  have hen := (Engine.Moves.refl e (s.site.eng p e)).markEnd endMark
  refine h.setEng (L.moves (h.eng p e) ?_)
  split
  · exact hen
  · exact hen

theorem execAwaitp_meets (s1 : Gpr) (endMark : Bool) : (execAwaitp p e s1 endMark s).Meets L :=
  State.siteX_meets h p e (SiteRes.meets_ok (h.setEng (L.moves (h.eng p e) ((Engine.Moves.refl e (s.site.eng p e)).markEnd endMark))))

theorem execAwaits_meets (slot : Slot) (endMark : Bool) : (execAwaits p e slot endMark s).Meets L := by
  have hen := (Engine.Moves.refl e (s.site.eng p e)).markEnd endMark
  refine State.siteX_meets h p e (SiteRes.meets_ok (h.setEng (L.moves (h.eng p e) ?_)))
  split
  · exact hen
  · exact hen

theorem execTread_meets (d : Gpr) : (execTread p e d s).Meets L :=
  State.siteX_meets h p e (SiteRes.meets_ite (SiteRes.meets_exc L _ _)
    (SiteRes.meets_ok (h.modEng fun en => (Engine.Moves.refl e en).setPair d _ _)))

theorem execTsite_meets (d : Gpr) : (execTsite p e d s).Meets L :=
  State.siteX_meets h p e (SiteRes.meets_ok (h.modEng fun en => (Engine.Moves.refl e en).setG d _))

theorem execIllegalInstruction_meets (word : Word) : (execIllegalInstruction p e word s).Meets L :=
  State.engineX_meets h p e fun en => EngRes.moves_ite (EngRes.moves_ok (Engine.Moves.refl e en)) (EngRes.moves_exc _ _ _ _)

theorem execSequentialFetchBeyondItcm_meets : (execSequentialFetchBeyondItcm p e s).Meets L :=
  State.run_meets (Site.Meets.ite (h.exception p e _ _) h)

theorem execQueueStall_meets : (execQueueStall p e s).Meets L := by
  refine State.run_meets ?_
  split
  · exact Site.Meets.ite (h.exception p e _ _) h
  · exact h

/-! ### Waits and interrupts (R138, R141, R148) -/

theorem execInterruptEntry_meets : (execInterruptEntry p e s).Meets L :=
  State.run_meets (Site.Meets.ite (h.setEng (L.moves (h.eng p e) (Engine.Moves.exceptionEntry e _ _ _))) h)

theorem State.wake_meets (c : Site → Bool) : (s.run fun t => if c t then t.modEng p e Engine.wake else t).Meets L :=
  State.run_meets (Site.Meets.ite h.modEng h)

theorem execMrcvWake_meets : (execMrcvWake p e s).Meets L := by
  refine State.run_meets ?_
  split
  · exact Site.Meets.ite (h.modEng fun en => (Engine.Moves.refl e en).receive _ _ _) h
  · exact h

theorem execMsndWake_meets : (execMsndWake p e s).Meets L := by
  refine State.run_meets ?_
  split
  · split
    · split
      · exact h
      · next hroom => exact (h.enqueue (by simpa using hroom)).modEng
    · exact h
  · exact h

theorem execFence_meets : (execFence p e s).Meets L := by
  refine State.engine_meets h p e fun en => ?_
  split
  · exact Engine.Moves.refl e en
  · exact Engine.Moves.refl e en

/-! ### Registers of the blocks (R37) -/

theorem execRegisterWrite_meets (addr value : Word) : (execRegisterWrite p e addr value s).Meets L :=
  State.run_meets (h.guarded p e true addr ((h.drainBuffer p e).storeOut p e _))

theorem execWideLowRead_meets (addr : Word) : (execWideLowRead p e addr s).Meets L := by
  refine State.run_meets (h.guarded p e false addr ?_)
  split
  · exact h.readBlock p e _ _
  · exact h

end

end Sys2Proof.Machine
end

section
/-! PROOFS. The commands of the pavilions, of the log and the lease, and of Sundial keep every law of the site. -/
namespace Sys2Proof.Machine

-- One proof after another: a proof that uses a default argument below waits for the kernel to have checked all before it.
set_option Elab.async false

section
variable {L : SiteLaw} {s : State} (h : s.site.Meets L) (p : Pav)
include h

/-! ### Two pavilions side by side (R76 to R99) -/

theorem execCopyMismatch_meets (f : Nat) : (execCopyMismatch f s).Meets L :=
  State.run_meets (Site.Meets.ite h (Site.Meets.onLog (Site.Meets.modLoc h.modLoc)))

theorem execSiteCycleBoundary_meets : (execSiteCycleBoundary s).Meets L := by
  refine State.run_meets ?_
  extract_lets t₁ t₂ t₃
  have h₁ : t₁.Meets L := h.modCom
  have h₂ : t₂.Meets L := ((h₁.cycleMarks .A).cycleMarks .B).logBoundary
  have h₃ : t₃.Meets L := Site.Meets.modLoc (h₂.modLoc fun _ hl => hl.newCycle _) fun _ hl => hl.newCycle _
  exact h₃.toRun.wakeDone.setFree _

theorem execFootbridgeChannelFail_meets (ch : Fin 2) (beats : Bool) : (execFootbridgeChannelFail p ch beats s).Meets L :=
  State.run_meets (Site.Meets.ite h (Site.Meets.onLog h.modLoc))

theorem execInputSetClosure_meets : (execInputSetClosure s).Meets L := by
  refine State.run_meets ?_
  extract_lets go
  have hgo : ∀ u q, u.Meets L → (go u q).Meets L := fun u q hu =>
    Site.Meets.ite hu (Site.Meets.ite ((hu.fireTarget q _).modLoc) (hu.fireTarget q _))
  exact hgo _ _ (hgo _ _ h)

theorem execClosureVectorRx_meets (katA katB : Bool) : (execClosureVectorRx katA katB s).Meets L := by
  refine State.run_meets ?_
  extract_lets due x t₁ t₂ t₃
  refine Site.Meets.ite h ?_
  have h₁ : t₁.Meets L := h.onStep fun _ _ hv => Pavilion.meets_ite (Pavilion.closure_meets hv x) hv
  have h₂ : t₂.Meets L := h₁.modCom
  exact (h₂.safetyPins.openBanks.closureCompare katA katB).setFree _

theorem execCommandRelease_meets : (execCommandRelease s).Meets L := by
  refine State.run_meets ?_
  extract_lets t₁ idle t₂ t₃ t₄
  have h₂ : t₂.Meets L := (h.applyOutcome.releaseOne .A idle).releaseOne .B idle
  have h₃ : t₃.Meets L := h₂.modCom
  have h₄ : t₄.Meets L := h₃.noteBusy
  split
  · exact Site.Meets.ite h₄.takeSwitches h₄
  · exact h₄

theorem execPeerDigestRx_meets (katA katB : Bool) : (execPeerDigestRx katA katB s).Meets L := by
  refine State.run_meets ?_
  extract_lets dig shown
  have hshown : ∀ u q, u.Meets L → (shown u q).Meets L := fun u q hu => hu.modLoc
  refine Site.Meets.ite h ?_
  split
  · next t₁ clean _ =>
    have h₁ : t₁.Meets L := hshown _ _ (hshown _ _ h)
    refine Site.Meets.ite (h₁.startDivergence katA katB) (Site.Meets.ite h₁ ?_)
    have hclean : ∀ u q, u.Meets L → (clean u q).Meets L := fun u q hu => hu.modLoc
    exact (hclean _ _ (hclean _ _ h₁)).takeSwitches
  · split
    · exact h
    · split
      · exact Site.Meets.ite h (Site.Meets.ite h.modLoc (h.setAside _ _))
      · exact h

theorem execDigestMissing_meets : (execDigestMissing p s).Meets L := State.run_meets (Site.Meets.ite (h.setAside p _) h)

theorem execRefereeVerdict_meets (lowA lowB : Bool) : (execRefereeVerdict lowA lowB s).Meets L := by
  have hlevels := h.refLevels lowA lowB
  exact State.run_meets (Site.Meets.ite h (Site.Meets.ite (hlevels.verdict lowA lowB).clearDiv hlevels))

theorem execRefereeWindowTimeout_meets : (execRefereeWindowTimeout s).Meets L := by
  refine State.run_meets (Site.Meets.ite h ?_)
  extract_lets close t₁ cause
  have hclose : ∀ u q, u.Meets L → (close u q).Meets L := fun u q hu => hu.modLoc fun _ hl => Local.Meets.ite hl hl
  have h₁ : t₁.Meets L := hclose _ _ (hclose _ _ h)
  exact Site.Meets.ite (h₁.setAside _ _) (Site.Meets.ite (h₁.setAside _ _) h₁)

theorem execUnsolicitedVerdict_meets (lowA lowB : Bool) : (execUnsolicitedVerdict lowA lowB s).Meets L :=
  State.run_meets (Site.Meets.ite h ((h.refLevels lowA lowB).verdict lowA lowB))

/-- A reset that a condition of the site asks for. -/
theorem State.resetIf_meets (c : Site → Bool) (cause : Nat) : (s.run fun t => if c t then t.pavReset p cause else t).Meets L :=
  State.run_meets (Site.Meets.ite (h.pavReset p cause) h)

theorem execIndicatorAlone_meets : (execIndicatorAlone p s).Meets L :=
  State.run_meets (Site.Meets.ite (Site.Meets.modLoc (Site.Meets.controlledStop h.onLog)) h)

/-! ### The log and the lease (R81 to R90, R101 to R104) -/

theorem execLeaseRenewalSend_meets : (execLeaseRenewalSend s).Meets L := by
  refine State.run_meets ?_
  split
  · exact h.renew _
  · exact h

theorem execLeaseRenewalRx_meets : (execLeaseRenewalRx p s).Meets L := State.run_meets (Site.Meets.ite h h.modLoc)

theorem execLeaseReleaseSeen_meets : (execLeaseReleaseSeen p s).Meets L :=
  State.run_meets (Site.Meets.ite h (Site.Meets.ite (h.takeover p) (Site.Meets.ite (h.pavReset p _) h)))

theorem execLeaseExpiry_meets (live : Bool) : (execLeaseExpiry p live s).Meets L := by
  refine State.run_meets (Site.Meets.ite ?_ (Site.Meets.ite (h.pavReset p _) h))
  extract_lets t₁
  have h₁ : t₁.Meets L := h.modLoc
  exact Site.Meets.ite (h₁.setAside p _) (h₁.takeover p)

theorem execPeerClaimHigher_meets : (execPeerClaimHigher p s).Meets L := by
  refine State.run_meets (Site.Meets.ite h (Site.Meets.ite (h.pavReset p _) (Site.Meets.ite ?_ ?_)))
  · exact Site.Meets.modLoc ((h.setRole p _).present p _)
  · exact (h.setAside p _).setFree _

theorem execLogEntrySequence_meets (kind source : Nat) (payload : List Byte) (switching : Bool) :
    (execLogEntrySequence kind source payload switching s).Meets L :=
  State.run_meets (Site.Meets.ite h (h.input kind source payload switching))

theorem execLogEntryRx_meets (seq effective kind source : Nat) (payload : List Byte) (checkOk switching : Bool) :
    (execLogEntryRx p seq effective kind source payload checkOk switching s).Meets L := by
  refine State.run_meets (Site.Meets.ite h (Site.Meets.ite (Site.Meets.setAside h.modLoc p _) ?_))
  refine h.modLoc fun l hl => Local.Meets.noteCan ?_ source payload
  exact hl

theorem execJoinRequest_meets : (execJoinRequest p s).Meets L := State.run_meets (h.askJoin p)

theorem execJoinRetry_meets : (execJoinRetry p s).Meets L := State.run_meets (Site.Meets.ite (h.askJoin p) h)

theorem execBackgroundCopyDone_meets : (execBackgroundCopyDone p s).Meets L := by
  refine State.run_meets ?_
  split
  · exact h
  · refine Site.Meets.ite h ?_
    split
    · exact h.holdLog _
    · next u hu => exact (h.entry hu).modLoc

theorem execSyncBoundary_meets : (execSyncBoundary s).Meets L := by
  refine State.run_meets ?_
  split
  · exact h
  · split
    · exact h.modLoc
    · exact h

theorem execHandoverRecordRx_meets (checkOk : Bool) : (execHandoverRecordRx p checkOk s).Meets L := by
  refine State.run_meets (Site.Meets.ite h (Site.Meets.ite (h.setAside p _) ?_))
  extract_lets t₁
  have h₁ : t₁.Meets L := h.modPav fun v hv => Pavilion.handed_meets hv (h.1 p.other) _
  exact Site.Meets.ite h₁.onLog h₁

theorem execJoinerBecomesFollower_meets : (execJoinerBecomesFollower p s).Meets L := by
  refine State.run_meets (Site.Meets.ite h ?_)
  extract_lets t₁ t₂ t₃
  have h₁ : t₁.Meets L := Site.Meets.setRole h.modLoc p _
  have h₂ : t₂.Meets L := h₁.onLog
  have h₃ : t₃.Meets L := Site.Meets.ite h₂.onStep h₂
  exact Site.Meets.ite (h₃.pavReset _ _) h₃

theorem execHoldElapsed_meets : (execHoldElapsed p s).Meets L := State.run_meets (Site.Meets.ite h.orderHandback h)

theorem execHandbackTick_meets : (execHandbackTick s).Meets L := by
  refine State.run_meets ?_
  split
  · exact h
  · refine Site.Meets.ite h (Site.Meets.ite (Site.Meets.modLoc h.modLoc) (Site.Meets.ite h.modLoc ?_))
    refine Site.Meets.takeSwitches (Site.Meets.passInputs (Site.Meets.ite (Site.Meets.atT ?_ _) ?_) _)
    · exact Site.Meets.modLoc (Site.Meets.modLoc (h.takeClaim _))
    · exact Site.Meets.modLoc (Site.Meets.modLoc (h.takeClaim _))

/-! ### Sample frames and echoes (R78, R159) -/

omit h in
theorem Local.Meets.holdFrame {q : Pav} {l : Local} (hl : l.Meets L q) (lane : Lane) (g : Nat) (b : List Byte) : (l.holdFrame lane g b).Meets L q := by
  cases lane
  · exact hl
  · exact hl

/-- A frame that arrives is forwarded, reported and held, which touches no engine and no memory. -/
theorem execStgSampleFrameRx_meets (g : Grp) (frame : List Byte) (lineOk : Bool) : (execStgSampleFrameRx p g frame lineOk s).Meets L := by
  refine State.run_meets (h.modPav fun v hv => ?_)
  extract_lets whole loc
  have hloc : loc.Meets L p := hv
  exact Pavilion.meets_ite hv (Pavilion.meets_ite hv (Pavilion.meets_ite (hloc.holdFrame p _ _) (Local.Meets.ite hv hloc)))

theorem execFootbridgeFrameRx_meets (lane : Lane) (g : Grp) (frame : List Byte) : (execFootbridgeFrameRx p lane g frame s).Meets L :=
  State.run_meets (h.modPav fun _ hv => Pavilion.meets_ite (Pavilion.meets_ite hv (hv.holdFrame lane _ _)) hv)

theorem execEchoProbe_meets (g : Grp) : (execEchoProbe p g s).Meets L := State.run_meets (Site.Meets.ite h.modLoc h)

theorem execEchoReturnRx_meets (g : Grp) (token : Byte) (roundTrip : Nat) : (execEchoReturnRx p g token roundTrip s).Meets L :=
  State.run_meets (h.modPav fun _ hv => Pavilion.meets_ite hv hv)

/-! ### Sundial (R58 to R73) -/

theorem execZeroCrossing_meets (positive : Bool) (ago : Nat) : (execZeroCrossing positive ago s).Meets L :=
  State.run_meets (Site.Meets.publishSdl (h.modCom fun _ _ _ hc => hc.crossing _ _ _))

theorem execZeroCrossingTimeout_meets : (execZeroCrossingTimeout s).Meets L :=
  State.run_meets (Site.Meets.publishSdl (h.modCom fun _ _ _ hc => Common.Legal.ite hc hc))

theorem execMainsPlausibilityCheck_meets (pass : Bool) : (execMainsPlausibilityCheck pass s).Meets L := by
  refine State.run_meets (Site.Meets.ite h.modCom (Site.Meets.onLog (Site.Meets.publishSdl (h.modCom fun _ _ _ hc => ?_))))
  exact Common.Legal.ite hc hc

theorem execBitstreamStuck_meets (c : Fin 6) : (execBitstreamStuck c s).Meets L := State.run_meets h.modCom

theorem execSundialCopyMismatch_meets : (execSundialCopyMismatch s).Meets L := State.run_meets (Site.Meets.controlledStop h.onLog)

theorem execClockSelectorFault_meets : (execClockSelectorFault s).Meets L := State.run_meets (Site.Meets.controlledStop h.onLog)

theorem execSdlSlotArm_meets (n : Slot) (ctrl : Word) : (execSdlSlotArm p n ctrl s).Meets L := by
  refine State.run_meets ?_
  extract_lets t₁ l
  have h₁ : t₁.Meets L := h.modLoc fun _ hl => hl.armSlot n ctrl
  exact Site.Meets.ite h₁.modLoc h₁

/-- A slot that fires delivers its message where its queue has room (R73). -/
theorem execSlotFire_meets (n : Slot) : (execSlotFire p n s).Meets L := by
  refine State.run_meets ?_
  extract_lets l e q t₁
  have h₁ : t₁.Meets L := h.modLoc fun _ hl => hl.fired _ n
  refine Site.Meets.ite h (Site.Meets.ite ?_ (Site.Meets.ite (h₁.modEng fun en => ?_) h₁))
  · split
    · exact h₁.modLoc
    · next hroom => exact h₁.enqueue (by simpa using hroom)
  · split
    · exact Engine.Moves.refl e en
    · exact Engine.Moves.refl e en

theorem execSlotMessageDeliver_meets (n : Slot) : (execSlotMessageDeliver p n s).Meets L := by
  refine State.run_meets ?_
  extract_lets l e q
  split
  · next hc =>
    have hroom : s.site.queueFull p e q = false := by simp_all
    refine Site.Meets.enqueue h.modLoc ?_
    cases p
    · exact hroom
    · exact hroom
  · exact h

end

end Sys2Proof.Machine
end

section
/-! PROOFS. The commands of converters, metering, safety and load switches keep every law of the site. -/
namespace Sys2Proof.Machine

-- One proof after another: a proof that uses a default argument below waits for the kernel to have checked all before it.
set_option Elab.async false

section
variable {L : SiteLaw} {s : State} (h : s.site.Meets L)
include h

/-! ### Converters and the allocation (R192 to R283) -/

theorem execSwapLoad_meets (o : Outlet) : (execSwapLoad o s).Meets L := by
  refine State.run_meets (h.onStep fun p v hv => ?_)
  extract_lets r e en first r'
  refine Pavilion.meets_ite ?_ hv
  exact hv.setEng _ (L.moves (hv.1 _) ((Engine.Moves.refl _ _).loadSet _ _))

theorem execCapDone_meets (i : Unit4) : (execCapDone i s).Meets L :=
  State.run_meets (h.onStep fun _ _ hv => Pavilion.meets_ite (hv.setSram (Mem.wf_wrBytes _ _ _)) hv)

theorem execCtlHfrzRelease_meets (mask : Word) : (execCtlHfrzRelease mask s).Meets L := by
  refine State.run_meets ?_
  extract_lets go
  have hgo : ∀ u q, u.Meets L → (go u q).Meets L := fun u q hu =>
    hu.modPav fun v hv => Pavilion.meets_ite (Pavilion.releaseRings_meets hv q _ _) hv
  exact hgo _ _ (hgo _ _ h)

theorem execRouteRampOutEnd_meets (g : Grp) : (execRouteRampOutEnd g s).Meets L := by
  refine State.run_meets (h.onStep fun p v hv => ?_)
  dsimp only
  split
  · refine Pavilion.meets_ite (Pavilion.putEn_meets ?_ _) hv
    exact hv
  · exact hv

theorem execRouteChangeSend_meets (g : Grp) : (execRouteChangeSend g s).Meets L :=
  State.run_meets (h.onStep fun _ _ hv => Pavilion.routeChange_meets hv g)

theorem execAllocationTick_meets : (execAllocationTick s).Meets L := by
  refine State.run_meets ?_
  extract_lets t₁
  have h₁ : t₁.Meets L := ((h.onStep fun _ _ hv => Pavilion.tick_meets hv _).journalCorrections .A).journalCorrections .B
  exact (h₁.enterSnapshot.toIdle.idleTimer.actTick.returnTick.showHealthy).setFree _

theorem execPublicationDeadline_meets : (execPublicationDeadline s).Meets L := State.run_meets h.onStep

theorem execCaptureReadComplete_meets (index : Fin 512) : (execCaptureReadComplete index s).Meets L := by
  refine State.run_meets (h.onStep fun p v hv => ?_)
  split
  · split
    · exact hv
    · exact hv
  · exact hv

/-! ### Metering and the safety inputs (R343 to R393) -/

/-- A legal write goes into the copies that are in service; both stay in canonical form. -/
theorem execLegalMramWrite_meets (okA okB : Bool) : (execLegalMramWrite okA okB s).Meets L := by
  have hwrite : ∀ (t : Site) (a b : Mem), t.Meets L → (t.com.legalA.wf = true → a.wf = true) → (t.com.legalB.wf = true → b.wf = true) →
      (t.modCom fun c => { c with legalA := a, legalB := b }).Meets L := fun t a b ht ha hb =>
    ⟨fun q => by simpa using ht.1 q, fun hc => ⟨ha (ht.2 hc).1, hb (ht.2 hc).2⟩⟩
  have hcopy : ∀ (c : Prop) [Decidable c] (m : Mem) (a : Nat) (b : List Byte), m.wf = true → (if c then m.wrBytes a b else m).wf = true := by
    intro c _ m a b hm
    split
    · exact Mem.wf_wrBytes _ _ _ hm
    · exact hm
  refine State.run_meets ?_
  split
  · exact h
  · extract_lets r
    split
    · exact h
    · exact Site.Meets.ite h (Site.Meets.onLog (hwrite _ _ _ h (hcopy _ _ _ _) (hcopy _ _ _ _)))

theorem execSafetyInputDemand_meets (i : SafeIn) : (execSafetyInputDemand i s).Meets L := State.run_meets h.modCom

theorem execSafetyInputHealthy_meets (i : SafeIn) : (execSafetyInputHealthy i s).Meets L := State.run_meets h.modCom

theorem execTestPulse_meets (k : TestOut) (stayed fell : BitVec 16) (tpOk : Bool) : (execTestPulse k stayed fell tpOk s).Meets L := by
  refine State.run_meets ?_
  extract_lets before t₁
  have h₁ : t₁.Meets L := by
    refine h.modCom fun A B c hc => ?_
    extract_lets c₁ n _ c₂ c₃
    have hc₂ : c₂.Legal A B := by
      have hc₁ : c₁.Legal A B := Common.Legal.foldl _ (fun _ i hc => hc.judgeInput _ _ _ _) _ _ hc
      exact hc₁
    have hc₃ : c₃.Legal A B := hc₂
    refine Common.Legal.ite (Common.Legal.foldl _ (fun c i hc => ?_) _ _ hc₃) hc₂
    exact Common.Legal.ite hc hc
  exact Site.Meets.ite h (Site.Meets.foldl _ (fun _ _ hu => Site.Meets.ite (hu.journalFault _ _ _ _ _) hu) _ _ h₁)

theorem execSiDiscrep_meets (i : SafeIn) : (execSiDiscrep i s).Meets L := State.run_meets (Site.Meets.journalFault h.modCom _ _ _ _ _)

theorem execSiFaultClear_meets (i : SafeIn) : (execSiFaultClear i s).Meets L :=
  State.run_meets (h.modCom fun _ _ _ hc => Common.Legal.ite hc hc)

theorem execSafeResetPress_meets : (execSafeResetPress s).Meets L := State.run_meets (h.modCom fun _ _ _ hc => Common.Legal.ite hc hc)

theorem execResetJam_meets : (execResetJam s).Meets L := State.run_meets (Site.Meets.journalFault h.modCom _ _ _ _ _)

theorem execResetJamClear_meets : (execResetJamClear s).Meets L := State.run_meets h.modCom

theorem execOffPulseCheck_meets (c : Chan) (pass : Bool) : (execOffPulseCheck c pass s).Meets L := State.run_meets h.onLog

theorem execOffChannelCheck_meets (c : Chan) (pass : Bool) : (execOffChannelCheck c pass s).Meets L := State.run_meets h.onLog

/-! ### Load switches (R400 to R419) -/

theorem execLswChannelOnWrite_meets (c : Chan) (on : Bool) : (execLswChannelOnWrite c on s).Meets L := by
  refine State.run_meets ?_
  have h₁ : (s.site.onStep fun v => { v with loc := v.loc.wr .LSW_CCTRL_ON on.toNat c }).Meets L := h.onStep
  exact Site.Meets.ite (h₁.modCom fun _ _ _ hc => hc.writeOn _ _ _) h₁

theorem execFastThresholdTrip_meets (c : Chan) : (execFastThresholdTrip c s).Meets L :=
  State.run_meets (h.modCom fun _ _ _ hc => hc.tripChan _ _ _)

theorem execOverloadTrip_meets (c : Chan) : (execOverloadTrip c s).Meets L :=
  State.run_meets (h.modCom fun _ _ _ hc => Common.Legal.ite hc (hc.tripChan _ _ _))

theorem execThermalTrip_meets (c : Chan) : (execThermalTrip c s).Meets L := State.run_meets (h.modCom fun _ _ _ hc => hc.tripChan _ _ _)

theorem execBankLimit_meets (b : Bank) (currents : List Nat) : (execBankLimit b currents s).Meets L := by
  refine State.run_meets (h.modCom fun A B c hc => ?_)
  extract_lets cands cur best
  cases best with
  | none => exact hc
  | some i => exact hc.tripChan _ _ _

theorem execBankOverload_meets (b : Bank) : (execBankOverload b s).Meets L := State.run_meets h.modCom

theorem execBankOverloadCut_meets (b : Bank) : (execBankOverloadCut b s).Meets L := by
  refine State.run_meets (h.modCom fun A B c hc => Common.Legal.ite hc ?_)
  split
  · refine Common.Legal.setCh ?_ _ _
    exact hc
  · exact hc

theorem execVbankLow_meets (b : Bank) : (execVbankLow b s).Meets L := by
  refine State.run_meets (h.modCom fun A B c hc => Common.Legal.foldl _ (fun c i hc => Common.Legal.ite hc (Common.Legal.setCh ?_ _ _)) _ _ ?_)
  · exact hc
  · exact hc

theorem execVbankRestore_meets (b : Bank) : (execVbankRestore b s).Meets L := by
  refine State.run_meets (h.modCom fun A B c hc => Common.Legal.foldl _ (fun c i hc => Common.Legal.ite (hc.switchOn _ _ _) hc) _ _ ?_)
  exact hc

theorem execBankEnterService_meets (b : Bank) (pass : Bool) : (execBankEnterService b pass s).Meets L := by
  refine State.run_meets (Site.Meets.ite h ?_)
  extract_lets t₁
  have h₁ : t₁.Meets L := h.modCom fun _ _ _ hc => Common.Legal.ite hc hc
  exact Site.Meets.ite h₁ (h₁.journalFault _ _ _ _ _)

theorem execRetryWaitExpiry_meets (c : Chan) : (execRetryWaitExpiry c s).Meets L := State.run_meets (h.modCom fun _ _ _ hc => hc.retry _ _)

theorem execWarmupEnd_meets (c : Chan) : (execWarmupEnd c s).Meets L := by
  refine State.run_meets (h.modCom fun A B k hk => Common.Legal.ite (Common.Legal.setCh ?_ _ _) hk)
  exact hk

theorem execPullEnd_meets (c : Chan) : (execPullEnd c s).Meets L :=
  State.run_meets (h.modCom fun _ _ _ hk => Common.Legal.ite (hk.setCh _ _) hk)

theorem execStartWindowEnd_meets (c : Chan) : (execStartWindowEnd c s).Meets L :=
  State.run_meets (h.modCom fun _ _ _ hk => Common.Legal.ite (hk.setCh _ _) hk)

theorem execBudgetRefresh_meets (c : Chan) : (execBudgetRefresh c s).Meets L :=
  State.run_meets (h.modCom fun _ _ _ hk => Common.Legal.ite hk hk)

theorem execAttributionPendingExpiry_meets (c : Chan) : (execAttributionPendingExpiry c s).Meets L :=
  State.run_meets (h.modCom fun _ _ _ hk => Common.Legal.ite (hk.countTrip _) hk)

theorem execAttributedRestart_meets (c : Chan) : (execAttributedRestart c s).Meets L :=
  State.run_meets (h.modCom fun _ _ _ hk => Common.Legal.ite (hk.tryAgain _ _) hk)

theorem execThermalRecovered_meets (c : Chan) : (execThermalRecovered c s).Meets L := by
  refine State.run_meets (h.modCom fun A B k hk => ?_)
  extract_lets x k₁
  have h₁ : k₁.Legal A B := hk
  exact Common.Legal.ite (h₁.retry _ _) h₁

theorem execOpenLoad_meets (c : Chan) (low : Bool) : (execOpenLoad c low s).Meets L :=
  State.run_meets (h.modCom fun _ _ _ hk => Common.Legal.ite hk (Common.Legal.ite (Common.Legal.ite hk hk) hk))

theorem execSwitchFault_meets (c : Chan) : (execSwitchFault c s).Meets L := by
  refine State.run_meets (Site.Meets.ite h ?_)
  extract_lets gated t₁ t₂
  have h₂ : t₂.Meets L := Site.Meets.journalFault h.modCom _ _ _ _ _
  exact Site.Meets.ite h₂.onLog (h₂.modCom fun _ _ _ hk => hk.bankOff _)

theorem execNoClaim_meets : (execNoClaim s).Meets L := by
  refine State.run_meets (Site.Meets.ite (h.modCom fun A B c hc => ?_) h)
  have hraise : ∀ c : Common, c.Legal A B → (c.raise .LSW_EVENT_NO_CLAIM).Legal A B := fun _ hc => hc
  refine hraise _ (Common.Legal.foldl _ (fun c i hc => Common.Legal.setCh ?_ _ _) _ _ hc)
  exact hc

end

end Sys2Proof.Machine
end

section
/-! PROOFS. The commands of host sessions, images, CAN, the carrier, supplies and sleep keep every law of the site. -/
namespace Sys2Proof.Machine

-- One proof after another: a proof that uses a default argument below waits for the kernel to have checked all before it.
set_option Elab.async false

section
variable {L : SiteLaw} {s : State} (h : s.site.Meets L)
include h

/-! ### Host sessions (R425 to R451, R503) -/

omit h in
theorem Site.Meets.net {t : Site} (ht : t.Meets L) (p : Pav) (port what : Nat) (body : List Nat) : (t.net p port what body).Meets L := ht.modLoc

theorem execTcpConnect_meets (p : Pav) (port : Fin 2) (dport : Nat) : (execTcpConnect p port dport s).Meets L := by
  refine State.run_meets (Site.Meets.ite h (Site.Meets.ite (h.net _ _ _ _) ?_))
  split
  · exact Site.Meets.net h.onLog _ _ _ _
  · exact Site.Meets.net h.onLog _ _ _ _

theorem execNetEchoRequest_meets (p : Pav) (port : Fin 2) (kind : Fin 4) : (execNetEchoRequest p port kind s).Meets L :=
  State.run_meets (Site.Meets.ite (h.net _ _ _ _) h)

theorem execTlsHandshakeDone_meets (n : Sess) (cert : Option ClientCert) : (execTlsHandshakeDone n cert s).Meets L := by
  refine State.run_meets ?_
  split
  · exact h
  · refine Site.Meets.ite h ?_
    split
    · exact Site.Meets.net h.onLog _ _ _ _
    · exact Site.Meets.ite h.onLog (Site.Meets.net h.onLog _ _ _ _)

theorem State.resetConnection_meets (n phase : Nat) : (s.run fun t => t.resetConnection n phase).Meets L := by
  refine State.run_meets ?_
  unfold Site.resetConnection
  split
  · exact h
  · exact Site.Meets.ite (Site.Meets.net h.onLog _ _ _ _) h

theorem execRhpRequestRx_meets (n : Sess) (tag code : Nat) (payload : List Byte) (wellFormed : Bool) :
    (execRhpRequestRx n tag code payload wellFormed s).Meets L := by
  refine State.run_meets ?_
  extract_lets lane fresh sends body t₁
  have h₁ : t₁.Meets L := h.onLog
  exact Site.Meets.ite h₁.modLoc h₁

theorem State.hostSite_meets (n : Sess) (tag code : Nat) (roles : List Nat) (lock : Bool) (f : Site → Resp × (Site → Site))
    (hf : ∀ u : Site, u.Meets L → ((f s.site).2 u).Meets L) : (s.hostSite n tag code roles lock f).Meets L := by
  refine State.run_meets ?_
  split
  · exact h
  · extract_lets r ok x t₁
    have h₁ : t₁.Meets L := h.onLog
    exact Site.Meets.ite (hf _ h₁) h₁

theorem execPavilionYield_meets (n : Sess) (tag : Nat) : (execPavilionYield n tag s).Meets L := by
  refine State.hostSite_meets h _ _ _ _ _ _ fun u hu => ?_
  extract_lets ph
  split
  · exact hu
  · exact hu.yield

theorem execPavilionRejoin_meets (n : Sess) (tag pav : Nat) : (execPavilionRejoin n tag pav s).Meets L := by
  refine State.hostSite_meets h _ _ _ _ _ _ fun u hu => ?_
  split
  · exact hu
  · exact hu.rejoin _

theorem execBankRestore_meets (n : Sess) (tag bank : Nat) (pass : Bool) : (execBankRestore n tag bank pass s).Meets L := by
  refine State.hostSite_meets h _ _ _ _ _ _ fun u hu => ?_
  split
  · exact hu.restoreBank _ _
  · exact hu

theorem execParamCommit_meets (n : Sess) (tag : Nat) (crcOk : Bool) : (execParamCommit n tag crcOk s).Meets L := by
  refine State.hostSite_meets h _ _ _ _ _ _ fun u hu => ?_
  extract_lets r c
  split
  · exact hu
  · split
    · exact hu.commit _
    · exact hu.commit _

theorem State.onLog_meets (f : Site → Replica → Replica) : (s.onLog f).Meets L := State.run_meets h.onLog

/-- The challenge takes a free value after the request's effect at its log position. -/
theorem execServiceUnlockChallenge_meets (n : Sess) (tag : Nat) : (execServiceUnlockChallenge n tag s).Meets L := by
  unfold execServiceUnlockChallenge
  split
  · next s' hs' =>
    intro t ht
    have hmeets : s'.site.Meets L := State.onLog_meets h _ s' hs'
    exact Host.Outcome.next.inj ht ▸ hmeets.setFree _
  · exact State.onLog_meets h _

theorem State.keyUpdate_meets (n : Sess) (tag op : Nat) (b : List Byte) (sigOk cipherOk keyOk : Bool) (material : List Byte) :
    (s.keyUpdate n tag op b sigOk cipherOk keyOk material).Meets L := by
  refine State.run_meets ?_
  extract_lets v slot t₁
  have h₁ : t₁.Meets L := h.onLog
  exact h₁.setFree _

/-- A Gatehouse request leaves its queue shorter (R518). -/
theorem State.gh_meets (p : Pav) (e : Eng) (desc : Word) (op : Nat) (f : GhReq → Env → Replica → Nat × List Byte × Replica) :
    (s.gh p e desc op f).Meets L := by
  refine State.run_meets (Site.Meets.ite h ?_)
  extract_lets a d q st x₁ x₂ r₁ g₁ r₂ w g₂ r₃ t₁ t₂
  have h₁ : t₁.Meets L := h.modRep
  have h₂ : t₂.Meets L := h₁.setFree _
  refine h₂.modEng fun en => ?_
  split
  · next m ms hq =>
    split
    · exact (Engine.Moves.refl _ en).pop 0 m ms hq
    · exact Engine.Moves.refl _ en
  · exact Engine.Moves.refl _ en

theorem execGhRequestDone_meets (p : Pav) : (execGhRequestDone p s).Meets L := by
  refine State.run_meets ?_
  split
  · exact h
  · extract_lets e q t₁
    split
    · exact h
    · next hfull =>
      have hroom : s.site.queueFull p e q = false := by simpa using hfull
      have h₁ : t₁.Meets L := h.modPav fun v hv => hv.setSram fun hm => Mem.wf_wrN _ _ _ _ (Mem.wf_wrN _ _ _ _ (by
        split
        · exact Mem.wf_wrBytes _ _ _ hm
        · exact hm))
      refine h₁.enqueue ?_
      cases p
      · exact hroom
      · exact hroom

theorem execGhSelftestDone_meets (p : Pav) (pass : Bool) : (execGhSelftestDone p pass s).Meets L :=
  State.run_meets (Site.Meets.ite h (Site.Meets.ite (Site.Meets.setFree h.modRep _) h.modRep))

/-! ### Images (R529 to R540) -/

theorem execImageData_meets (n : Sess) (tag handle offset : Nat) (data : List Byte) (okA okB : Bool) :
    (execImageData n tag handle offset data okA okB s).Meets L := by
  refine State.run_meets ?_
  extract_lets bad refused t₁ t₂
  have h₁ : t₁.Meets L := by
    refine h.onStep fun p v hv => Pavilion.command_meets hv _ _ _ _ _ fun v hv => ?_
    have href : ∀ x, (refused v x).1.loc.Meets L p := fun _ => hv
    dsimp only
    split
    · exact href _
    · split
      · exact href _
      · split
        · exact href _
        · split
          · exact href _
          · split
            · exact href _
            · split
              · exact hv
              · exact hv.applyOps _ _ _
  have h₂ : t₂.Meets L := by
    unfold t₂
    split
    · exact h₁
    · split
      · exact Site.Meets.ite h₁ h₁.onLog
      · exact h₁
  exact h₂.setFree _

theorem execActivationVerifyDone_meets : (execActivationVerifyDone s).Meets L := by
  refine State.run_meets ?_
  split
  · exact h
  · exact Site.Meets.ite h (Site.Meets.ite (h.actFail _ _) (Site.Meets.ite (h.restartFirst _) h.onLog))

theorem execActivationJoinTimeout_meets : (execActivationJoinTimeout s).Meets L := by
  refine State.run_meets ?_
  split
  · exact Site.Meets.ite (h.actFail _ _) h
  · exact h

theorem execWarmElapsed_meets : (execWarmElapsed s).Meets L := by
  refine State.run_meets ?_
  split
  · exact Site.Meets.ite h (Site.Meets.ite (h.actFail _ _) (Site.Meets.orderHandback h.onLog))
  · exact h

theorem execSlWaitExpiry_meets : (execSlWaitExpiry s).Meets L := by
  refine State.run_meets ?_
  split
  · exact Site.Meets.ite h (Site.Meets.ite (h.actFail _ _) h.onLog)
  · exact h

/-! ### CAN and the carrier (R457 to R486) -/

theorem execCanFrameRx_meets (p : Pav) (ch : CanCh) (f : CanFrame) : (execCanFrameRx p ch f s).Meets L :=
  State.run_meets ((h.canFrame p ch f).setFree _)

theorem execCanHeldFrameExpiry_meets (p : Pav) (ch : CanCh) (k : Nat) : (execCanHeldFrameExpiry p ch k s).Meets L := State.run_meets h.modLoc

theorem execCanTxComplete_meets (ch : CanCh) (m : Mailbox) (ok same : Bool) : (execCanTxComplete ch m ok same s).Meets L := by
  refine State.run_meets ?_
  extract_lets t₁ t₂ mark
  have h₁ : t₁.Meets L := h.onLog
  have h₂ : t₂.Meets L := h₁.setFree _
  refine Site.Meets.ite h₂ ?_
  have hmark : ∀ u q, u.Meets L → (mark u q).Meets L := fun u q hu => hu.modLoc
  exact Site.Meets.onLog (hmark _ _ (hmark _ _ h₂))

theorem execCanWakeDetect_meets (ch : CanCh) (frame : Option CanFrame) : (execCanWakeDetect ch frame s).Meets L := by
  refine State.run_meets ?_
  split
  · exact h
  · exact Site.Meets.ite h (Site.Meets.wake h.onLog _)

theorem State.mcc_meets (f : MccFrame) (g : Site → Replica → Replica) : (s.mcc f g).Meets L := by
  refine State.run_meets ?_
  split
  · exact h
  · exact Site.Meets.ite h (Site.Meets.setFree (Site.Meets.onLog (h.input _ _ _ _)) _)

/-- A wake frame wakes the device after its effect on the replicas. -/
theorem execMccWake_meets (f : MccFrame) : (execMccWake f s).Meets L := by
  unfold execMccWake
  split
  · next s' hs' =>
    have hmeets : s'.site.Meets L := State.mcc_meets h f _ s' hs'
    refine State.run_meets ?_
    split
    · exact hmeets
    · exact Site.Meets.ite (hmeets.wake 1) hmeets
  · exact State.mcc_meets h f _

/-! ### Supplies, resets and the start (R515, R531, R547, R564 to R569) -/

theorem execRngFail_meets (p : Pav) : (execRngFail p s).Meets L := by
  refine State.run_meets (Site.Meets.ite h ?_)
  extract_lets t₁
  have h₁ : t₁.Meets L := h.modRep
  exact Site.Meets.ite h₁.modRep (Site.Meets.ite h₁ (h₁.setAside _ _))

theorem execGatehouseGuardTrip_meets (p : Pav) : (execGatehouseGuardTrip p s).Meets L :=
  State.run_meets (Site.Meets.ite h (h.pavReset p _))

theorem execSysPavilionReset_meets (p : Pav) : (execSysPavilionReset p s).Meets L := State.run_meets (Site.Meets.ite h (h.pavReset p _))

theorem execSupplyMonitorTrip_meets (p : Pav) (rail : Fin 3) : (execSupplyMonitorTrip p rail s).Meets L :=
  State.run_meets (Site.Meets.pavReset h.modLoc _ _)

theorem execVio33Loss_meets (p : Pav) : (execVio33Loss p s).Meets L := by
  refine State.run_meets (Site.Meets.ite h ?_)
  extract_lets t₁ t₂
  have h₁ : t₁.Meets L := h.modCom fun A B c hc => by
    cases p
    · exact hc
    · exact hc
  have h₂ : t₂.Meets L := h₁.modLoc
  exact Site.Meets.crystalFails h₂.onLog p

theorem execBrownOut_meets : (execBrownOut s).Meets L := State.run_meets (h.deviceReset _)

theorem execNrstPulse_meets (nanos : Nat) : (execNrstPulse nanos s).Meets L := State.run_meets (Site.Meets.ite (h.deviceReset _) h)

theorem execPowerOn_meets : (execPowerOn s).Meets L := State.run_meets (Site.Meets.deviceReset h.modCom _)

theorem execReturnCloseTimeout_meets : (execReturnCloseTimeout s).Meets L := State.run_meets (Site.Meets.ite h.returnDone h)

theorem execReturnLifecycleReset_meets : (execReturnLifecycleReset s).Meets L := State.run_meets (Site.Meets.ite (h.deviceReset _) h)

theorem execDeviceResetRelease_meets (part : Option Pav) : (execDeviceResetRelease part s).Meets L := by
  refine State.run_meets ?_
  cases part with
  | none => exact Site.Meets.ite h h.modCom
  | some p =>
    refine Site.Meets.ite h ?_
    extract_lets t₁ peer chans
    have h₁ : t₁.Meets L := h.modLoc fun l hl => Local.Meets.setEng (by exact hl) lodge (L.moves (L.fresh p lodge) (Engine.Moves.refl _ _))
    have hchans : ∀ u q, u.Meets L → (chans u q).Meets L := fun u q hu => hu.modLoc
    exact Site.Meets.ite h₁ (hchans _ _ (hchans _ _ h₁))

theorem execBootImageCheckDone_meets (p : Pav) : (execBootImageCheckDone p s).Meets L := by
  refine State.run_meets (Site.Meets.ite h ?_)
  extract_lets trial slot x t₁ t₂
  have h₁ : t₁.Meets L := h.modRep
  refine Site.Meets.ite (h₁.bootFrom p _) (Site.Meets.ite (h₁.actFail _ _) (Site.Meets.ite (Site.Meets.bootFrom ?_ p _) h₁.modLoc))
  have h₂ : t₂.Meets L := by
    refine h₁.modPav fun v hv => Local.Meets.journal ?_ _ _ _
    exact hv
  exact h₂

/-- The recovering pavilion copies the image of the leader's MRAM. -/
theorem execImageRecoveryDone_meets (p : Pav) : (execImageRecoveryDone p s).Meets L := by
  refine State.run_meets ?_
  split
  · exact h
  · next q _ =>
    refine Site.Meets.ite h ?_
    extract_lets src from' slot t₁
    have h₁ : t₁.Meets L := h.modLoc fun l hl => by
      refine ⟨hl.1, fun hc => ?_⟩
      obtain ⟨hsram, hmram, hrest⟩ := hl.2 hc
      obtain ⟨_, hsrc, _⟩ := (h.1 q).2 hc
      exact ⟨hsram, Mem.wf_copyRange _ _ _ _ _ hmram hsrc, hrest⟩
    exact Site.Meets.ite h₁ (Site.Meets.bootFrom h₁.modRep _ _)

omit h in
/-- Taking up the legal records changes the replica alone. -/
theorem Pavilion.legalStart_loc (v : Pavilion) (e : Env) (a b : Mem) : (v.legalStart e a b).loc = v.loc := by
  unfold Pavilion.legalStart
  dsimp only

theorem execStartupLeaseWait_meets (p : Pav) : (execStartupLeaseWait p s).Meets L := by
  refine State.run_meets ?_
  refine Site.Meets.ite h ?_
  extract_lets t₁ t₂ t₃
  have h₁ : t₁.Meets L := h.takeover p
  refine Site.Meets.ite h₁ ?_
  have h₂ : t₂.Meets L := h₁.copyUp p
  have h₃ : t₃.Meets L := h₂.onStep fun q v hv => by
    rw [Pavilion.legalStart_loc]
    exact hv
  exact h₃.setFree _

theorem execSysEngineStart_meets (p : Pav) (mask : BitVec 12) : (execSysEngineStart p mask s).Meets L :=
  State.run_meets (Site.Meets.ite h (h.modLoc fun _ hl => hl.startEngines _))

/-! ### Sleep (R555 to R563) -/

theorem execIdleTimerExpiry_meets : (execIdleTimerExpiry s).Meets L := by
  refine State.run_meets ?_
  split
  · exact h
  · refine Site.Meets.ite h ?_
    split
    · next u hu => exact (h.entry hu).modCom
    · exact h.holdLog _

theorem execSleepEntry_meets : (execSleepEntry s).Meets L := by
  refine State.run_meets ?_
  split
  · exact h
  · refine Site.Meets.ite h ?_
    extract_lets no t₁ t₂
    have h₁ : t₁.Meets L := h.modCom
    have h₂ : t₂.Meets L := h₁.modCom
    cases no with
    | some x => exact h₂.modCom
    | none => exact h₂.nightEnter _

end

end Sys2Proof.Machine
end

section
/-! PROOFS. Every step keeps every law of the site; the laws that the obligations on engines and memories state (R27, R110, R124). -/
namespace Sys2Proof.Machine

-- One proof after another: a proof that uses a default argument below waits for the kernel to have checked all before it.
set_option Elab.async false

/-! ### Every command, every step -/

section
variable {L : SiteLaw}

theorem Site.AtLog.meets {t u : Site} (h : t.Meets L) (hat : t.AtLog u) : u.Meets L := by
  obtain rfl | ⟨f, n, rfl⟩ := hat
  · exact h
  · exact h.onLog.setFree n

/-- Every command keeps a law that takes stores: those of `atLog` by what an effect at a log position may do, each other by its own lemma. -/
theorem exec_meets (hs : L.TakesStores) (c : Instr) (s : State) (h : s.site.Meets L) : Result.Meets L (exec c s) := by
  by_cases hc : atLog c = true
  · obtain ⟨u, hu, hat⟩ := exec_atLog c s hc
    exact fun t ht => Host.Outcome.next.inj (hu.symm.trans ht) ▸ hat.meets h
  cases c
  all_goals dsimp only [exec]
  case add | sub | and | or | xor | sll | srl | sra | slt | sltu | min | max | minu | maxu | clz | mul | mulh | mulhu | addi |
    andi | ori | xori | slti | sltiu | slli | srli | srai | lhi | jal => exact State.engine_meets h _ _ fun en => (Engine.Moves.refl _ en).setG _ _
  case addc | subc => exact State.engine_meets h _ _ fun en => (Engine.Moves.refl _ en).setG _ _
  case adds | subs | abss | mulq | addsi => exact State.engine_meets h _ _ fun en => (Engine.Moves.refl _ en).aluSat _ _
  case div | divu | rem | remu => exact State.engine_meets h _ _ fun en => (Engine.Moves.refl _ en).aluDiv _ _ _ _ _
  case nop => exact State.engine_meets h _ _ fun en => Engine.Moves.refl _ en
  case lb | lbu | lh | lhu | lw => exact State.load_meets h _ _ _ _ _ _ _ _
  case sb | sh | sw => exact State.store_meets h _ _ hs _ _ _ _
  case beq | bne | blt | bge | bltu | bgeu => exact State.branch_meets h _ _ _ _
  case bfs | bfc => exact State.flagBranch_meets h _ _ _ _ _
  case sprs | sprc => exact State.sprModify_meets h _ _ _ _ _ _
  case macc | msub | mac4 => exact State.loopInstr_meets h _ _ _ _ fun hl en => (Engine.Moves.refl _ en).setAccSat hl _ _
  case mpy | accclr | accwr => exact State.loopInstr_meets h _ _ _ _ fun hl en => (Engine.Moves.refl _ en).setA hl _ _
  case macv | mpyv => exact State.loopInstr_meets h _ _ _ _ fun hl en => (Engine.Moves.refl _ en).setAcc4 hl _ _
  case accx => exact State.loopInstr_meets h _ _ _ _ fun hl en => ((Engine.Moves.refl _ en).setG _ _).stick _ _
  case accrd => exact State.loopInstr_meets h _ _ _ _ fun hl en => (Engine.Moves.refl _ en).setG _ _
  case accxv | vadds | vsubs | vmulq => exact State.loopInstr_meets h _ _ _ _ fun hl en => (Engine.Moves.refl _ en).setQuadSat _ _
  case vmin | vmax | vclamp => exact State.loopInstr_meets h _ _ _ _ fun hl en => (Engine.Moves.refl _ en).setQuad _ _
  case awaitWake | wfiWake | fenceComplete => exact State.wake_meets h _ _ _
  case kuInstall | kuGenerate | kuInvalidate | kuReadpub | kuAdvance => exact State.keyUpdate_meets h _ _ _ _ _ _ _ _
  case mccAck | mccData | mccJoinReq | mccJoinResp | mccLqiReport | mccLeave => exact State.mcc_meets h _ _
  case ghSign | ghVerify | ghKeyAgree | ghChallenge | ghCheckResp | ghMac | ghSeal | ghOpen | ghHash | ghRandom | ghCtxFree |
    ghReadState => exact State.gh_meets h _ _ _ _ _
  case tlsHandshakeTimeout | openTimeout => exact State.resetConnection_meets h _ _
  case selfcheckResultRx | selfcheckResultTimeout => exact State.run_meets (h.decideOutcome _ _)
  case setAsideReset | controlledStopRestart => exact State.resetIf_meets h _ _ _
  case crystalFailure => exact State.run_meets (h.crystalFails _)
  case lswBankRestore => exact State.run_meets (h.restoreBank _ _)
  case lswLatchRelease => exact State.run_meets h.latchRelease
  case sysCommitGo => exact State.run_meets (h.commit _)
  case fbrYield => exact State.run_meets h.yield
  case fbrRejoin => exact State.run_meets (h.rejoin _)
  case wakeDetect => exact State.run_meets (h.wake _)
  case aonPadRelease => exact State.run_meets h.padRelease
  case siteCycleBoundary => exact execSiteCycleBoundary_meets h
  case inputSetClosure => exact execInputSetClosure_meets h
  case commandRelease => exact execCommandRelease_meets h
  case refereeWindowTimeout => exact execRefereeWindowTimeout_meets h
  case leaseRenewalSend => exact execLeaseRenewalSend_meets h
  case syncBoundary => exact execSyncBoundary_meets h
  case handbackTick => exact execHandbackTick_meets h
  case zeroCrossingTimeout => exact execZeroCrossingTimeout_meets h
  case sundialCopyMismatch => exact execSundialCopyMismatch_meets h
  case clockSelectorFault => exact execClockSelectorFault_meets h
  case allocationTick => exact execAllocationTick_meets h
  case publicationDeadline => exact execPublicationDeadline_meets h
  case safeResetPress => exact execSafeResetPress_meets h
  case resetJam => exact execResetJam_meets h
  case resetJamClear => exact execResetJamClear_meets h
  case noClaim => exact execNoClaim_meets h
  case activationVerifyDone => exact execActivationVerifyDone_meets h
  case activationJoinTimeout => exact execActivationJoinTimeout_meets h
  case warmElapsed => exact execWarmElapsed_meets h
  case slWaitExpiry => exact execSlWaitExpiry_meets h
  case brownOut => exact execBrownOut_meets h
  case powerOn => exact execPowerOn_meets h
  case idleTimerExpiry => exact execIdleTimerExpiry_meets h
  case sleepEntry => exact execSleepEntry_meets h
  case returnCloseTimeout => exact execReturnCloseTimeout_meets h
  case returnLifecycleReset => exact execReturnLifecycleReset_meets h
  case copyMismatch => exact execCopyMismatch_meets h _
  case digestMissing => exact execDigestMissing_meets h _
  case indicatorAlone => exact execIndicatorAlone_meets h _
  case leaseRenewalRx => exact execLeaseRenewalRx_meets h _
  case leaseReleaseSeen => exact execLeaseReleaseSeen_meets h _
  case peerClaimHigher => exact execPeerClaimHigher_meets h _
  case joinRequest => exact execJoinRequest_meets h _
  case joinRetry => exact execJoinRetry_meets h _
  case backgroundCopyDone => exact execBackgroundCopyDone_meets h _
  case joinerBecomesFollower => exact execJoinerBecomesFollower_meets h _
  case holdElapsed => exact execHoldElapsed_meets h _
  case mainsPlausibilityCheck => exact execMainsPlausibilityCheck_meets h _
  case bitstreamStuck => exact execBitstreamStuck_meets h _
  case swapLoad => exact execSwapLoad_meets h _
  case capDone => exact execCapDone_meets h _
  case ctlHfrzRelease => exact execCtlHfrzRelease_meets h _
  case routeRampOutEnd => exact execRouteRampOutEnd_meets h _
  case routeChangeSend => exact execRouteChangeSend_meets h _
  case safetyInputDemand => exact execSafetyInputDemand_meets h _
  case safetyInputHealthy => exact execSafetyInputHealthy_meets h _
  case siDiscrep => exact execSiDiscrep_meets h _
  case siFaultClear => exact execSiFaultClear_meets h _
  case fastThresholdTrip => exact execFastThresholdTrip_meets h _
  case overloadTrip => exact execOverloadTrip_meets h _
  case thermalTrip => exact execThermalTrip_meets h _
  case bankOverload => exact execBankOverload_meets h _
  case bankOverloadCut => exact execBankOverloadCut_meets h _
  case vbankLow => exact execVbankLow_meets h _
  case vbankRestore => exact execVbankRestore_meets h _
  case retryWaitExpiry => exact execRetryWaitExpiry_meets h _
  case warmupEnd => exact execWarmupEnd_meets h _
  case pullEnd => exact execPullEnd_meets h _
  case startWindowEnd => exact execStartWindowEnd_meets h _
  case budgetRefresh => exact execBudgetRefresh_meets h _
  case attributionPendingExpiry => exact execAttributionPendingExpiry_meets h _
  case attributedRestart => exact execAttributedRestart_meets h _
  case switchFault => exact execSwitchFault_meets h _
  case captureReadComplete => exact execCaptureReadComplete_meets h _
  case mccWake => exact execMccWake_meets h _
  case ghRequestDone => exact execGhRequestDone_meets h _
  case rngFail => exact execRngFail_meets h _
  case gatehouseGuardTrip => exact execGatehouseGuardTrip_meets h _
  case vio33Loss => exact execVio33Loss_meets h _
  case nrstPulse => exact execNrstPulse_meets h _
  case deviceResetRelease => exact execDeviceResetRelease_meets h _
  case bootImageCheckDone => exact execBootImageCheckDone_meets h _
  case imageRecoveryDone => exact execImageRecoveryDone_meets h _
  case startupLeaseWait => exact execStartupLeaseWait_meets h _
  case sysPavilionReset => exact execSysPavilionReset_meets h _
  case thermalRecovered => exact execThermalRecovered_meets h _
  case eret => exact execEret_meets h _ _
  case fence => exact execFence_meets h _ _
  case wfi => exact execWfi_meets h _ _
  case sequentialFetchBeyondItcm => exact execSequentialFetchBeyondItcm_meets h _ _
  case interruptEntry => exact execInterruptEntry_meets h _ _
  case mrcvWake => exact execMrcvWake_meets h _ _
  case msndWake => exact execMsndWake_meets h _ _
  case queueStall => exact execQueueStall_meets h _ _
  case closureVectorRx => exact execClosureVectorRx_meets h _ _
  case peerDigestRx => exact execPeerDigestRx_meets h _ _
  case refereeVerdict => exact execRefereeVerdict_meets h _ _
  case unsolicitedVerdict => exact execUnsolicitedVerdict_meets h _ _
  case leaseExpiry => exact execLeaseExpiry_meets h _ _
  case handoverRecordRx => exact execHandoverRecordRx_meets h _ _
  case zeroCrossing => exact execZeroCrossing_meets h _ _
  case slotFire => exact execSlotFire_meets h _ _
  case slotMessageDeliver => exact execSlotMessageDeliver_meets h _ _
  case echoProbe => exact execEchoProbe_meets h _ _
  case legalMramWrite => exact execLegalMramWrite_meets h _ _
  case offPulseCheck => exact execOffPulseCheck_meets h _ _
  case offChannelCheck => exact execOffChannelCheck_meets h _ _
  case lswChannelOnWrite => exact execLswChannelOnWrite_meets h _ _
  case bankLimit => exact execBankLimit_meets h _ _
  case bankEnterService => exact execBankEnterService_meets h _ _
  case openLoad => exact execOpenLoad_meets h _ _
  case tlsHandshakeDone => exact execTlsHandshakeDone_meets h _ _
  case pavilionYield => exact execPavilionYield_meets h _ _
  case serviceUnlockChallenge => exact execServiceUnlockChallenge_meets h _ _
  case canWakeDetect => exact execCanWakeDetect_meets h _ _
  case ghSelftestDone => exact execGhSelftestDone_meets h _ _
  case supplyMonitorTrip => exact execSupplyMonitorTrip_meets h _ _
  case sysEngineStart => exact execSysEngineStart_meets h _ _
  case trap => exact execTrap_meets h _ _ _
  case tread => exact execTread_meets h _ _ _
  case tsite => exact execTsite_meets h _ _ _
  case illegalInstruction => exact execIllegalInstruction_meets h _ _ _
  case wideLowRead => exact execWideLowRead_meets h _ _ _
  case footbridgeChannelFail => exact execFootbridgeChannelFail_meets h _ _ _
  case sdlSlotArm => exact execSdlSlotArm_meets h _ _ _
  case tcpConnect => exact execTcpConnect_meets h _ _ _
  case netEchoRequest => exact execNetEchoRequest_meets h _ _ _
  case pavilionRejoin => exact execPavilionRejoin_meets h _ _ _
  case paramCommit => exact execParamCommit_meets h _ _ _
  case canFrameRx => exact execCanFrameRx_meets h _ _ _
  case canHeldFrameExpiry => exact execCanHeldFrameExpiry_meets h _ _ _
  case sprd => exact execSprd_meets h _ _ _ _
  case spwr => exact execSpwr_meets h _ _ _ _
  case frstat => exact execFrstat_meets h _ _ _ _
  case await => exact execAwait_meets h _ _ _ _
  case awaitp => exact execAwaitp_meets h _ _ _ _
  case awaits => exact execAwaits_meets h _ _ _ _
  case registerWrite => exact execRegisterWrite_meets h _ _ _ _
  case stgSampleFrameRx => exact execStgSampleFrameRx_meets h _ _ _ _
  case footbridgeFrameRx => exact execFootbridgeFrameRx_meets h _ _ _ _
  case logEntrySequence => exact execLogEntrySequence_meets h _ _ _ _
  case echoReturnRx => exact execEchoReturnRx_meets h _ _ _ _
  case testPulse => exact execTestPulse_meets h _ _ _ _
  case bankRestore => exact execBankRestore_meets h _ _ _ _
  case canTxComplete => exact execCanTxComplete_meets h _ _ _ _
  case jalr => exact execJalr_meets h _ _ _ _ _
  case mrcv => exact execMrcv_meets h _ _ _ _ _
  case rhpRequestRx => exact execRhpRequestRx_meets h _ _ _ _ _
  case msnd => exact execMsnd_meets h _ _ _ _ _ _
  case sos => exact execSos_meets h _ _ _ _ _ _
  case sosh => exact execSosh_meets h _ _ _ _ _ _
  case sosp => exact execSosp_meets h _ _ _ _ _ _
  case frld => exact execFrld_meets h _ _ _ _ _ _
  case frst => exact execFrst_meets h _ _ _ _ _ _
  case imageData => exact execImageData_meets h _ _ _ _ _ _ _
  case logEntryRx => exact execLogEntryRx_meets h _ _ _ _ _ _ _ _
  all_goals exact absurd rfl hc

theorem step_meets (hs : L.TakesStores) {s t : State} (h : s.site.Meets L) (ht : step s = .next t) : t.site.Meets L := by
  unfold step at ht
  split at ht
  · next c rest _ => exact exec_meets hs c { s with pending := rest } h t ht
  · exact Host.Outcome.next.inj ht ▸ h.tick

end

/-! ### The law of the engines (R27, R110, R124) -/

/-- Stored g0 is 0, no queue holds more than 16 entries and no write buffer more than 4 stores. -/
def SiteLaw.engines : SiteLaw where
  eng _ _ en := en.gpr.get 0 = 0 ∧ (∀ q : Fin 8, (en.queues.get q).length ≤ 16) ∧ en.wbuf.length ≤ 4
  canonical := False
  fresh _ _ := ⟨by decide, by decide, by decide⟩
  moves h hm := by
    obtain ⟨hg, hq, hw⟩ := h
    obtain ⟨hg', hq', hw', _⟩ := hm
    exact ⟨hg'.trans hg, fun q => by have := hq q; have := hq' q; omega, hw'.trans hw⟩
  handed _ h hlead := ⟨hlead.1, h.2⟩

theorem SiteLaw.engines_takesStores : SiteLaw.engines.TakesStores := by
  intro p e en en' x hold hnew hlt
  obtain ⟨hg, hq, _⟩ := hnew
  obtain ⟨_, _, hwold⟩ := hold
  refine ⟨hg, hq, ?_⟩
  rw [List.length_append, List.length_singleton]
  omega

theorem Engine.sound_iff (p : Pav) (e : Eng) (en : Engine) : en.sound = true ↔ SiteLaw.engines.eng p e en := by
  simp [Engine.sound, SiteLaw.engines, and_assoc]

theorem State.enginesSound_iff (s : State) : s.enginesSound ↔ s.site.Meets SiteLaw.engines := by
  constructor
  · exact fun h => ⟨fun p => ⟨fun e => (Engine.sound_iff p e _).mp (h p e), False.elim⟩, False.elim⟩
  · exact fun h p e => (Engine.sound_iff p e _).mpr (h.eng p e)

/-- Settles O6: soundness of the engines is a law of the site that takes stores, and every step keeps such a law (`step_meets`). -/
theorem everyStepKeepsEnginesSound : Obligations.EveryStepKeepsEnginesSound := fun s t hs ht =>
  (State.enginesSound_iff t).mpr (step_meets SiteLaw.engines_takesStores ((State.enginesSound_iff s).mp hs) ht)

/-! ### The law of the memories (R20, R23, R26) -/

/-- Both TCMs of every engine and all other memories are in canonical form. -/
def SiteLaw.memories : SiteLaw where
  eng _ _ en := en.itcm.wf = true ∧ en.dtcm.wf = true
  canonical := True
  fresh _ _ := ⟨rfl, rfl⟩
  moves h hm := by
    obtain ⟨hi, hd⟩ := h
    obtain ⟨_, _, _, ⟨hi', hd'⟩, _⟩ := hm
    exact ⟨hi' hi, hd' hd⟩
  handed _ h hlead := ⟨h.1, hlead.2⟩

theorem SiteLaw.memories_takesStores : SiteLaw.memories.TakesStores := fun _ _ hnew _ => hnew

theorem Local.memWf_iff (p : Pav) (l : Local) : l.memWf = true ↔ l.Meets SiteLaw.memories p := by
  cases hn : l.inNext <;> simp [Local.memWf, Local.Meets, SiteLaw.memories, Local.sharedWf, and_assoc, hn]

theorem State.memWf_iff (s : State) : s.memWf ↔ s.site.Meets SiteLaw.memories :=
  and_congr (forall_congr' fun p => Local.memWf_iff p _) (true_imp_iff).symm

/-- Settles O7: the canonical form of the memories is a law of the site that takes stores, and every step keeps such a law (`step_meets`). -/
theorem everyStepKeepsMemoriesCanonical : Obligations.EveryStepKeepsMemoriesCanonical := fun s t hs ht =>
  (State.memWf_iff t).mpr (step_meets SiteLaw.memories_takesStores ((State.memWf_iff s).mp hs) ht)

/-! ### The state after reset (R27, R110, R124) -/

/-- A pavilion that has not been released keeps every law: its engines are fresh and its memories empty. -/
theorem Local.Meets.empty (L : SiteLaw) (p : Pav) : ({} : Local).Meets L p := by
  refine ⟨fun e => ?_, fun _ => ⟨Mem.wf_nil, Mem.wf_nil, by decide, Mem.wf_nil, fun _ hm => nomatch hm⟩⟩
  rw [Local.eng_default]
  exact L.fresh p e

theorem State.reset_meets (L : SiteLaw) : State.reset.site.Meets L :=
  ⟨fun p => by cases p <;> exact Local.Meets.empty L _, fun _ => ⟨rfl, rfl⟩⟩

/-- Settles O5: the state after reset keeps every law of the site. -/
theorem resetIsSound : Obligations.ResetIsSound :=
  ⟨(State.enginesSound_iff _).mpr (State.reset_meets _), (State.memWf_iff _).mpr (State.reset_meets _)⟩

end Sys2Proof.Machine
end

section
/-! PROOFS. Messages between engines (R27, R112, R137, R138). -/
namespace Sys2Proof.Machine

/-- An engine's own number is its code in a message (R112). -/
theorem engineOf_ofNat (k : Eng) : engineOf (BitVec.ofNat 4 k.val) = some k := by
  revert k
  decide

/-- What `mrcv` makes of the entry it takes: the data in the pair, low word first, and the sender's code in MSRC (R137). -/
def Engine.takes (en : Engine) (d : Gpr) (q : Fin 8) (m : Msg) (r : List Msg) : Engine :=
  ({ en with queues := en.queues.set q.val r q.isLt, msrc := m.src }).setPair d (m.data.setWidth 32) ((m.data >>> 32).setWidth 32)

theorem Engine.receive_of_cons (en : Engine) (d : Gpr) (q : Fin 8) (nb : Bool) {m : Msg} {r : List Msg} (hq : en.queues.get q = m :: r) :
    en.receive d q nb = if nb then (en.takes d q m r).setFlag flagQE false else en.takes d q m r := by
  have hlo : m.data.extractLsb' 0 32 = m.data.setWidth 32 := BitVec.eq_of_toNat_eq (by simp)
  have hhi : m.data.extractLsb' 32 32 = (m.data >>> 32).setWidth 32 := BitVec.eq_of_toNat_eq (by simp)
  simp only [Engine.receive, hq, hlo, hhi, Engine.takes]

@[simp] theorem Engine.takes_pc (en : Engine) (d : Gpr) (q : Fin 8) (m : Msg) (r : List Msg) : (en.takes d q m r).pc = en.pc := by
  simp [Engine.takes, Engine.setPair]

/-- Only what a change makes of the engine at hand matters. -/
theorem Site.modEng_congr {t : Site} {p : Pav} {e : Eng} {f g : Engine → Engine} (h : f (t.eng p e) = g (t.eng p e)) :
    t.modEng p e f = t.modEng p e g := by
  unfold Site.modEng
  rw [h]

section
variable (s : State) (p : Pav) (e : Eng) (d s1 : Gpr) (q : Fin 8)

theorem execMsnd_of_room {target : BitVec 4} {dst : Eng} (hready : s.site.ready p e = true) (hdst : engineOf target = some dst)
    (hroom : ((s.site.eng p dst).queues.get q).length < 16) : execMsnd p e d s1 target q s =
      .next ((s.upd p dst fun x => x.push q ⟨(s.site.eng p e).g d ++ (s.site.eng p e).g s1, BitVec.ofNat 8 e.val⟩).upd p e Engine.next) := by
  have hfull : s.site.queueFull p dst q = false := by simpa [Site.queueFull] using hroom
  exact State.siteX_ok s p e _ _ hready (by simp only [hdst, hfull, Bool.false_eq_true, if_false]; rfl)

theorem execMsnd_of_full {target : BitVec 4} {dst : Eng} (hready : s.site.ready p e = true) (hdst : engineOf target = some dst)
    (hlen : 16 ≤ ((s.site.eng p dst).queues.get q).length) : execMsnd p e d s1 target q s =
      .next (s.upd p e fun en => { en with wait := .msnd target q (en.g d ++ en.g s1) }) := by
  have hfull : s.site.queueFull p dst q = true := by simpa [Site.queueFull] using hlen
  have hwait : s.site.modEng p e (fun en => { en with wait := .msnd target q ((s.site.eng p e).g d ++ (s.site.eng p e).g s1) }) =
      s.site.modEng p e fun en => { en with wait := .msnd target q (en.g d ++ en.g s1) } := Site.modEng_congr rfl
  rw [State.upd, ← hwait]
  exact State.siteX_ok s p e _ _ hready (by simp only [hdst, hfull, if_true])

theorem execMsnd_of_no_engine {target : BitVec 4} (hready : s.site.ready p e = true) (hdst : engineOf target = none) :
    execMsnd p e d s1 target q s = .next (s.raises p e exILLEGAL (encMsnd e d s1 target q)) :=
  State.siteX_exc s p e _ _ _ hready (by simp only [hdst])

theorem execMsndWake_of_room {target : BitVec 4} {dst : Eng} {m : Dword} (hwait : (s.site.eng p e).wait = .msnd target q m)
    (hdst : engineOf target = some dst) (hroom : ((s.site.eng p dst).queues.get q).length < 16) : execMsndWake p e s =
      .next ((s.upd p dst fun x => x.push q ⟨m, BitVec.ofNat 8 e.val⟩).upd p e Engine.wake) := by
  have hfull : s.site.queueFull p dst q = false := by simpa [Site.queueFull] using hroom
  simp only [execMsndWake, State.run, hwait, hdst, hfull, Bool.false_eq_true, if_false]
  rfl

variable {s p e d q}

theorem execMrcv_of_cons (nb : Bool) {m : Msg} {r : List Msg} (hready : s.site.ready p e = true) (hpair : pairOk d = true)
    (hq : (s.site.eng p e).queues.get q = m :: r) : execMrcv p e d q nb s =
      .next (s.upd p e fun en => (if nb then (en.takes d q m r).setFlag flagQE false else en.takes d q m r).next) :=
  State.engineX_ok s p e _ _ hready (by simp [hpair, hq, Engine.receive_of_cons _ d q nb hq])

theorem execMrcv_of_nil (nb : Bool) (hready : s.site.ready p e = true) (hpair : pairOk d = true)
    (hq : (s.site.eng p e).queues.get q = []) : execMrcv p e d q nb s =
      .next (s.upd p e fun en => if nb then ((en.setPair d 0 0).setFlag flagQE true).next else { en with wait := .mrcv d q }) := by
  refine State.engineX_ok s p e _ _ hready ?_
  cases nb <;> simp [hpair, hq]

theorem execMrcvWake_of_cons {m : Msg} {r : List Msg} (hwait : (s.site.eng p e).wait = .mrcv d q)
    (hq : (s.site.eng p e).queues.get q = m :: r) : execMrcvWake p e s = .next (s.upd p e fun en => { en.takes d q m r with wait := .none, pc := en.pc + 4 }) := by
  have hne : (s.site.eng p e).queues.get q ≠ [] := by simp [hq]
  have hreceive := (s.site.eng p e).receive_of_cons d q false hq
  simp only [execMrcvWake, State.run, hwait, if_pos hne, State.upd, Site.modEng, hreceive, Bool.false_eq_true, if_false, Engine.wake,
    Engine.next, Engine.takes_pc]

end

/-- Settles O18: each clause is one of the lemmas on `msnd`, `mrcv` and their wakes above. -/
theorem queueMessages : Obligations.QueueMessages := by
  intro p e d s1 q s en take
  refine ⟨fun target hready hroom => execMsnd_of_room s p e d s1 q hready (engineOf_ofNat target) hroom,
    fun target hready hlen => execMsnd_of_full s p e d s1 q hready (engineOf_ofNat target) hlen,
    fun target m hwait hroom => execMsndWake_of_room s p e q hwait (engineOf_ofNat target) hroom,
    fun target hready hcode => ⟨_, execMsnd_of_no_engine s p e d s1 q hready (dif_neg (by omega))⟩,
    fun m r hready hpair hq => ⟨execMrcv_of_cons false hready hpair hq, execMrcv_of_cons true hready hpair hq⟩,
    fun hready hpair hq => ⟨execMrcv_of_nil false hready hpair hq, execMrcv_of_nil true hready hpair hq⟩,
    fun m r hwait hq => execMrcvWake_of_cons hwait hq⟩

end Sys2Proof.Machine
end

section
/-! PROOFS. Reading registers after writes and flags, and what the operations on pavilions do to their registers. -/
namespace Sys2Proof.Machine

/-! ### Register files (R9, R34) -/

/-- The event counters (R34). -/
def Field.isCount : Field → Bool
  | .GSP_EVCNT_CNT | .SDL_EVCNT_CNT | .FBR_EVCNT_CNT | .STG_EVCNT_CNT | .CTL_EVCNT_CNT | .CTL_AEVCNT_CNT | .DLK_EVCNT_CNT |
    .MET_EVCNT_CNT | .SAF_EVCNT_CNT | .SIO_EVCNT_CNT | .LSW_EVCNT_CNT | .HST_EVCNT_CNT | .CAN_CEVCNT_CNT | .MCC_EVCNT_CNT |
    .KEY_EVCNT_CNT | .UPD_EVCNT_CNT | .AON_EVCNT_CNT => true
  | _ => false

theorem Field.isCount_of_counter {f c : Field} {i k : Nat} (h : f.counter i = some (c, k)) : c.isCount = true := by
  unfold Field.counter at h
  split at h
  case h_5 => split at h <;> [skip; split at h] <;> cases h <;> rfl
  all_goals cases h <;> rfl

section
variable (r : Regs) (f g : Field) (v i j : Nat)

/-- A raised flag is set. -/
theorem Regs.rd_raise_same (hf : f.isCount = false) (hwidth : 0 < f.info.width) : (r.raise f i).rd f i = 1 := by
  have hone : 1 % 2 ^ f.info.width = 1 := Nat.mod_eq_of_lt (Nat.one_lt_two_pow (by omega))
  unfold Regs.raise
  dsimp only
  split
  · next c k hc =>
    have hne : f ≠ c := fun h => by simp [h, Field.isCount_of_counter hc] at hf
    rw [Regs.rd_wr_ne _ _ _ _ _ _ (.inl hne), Regs.rd_wr_same, hone]
  · rw [Regs.rd_wr_same, hone]

/-- Raising a flag changes no field but the flag and its counter. -/
theorem Regs.rd_raise_ne (h : g ≠ f) (hg : g.isCount = false) : (r.raise f i).rd g j = r.rd g j := by
  unfold Regs.raise
  dsimp only
  split
  · next c k hc =>
    have hne : g ≠ c := fun h => by simp [h, Field.isCount_of_counter hc] at hg
    rw [Regs.rd_wr_ne _ _ _ _ _ _ (.inl hne), Regs.rd_wr_ne _ _ _ _ _ _ (.inl h)]
  · rw [Regs.rd_wr_ne _ _ _ _ _ _ (.inl h)]

/-- A value that fits its field reads back. -/
theorem Regs.rd_wr_of_lt (h : v < 2 ^ f.info.width) : (r.wr f v i).rd f i = v := by rw [Regs.rd_wr_same, Nat.mod_eq_of_lt h]

theorem Regs.rd_wr_of_ne (h : g ≠ f) : (r.wr f v i).rd g j = r.rd g j := Regs.rd_wr_ne _ _ _ _ _ _ (.inl h)

end

/-! ### A pavilion's registers in the site -/

/-- The registers of a pavilion's own. -/
def Site.regs (t : Site) (p : Pav) : Regs := (t.pav p).loc.regs

@[simp] theorem Pav.other_other (p : Pav) : p.other.other = p := by cases p <;> rfl

section
variable (t : Site) (p q : Pav)

theorem Site.role_eq : t.role p = (t.regs p).rd .FBR_STATUS_ROLE := rfl

@[simp] theorem Site.pav_modPav_of_other (f : Pavilion → Pavilion) : (t.modPav p.other f).pav p = t.pav p := by
  simpa using t.pav_modPav_other p.other f

@[simp] theorem Site.pav_modLoc_of_other (f : Local → Local) : (t.modLoc p.other f).pav p = t.pav p := t.pav_modPav_of_other p _

@[simp] theorem Site.regs_modPav_same (f : Pavilion → Pavilion) : (t.modPav p f).regs p = (f (t.pav p)).loc.regs := by simp [Site.regs]

@[simp] theorem Site.regs_modPav_other (f : Pavilion → Pavilion) : (t.modPav p f).regs p.other = t.regs p.other := by simp [Site.regs]

@[simp] theorem Site.regs_modPav_of_other (f : Pavilion → Pavilion) : (t.modPav p.other f).regs p = t.regs p := by simp [Site.regs]

@[simp] theorem Site.regs_modLoc_same (f : Local → Local) : (t.modLoc p f).regs p = (f (t.pav p).loc).regs := t.regs_modPav_same p _

@[simp] theorem Site.regs_modLoc_other (f : Local → Local) : (t.modLoc p f).regs p.other = t.regs p.other := t.regs_modPav_other p _

@[simp] theorem Site.regs_modLoc_of_other (f : Local → Local) : (t.modLoc p.other f).regs p = t.regs p := t.regs_modPav_of_other p _

@[simp] theorem Site.regs_modRep (f : Replica → Replica) : (t.modRep p f).regs q = t.regs q := by cases p <;> cases q <;> rfl

@[simp] theorem Site.regs_modCom (f : Common → Common) : (t.modCom f).regs p = t.regs p := by simp [Site.regs]

@[simp] theorem Site.regs_onLog (f : Replica → Replica) : (t.onLog f).regs p = t.regs p := t.onLog_regs f p

@[simp] theorem Site.regs_firstFails : (t.firstFails q).regs p = t.regs p := by
  unfold Site.firstFails
  split
  · simp
  · rfl

/-- The shared tail of `setRole`: both pavilions show whether they run redundantly and whether the lease is held. -/
theorem Site.setRole_regs_self (role : Nat) : ∃ a b : Nat, (t.setRole p role).regs p =
    (((t.regs p).wr .FBR_STATUS_ROLE role).wr .FBR_STATUS_REDUNDANT a).wr .FBR_STATUS_LEASE_VALID b := by
  cases p
  · exact ⟨_, _, rfl⟩
  · exact ⟨_, _, rfl⟩

theorem Site.setRole_regs_other (role : Nat) : ∃ a b : Nat, (t.setRole p role).regs p.other =
    (((t.regs p.other).wr .FBR_STATUS_PEER_ROLE role).wr .FBR_STATUS_REDUNDANT a).wr .FBR_STATUS_LEASE_VALID b := by
  cases p
  · exact ⟨_, _, rfl⟩
  · exact ⟨_, _, rfl⟩

theorem Site.present_regs_self (claim : Nat) : (t.present p claim).regs p = (t.regs p).wr .FBR_PRESENT_OWN claim := by
  cases p
  · rfl
  · rfl

theorem Site.present_regs_other (claim : Nat) : (t.present p claim).regs p.other = (t.regs p.other).wr .FBR_PEERCLAIM_PEER claim := by
  cases p
  · rfl
  · rfl

/-- A pavilion set aside takes role 0, presents 0 and shows its cause (R83, R99). -/
theorem Site.setAside_regs_self (cause : Nat) : ∃ a b n : Nat, (t.setAside p cause).regs p =
    (((((((((t.regs p).wr .FBR_STATUS_ROLE roleSetAside).wr .FBR_STATUS_REDUNDANT a).wr .FBR_STATUS_LEASE_VALID b).wr .FBR_PRESENT_OWN 0).wr
      .FBR_CAUSE_CAUSE cause).raise .FBR_EVENT_YIELD).wr .FBR_SETASIDE_COUNT n).wr .FBR_STATUS_DIVERGENT 0) := by
  have hset : ∃ n, (t.setAside p cause).regs p = ((((((t.firstFails p).setRole p roleSetAside).present p 0).regs p).wr
      .FBR_CAUSE_CAUSE cause).raise .FBR_EVENT_YIELD |>.wr .FBR_SETASIDE_COUNT n).wr .FBR_STATUS_DIVERGENT 0 :=
    ⟨_, (Site.regs_modPav_of_other _ _ _).trans (Site.regs_modLoc_same _ _ _)⟩
  obtain ⟨n, hset⟩ := hset
  obtain ⟨a, b, hrole⟩ := (t.firstFails p).setRole_regs_self p roleSetAside
  exact ⟨a, b, n, by rw [hset, Site.present_regs_self, hrole, Site.regs_firstFails]⟩

theorem Site.setAside_regs_other (cause : Nat) : ∃ a b : Nat, (t.setAside p cause).regs p.other =
    (((((t.regs p.other).wr .FBR_STATUS_PEER_ROLE roleSetAside).wr .FBR_STATUS_REDUNDANT a).wr .FBR_STATUS_LEASE_VALID b).wr
      .FBR_PEERCLAIM_PEER 0).wr .FBR_STATUS_DIVERGENT 0 := by
  have hset : (t.setAside p cause).regs p.other = ((((t.firstFails p).setRole p roleSetAside).present p 0).regs p.other).wr
      .FBR_STATUS_DIVERGENT 0 := by
    have hkeep : ∀ (v : Pavilion) (r : Replica) (red : Bool),
        (if !v.inStep then v else Pavilion.flush { v with rep := r } p.other red).loc.regs = v.loc.regs := by
      intro v r red
      split <;> simp
    refine (Site.regs_modPav_same _ _ _).trans ((hkeep _ _ _).trans ?_)
    exact congrArg (fun r : Regs => r.wr .FBR_STATUS_DIVERGENT 0) (Site.regs_modLoc_other _ _ _)
  obtain ⟨a, b, hrole⟩ := (t.firstFails p).setRole_regs_other p roleSetAside
  exact ⟨a, b, by rw [hset, Site.present_regs_other, hrole, Site.regs_firstFails]⟩

end

end Sys2Proof.Machine
end


section
/-! PROOFS. The input log and the lease (R81 to R90, R104). -/
namespace Sys2Proof.Machine

/-! ### What sequencing leaves as it was -/

/-- The fields with which a pavilion shows the state of its log (R86, R107). -/
def Field.ofLog : Field → Bool
  | .FBR_SEQ_LO_SEQ | .FBR_SEQ_HI_SEQ | .FBR_EVENT_LOG_HELD => true
  | _ => false

@[simp] theorem Local.noteCan_regs (l : Local) (source : Nat) (payload : List Byte) : (l.noteCan source payload).regs = l.regs := by
  unfold Local.noteCan
  split
  · rfl
  · split
    · rfl
    · rfl

@[simp] theorem Local.noteCan_log (l : Local) (source : Nat) (payload : List Byte) : (l.noteCan source payload).log = l.log := by
  unfold Local.noteCan
  split
  · rfl
  · split
    · rfl
    · rfl

@[simp] theorem Local.noteCan_nextSeq (l : Local) (source : Nat) (payload : List Byte) : (l.noteCan source payload).nextSeq = l.nextSeq := by
  unfold Local.noteCan
  split
  · rfl
  · split
    · rfl
    · rfl

section
variable {t u : Site} {p q : Pav} {f : Field} {i : Nat}

theorem Site.rd_modPav {g : Pavilion → Pavilion} (hg : ∀ v, (g v).loc.regs.rd f i = v.loc.regs.rd f i) :
    ((t.modPav p g).regs q).rd f i = (t.regs q).rd f i := by
  obtain rfl | rfl : q = p ∨ q = p.other := by cases p <;> cases q <;> simp [Pav.other]
  · rw [Site.regs_modPav_same]
    exact hg _
  · rw [Site.regs_modPav_other]

theorem Site.rd_modLoc {g : Local → Local} (hg : ∀ l, (g l).regs.rd f i = l.regs.rd f i) :
    ((t.modLoc p g).regs q).rd f i = (t.regs q).rd f i := Site.rd_modPav fun v => hg v.loc

variable (hlog : f.ofLog = false) (hcount : f.isCount = false)
include hlog hcount

theorem Site.rd_holdLog : ((t.holdLog p).regs q).rd f i = (t.regs q).rd f i := by
  refine Site.rd_modLoc fun l => ?_
  split
  · rfl
  · have hheld : f ≠ .FBR_EVENT_LOG_HELD := by rintro rfl; cases hlog
    exact Regs.rd_raise_ne _ _ _ _ _ hheld hcount

theorem Site.rd_sequence {kind source : Nat} {payload : List Byte} {switching : Bool}
    (hu : t.sequence p kind source payload switching = some u) : (u.regs q).rd f i = (t.regs q).rd f i := by
  unfold Site.sequence at hu
  dsimp only at hu
  split at hu
  · cases hu
  · cases hu
    refine Site.rd_modLoc fun l => ?_
    have hlo : f ≠ .FBR_SEQ_LO_SEQ := by rintro rfl; cases hlog
    have hhi : f ≠ .FBR_SEQ_HI_SEQ := by rintro rfl; cases hlog
    rw [Local.noteCan_regs]
    exact (Regs.rd_wr_of_ne _ _ _ _ _ _ hhi).trans (Regs.rd_wr_of_ne _ _ _ _ _ _ hlo)

theorem Site.rd_drainInputs (k : Nat) : ∀ t : Site, ((t.drainInputs p k).regs q).rd f i = (t.regs q).rd f i := by
  induction k with
  | zero => exact fun _ => rfl
  | succ k ih =>
    intro t
    unfold Site.drainInputs
    split
    · exact Site.rd_modLoc fun _ => rfl
    · split
      · next u hu =>
        rw [ih, Site.rd_modLoc, Site.rd_sequence hlog hcount hu]
        exact fun _ => rfl
      · exact Site.rd_holdLog hlog hcount

theorem Site.rd_drain : ((t.drain p).regs q).rd f i = (t.regs q).rd f i := Site.rd_drainInputs hlog hcount _ t

/-- Passing the waiting inputs on shows at most in the log's own fields. -/
theorem Site.rd_passInputs : ((t.passInputs p).regs q).rd f i = (t.regs q).rd f i := by
  unfold Site.passInputs
  extract_lets old l can t₁
  rw [Site.rd_drain hlog hcount, Site.rd_modLoc, Site.rd_modLoc]
  · exact fun _ => rfl
  · exact fun _ => rfl

end

/-- Taking the switches up changes no register of a pavilion. -/
@[simp] theorem Site.regs_takeSwitches (t : Site) (p : Pav) : t.takeSwitches.regs p = t.regs p := by
  unfold Site.takeSwitches
  split
  · rfl
  · exact (Site.regs_onLog _ _ _).trans (Site.regs_modCom _ _ _)

/-! ### Taking over and being set aside -/

section
variable (t : Site) (p : Pav)

/-- A new leader claims one above the larger claim, and presents it (R83). -/
theorem Site.takeClaim_regs : ∃ a b : Nat, (t.takeClaim p).regs p =
    ((((((t.regs p).wr .FBR_CLAIM_STORED (t.pav p).loc.nextClaim).wr .FBR_STATUS_ROLE roleLeader).wr .FBR_STATUS_REDUNDANT a).wr
      .FBR_STATUS_LEASE_VALID b).wr .FBR_PRESENT_OWN (t.pav p).loc.nextClaim).wr .FBR_LEASEAGE_AGE 0 := by
  obtain ⟨a, b, h⟩ := (t.modLoc p fun l => { l.wr .FBR_CLAIM_STORED (t.pav p).loc.nextClaim with join := .idle }).setRole_regs_self p roleLeader
  refine ⟨a, b, (Site.regs_modLoc_same _ _ _).trans ?_⟩
  have hpresent := Site.present_regs_self (((t.modLoc p fun l =>
    { l.wr .FBR_CLAIM_STORED (t.pav p).loc.nextClaim with join := .idle })).setRole p roleLeader) p (t.pav p).loc.nextClaim
  rw [h, Site.regs_modLoc_same] at hpresent
  exact congrArg (fun r : Regs => r.wr .FBR_LEASEAGE_AGE 0) hpresent

@[simp] theorem Site.rep_modLoc (q : Pav) (g : Local → Local) : ((t.modLoc q g).pav p).rep = (t.pav p).rep := by
  cases p <;> cases q <;> rfl

@[simp] theorem Site.rep_setRole (q : Pav) (role : Nat) : ((t.setRole q role).pav p).rep = (t.pav p).rep := by
  unfold Site.setRole
  dsimp only
  rw [Site.rep_modLoc, Site.rep_modLoc, Site.rep_modLoc, Site.rep_modLoc]

@[simp] theorem Site.rep_present (q : Pav) (claim : Nat) : ((t.present q claim).pav p).rep = (t.pav p).rep := by
  unfold Site.present
  dsimp only
  rw [Site.pav_modCom, Site.rep_modLoc, Site.rep_modLoc]

@[simp] theorem Site.rep_takeClaim (q : Pav) : ((t.takeClaim q).pav p).rep = (t.pav p).rep := by
  unfold Site.takeClaim Site.renew
  dsimp only
  rw [Site.rep_modLoc, Site.rep_present, Site.rep_setRole, Site.rep_modLoc]

variable {t p}

/-- Outside an activation a takeover is the claim, the waiting inputs and the switches (R83, R84). -/
theorem Site.takeover_eq (hclaim : (t.pav p).loc.nextClaim ≤ 0xFFFFFFFF) (hphase : (t.pav p).rep.rd .UPD_STATUS_PHASE = 0) :
    t.takeover p = (((t.takeClaim p).modLoc p fun l => { l.raise .FBR_EVENT_TAKEOVER with handbackAt := none }).passInputs p).takeSwitches := by
  simp [Site.takeover, Nat.not_lt.mpr hclaim, hphase]

/-- What a takeover shows beside the log's fields and its flag is what the claim shows. -/
theorem Site.rd_takeover (hclaim : (t.pav p).loc.nextClaim ≤ 0xFFFFFFFF) (hphase : (t.pav p).rep.rd .UPD_STATUS_PHASE = 0) {f : Field}
    {i : Nat} (hlog : f.ofLog = false) (hcount : f.isCount = false) (hflag : f ≠ .FBR_EVENT_TAKEOVER) :
    ((t.takeover p).regs p).rd f i = ((t.takeClaim p).regs p).rd f i := by
  rw [Site.takeover_eq hclaim hphase, Site.regs_takeSwitches, Site.rd_passInputs hlog hcount, Site.rd_modLoc]
  exact fun l => Regs.rd_raise_ne _ _ _ _ _ hflag hcount

variable (hclaim : (t.pav p).loc.nextClaim ≤ 0xFFFFFFFF) (hphase : (t.pav p).rep.rd .UPD_STATUS_PHASE = 0)
include hclaim hphase

theorem Site.role_takeover : (t.takeover p).role p = roleLeader := by
  obtain ⟨a, b, h⟩ := t.takeClaim_regs p
  rw [Site.role_eq, Site.rd_takeover hclaim hphase rfl rfl (by decide), h]
  simp (disch := decide) only [Regs.rd_wr_of_ne, Regs.rd_wr_same]
  rfl

theorem Site.claim_takeover : ((t.takeover p).pav p).loc.rd .FBR_CLAIM_STORED = (t.pav p).loc.nextClaim := by
  obtain ⟨a, b, h⟩ := t.takeClaim_regs p
  refine (Site.rd_takeover hclaim hphase rfl rfl (by decide)).trans ?_
  rw [h]
  simp (disch := decide) only [Regs.rd_wr_of_ne, Regs.rd_wr_same]
  show _ % 2 ^ 32 = _
  omega

theorem Site.present_takeover : ((t.takeover p).pav p).loc.rd .FBR_PRESENT_OWN = (t.pav p).loc.nextClaim := by
  obtain ⟨a, b, h⟩ := t.takeClaim_regs p
  refine (Site.rd_takeover hclaim hphase rfl rfl (by decide)).trans ?_
  rw [h]
  simp (disch := decide) only [Regs.rd_wr_of_ne, Regs.rd_wr_same]
  show _ % 2 ^ 32 = _
  omega

end

/-! ### One input becomes one entry (R81, R82) -/

theorem le_foldl_effective (log : List LogEntry) (e : Nat) :
    e ≤ log.foldl (fun e x => max e x.effective) e ∧ ∀ y ∈ log, y.effective ≤ log.foldl (fun e x => max e x.effective) e := by
  induction log generalizing e with
  | nil => simp
  | cons x xs ih =>
    obtain ⟨hle, hall⟩ := ih (max e x.effective)
    rw [List.foldl_cons]
    refine ⟨le_trans (le_max_left _ _) hle, fun y hy => ?_⟩
    obtain rfl | hy := List.mem_cons.mp hy
    · exact le_trans (le_max_right _ _) hle
    · exact hall y hy

/-- One more entry at the time of a log that is not full of them stands at no earlier time (R82). -/
theorem Site.le_effective (t : Site) {log : List LogEntry} (hlen : log.length < 64) {y : LogEntry} (hy : y ∈ log) :
    y.effective ≤ t.effective log 1 := by
  unfold Site.effective
  extract_lets first e
  have hroom : (log.filter fun x => x.effective = e).length + 1 ≤ 64 := by
    have := List.length_filter_le (fun x : LogEntry => decide (x.effective = e)) log
    omega
  rw [if_pos hroom]
  exact (le_foldl_effective log _).2 y hy

/-- The entry that a short input becomes. -/
def Site.entryOf (t : Site) (p : Pav) (kind source : Nat) (payload : List Byte) (switching : Bool) : LogEntry :=
  { seq := (t.pav p).loc.nextSeq, effective := t.effective (t.pav p).loc.log 1, kind, source, payload, switching }

theorem groupSize_of_short {payload : List Byte} (h : payload.length ≤ 228) : groupSize payload = 1 := by
  unfold groupSize ceilDiv
  omega

theorem Site.sequence_of_short {t : Site} {p : Pav} {payload : List Byte} (kind source : Nat) (switching : Bool)
    (hlen : (t.pav p).loc.log.length < 64) (hpayload : payload.length ≤ 228) : t.sequence p kind source payload switching =
      some (t.modLoc p fun l => ({ l with
        log := l.log ++ [t.entryOf p kind source payload switching], nextSeq := l.nextSeq + 1,
        tx := l.tx ++ [.logEntry p (t.entryOf p kind source payload switching)] } : Local).showSeq.noteCan source payload) := by
  have htake : payload.take 228 = payload := List.take_of_length_le hpayload
  unfold Site.sequence
  rw [groupSize_of_short hpayload]
  dsimp only
  rw [if_neg (by omega)]
  simp [htake, Site.entryOf, List.range_succ]

section
variable {t : Site} {p : Pav}

/-- A leader whose inputs all stand in the log sequences a short input at once. -/
theorem Site.input_of_short {payload : List Byte} (kind source : Nat) (switching : Bool) (hlead : t.leader = some p)
    (hinputs : (t.pav p).loc.inputs = []) (hlen : (t.pav p).loc.log.length < 64) (hpayload : payload.length ≤ 228) :
    ∃ x : LogEntry, x.seq = (t.pav p).loc.nextSeq ∧ x.kind = kind ∧ x.source = source ∧ x.payload = payload ∧
      (∀ y ∈ (t.pav p).loc.log, y.effective ≤ x.effective) ∧
      ((t.input kind source payload switching).pav p).loc.log = (t.pav p).loc.log ++ [x] ∧
      ((t.input kind source payload switching).pav p).loc.nextSeq = (t.pav p).loc.nextSeq + 1 := by
  have hseq := fun u : Site => Site.sequence_of_short (t := u) (p := p) (payload := payload) kind source switching
  refine ⟨(t.modLoc p fun l => { l with inputs := l.inputs ++ [(kind, source, payload, switching)] }).entryOf p kind source payload switching,
    ?_, rfl, rfl, rfl, fun y hy => ?_, ?_⟩
  · simp [Site.entryOf]
  · exact Site.le_effective _ (by simpa using hlen) (by simpa using hy)
  · simp only [Site.input, hlead, Site.drain, Site.pav_modLoc_same, hinputs, List.nil_append, List.length_singleton, Site.drainInputs]
    rw [hseq]
    · simp [Local.showSeq]
    · simpa using hlen
    · exact hpayload

end

/-! ### The pavilion set aside, and the one that follows (R83, R99, R104) -/

section
variable (t : Site) (p : Pav)

@[simp] theorem Site.role_setAside (cause : Nat) : (t.setAside p cause).role p = roleSetAside := by
  obtain ⟨a, b, n, h⟩ := t.setAside_regs_self p cause
  rw [Site.role_eq, h]
  simp (disch := decide) only [Regs.rd_wr_of_ne, Regs.rd_raise_ne, Regs.rd_wr_same]
  rfl

theorem Site.cause_setAside {cause : Nat} (hcause : cause < 256) : ((t.setAside p cause).regs p).rd .FBR_CAUSE_CAUSE = cause := by
  obtain ⟨a, b, n, h⟩ := t.setAside_regs_self p cause
  rw [h]
  simp (disch := decide) only [Regs.rd_wr_of_ne, Regs.rd_raise_ne, Regs.rd_wr_same]
  exact Nat.mod_eq_of_lt hcause

@[simp] theorem Site.present_setAside (cause : Nat) : ((t.setAside p cause).regs p).rd .FBR_PRESENT_OWN = 0 := by
  obtain ⟨a, b, n, h⟩ := t.setAside_regs_self p cause
  rw [h]
  simp (disch := decide) only [Regs.rd_wr_of_ne, Regs.rd_raise_ne, Regs.rd_wr_same]
  rfl

/-- The other pavilion keeps its role. -/
@[simp] theorem Site.role_setAside_other (cause : Nat) : (t.setAside p cause).role p.other = t.role p.other := by
  obtain ⟨a, b, h⟩ := t.setAside_regs_other p cause
  rw [Site.role_eq, h]
  simp (disch := decide) only [Regs.rd_wr_of_ne, Site.role_eq]

/-- A pavilion that takes the role of the follower and presents 0 shows both. -/
theorem Site.regs_yielded : (((t.setRole p roleFollower).present p 0).regs p).rd .FBR_STATUS_ROLE = roleFollower ∧
    (((t.setRole p roleFollower).present p 0).regs p).rd .FBR_PRESENT_OWN = 0 := by
  obtain ⟨a, b, h⟩ := t.setRole_regs_self p roleFollower
  rw [Site.present_regs_self, h]
  simp (disch := decide) only [Regs.rd_wr_of_ne, Regs.rd_wr_same]
  exact ⟨rfl, rfl⟩

end

/-- The lease's expiry, noted in the follower, changes neither its claim nor its replica. -/
theorem Site.noted_expiry (t : Site) (p : Pav) :
    ((t.modLoc p fun l => (l.raise .FBR_EVENT_LEASE_EXPIRED).wr .FBR_STATUS_LEASE_VALID 0).pav p).loc.nextClaim = (t.pav p).loc.nextClaim ∧
    ((t.modLoc p fun l => (l.raise .FBR_EVENT_LEASE_EXPIRED).wr .FBR_STATUS_LEASE_VALID 0).pav p).rep = (t.pav p).rep := by
  have hclaim : ∀ l : Local, ((l.raise .FBR_EVENT_LEASE_EXPIRED).wr .FBR_STATUS_LEASE_VALID 0).rd .FBR_CLAIM_STORED = l.rd .FBR_CLAIM_STORED :=
    fun l => by simp (disch := decide) only [Local.rd, Local.wr, Local.raise, Regs.rd_wr_of_ne, Regs.rd_raise_ne]
  rw [Site.rep_modLoc, Site.pav_modLoc_same]
  exact ⟨by simp [Local.nextClaim, hclaim], rfl⟩

/-- A mismatch of the copies is raised in both pavilions (R90). -/
theorem Site.copyMismatch_raised (t : Site) (p : Pav) (f : Replica → Replica) :
    ((((t.modLoc .A fun l => l.raise .FBR_EVENT_COPY_MISMATCH).modLoc .B fun l => l.raise .FBR_EVENT_COPY_MISMATCH).onLog f).regs p).rd
      .FBR_EVENT_COPY_MISMATCH = 1 := by
  rw [Site.regs_onLog]
  have hB := Regs.rd_raise_same ((t.modLoc .A fun l => l.raise .FBR_EVENT_COPY_MISMATCH).regs .B) .FBR_EVENT_COPY_MISMATCH 0 (by decide) (by decide)
  have hA := Regs.rd_raise_same (t.regs .A) .FBR_EVENT_COPY_MISMATCH 0 (by decide) (by decide)
  cases p
  · exact hA
  · exact hB

/-- A renewal turns the sign of life and notes the time (R83). -/
theorem Site.live_renew (t : Site) (p : Pav) :
    ((t.renew p).pav p).loc.live = !(t.pav p).loc.live ∧ ((t.renew p).pav p).loc.renewedAt = t.ticks :=
  ⟨congrArg (·.loc.live) (t.pav_modLoc_same p _), congrArg (·.loc.renewedAt) (t.pav_modLoc_same p _)⟩

/-! ### The commands -/

theorem State.run_of_eq {s : State} {f : Site → Site} {u : Site} (h : f s.site = u) : s.run f = .next { s with site := u } := by
  rw [State.run, h]

section
variable {s : State} {p : Pav}

theorem execLogEntrySequence_of_short {payload : List Byte} (kind source : Nat) (switching : Bool) (hpayload : payload.length ≤ 228) :
    execLogEntrySequence kind source payload switching s = .next { s with site := s.site.input kind source payload switching } := by
  refine State.run_of_eq (if_neg ?_)
  rw [groupSize_of_short hpayload]
  decide

/-- An entry in sequence whose boundary lies ahead joins the log (R84). -/
theorem execLogEntryRx_of_next {eff : Nat} (kind source : Nat) (payload : List Byte) (switching : Bool) (hstep : (s.site.pav p).inStep = true)
    (hrole : s.site.role p ≠ roleLeader) (hahead : s.site.now < eff) :
    execLogEntryRx p (s.site.pav p).loc.nextSeq eff kind source payload true switching s = .next { s with
      site := s.site.modLoc p fun l =>
        ({ l with log := l.log ++ [{ seq := (s.site.pav p).loc.nextSeq, effective := eff, kind, source, payload, switching }],
                  nextSeq := l.nextSeq + 1 } : Local).showSeq.noteCan source payload } := by
  refine State.run_of_eq ?_
  have hrole' : (s.site.pav p).role ≠ roleLeader := hrole
  simp [hstep, hrole', hahead]

theorem execLogEntryRx_of_gap {seq : Nat} (eff kind source : Nat) (payload : List Byte) (switching : Bool)
    (hstep : (s.site.pav p).inStep = true) (hrole : s.site.role p ≠ roleLeader) (hgap : seq ≠ (s.site.pav p).loc.nextSeq) :
    execLogEntryRx p seq eff kind source payload true switching s =
      .next { s with site := (s.site.modLoc p fun l => l.raise .FBR_EVENT_LOG_GAP).setAside p caLogGap } := by
  refine State.run_of_eq ?_
  have hrole' : (s.site.pav p).role ≠ roleLeader := hrole
  simp [hstep, hrole', hgap]

theorem execLeaseRenewalSend_of_leader (hlead : s.site.leader = some p) :
    execLeaseRenewalSend s = .next { s with site := s.site.renew p } := State.run_of_eq (by simp [hlead])

theorem execLeaseRenewalRx_of_follower (hrole : s.site.role p ≠ roleLeader) (hother : s.site.role p.other = roleLeader)
    (hreset : (s.site.pav p).loc.inReset = false) : execLeaseRenewalRx p s = .next { s with
      site := s.site.modLoc p fun l => { (l.wr .FBR_LEASEAGE_AGE 0).wr .FBR_STATUS_LEASE_VALID 1 with renewedAt := s.site.ticks } } :=
  State.run_of_eq (by simp [hrole, hother, hreset])

theorem Pavilion.mayTake_of_follower {t : Site} (hrole : t.role p = roleFollower) : (t.pav p).mayTake = true := by
  have hrole' : (t.pav p).role = roleFollower := hrole
  simp [Pavilion.mayTake, hrole']

theorem execLeaseReleaseSeen_of_follower (hrole : s.site.role p = roleFollower) (hother : s.site.role p.other ≠ roleLeader) :
    execLeaseReleaseSeen p s = .next { s with site := s.site.takeover p } :=
  State.run_of_eq (by simp [hother, Pavilion.mayTake_of_follower hrole])

theorem execLeaseExpiry_of_follower (live : Bool) (hrole : s.site.role p = roleFollower) : execLeaseExpiry p live s = .next { s with
      site :=
        if live then (s.site.modLoc p fun l => (l.raise .FBR_EVENT_LEASE_EXPIRED).wr .FBR_STATUS_LEASE_VALID 0).setAside p caFootbridgeLost
        else (s.site.modLoc p fun l => (l.raise .FBR_EVENT_LEASE_EXPIRED).wr .FBR_STATUS_LEASE_VALID 0).takeover p } :=
  State.run_of_eq (by simp [Pavilion.mayTake_of_follower hrole])

theorem execPeerClaimHigher_of_handback (hrole : s.site.role p = roleLeader)
    (hclaim : (s.site.pav p).loc.rd .FBR_PRESENT_OWN < (s.site.pav p).loc.rd .FBR_PEERCLAIM_PEER)
    (hhand : (s.site.pav p).loc.handbackAt ≠ none) (hphase : (s.site.pav p).rep.rd .UPD_STATUS_PHASE = 0) :
    execPeerClaimHigher p s = .next { s with
      site := ((s.site.setRole p roleFollower).present p 0).modLoc p fun l => { l.raise .FBR_EVENT_YIELD with handbackAt := none, healthyAt := s.site.ticks } } :=
  State.run_of_eq (by simp [hrole, Nat.not_le.mpr hclaim, hphase, Option.isSome_iff_ne_none.mpr hhand])

theorem execCopyMismatch_of_redundant (f : Nat) (hred : s.site.redundant = true) : execCopyMismatch f s = .next { s with
      site := ((s.site.modLoc .A fun l => l.raise .FBR_EVENT_COPY_MISMATCH).modLoc .B fun l => l.raise .FBR_EVENT_COPY_MISMATCH).onLog fun r =>
        r.journal ((s.site.modLoc .A fun l => l.raise .FBR_EVENT_COPY_MISMATCH).modLoc .B fun l => l.raise .FBR_EVENT_COPY_MISMATCH).now
          locCopyCompare 0xFF detected reLogged 0 (leBytes 4 f) } :=
  State.run_of_eq (by simp [hred])

/-- A failed channel of the Footbridge: its OK bit falls, CH_FAULT is raised, and the fault is journalled (R76). -/
theorem execFootbridgeChannelFail_regs (ch : Fin 2) (beats : Bool)
    (hok : (s.site.regs p).rd (if ch = 0 then .FBR_STATUS_CH0_OK else .FBR_STATUS_CH1_OK) ≠ 0) :
    ∃ t : State, execFootbridgeChannelFail p ch beats s = .next t ∧ t.site.regs p =
      ((s.site.regs p).wr (if ch = 0 then .FBR_STATUS_CH0_OK else .FBR_STATUS_CH1_OK) 0).raise .FBR_EVENT_CH_FAULT := by
  have hok' : ¬ (s.site.pav p).loc.rd (if ch = 0 then .FBR_STATUS_CH0_OK else .FBR_STATUS_CH1_OK) = 0 := hok
  have hform : ∃ (g : Local → Local) (f : Replica → Replica),
      execFootbridgeChannelFail p ch beats s = .next { s with site := (s.site.modLoc p g).onLog f } ∧
        ∀ l, (g l).regs = (l.regs.wr (if ch = 0 then .FBR_STATUS_CH0_OK else .FBR_STATUS_CH1_OK) 0).raise .FBR_EVENT_CH_FAULT :=
    ⟨_, _, State.run_of_eq (if_neg hok'), fun _ => rfl⟩
  obtain ⟨g, f, hrun, hg⟩ := hform
  exact ⟨_, hrun, (Site.regs_onLog _ _ _).trans ((Site.regs_modLoc_same _ _ _).trans (hg _))⟩

end

/-- Settles O27: each clause is a command of the log or the lease above, with what it shows in the pavilion's registers. -/
theorem inputLogAndLease : Obligations.InputLogAndLease := by
  intro p s l l'
  refine ⟨fun kind source payload sw hlead hinputs hlen hpayload => ?_, fun eff kind source payload sw hstep hrole hahead => ?_,
    fun q eff kind source payload sw hstep hrole hgap => ?_, fun hlead => ?_, fun hrole hother hreset => ?_,
    fun hrole hother hclaim hphase => ?_, fun hrole hclaim hphase => ?_, fun hrole => ?_, fun hrole hclaim hhand hphase => ?_,
    fun f hred => ?_, fun b hok => ?_, fun b hok => ?_⟩
  · obtain ⟨x, hseq, hkind, hsource, hpay, heff, hlog, hnext⟩ := Site.input_of_short kind source sw hlead hinputs hlen hpayload
    exact ⟨_, x, execLogEntrySequence_of_short kind source sw hpayload, hlog, hseq, hkind, hsource, hpay, heff, hnext⟩
  · refine ⟨_, execLogEntryRx_of_next kind source payload sw hstep hrole hahead, ?_, ?_⟩ <;> simp [l', l, Local.showSeq]
  · exact ⟨_, execLogEntryRx_of_gap eff kind source payload sw hstep hrole hgap, Site.role_setAside _ p _,
      Site.cause_setAside _ p (by decide), Site.present_setAside _ p _⟩
  · exact ⟨_, execLeaseRenewalSend_of_leader hlead, s.site.live_renew p⟩
  · have hregs := s.site.regs_modLoc_same p fun l => { (l.wr .FBR_LEASEAGE_AGE 0).wr .FBR_STATUS_LEASE_VALID 1 with renewedAt := s.site.ticks }
    refine ⟨_, execLeaseRenewalRx_of_follower hrole hother hreset, ?_, ?_, ?_⟩
    · exact (congrArg (·.rd .FBR_LEASEAGE_AGE) hregs).trans
        ((Regs.rd_wr_of_ne _ _ _ _ _ _ (by decide)).trans (Regs.rd_wr_of_lt _ _ _ _ (by decide)))
    · exact (congrArg (·.rd .FBR_STATUS_LEASE_VALID) hregs).trans (Regs.rd_wr_of_lt _ _ _ _ (by decide))
    · simp [l']
  · exact ⟨_, execLeaseReleaseSeen_of_follower hrole hother, Site.role_takeover hclaim hphase, Site.claim_takeover hclaim hphase,
      Site.present_takeover hclaim hphase⟩
  · obtain ⟨hnext, hrep⟩ := s.site.noted_expiry p
    exact ⟨_, execLeaseExpiry_of_follower false hrole, Site.role_takeover (by rwa [hnext]) (by rwa [hrep]),
      (Site.claim_takeover (by rwa [hnext]) (by rwa [hrep])).trans hnext⟩
  · exact ⟨_, execLeaseExpiry_of_follower true hrole, Site.role_setAside _ p _, Site.cause_setAside _ p (by decide)⟩
  · obtain ⟨hshown, hpresent⟩ := s.site.regs_yielded p
    have hraise : ∀ (l : Local) (f : Field), f ≠ .FBR_EVENT_YIELD → f.isCount = false →
        ({ l.raise .FBR_EVENT_YIELD with handbackAt := none, healthyAt := s.site.ticks } : Local).regs.rd f = l.regs.rd f :=
      fun l f hf hcount => Regs.rd_raise_ne _ _ _ _ _ hf hcount
    exact ⟨_, execPeerClaimHigher_of_handback hrole hclaim hhand hphase,
      (Site.rd_modLoc fun l => hraise l _ (by decide) (by decide)).trans hshown,
      (Site.rd_modLoc fun l => hraise l _ (by decide) (by decide)).trans hpresent⟩
  · exact ⟨_, execCopyMismatch_of_redundant f hred, s.site.copyMismatch_raised p _⟩
  · obtain ⟨t, ht, hregs⟩ := execFootbridgeChannelFail_regs (s := s) (p := p) 0 b hok
    refine ⟨t, ht, ?_, ?_, ?_⟩
    · exact (congrArg (·.rd .FBR_STATUS_CH0_OK) hregs).trans
        ((Regs.rd_raise_ne _ _ _ _ _ (by decide) (by decide)).trans (Regs.rd_wr_of_lt _ _ _ _ (by decide)))
    · exact (congrArg (·.rd .FBR_EVENT_CH_FAULT) hregs).trans (Regs.rd_raise_same _ _ _ (by decide) (by decide))
    · exact (congrArg (·.rd .FBR_STATUS_CH1_OK) hregs).trans
        ((Regs.rd_raise_ne _ _ _ _ _ (by decide) (by decide)).trans (Regs.rd_wr_of_ne _ _ _ _ _ _ (by decide)))
  · obtain ⟨t, ht, hregs⟩ := execFootbridgeChannelFail_regs (s := s) (p := p) 1 b hok
    refine ⟨t, ht, ?_, ?_⟩
    · exact (congrArg (·.rd .FBR_STATUS_CH1_OK) hregs).trans
        ((Regs.rd_raise_ne _ _ _ _ _ (by decide) (by decide)).trans (Regs.rd_wr_of_lt _ _ _ _ (by decide)))
    · exact (congrArg (·.rd .FBR_EVENT_CH_FAULT) hregs).trans (Regs.rd_raise_same _ _ _ (by decide) (by decide))

end Sys2Proof.Machine
end

section
/-! PROOFS. What the operations on roles, claims and resets leave of a pavilion's own part. -/
namespace Sys2Proof.Machine

/-- A part of a pavilion's own state that neither its registers, the peer's claim nor the journal enter into. -/
def Local.Steady {α : Type} (g : Local → α) : Prop :=
  ∀ (l : Local) (r : Regs) (c : Nat) (m : Mem) (n : Nat), g { l with regs := r, peerClaim := c, mram := m, jNext := n } = g l

/-- A part of a pavilion's own state that a change of one pavilion leaves alone. -/
theorem Site.part_modLoc {α : Type} (g : Local → α) {t : Site} {p q : Pav} {f : Local → Local} (hf : ∀ l, g (f l) = g l) :
    g ((t.modLoc q f).pav p).loc = g (t.pav p).loc := by
  obtain rfl | rfl : p = q ∨ p = q.other := by cases p <;> cases q <;> simp [Pav.other]
  · rw [Site.pav_modLoc_same]
    exact hf _
  · rw [Site.pav_modLoc_other]

section
variable {α : Type} {g : Local → α} (hg : Local.Steady g) (t : Site) (p q : Pav)
include hg

theorem Local.Steady.setRole (role : Nat) : g ((t.setRole q role).pav p).loc = g (t.pav p).loc := by
  have hwr : ∀ (l : Local) (f h : Field) (v w : Nat), g ((l.wr f v).wr h w) = g l := fun l f h v w => hg l _ l.peerClaim l.mram l.jNext
  have hone : ∀ (l : Local) (f : Field) (v : Nat), g (l.wr f v) = g l := fun l f v => hg l _ l.peerClaim l.mram l.jNext
  unfold Site.setRole
  dsimp only
  rw [Site.part_modLoc g, Site.part_modLoc g, Site.part_modLoc g, Site.part_modLoc g]
  · exact fun l => hone _ _ _
  · exact fun l => hone _ _ _
  · exact fun l => hwr _ _ _ _ _
  · exact fun l => hwr _ _ _ _ _

theorem Local.Steady.present (claim : Nat) : g ((t.present q claim).pav p).loc = g (t.pav p).loc := by
  unfold Site.present
  dsimp only
  rw [Site.pav_modCom, Site.part_modLoc g, Site.part_modLoc g]
  · exact fun l => hg l _ l.peerClaim l.mram l.jNext
  · exact fun l => hg l _ _ l.mram l.jNext

theorem Local.Steady.onLog (f : Replica → Replica) : g ((t.onLog f).pav p).loc = g (t.pav p).loc :=
  Site.onLog_keeps g (fun l m n => hg l l.regs l.peerClaim m n) t f p

theorem Local.Steady.firstFails : g ((t.firstFails q).pav p).loc = g (t.pav p).loc := by
  have hrep : ∀ f, ((t.modRep q f).pav p).loc = (t.pav p).loc := fun f => by cases p <;> cases q <;> rfl
  unfold Site.firstFails
  split
  · rw [hg.onLog, hrep]
  · rfl

theorem Local.Steady.takeSwitches : g (t.takeSwitches.pav p).loc = g (t.pav p).loc := by
  unfold Site.takeSwitches
  split
  · rfl
  · exact (hg.onLog _ _ _).trans (congrArg (fun v : Pavilion => g v.loc) (Site.pav_modCom _ _ _))

/-- A reset leaves what its restart leaves. -/
theorem Local.Steady.pavReset (cause : Nat) : ∃ l : Local, g ((t.pavReset p cause).pav p).loc = g { l.restart with resetCause := cause } := by
  unfold Site.pavReset
  dsimp only
  refine ⟨((if cause = pcActivation then t else t.firstFails p).pav p).loc, ?_⟩
  have hbase : ∀ (u : Site) (f : Common → Common), g ((((((u.modPav p fun v =>
      { loc := { v.loc.restart with resetCause := cause }, rep := v.rep.restart }).setRole p roleSetAside).present p 0).modCom f).pav p).loc) =
      g { (u.pav p).loc.restart with resetCause := cause } := fun u f => by
    rw [Site.pav_modCom, hg.present, hg.setRole, Site.pav_modPav_same]
  split
  · rw [hg.onLog, hbase]
  · split
    · rw [hg.onLog, hbase]
    · rw [hbase]

end

/-- A pavilion in reset: every engine stopped. -/
theorem Site.inReset_pavReset (t : Site) (p : Pav) (cause : Nat) :
    ((t.pavReset p cause).pav p).loc.inReset = true ∧ ∀ e : Eng, ((t.pavReset p cause).eng p e).run = .stopped := by
  obtain ⟨_, hreset⟩ := Local.Steady.pavReset (g := (·.inReset)) (fun _ _ _ _ _ => rfl) t p cause
  obtain ⟨l, heng⟩ := Local.Steady.pavReset (g := (·.engines)) (fun _ _ _ _ _ => rfl) t p cause
  refine ⟨hreset, fun e => ?_⟩
  have hfresh : ((t.pavReset p cause).eng p e) = {} := (congrArg (Vector.get · e) heng).trans (Local.eng_default e)
  rw [hfresh]

end Sys2Proof.Machine
end

section
/-! PROOFS. The divergence procedure, the referee and the restarts (R91 to R99, R105, R106). -/
namespace Sys2Proof.Machine

section
variable {s : State} {p : Pav}

/-! ### The start of the procedure (R91, R92) -/

/-- What the start of the procedure shows in each pavilion. -/
theorem Site.startDivergence_shows {t : Site} (p : Pav) (katA katB : Bool) (hred : t.redundant = true) (hA : (t.pav .A).loc.div = none)
    (hB : (t.pav .B).loc.div = none) : ((t.startDivergence katA katB).pav p).loc.div ≠ none ∧
      (t.startDivergence katA katB).regs p = (((t.regs p).raise .FBR_EVENT_DIVERGE).wr .FBR_STATUS_DIVERGENT 1).wr .FBR_HEALTHY_TIME 0 := by
  have hgo : ∀ (u : Site) (f : Common → Common) (c : Bool), (((if c then u.modCom f else u)).pav p) = u.pav p := by
    intro u f c
    cases c <;> simp
  unfold Site.startDivergence
  rw [if_neg (by simp [hred, hA, hB])]
  dsimp only
  unfold Site.regs
  rw [hgo]
  cases p
  · exact ⟨by exact Option.some_ne_none _, rfl⟩
  · exact ⟨by exact Option.some_ne_none _, rfl⟩

/-- A pavilion whose digest agrees has no indicator left (R92, R106). -/
def Local.cleaned (now : Nat) (l : Local) : Local := { l with ind := {}, healthyAt := if l.indicated then now else l.healthyAt }

/-- Both digests known and shown to the peer (R91). -/
def Site.digestsShown (t : Site) : Site :=
  let shown (u : Site) (p : Pav) : Site := u.modLoc p fun l =>
    { l.wr .FBR_DIG_PEER_DIGEST ((t.pav p.other).loc.rd .FBR_DIG_OWN_DIGEST) with digMiss := 0 }
  shown (shown t .A) .B

theorem Site.digestsShown_loc (t : Site) (p : Pav) : (t.digestsShown.pav p).loc =
    { (t.pav p).loc.wr .FBR_DIG_PEER_DIGEST ((t.pav p.other).loc.rd .FBR_DIG_OWN_DIGEST) with digMiss := 0 } := by
  cases p
  · rfl
  · rfl

theorem Site.role_digestsShown (t : Site) (p : Pav) : t.digestsShown.role p = t.role p := by
  have h : t.digestsShown.role p = ((t.pav p).loc.wr .FBR_DIG_PEER_DIGEST ((t.pav p.other).loc.rd .FBR_DIG_OWN_DIGEST)).rd .FBR_STATUS_ROLE :=
    congrArg (·.rd .FBR_STATUS_ROLE) (t.digestsShown_loc p)
  rw [h]
  exact Regs.rd_wr_of_ne _ _ _ _ _ _ (by decide)

theorem Site.redundant_digestsShown (t : Site) : t.digestsShown.redundant = t.redundant := by
  simp only [Site.redundant, Site.role_digestsShown]

variable (katA katB : Bool) (hA : s.site.a.loc.ownDigest = true) (hB : s.site.b.loc.ownDigest = true) (hred : s.site.redundant = true)
include hA hB hred

theorem execPeerDigestRx_of_ne (hne : s.site.a.loc.rd .FBR_DIG_OWN_DIGEST ≠ s.site.b.loc.rd .FBR_DIG_OWN_DIGEST) :
    execPeerDigestRx katA katB s = .next { s with site := s.site.digestsShown.startDivergence katA katB } := by
  have hA' : (s.site.pav .A).loc.ownDigest = true := hA
  have hB' : (s.site.pav .B).loc.ownDigest = true := hB
  have hne' : (s.site.pav .A).loc.rd .FBR_DIG_OWN_DIGEST ≠ (s.site.pav .B).loc.rd .FBR_DIG_OWN_DIGEST := hne
  refine State.run_of_eq ?_
  dsimp only
  rw [if_neg (by simp [hA', hB']), if_pos hred, if_pos hne']
  rfl

/-- Equal digests clear the indicators of both and open the switches' way, unless a divergence still keeps it shut (R92). -/
theorem execPeerDigestRx_of_eq (heq : s.site.a.loc.rd .FBR_DIG_OWN_DIGEST = s.site.b.loc.rd .FBR_DIG_OWN_DIGEST) :
    execPeerDigestRx katA katB s = .next { s with
      site := if !s.site.digestsShown.privOpen then s.site.digestsShown
        else ((s.site.digestsShown.modLoc .A (Local.cleaned s.site.ticks)).modLoc .B (Local.cleaned s.site.ticks)).takeSwitches } := by
  have hA' : (s.site.pav .A).loc.ownDigest = true := hA
  have hB' : (s.site.pav .B).loc.ownDigest = true := hB
  have heq' : ¬ (s.site.pav .A).loc.rd .FBR_DIG_OWN_DIGEST ≠ (s.site.pav .B).loc.rd .FBR_DIG_OWN_DIGEST := not_not.mpr heq
  refine State.run_of_eq ?_
  dsimp only
  rw [if_neg (by simp [hA', hB']), if_pos hred, if_neg heq']
  rfl

end

/-- What agreement of the digests leaves: no digest missed, and a divergence as it was. -/
theorem Site.part_agreed {α : Type} {g : Local → α} (hg : Local.Steady g) (hclean : ∀ now l, g (Local.cleaned now l) = g l) (t : Site) (now : Nat)
    (p : Pav) (c : Bool) : g ((if c then t else ((t.modLoc .A (Local.cleaned now)).modLoc .B (Local.cleaned now)).takeSwitches).pav p).loc =
      g (t.pav p).loc := by
  cases c
  · exact (hg.takeSwitches _ _).trans ((Site.part_modLoc g (hclean now)).trans (Site.part_modLoc g (hclean now)))
  · rfl

/-! ### The outcome (R94) -/

section
variable {s : State} {p : Pav}

theorem Site.decideOutcome_of_open {t : Site} {d : Divergence} (peer : Bool) (hdiv : (t.pav p).loc.div = some d) (hpeer : d.peer = none) :
    t.decideOutcome p peer = t.modLoc p fun l => { l with div := some { d with
      peer := some peer, outcome := some (outcomeOf (t.role p = roleLeader) d.own peer), decided := t.ticks } } := by
  simp [Site.decideOutcome, hdiv, hpeer]

/-- The result of a self-check decides an open divergence, once (R94). -/
theorem State.run_decideOutcome {d : Divergence} (peer : Bool) (hdiv : (s.site.pav p).loc.div = some d) (hpeer : d.peer = none) :
    ∃ (t : State) (d' : Divergence), (s.run fun t => t.decideOutcome p peer) = .next t ∧ (t.site.pav p).loc.div = some d' ∧
      d'.peer = some peer ∧ d'.own = d.own ∧ d'.outcome = some (outcomeOf (s.site.role p = roleLeader) d.own peer) :=
  ⟨_, { d with peer := some peer, outcome := some (outcomeOf (s.site.role p = roleLeader) d.own peer), decided := s.site.ticks },
    State.run_of_eq (Site.decideOutcome_of_open peer hdiv hpeer), congrArg (·.loc.div) (s.site.pav_modLoc_same p _), rfl, rfl, rfl⟩

/-- The table of R94. -/
theorem outcomeOf_eq (leads own peer : Bool) : outcomeOf leads own peer =
    if own = false ∧ peer = false then .controlledStop else if leads then (if own then .continues else .yields)
    else if own then (if peer then .setAside 2 else .takesOver) else .setAside 1 := by
  cases leads <;> cases own <;> cases peer <;> rfl

theorem execDigestMissing_of_follower (hred : s.site.redundant = true) (hrole : s.site.role p = roleFollower)
    (hother : (s.site.pav p.other).loc.ownDigest = true) (hown : (s.site.pav p).loc.rd .FBR_STATUS_CH0_OK = 1)
    (hpeer : (s.site.pav p.other).loc.rd .FBR_STATUS_CH0_OK = 1) :
    execDigestMissing p s = .next { s with site := s.site.setAside p caDigestMissing } :=
  State.run_of_eq (by simp [hred, hrole, hother, hown, hpeer])

/-! ### The referee (R96, R98, R105) -/

/-- The levels of the referee's lines are shown in both pavilions. -/
theorem Site.rd_refLevels {f : Field} (t : Site) (lowA lowB : Bool) (q : Pav) (hA : f ≠ .FBR_STATUS_REF_A) (hB : f ≠ .FBR_STATUS_REF_B) :
    ((t.refLevels lowA lowB).regs q).rd f = (t.regs q).rd f := by
  have hkeep : ∀ l : Local, ((l.wr .FBR_STATUS_REF_A (!lowA).toNat).wr .FBR_STATUS_REF_B (!lowB).toNat).regs.rd f = l.regs.rd f := fun l =>
    (Regs.rd_wr_of_ne _ _ _ _ _ _ hB).trans (Regs.rd_wr_of_ne _ _ _ _ _ _ hA)
  exact (Site.rd_modLoc hkeep).trans (Site.rd_modLoc hkeep)

theorem Site.rd_clearDiv {f : Field} (t : Site) (q : Pav) (hf : f ≠ .FBR_STATUS_DIVERGENT) : (t.clearDiv.regs q).rd f = (t.regs q).rd f := by
  have hkeep : ∀ l : Local, ({ l.wr .FBR_STATUS_DIVERGENT 0 with div := none } : Local).regs.rd f = l.regs.rd f := fun l =>
    Regs.rd_wr_of_ne _ _ _ _ _ _ hf
  exact (Site.rd_modLoc hkeep).trans (Site.rd_modLoc hkeep)

/-- A verdict against a pavilion that does not lead sets it aside. -/
theorem Site.verdict_of_lowB {t : Site} (hrole : t.role .B = roleHeld ∨ t.role .B = roleFollower) :
    t.verdict false true = (t.setAside .B caReferee).takeSwitches := by
  obtain h | h := hrole <;>
    simp [Site.verdict, Site.condemn, Site.runs, Site.drives, h, roleHeld, roleFollower, roleLeader]

/-- What that leaves: the leader leads on, the other is set aside with cause REFEREE. -/
theorem Site.verdict_of_lowB_shows {t : Site} (hrole : t.role .B = roleHeld ∨ t.role .B = roleFollower) (hlead : t.role .A = roleLeader) :
    (t.verdict false true).role .A = roleLeader ∧ (t.verdict false true).role .B = roleSetAside ∧
      ((t.verdict false true).regs .B).rd .FBR_CAUSE_CAUSE = 3 := by
  have hA : (t.setAside .B caReferee).role .A = t.role .A := t.role_setAside_other .B _
  rw [Site.verdict_of_lowB hrole, Site.role_eq, Site.role_eq, Site.regs_takeSwitches, Site.regs_takeSwitches]
  exact ⟨hA.trans hlead, Site.role_setAside _ _ _, Site.cause_setAside _ _ (by decide)⟩

theorem execRefereeVerdict_of_window (lowA lowB : Bool) (hlow : (lowA || lowB) = true) (href : s.site.referee = true)
    (hwin : s.site.windowOpen = true) : execRefereeVerdict lowA lowB s = .next { s with
      site := ((s.site.refLevels lowA lowB).verdict lowA lowB).clearDiv } :=
  State.run_of_eq (by simp only [href, hwin, Bool.not_true, Bool.or_self, Bool.false_eq_true, if_false, hlow, if_true])

theorem execUnsolicitedVerdict_of_no_window (lowA lowB : Bool) (href : s.site.referee = true) (hwin : s.site.windowOpen = false) :
    execUnsolicitedVerdict lowA lowB s = .next { s with site := (s.site.refLevels lowA lowB).verdict lowA lowB } :=
  State.run_of_eq (by simp [href, hwin])

/-- A window that runs out closes in the pavilion that holds one (R98). -/
def Local.windowClosed (l : Local) : Local :=
  if l.div.isSome then { l.raise .FBR_EVENT_REF_TIMEOUT with div := l.div.map fun d => { d with window := false } } else l

theorem Local.role_windowClosed (l : Local) : l.windowClosed.rd .FBR_STATUS_ROLE = l.rd .FBR_STATUS_ROLE := by
  unfold Local.windowClosed
  split
  · exact Regs.rd_raise_ne l.regs .FBR_EVENT_REF_TIMEOUT .FBR_STATUS_ROLE 0 0 (by decide) (by decide)
  · rfl

/-- When the window runs out, a held pavilion is set aside. -/
theorem execRefereeWindowTimeout_of_heldB (hwin : s.site.windowOpen = true) (hA : s.site.role .A = roleLeader) (hB : s.site.role .B = roleHeld) :
    ∃ (closed : Site) (cause : Nat), (∀ q, closed.role q = s.site.role q) ∧
      execRefereeWindowTimeout s = .next { s with site := closed.setAside .B cause } := by
  have hrole : ∀ q, ((s.site.modLoc .A Local.windowClosed).modLoc .B Local.windowClosed).role q = s.site.role q := fun q =>
    (Site.rd_modLoc Local.role_windowClosed).trans (Site.rd_modLoc Local.role_windowClosed)
  have hnotA : ¬ ((s.site.modLoc .A Local.windowClosed).modLoc .B Local.windowClosed).role .A = roleHeld := by
    rw [hrole, hA]
    decide
  have hopen : ¬ (!s.site.windowOpen) = true := by simp [hwin]
  exact ⟨_, _, hrole, State.run_of_eq ((if_neg hopen).trans ((if_neg hnotA).trans (if_pos ((hrole .B).trans hB))))⟩

/-! ### Resets and the controlled stop (R99, R106) -/

theorem execSetAsideReset_of_setAside (hrole : s.site.role p = roleSetAside) (hreset : (s.site.pav p).loc.inReset = false) :
    execSetAsideReset p s = .next { s with site := s.site.pavReset p pcSetAside } := State.run_of_eq (by simp [hrole, hreset])

theorem execControlledStopRestart_of_due (hdue : (s.site.pav p).loc.restartDue = true) (hreset : (s.site.pav p).loc.inReset = false) :
    execControlledStopRestart p s = .next { s with site := s.site.pavReset p pcSetAside } := State.run_of_eq (by simp [hdue, hreset])

theorem execIndicatorAlone_of_alone (halone : s.site.alone p = true) (hind : (s.site.pav p).loc.indicated = true)
    (hdue : (s.site.pav p).loc.restartDue = false) : ∃ u : Site, execIndicatorAlone p s = .next { s with
      site := u.modLoc p fun l => { l.wr .FBR_CAUSE_CAUSE caIndicatorAlone with restartDue := true } } :=
  ⟨_, State.run_of_eq (if_pos (by simp [halone, hind, hdue]))⟩

end

/-- Settles O28: each clause is a command of the procedure above, with what it leaves of the pavilions. -/
theorem divergenceAndReferee : Obligations.DivergenceAndReferee := by
  intro p katA katB s l l' table
  refine ⟨fun hred hA hB hdA hdB hne => ?_, fun hred hA hB heq => ?_, fun d pass hdiv hpeer => ?_, fun d hdiv hpeer => ?_,
    fun hred hrole hother hown hpeer => ⟨_, execDigestMissing_of_follower hred hrole hother hown hpeer, Site.role_setAside _ p _,
      Site.cause_setAside _ p (by decide)⟩, fun href hwin hA hB => ?_, fun hwin hA hB => ?_, fun href hwin hA hB => ?_,
    fun hrole hreset => ⟨_, execSetAsideReset_of_setAside hrole hreset, Site.inReset_pavReset _ p _⟩,
    fun hdue hreset => ⟨_, execControlledStopRestart_of_due hdue hreset, (Site.inReset_pavReset _ p _).1⟩, fun halone hind hdue => ?_⟩
  · have hdiv : ∀ q, (s.site.digestsShown.pav q).loc.div = (s.site.pav q).loc.div := fun q => congrArg (·.div) (s.site.digestsShown_loc q)
    obtain ⟨hstart, hregs⟩ := Site.startDivergence_shows (t := s.site.digestsShown) p katA katB
      ((Site.redundant_digestsShown _).trans hred) ((hdiv .A).trans hdA) ((hdiv .B).trans hdB)
    refine ⟨_, execPeerDigestRx_of_ne katA katB hA hB hred hne, hstart, ?_, ?_⟩
    · refine (congrArg (·.rd .FBR_STATUS_DIVERGENT) hregs).trans ?_
      exact (Regs.rd_wr_of_ne _ _ _ _ _ _ (by decide)).trans (Regs.rd_wr_of_lt _ _ _ _ (by decide))
    · refine (congrArg (·.rd .FBR_EVENT_DIVERGE) hregs).trans ?_
      simp (disch := decide) only [Regs.rd_wr_of_ne, Regs.rd_raise_same]
  · refine ⟨_, execPeerDigestRx_of_eq katA katB hA hB hred heq, ?_, ?_⟩
    · exact (Site.part_agreed (g := (·.digMiss)) (fun _ _ _ _ _ => rfl) (fun _ _ => rfl) _ _ p _).trans
        (congrArg (·.digMiss) (s.site.digestsShown_loc p))
    · exact (Site.part_agreed (g := (·.div)) (fun _ _ _ _ _ => rfl) (fun _ _ => rfl) _ _ p _).trans
        (congrArg (·.div) (s.site.digestsShown_loc p))
  · obtain ⟨t, d', hrun, hdiv', hpeer', hown, hout⟩ := State.run_decideOutcome pass hdiv hpeer
    exact ⟨t, d', hrun, hdiv', hpeer', hown, hout.trans (congrArg some (outcomeOf_eq _ _ _))⟩
  · obtain ⟨t, d', hrun, hdiv', -, -, hout⟩ := State.run_decideOutcome false hdiv hpeer
    exact ⟨t, d', hrun, hdiv', hout.trans (congrArg some (outcomeOf_eq _ _ _))⟩
  · have hrole : ∀ q, (s.site.refLevels false true).role q = s.site.role q := fun q => s.site.rd_refLevels _ _ q (by decide) (by decide)
    obtain ⟨h1, h2, h3⟩ := Site.verdict_of_lowB_shows (t := s.site.refLevels false true) (by rwa [hrole]) (by rwa [hrole])
    exact ⟨_, execRefereeVerdict_of_window false true rfl href hwin, (Site.rd_clearDiv _ _ (by decide)).trans h1,
      (Site.rd_clearDiv _ _ (by decide)).trans h2, (Site.rd_clearDiv _ _ (by decide)).trans h3⟩
  · obtain ⟨u, cause, hrole, hrun⟩ := execRefereeWindowTimeout_of_heldB hwin hA hB
    exact ⟨_, hrun, (u.role_setAside_other .B cause).trans ((hrole .A).trans hA), u.role_setAside .B cause⟩
  · have hrole : ∀ q, (s.site.refLevels false true).role q = s.site.role q := fun q => s.site.rd_refLevels _ _ q (by decide) (by decide)
    exact ⟨_, execUnsolicitedVerdict_of_no_window false true href hwin,
      Site.verdict_of_lowB_shows (.inr ((hrole .B).trans hB)) ((hrole .A).trans hA)⟩
  · obtain ⟨u, hrun⟩ := execIndicatorAlone_of_alone halone hind hdue
    have hloc := u.pav_modLoc_same p fun l => { l.wr .FBR_CAUSE_CAUSE caIndicatorAlone with restartDue := true }
    exact ⟨_, hrun, congrArg (·.loc.restartDue) hloc, (congrArg (·.loc.rd .FBR_CAUSE_CAUSE) hloc).trans
      (Regs.rd_wr_of_lt (u.regs p) .FBR_CAUSE_CAUSE caIndicatorAlone 0 (by decide))⟩

end Sys2Proof.Machine
end

section
/-! PROOFS. What a replica keeps while it reports, and the opening of outlets. -/
namespace Sys2Proof.Machine

/-! ### Folds over replicas -/

/-- What every step of a fold keeps, the fold keeps. -/
theorem foldl_keeps {α β γ : Type} (g : β → γ) {f : β → α → β} (h : ∀ b a, g (f b a) = g b) :
    ∀ (l : List α) (b : β), g (l.foldl f b) = g b
  | [], _ => rfl
  | a :: l, b => (foldl_keeps g h l (f b a)).trans (h b a)

/-- What every outlet's step keeps, a pass over the outlets keeps. -/
theorem Replica.eachOut_keeps {γ : Type} (g : Replica → γ) {f : Nat → Replica → Replica} (h : ∀ o r, g (f o r) = g r) (r : Replica) :
    g (r.eachOut f) = g r := foldl_keeps g (fun r o => h o r) _ r

/-- What an outlet's own step brings about and every outlet's step preserves holds after a pass over the outlets. -/
theorem Replica.eachOut_reaches {P Q : Replica → Prop} {f : Nat → Replica → Replica} {o : Nat} (ho : o < 24) (hown : ∀ r, P r → Q (f o r))
    (hP : ∀ k r, P r → P (f k r)) (hQ : ∀ k r, Q r → Q (f k r)) (r : Replica) (h : P r) : Q (r.eachOut f) := by
  have hstay : ∀ (l : List Nat) (r : Replica), Q r → Q (l.foldl (fun r k => f k r) r) := fun l => by
    induction l with
    | nil => exact fun _ h => h
    | cons k l ih => exact fun r h => ih _ (hQ k r h)
  have hreach : ∀ (l : List Nat) (r : Replica), o ∈ l → P r → Q (l.foldl (fun r k => f k r) r) := fun l => by
    induction l with
    | nil => exact fun _ hmem => nomatch hmem
    | cons k l ih =>
      intro r hmem h
      rcases List.mem_cons.1 hmem with rfl | hmem
      · exact hstay l _ (hown r h)
      · exact ih _ hmem (hP k r h)
  exact hreach _ r (List.mem_range.2 ho) h

/-! ### Events to the hosts and journal entries (R255, R436) -/

section
variable (r : Replica)

/-- Reporting changes what the hosts hold, the journal's queue, what is sent, and the flag of lost events. -/
def Replica.Reported (r r' : Replica) : Prop :=
  ∃ (regs : Regs) (hosts : Hosts) (jq : List JEntry) (tx : List Tx), r' = { r with regs, hosts, jq, tx } ∧
    ∀ (f : Field) (i : Nat), f ≠ .HST_EVENT_EVENTS_LOST → f.isCount = false → regs.rd f i = r.regs.rd f i

theorem Replica.Reported.refl : r.Reported r := ⟨r.regs, r.hosts, r.jq, r.tx, rfl, fun _ _ _ _ => rfl⟩

variable {r} in
theorem Replica.Reported.trans {r' r'' : Replica} (h : r.Reported r') (h' : r'.Reported r'') : r.Reported r'' := by
  obtain ⟨regs, hosts, jq, tx, rfl, hrd⟩ := h
  obtain ⟨regs', hosts', jq', tx', rfl, hrd'⟩ := h'
  exact ⟨regs', hosts', jq', tx', rfl, fun f i hf hc => (hrd' f i hf hc).trans (hrd f i hf hc)⟩

theorem Replica.Reported.foldl {α : Type} {f : Replica → α → Replica} (h : ∀ r a, Replica.Reported r (f r a)) :
    ∀ (l : List α) (r : Replica), r.Reported (l.foldl f r)
  | [], r => .refl r
  | a :: l, r => (h r a).trans (Replica.Reported.foldl h l (f r a))

variable {r} in
theorem Replica.Reported.rd {r' : Replica} (h : r.Reported r') {f : Field} (hf : f ≠ .HST_EVENT_EVENTS_LOST) (hc : f.isCount = false) (i : Nat) :
    r'.rd f i = r.rd f i := by
  obtain ⟨_, _, _, _, rfl, hrd⟩ := h
  exact hrd f i hf hc

theorem Replica.reported_sessionEvent (n code : Nat) (data : List Nat) : r.Reported (r.sessionEvent n code data) := by
  unfold Replica.sessionEvent
  dsimp only
  split
  · exact .refl r
  · split
    · exact ⟨_, _, r.jq, r.tx, rfl, fun f i hf hc => Regs.rd_raise_ne _ _ _ _ _ hf hc⟩
    · exact ⟨r.regs, _, r.jq, _, rfl, fun _ _ _ _ => rfl⟩

theorem Replica.reported_eventClass (cls code : Nat) (data : List Nat) : r.Reported (r.eventClass cls code data) :=
  .foldl (fun r n => r.reported_sessionEvent n code data) _ r

theorem Replica.reported_journal (now location instNo outcome reaction cause : Nat) (detail : List Byte) :
    r.Reported (r.journal now location instNo outcome reaction cause detail) :=
  .trans ⟨r.regs, r.hosts, _, r.tx, rfl, fun _ _ _ _ => rfl⟩ (Replica.reported_eventClass _ _ _ _)

theorem Replica.reported_fault (now location instNo outcome reaction cause : Nat) :
    r.Reported (r.fault now location instNo outcome reaction cause) := by
  unfold Replica.fault
  dsimp only
  split
  · exact (r.reported_journal _ _ _ _ _ _ _).trans (.foldl (fun r n => r.reported_sessionEvent n _ _) _ _)
  · exact r.reported_journal _ _ _ _ _ _ _

end

/-! ### The opening of an outlet (R211 to R213) -/

/-- The fields that say whether an outlet is open, and its state. -/
def Field.ofOutlet : Field → Bool
  | .DLK_OSTATE_STATE | .CTL_OMODE_RAMP | .CTL_OMODE_STOPPED => true
  | _ => false

theorem Field.ofOutlet_cases {f : Field} (h : f.ofOutlet = true) : f = .DLK_OSTATE_STATE ∨ f = .CTL_OMODE_RAMP ∨ f = .CTL_OMODE_STOPPED := by
  unfold Field.ofOutlet at h
  split at h
  · exact .inl rfl
  · exact .inr (.inl rfl)
  · exact .inr (.inr rfl)
  · cases h

/-- The outlets stand in one replica as in the other. -/
def Replica.SameOutlets (r r' : Replica) : Prop := r'.outs = r.outs ∧ ∀ (f : Field) (i : Nat), f.ofOutlet = true → r'.rd f i = r.rd f i

section
variable {r r' r'' : Replica}

theorem Replica.SameOutlets.refl (r : Replica) : r.SameOutlets r := ⟨rfl, fun _ _ _ => rfl⟩

theorem Replica.SameOutlets.trans (h : r.SameOutlets r') (h' : r'.SameOutlets r'') : r.SameOutlets r'' :=
  ⟨h'.1.trans h.1, fun f i hf => (h'.2 f i hf).trans (h.2 f i hf)⟩

theorem Replica.SameOutlets.foldl {α : Type} {f : Replica → α → Replica} (h : ∀ r a, Replica.SameOutlets r (f r a)) :
    ∀ (l : List α) (r : Replica), r.SameOutlets (l.foldl f r)
  | [], r => .refl r
  | a :: l, r => (h r a).trans (Replica.SameOutlets.foldl h l (f r a))

theorem Replica.Reported.sameOutlets (h : r.Reported r') : r.SameOutlets r' := by
  refine ⟨by obtain ⟨_, _, _, _, rfl, _⟩ := h; rfl, fun f i hf => ?_⟩
  obtain rfl | rfl | rfl := Field.ofOutlet_cases hf <;> exact h.rd (by decide) (by decide) i

theorem Replica.sameOutlets_wr (r : Replica) (f : Field) (v i : Nat) (hf : f.ofOutlet = false) : r.SameOutlets (r.wr f v i) := by
  refine ⟨rfl, fun g j hg => Regs.rd_wr_of_ne _ _ _ _ _ _ fun h => ?_⟩
  rw [← h, hg] at hf
  cases hf

theorem Replica.sameOutlets_raise (r : Replica) (f : Field) (i : Nat) (hf : f.ofOutlet = false) : r.SameOutlets (r.raise f i) := by
  refine ⟨rfl, fun g j hg => Regs.rd_raise_ne _ _ _ _ _ (fun h => ?_) ?_⟩
  · rw [← h, hg] at hf
    cases hf
  · obtain rfl | rfl | rfl := Field.ofOutlet_cases hg <;> rfl

theorem Replica.sameOutlets_setFrozen (r : Replica) (x : Vector (Option Frozen) 32) : r.SameOutlets { r with frozen := x } :=
  ⟨rfl, fun _ _ _ => rfl⟩

theorem Replica.sameOutlets_setGrp (r : Replica) (g : Nat) (x : GroupLoop) : r.SameOutlets (r.setGrp g x) := ⟨rfl, fun _ _ _ => rfl⟩

theorem Replica.sameOutlets_freezeRing (r : Replica) (v : Env) (g cause : Nat) : r.SameOutlets (r.freezeRing v g cause) := by
  unfold Replica.freezeRing
  split
  · exact (r.sameOutlets_wr .CTL_HLOST_LOST _ 0 rfl).trans ⟨rfl, fun _ _ _ => rfl⟩
  · exact (r.sameOutlets_wr .CTL_HFRZ_FRZ _ 0 rfl).trans ⟨rfl, fun _ _ _ => rfl⟩

theorem Replica.sameOutlets_endInj (r : Replica) (i code : Nat) : r.SameOutlets (r.endInj i code) :=
  ((r.sameOutlets_wr .CTL_INJCTRL_ACTIVE 0 i rfl).trans (Replica.sameOutlets_wr _ .CTL_INJCTRL_END code i rfl)).trans
    ((Replica.sameOutlets_raise _ .CTL_EVENT_INJ_DONE 0 rfl).trans ⟨rfl, fun _ _ _ => rfl⟩)

theorem Replica.sameOutlets_endInjOn (r : Replica) (o code : Nat) : r.SameOutlets (r.endInjOn o code) := by
  refine .foldl (fun r i => ?_) _ r
  split
  · exact r.sameOutlets_endInj i code
  · exact .refl r

theorem Replica.sameOutlets_openJournal (r : Replica) (v : Env) (o cause : Nat) (grp : Option Nat) :
    r.SameOutlets (r.openJournal v o cause grp) := by
  unfold Replica.openJournal
  split <;> exact (r.reported_journal _ _ _ _ _ _ _).sameOutlets

end

/-- From one replica to the other no outlet changes its state or closes, and no cause for FAULT is withdrawn. -/
structure Replica.OpensOnly (r r' : Replica) : Prop where
  state : ∀ o, r'.ostate o = r.ostate o
  opened : ∀ o, r.isOpen o = true → r'.isOpen o = true
  due : ∀ o, (r.out o).faultDue ≠ none → (r'.out o).faultDue ≠ none

section
variable {r r' r'' : Replica}

theorem Replica.OpensOnly.trans (h : r.OpensOnly r') (h' : r'.OpensOnly r'') : r.OpensOnly r'' :=
  ⟨fun o => (h'.state o).trans (h.state o), fun o ho => h'.opened o (h.opened o ho), fun o ho => h'.due o (h.due o ho)⟩

theorem Replica.SameOutlets.isOpen (h : r.SameOutlets r') (o : Nat) : r'.isOpen o = r.isOpen o := by
  unfold Replica.isOpen
  rw [h.2 _ o rfl, h.2 _ o rfl]

theorem Replica.SameOutlets.opensOnly (h : r.SameOutlets r') : r.OpensOnly r' :=
  ⟨fun o => h.2 .DLK_OSTATE_STATE o rfl, fun o ho => (h.isOpen o).trans ho, fun o ho => by unfold Replica.out; rw [h.1]; exact ho⟩

theorem Replica.out_setOut_same (r : Replica) {o : Nat} (ho : o < 24) (x : OutletLoop) : (r.setOut o x).out o = x := vget_vput_same _ _ _ _ ho

theorem Replica.out_setOut_ne (r : Replica) {o k : Nat} (hk : k ≠ o) (x : OutletLoop) : (r.setOut o x).out k = r.out k :=
  vget_vput_ne _ _ _ _ _ hk

end

/-- A cause is entered for an outlet. -/
theorem Replica.opensOnly_setOut (r : Replica) (o : Nat) (x : OutletLoop) (hx : (r.out o).faultDue ≠ none → x.faultDue ≠ none) :
    r.OpensOnly (r.setOut o x) := by
  refine ⟨fun _ => rfl, fun _ h => h, fun k hk => ?_⟩
  by_cases hko : k = o
  · subst hko
    by_cases hlt : k < 24
    · rw [Replica.out_setOut_same r hlt]
      exact hx hk
    · have hfar : (r.out k).faultDue = none := by unfold Replica.out vget; rw [dif_neg hlt]
      exact absurd hfar hk
  · rw [Replica.out_setOut_ne r hko]
    exact hk

/-- An outlet that is open with a cause for FAULT. -/
def Replica.Opened (r : Replica) (o : Nat) : Prop := r.isOpen o = true ∧ (r.out o).faultDue ≠ none

theorem Replica.Opened.mono {r r' : Replica} {o : Nat} (h : r.Opened o) (hs : r.OpensOnly r') : r'.Opened o := ⟨hs.opened o h.1, hs.due o h.2⟩

section
variable (r : Replica) (v : Env) (o cause : Nat) (grp : Option Nat)

theorem Replica.opensOnly_opening : r.OpensOnly (r.opening v o cause grp) := by
  have hfreeze := Replica.SameOutlets.foldl (fun r g => r.sameOutlets_freezeRing v g cause) (r.groupsOf o) r
  have hmark : ∀ q : Replica, q.SameOutlets (q.markOpening o) := fun _ => ⟨rfl, fun _ _ _ => rfl⟩
  refine (hfreeze.trans ((Replica.sameOutlets_endInjOn _ o 3).trans ((hmark _).trans
    (Replica.sameOutlets_openJournal _ v o cause grp)))).opensOnly.trans (Replica.opensOnly_setOut _ o _ fun _ => ?_)
  exact nofun

theorem Replica.due_opening (ho : o < 24) : ((r.opening v o cause grp).out o).faultDue ≠ none := by
  unfold Replica.opening
  dsimp only
  rw [Replica.out_setOut_same _ ho]
  exact nofun

theorem Replica.opensOnly_addCause : r.OpensOnly (r.addCause v o cause grp) ∧
    (o < 24 → ((r.addCause v o cause grp).out o).faultDue ≠ none) := by
  have hjournal := (r.sameOutlets_openJournal v o cause grp).opensOnly
  unfold Replica.addCause
  dsimp only
  split
  · have hcause := Replica.sameOutlets_wr (r.openJournal v o cause grp) .CTL_OMODE_CAUSE cause o rfl
    refine ⟨hjournal.trans ((hcause.trans (.foldl (fun q _ => q.sameOutlets_setFrozen _) _ _)).opensOnly.trans
      (Replica.opensOnly_setOut _ o _ fun _ => nofun)), fun ho => ?_⟩
    rw [Replica.out_setOut_same _ ho]
    exact nofun
  · refine ⟨hjournal.trans (Replica.opensOnly_setOut _ o _ fun _ => nofun), fun ho => ?_⟩
    rw [Replica.out_setOut_same _ ho]
    exact nofun

theorem Replica.opensOnly_ramp : r.OpensOnly ((r.wr .CTL_OMODE_RAMP 1 o).wr .CTL_OMODE_CAUSE cause o) ∧
    ((r.wr .CTL_OMODE_RAMP 1 o).wr .CTL_OMODE_CAUSE cause o).isOpen o = true := by
  have hcause := (Replica.sameOutlets_wr (r.wr .CTL_OMODE_RAMP 1 o) .CTL_OMODE_CAUSE cause o rfl).opensOnly
  have hone : (r.wr .CTL_OMODE_RAMP 1 o).rd .CTL_OMODE_RAMP o = 1 := Regs.rd_wr_of_lt r.regs .CTL_OMODE_RAMP 1 o (by decide)
  have hopen : (r.wr .CTL_OMODE_RAMP 1 o).isOpen o = true := by simp [Replica.isOpen, hone]
  have hstate (k : Nat) : (r.wr .CTL_OMODE_RAMP 1 o).rd .DLK_OSTATE_STATE k = r.rd .DLK_OSTATE_STATE k :=
    Regs.rd_wr_of_ne r.regs .CTL_OMODE_RAMP .DLK_OSTATE_STATE 1 o k (by decide)
  have hstopped (k : Nat) : (r.wr .CTL_OMODE_RAMP 1 o).rd .CTL_OMODE_STOPPED k = r.rd .CTL_OMODE_STOPPED k :=
    Regs.rd_wr_of_ne r.regs .CTL_OMODE_RAMP .CTL_OMODE_STOPPED 1 o k (by decide)
  have hramp : r.OpensOnly (r.wr .CTL_OMODE_RAMP 1 o) := by
    refine ⟨hstate, fun k hk => ?_, fun _ h => h⟩
    by_cases hko : k = o
    · exact hko ▸ hopen
    · have hother : (r.wr .CTL_OMODE_RAMP 1 o).rd .CTL_OMODE_RAMP k = r.rd .CTL_OMODE_RAMP k := Regs.rd_wr_ne _ _ _ _ _ _ (.inr hko)
      unfold Replica.isOpen at hk ⊢
      rwa [hother, hstopped]
  exact ⟨hramp.trans hcause, hcause.opened o hopen⟩

/-- An outlet that is to ramp down is open afterwards, with a cause for FAULT, and no other outlet closes. -/
theorem Replica.openRamp_opens : r.OpensOnly (r.openRamp v o cause grp) ∧ (o < 24 → (r.openRamp v o cause grp).Opened o) := by
  obtain ⟨hadd, hdueAdd⟩ := r.opensOnly_addCause v o cause grp
  have hopening := r.opensOnly_opening v o cause grp
  have hdue := r.due_opening v o cause grp
  unfold Replica.openRamp
  split
  · next hhere =>
    have hopen : r.isOpen o = true := (Bool.and_eq_true_iff.1 hhere).1
    exact ⟨hadd, fun ho => ⟨hadd.opened o hopen, hdueAdd ho⟩⟩
  · dsimp only
    split
    · next hopen => exact ⟨hopening, fun ho => ⟨hopen, hdue ho⟩⟩
    · generalize r.opening v o cause grp = q at hopening hdue ⊢
      have hseq := q.opensOnly_setOut o { q.out o with openSeq := some v.seq } id
      have hdueSeq : o < 24 → ((q.setOut o { q.out o with openSeq := some v.seq }).out o).faultDue ≠ none := fun ho => by
        rw [Replica.out_setOut_same q ho]
        exact hdue ho
      generalize q.setOut o { q.out o with openSeq := some v.seq } = w at hseq hdueSeq ⊢
      obtain ⟨hramp, hopen⟩ := w.opensOnly_ramp o cause
      refine ⟨hopening.trans (hseq.trans (hramp.trans ?_)), fun ho => .mono ⟨hopen, hramp.due o (hdueSeq ho)⟩ ?_⟩ <;>
        exact (Replica.SameOutlets.foldl (fun q g => q.sameOutlets_setGrp g _) _ _).opensOnly

end

/-- The states in which a controlled stop opens an outlet. -/
def Replica.stops (r : Replica) (o : Nat) : Prop :=
  osPlugged ≤ r.ostate o ∧ r.ostate o ≤ osWeldCheck ∨ r.ostate o = osCommission

theorem Replica.stops.of_sameOutlets {r r' : Replica} {o : Nat} (h : r.stops o) (hs : r.SameOutlets r') : r'.stops o := by
  unfold Replica.stops
  rw [hs.opensOnly.state o]
  exact h

/-- A controlled stop opens every live outlet. -/
theorem Replica.opened_controlledStop (r : Replica) (v : Env) {o : Nat} (ho : o < 24) (h : r.stops o) : (r.controlledStop v).Opened o := by
  have hstep : ∀ (k : Nat) (r : Replica), r.OpensOnly (if (osPlugged ≤ r.ostate k && r.ostate k ≤ osWeldCheck) || r.ostate k = osCommission then
      r.openRamp v k coControlledStop none else r) := fun k r => by
    split
    · exact (r.openRamp_opens v k _ none).1
    · exact (Replica.SameOutlets.refl r).opensOnly
  refine Replica.eachOut_reaches (P := (·.stops o)) (Q := (·.Opened o)) ho (fun r h => ?_) (fun k r h => ?_) (fun k r h => h.mono (hstep k r)) r h
  · rw [if_pos (by simpa [Replica.stops] using h)]
    exact (r.openRamp_opens v o _ none).2 ho
  · unfold Replica.stops
    rw [(hstep k r).state o]
    exact h

end Sys2Proof.Machine
end

section
/-! PROOFS. The Sundial: crossings, free-run, publication of its events, and the event slots (R58 to R73). -/
namespace Sys2Proof.Machine

/-! ### Registers of the common block -/

section
variable (c : Common) (f g : Field) (v i j : Nat)

theorem Common.rd_wr_of_lt (h : v < 2 ^ f.info.width) : (c.wr f v i).rd f i = v := Regs.rd_wr_of_lt c.regs f v i h

theorem Common.rd_wr_of_ne (h : g ≠ f) : (c.wr f v i).rd g j = c.rd g j := Regs.rd_wr_of_ne c.regs f g v i j h

theorem Common.rd_raise_same (hf : f.isCount = false) (hwidth : 0 < f.info.width) : (c.raise f i).rd f i = 1 :=
  Regs.rd_raise_same c.regs f i hf hwidth

theorem Common.rd_raise_ne (h : g ≠ f) (hg : g.isCount = false) : (c.raise f i).rd g j = c.rd g j := Regs.rd_raise_ne c.regs f g i j h hg

end

/-! ### A pavilion's own part -/

theorem Site.loc_modLoc_same (t : Site) (p : Pav) (f : Local → Local) : ((t.modLoc p f).pav p).loc = f (t.pav p).loc := by cases p <;> rfl

/-- A change of a pavilion's own part that leaves its engines leaves each of them. -/
theorem Site.eng_modLoc_of_engines {t : Site} {p q : Pav} {e : Eng} {f : Local → Local} (hf : ∀ l, (f l).engines = l.engines) :
    (t.modLoc q f).eng p e = t.eng p e := congrArg (Vector.get · e) (Site.part_modLoc (·.engines) hf)

/-! ### Bits of a register -/

/-- A cleared bit reads 0, whatever of the value is kept. -/
theorem bitOf_putBit_false (v i w : Nat) : bitOf (putBit v i false % 2 ^ w) i = false := by
  have hmask : 2 ^ 64 - 1 - 2 ^ i = 2 ^ 64 - (2 ^ i + 1) := by omega
  have hbit : (2 ^ 64 - 1 - 2 ^ i).testBit i = false := by
    rcases lt_or_ge i 64 with hi | hi
    · rw [hmask, Nat.testBit_two_pow_sub_succ (Nat.pow_lt_pow_right (by decide) hi), Nat.testBit_two_pow_self]
      simp
    · have hzero : 2 ^ 64 - 1 - 2 ^ i = 0 := by
        have hle : 2 ^ 64 ≤ 2 ^ i := Nat.pow_le_pow_right (by decide) hi
        omega
      rw [hzero, Nat.zero_testBit]
  unfold bitOf putBit
  rw [if_neg Bool.false_ne_true, Nat.testBit_mod_two_pow, Nat.testBit_and, hbit]
  simp

/-- A bit that is set within the width reads 1. -/
theorem bitOf_putBit_true (v : Nat) {i w : Nat} (h : i < w) : bitOf (putBit v i true % 2 ^ w) i = true := by
  simp [bitOf, putBit, Nat.testBit_mod_two_pow, Nat.testBit_or, Nat.testBit_two_pow_self, h]

/-- Setting a bit clears no other. -/
theorem bitOf_putBit_true_of_bitOf {v i j w : Nat} (h : bitOf v j = true) (hw : j < w) : bitOf (putBit v i true % 2 ^ w) j = true := by
  unfold bitOf at h
  simp [bitOf, putBit, Nat.testBit_mod_two_pow, Nat.testBit_or, h, hw]

/-! ### Publication of the Sundial's events in both pavilions -/

/-- The events of the common block's Sundial. -/
def Field.ofSundialEvents : Field → Bool
  | .SDL_EVENT_GRID_LOST | .SDL_EVENT_GRID_BACK | .SDL_EVENT_PHASE_JUMP | .SDL_EVENT_JUMP_TRANSIENT | .SDL_EVENT_FREQ_RANGE => true
  | _ => false

/-- One event: raised in both pavilions, cleared in the common block. -/
def Site.publish (t : Site) (f : Field) : Site :=
  if t.com.rd f = 1 then ((t.modLoc .A fun l => l.raise f).modLoc .B fun l => l.raise f).modCom fun c => c.wr f 0 else t

theorem Site.publishSdl_eq (t : Site) : t.publishSdl =
    [Field.SDL_EVENT_GRID_LOST, .SDL_EVENT_GRID_BACK, .SDL_EVENT_PHASE_JUMP, .SDL_EVENT_JUMP_TRANSIENT, .SDL_EVENT_FREQ_RANGE].foldl
      Site.publish t := rfl

section
variable (t : Site) (p : Pav) (f g : Field)

theorem Site.sun_publish : (t.publish f).com.sun = t.com.sun := by
  unfold Site.publish
  split <;> rfl

theorem Site.com_rd_publish (i : Nat) (h : g ≠ f) : (t.publish f).com.rd g i = t.com.rd g i := by
  unfold Site.publish
  split
  · exact Common.rd_wr_of_ne t.com f g 0 0 i h
  · rfl

theorem Site.regs_publish_of_set (h : t.com.rd f = 1) : (t.publish f).regs p = (t.regs p).raise f := by
  unfold Site.publish
  rw [if_pos h]
  cases p <;> rfl

theorem Site.regs_publish_of_clear (h : ¬ t.com.rd f = 1) : (t.publish f).regs p = t.regs p := by
  unfold Site.publish
  rw [if_neg h]

/-- A flag that is set stays set. -/
theorem Site.rd_publish_of_set (hg : g.isCount = false) (hwidth : 0 < g.info.width) (h : (t.regs p).rd g = 1) :
    ((t.publish f).regs p).rd g = 1 := by
  by_cases hset : t.com.rd f = 1
  · rw [Site.regs_publish_of_set t p f hset]
    by_cases hfg : g = f
    · subst hfg
      exact Regs.rd_raise_same _ g 0 hg hwidth
    · exact (Regs.rd_raise_ne _ f g 0 0 hfg hg).trans h
  · rw [Site.regs_publish_of_clear t p f hset]
    exact h

theorem Site.sun_publishSdl : t.publishSdl.com.sun = t.com.sun := foldl_keeps (·.com.sun) Site.sun_publish _ t

theorem Site.com_rd_publishSdl (i : Nat) (h : g.ofSundialEvents = false) : t.publishSdl.com.rd g i = t.com.rd g i := by
  have hne : ∀ f : Field, f.ofSundialEvents = true → g ≠ f := fun f hf hgf => by
    rw [hgf, hf] at h
    cases h
  rw [Site.publishSdl_eq]
  simp only [List.foldl_cons, List.foldl_nil]
  rw [Site.com_rd_publish _ _ _ _ (hne _ rfl), Site.com_rd_publish _ _ _ _ (hne _ rfl), Site.com_rd_publish _ _ _ _ (hne _ rfl),
    Site.com_rd_publish _ _ _ _ (hne _ rfl), Site.com_rd_publish _ _ _ _ (hne _ rfl)]

/-- A lost grid is published in both pavilions. -/
theorem Site.gridLost_publishSdl (h : t.com.rd .SDL_EVENT_GRID_LOST = 1) : (t.publishSdl.regs p).rd .SDL_EVENT_GRID_LOST = 1 := by
  have hfirst : ((t.publish .SDL_EVENT_GRID_LOST).regs p).rd .SDL_EVENT_GRID_LOST = 1 := by
    rw [Site.regs_publish_of_set t p _ h]
    exact Regs.rd_raise_same _ .SDL_EVENT_GRID_LOST 0 rfl (by decide)
  have hstay : ∀ (u : Site) (f : Field), (u.regs p).rd .SDL_EVENT_GRID_LOST = 1 → ((u.publish f).regs p).rd .SDL_EVENT_GRID_LOST = 1 :=
    fun u f => Site.rd_publish_of_set u p f .SDL_EVENT_GRID_LOST rfl (by decide)
  rw [Site.publishSdl_eq]
  simp only [List.foldl_cons, List.foldl_nil]
  exact hstay _ _ (hstay _ _ (hstay _ _ (hstay _ _ hfirst)))

end

/-! ### Crossings -/

section
variable (c : Common)

theorem Common.rd_sunStatus (f : Field) (i : Nat) (h : f ≠ .SDL_STATUS_LOCKED) : c.sunStatus.rd f i = c.rd f i :=
  Common.rd_wr_of_ne c .SDL_STATUS_LOCKED f _ 0 i h

theorem Common.locked_sunStatus (h : c.rd .SDL_STATUS_FREE_RUN = 1) : c.sunStatus.rd .SDL_STATUS_LOCKED = 0 := by
  unfold Common.sunStatus
  dsimp only
  rw [h]
  simp only [show decide (1 = 0) = false from rfl, Bool.and_false, Bool.false_and]
  exact Common.rd_wr_of_lt c .SDL_STATUS_LOCKED 0 0 (by decide)

/-- The fields that entering free-run writes. -/
def Field.ofFreeRun : Field → Bool
  | .SDL_STATUS_FREE_RUN | .SDL_STATUS_HOLD | .SDL_STATUS_SLEW | .SDL_EVENT_GRID_LOST | .SDL_STATUS_LOCKED => true
  | _ => false

/-- The state after entering free-run: both copies at the mean rate, the loss of the grid to be published (R61). -/
theorem Common.enterFreeRun_spec : c.enterFreeRun.rd .SDL_STATUS_FREE_RUN = 1 ∧ c.enterFreeRun.rd .SDL_STATUS_LOCKED = 0 ∧
    c.enterFreeRun.sun.a.target = c.sun.meanRate ∧ c.enterFreeRun.rd .SDL_EVENT_GRID_LOST = 1 ∧
    ∀ f i, f.ofFreeRun = false → c.enterFreeRun.rd f i = c.rd f i := by
  have hfree : ((((c.wr .SDL_STATUS_FREE_RUN 1).wr .SDL_STATUS_HOLD 0).wr .SDL_STATUS_SLEW 0).wr .SDL_EVENT_GRID_LOST 1).rd
      .SDL_STATUS_FREE_RUN = 1 := by
    rw [Common.rd_wr_of_ne _ _ _ _ _ _ (by decide), Common.rd_wr_of_ne _ _ _ _ _ _ (by decide), Common.rd_wr_of_ne _ _ _ _ _ _ (by decide)]
    exact Common.rd_wr_of_lt c .SDL_STATUS_FREE_RUN 1 0 (by decide)
  unfold Common.enterFreeRun
  dsimp only
  refine ⟨(Common.rd_sunStatus _ .SDL_STATUS_FREE_RUN 0 (by decide)).trans hfree, Common.locked_sunStatus _ hfree, rfl,
    (Common.rd_sunStatus _ .SDL_EVENT_GRID_LOST 0 (by decide)).trans (Common.rd_wr_of_lt _ .SDL_EVENT_GRID_LOST 1 0 (by decide)), fun f i hf => ?_⟩
  have hne : ∀ g : Field, g.ofFreeRun = true → f ≠ g := fun g hg hfg => by
    rw [hfg, hg] at hf
    cases hf
  refine (Common.rd_sunStatus _ f i (hne _ rfl)).trans ((Common.rd_wr_of_ne _ _ f _ _ i (hne .SDL_EVENT_GRID_LOST rfl)).trans
    ((Common.rd_wr_of_ne _ _ f _ _ i (hne .SDL_STATUS_SLEW rfl)).trans ((Common.rd_wr_of_ne _ _ f _ _ i (hne .SDL_STATUS_HOLD rfl)).trans
    (Common.rd_wr_of_ne _ _ f _ _ i (hne .SDL_STATUS_FREE_RUN rfl)))))

/-- A deviation of at most 3 degrees is tracked by the PI rule (R58). -/
theorem Common.trackCrossing_small {nom : Nat} {e : Int} (hslew : c.rd .SDL_STATUS_SLEW = 0) (hcand : c.sun.candidate = none)
    (he : (e.natAbs : Int) ≤ deg3) : c.trackCrossing nom true e =
      { c with sun := { c.sun.track nom e with errSmall := decide (absInt e ≤ deg1) } } := by
  unfold Common.trackCrossing
  simp only [hslew, hcand, show ¬ deg3 < absInt e from not_lt.2 he, if_false, if_true, show ¬ (0 = 1) from by decide]

/-- A larger one becomes the jump candidate: HOLD, and both copies keep their rate (R64). -/
theorem Common.trackCrossing_large {nom : Nat} {e : Int} (hslew : c.rd .SDL_STATUS_SLEW = 0) (hcand : c.sun.candidate = none)
    (he : ¬ (e.natAbs : Int) ≤ deg3) : c.trackCrossing nom true e =
      { c.wr .SDL_STATUS_HOLD 1 with
        sun := { (c.sun.both fun x => { x with target := x.rate }) with candidate := some e, errSmall := false } } := by
  unfold Common.trackCrossing
  simp only [hslew, hcand, show deg3 < absInt e from not_le.1 he, if_false, if_true, show ¬ (0 = 1) from by decide]

/-- The common block once a valid positive-going crossing is noted, its frequency and error shown (R57, R58). -/
def Common.noted (ago interval : Nat) : Common :=
  let u : Sundial := { c.sun with
    lastPos := some (c.sun.ticks - ago), intervals := (interval :: c.sun.intervals).take 8
    gather := if c.sun.plausSince then (interval :: c.sun.gather).take 3 else [] }
  (({ c with sun := u } : Common).wr .SDL_FREQ_FREQ u.freqMicro).wr .SDL_PHERR_PHERR (c.sun.errorAt ago % 2 ^ 32).toNat

theorem Common.rd_noted (ago interval : Nat) (f : Field) (i : Nat) (hfreq : f ≠ .SDL_FREQ_FREQ) (herr : f ≠ .SDL_PHERR_PHERR) :
    (c.noted ago interval).rd f i = c.rd f i := (Common.rd_wr_of_ne _ _ f _ _ i herr).trans (Common.rd_wr_of_ne _ _ f _ _ i hfreq)

theorem Common.pherr_noted (ago interval : Nat) : (c.noted ago interval).rd .SDL_PHERR_PHERR = (c.sun.errorAt ago % 2 ^ 32).toNat := by
  refine Common.rd_wr_of_lt _ .SDL_PHERR_PHERR _ 0 ?_
  show _ < 2 ^ 32
  generalize c.sun.errorAt ago = e
  omega

/-- A valid positive-going crossing in tracking is noted and goes to the tracking rule (R57, R58). -/
theorem Common.crossing_tracks {nom ago last : Nat} (hlast : c.sun.lastPos = some last)
    (hvalid : inTracking nom (c.sun.ticks - ago - last) = true) (hlock : c.rd .SDL_STATUS_FIRST_LOCK = 1)
    (hfree : c.rd .SDL_STATUS_FREE_RUN = 0) : c.crossing nom true ago =
      ((c.noted ago (c.sun.ticks - ago - last)).trackCrossing nom true (c.sun.errorAt ago)).sunStatus := by
  have hlock' := (c.rd_noted ago (c.sun.ticks - ago - last) .SDL_STATUS_FIRST_LOCK 0 (by decide) (by decide)).trans hlock
  have hfree' := (c.rd_noted ago (c.sun.ticks - ago - last) .SDL_STATUS_FREE_RUN 0 (by decide) (by decide)).trans hfree
  unfold Common.crossing
  simp only [if_true, hlast, hvalid, Bool.not_true, Bool.false_eq_true, if_false]
  have hk : ∀ k : Common, k = c.noted ago (c.sun.ticks - ago - last) → ∀ e : Int, e = c.sun.errorAt ago → (if k.rd .SDL_STATUS_FIRST_LOCK = 0 then
      k.firstLock true e ago else if k.rd .SDL_STATUS_FREE_RUN = 1 then k.gridBack nom true e else k.trackCrossing nom true e).sunStatus =
      ((c.noted ago (c.sun.ticks - ago - last)).trackCrossing nom true (c.sun.errorAt ago)).sunStatus := by
    rintro _ rfl _ rfl
    rw [hlock', hfree', if_neg (by decide), if_neg (by decide)]
  exact hk _ rfl _ rfl

end

/-! ### What the commands of the common Sundial do -/

section
variable (s : State)

theorem execZeroCrossing_tracks {ago last : Nat} (hlast : s.site.com.sun.lastPos = some last)
    (hvalid : inTracking s.site.nominal (s.site.com.sun.ticks - ago - last) = true) (hlock : s.site.com.rd .SDL_STATUS_FIRST_LOCK = 1)
    (hfree : s.site.com.rd .SDL_STATUS_FREE_RUN = 0) : execZeroCrossing true ago s = .next { s with
      site := (s.site.modCom fun _ => ((s.site.com.noted ago (s.site.com.sun.ticks - ago - last)).trackCrossing s.site.nominal true
        (s.site.com.sun.errorAt ago)).sunStatus).publishSdl } := by
  have hcom : (s.site.modCom fun c => c.crossing s.site.nominal true ago) = s.site.modCom fun _ =>
      ((s.site.com.noted ago (s.site.com.sun.ticks - ago - last)).trackCrossing s.site.nominal true (s.site.com.sun.errorAt ago)).sunStatus :=
    congrArg (fun k => { s.site with com := k }) (s.site.com.crossing_tracks hlast hvalid hlock hfree)
  exact State.run_of_eq (congrArg Site.publishSdl hcom)

/-- After the publication the common block shows what the crossing left. -/
theorem Site.com_published (t : Site) (k : Common) : (t.modCom fun _ => k).publishSdl.com.sun = k.sun ∧
    ∀ f i, f.ofSundialEvents = false → (t.modCom fun _ => k).publishSdl.com.rd f i = k.rd f i :=
  ⟨Site.sun_publishSdl _, fun f i hf => Site.com_rd_publishSdl _ f i hf⟩

theorem zeroCrossing_tracks_or_holds {ago last : Nat} (hlast : s.site.com.sun.lastPos = some last)
    (hvalid : inTracking s.site.nominal (s.site.com.sun.ticks - ago - last) = true) (hlock : s.site.com.rd .SDL_STATUS_FIRST_LOCK = 1)
    (hfree : s.site.com.rd .SDL_STATUS_FREE_RUN = 0) (hslew : s.site.com.rd .SDL_STATUS_SLEW = 0) (hcand : s.site.com.sun.candidate = none) :
    ∃ t : State, exec (.zeroCrossing true ago) s = .next t ∧
      t.site.com.rd .SDL_PHERR_PHERR = (s.site.com.sun.errorAt ago % 2 ^ 32).toNat ∧
      if ((s.site.com.sun.errorAt ago).natAbs : Int) ≤ deg3 then
        t.site.com.sun.a.integral = scaleRate s.site.com.sun.a.integral (gainKI s.site.nominal) (s.site.com.sun.errorAt ago) ∧
        t.site.com.sun.a.target = scaleRate (scaleRate s.site.com.sun.a.integral (gainKI s.site.nominal) (s.site.com.sun.errorAt ago))
          (gainKP s.site.nominal) (s.site.com.sun.errorAt ago) ∧
        t.site.com.sun.b.integral = scaleRate s.site.com.sun.b.integral (gainKI s.site.nominal) (s.site.com.sun.errorAt ago)
      else t.site.com.sun.candidate = some (s.site.com.sun.errorAt ago) ∧ t.site.com.rd .SDL_STATUS_HOLD = 1 ∧
        t.site.com.sun.a = { s.site.com.sun.a with target := s.site.com.sun.a.rate } ∧
        t.site.com.sun.b = { s.site.com.sun.b with target := s.site.com.sun.b.rate } := by
  refine ⟨_, execZeroCrossing_tracks s hlast hvalid hlock hfree, ?_⟩
  have hpherr := s.site.com.pherr_noted ago (s.site.com.sun.ticks - ago - last)
  have hslew' := (s.site.com.rd_noted ago (s.site.com.sun.ticks - ago - last) .SDL_STATUS_SLEW 0 (by decide) (by decide)).trans hslew
  have hsun : ∀ n, (s.site.com.noted ago n).sun.a = s.site.com.sun.a ∧ (s.site.com.noted ago n).sun.b = s.site.com.sun.b ∧
      (s.site.com.noted ago n).sun.candidate = s.site.com.sun.candidate := fun _ => ⟨rfl, rfl, rfl⟩
  obtain ⟨ha, hb, hc⟩ := hsun (s.site.com.sun.ticks - ago - last)
  generalize s.site.com.noted ago (s.site.com.sun.ticks - ago - last) = k at *
  generalize s.site.com.sun.errorAt ago = e at *
  by_cases he : (e.natAbs : Int) ≤ deg3
  · rw [if_pos he, Common.trackCrossing_small k hslew' (hc.trans hcand) he, ← ha, ← hb]
    obtain ⟨hsun', hrd⟩ := s.site.com_published
      (({ k with sun := { k.sun.track s.site.nominal e with errSmall := decide (absInt e ≤ deg1) } } : Common).sunStatus)
    dsimp only
    rw [hsun', hrd _ _ rfl, Common.rd_sunStatus _ _ _ (by decide)]
    exact ⟨hpherr, rfl, rfl, rfl⟩
  · rw [if_neg he, Common.trackCrossing_large k hslew' (hc.trans hcand) he, ← ha, ← hb]
    obtain ⟨hsun', hrd⟩ := s.site.com_published (({ k.wr .SDL_STATUS_HOLD 1 with
      sun := { (k.sun.both fun x => { x with target := x.rate }) with candidate := some e, errSmall := false } } : Common).sunStatus)
    dsimp only
    rw [hsun', hrd _ _ rfl, hrd _ _ rfl, Common.rd_sunStatus _ _ _ (by decide), Common.rd_sunStatus _ _ _ (by decide)]
    exact ⟨(Common.rd_wr_of_ne k .SDL_STATUS_HOLD .SDL_PHERR_PHERR 1 0 0 (by decide)).trans hpherr, rfl,
      Common.rd_wr_of_lt k .SDL_STATUS_HOLD 1 0 (by decide), rfl, rfl⟩

/-- A Sundial that has locked and does not run free goes to free-run (R61). -/
def Common.orFreeRun (k : Common) : Common :=
  if k.rd .SDL_STATUS_FIRST_LOCK = 1 && k.rd .SDL_STATUS_FREE_RUN = 0 then k.enterFreeRun else k

theorem Common.freeRun_of_locked (k : Common) (hlock : k.rd .SDL_STATUS_FIRST_LOCK = 1) (hfree : k.rd .SDL_STATUS_FREE_RUN = 0) :
    k.orFreeRun = k.enterFreeRun := if_pos (by rw [hlock, hfree]; rfl)

/-- The loss of the grid, published: free-run at the mean rate, GRID_LOST in both pavilions (R61). -/
theorem Site.freeRun_published (t : Site) (p : Pav) (k : Common) :
    let u := (t.modCom fun _ => k.enterFreeRun).publishSdl
    u.com.rd .SDL_STATUS_FREE_RUN = 1 ∧ u.com.rd .SDL_STATUS_LOCKED = 0 ∧ u.com.sun.a.target = k.sun.meanRate ∧
      (u.regs p).rd .SDL_EVENT_GRID_LOST = 1 ∧ ∀ f, f.ofFreeRun = false → f.ofSundialEvents = false → u.com.rd f = k.rd f := by
  obtain ⟨hfree, hlocked, hrate, hlost, hrest⟩ := k.enterFreeRun_spec
  obtain ⟨hsun, hrd⟩ := t.com_published k.enterFreeRun
  refine ⟨(hrd _ 0 rfl).trans hfree, (hrd _ 0 rfl).trans hlocked, ?_, Site.gridLost_publishSdl _ p hlost,
    fun f hf he => (hrd f 0 he).trans (hrest f 0 hf)⟩
  exact (congrArg (·.a.target) hsun).trans hrate

section
variable (p : Pav) (hlock : s.site.com.rd .SDL_STATUS_FIRST_LOCK = 1) (hfree : s.site.com.rd .SDL_STATUS_FREE_RUN = 0)
include hlock hfree

theorem execZeroCrossingTimeout_freeRun :
    execZeroCrossingTimeout s = .next { s with site := (s.site.modCom fun _ => s.site.com.enterFreeRun).publishSdl } := by
  rw [← s.site.com.freeRun_of_locked hlock hfree]
  exact State.run_of_eq rfl

/-- The common block once a plausibility check has failed, before free-run (R48). -/
def Common.implausible (c : Common) : Common :=
  let c := (c.wr .GSP_STATUS_PLAUS 0).raise .GSP_EVENT_IMPLAUS
  { c with sun := { c.sun with plausSince := false, gather := [], firstPending := false } }

omit hlock hfree in
theorem Common.rd_implausible (c : Common) (f : Field) (hp : f ≠ .GSP_STATUS_PLAUS) (hi : f ≠ .GSP_EVENT_IMPLAUS) (hc : f.isCount = false) :
    c.implausible.rd f = c.rd f := (Common.rd_raise_ne (c.wr .GSP_STATUS_PLAUS 0) .GSP_EVENT_IMPLAUS f 0 0 hi hc).trans (Common.rd_wr_of_ne c _ f 0 0 0 hp)

omit hlock hfree in
theorem Common.implausible_shown (c : Common) : c.implausible.rd .GSP_STATUS_PLAUS = 0 ∧ c.implausible.rd .GSP_EVENT_IMPLAUS = 1 := by
  refine ⟨?_, Common.rd_raise_same (c.wr .GSP_STATUS_PLAUS 0) .GSP_EVENT_IMPLAUS 0 rfl (by decide)⟩
  exact (Common.rd_raise_ne (c.wr .GSP_STATUS_PLAUS 0) .GSP_EVENT_IMPLAUS .GSP_STATUS_PLAUS 0 0 (by decide) rfl).trans
    (Common.rd_wr_of_lt c .GSP_STATUS_PLAUS 0 0 (by decide))

theorem execMainsPlausibilityCheck_fails : ∃ f : Replica → Replica, execMainsPlausibilityCheck false s = .next { s with
    site := (s.site.modCom fun _ => s.site.com.implausible.enterFreeRun).publishSdl.onLog f } := by
  have hcom := s.site.com.implausible.freeRun_of_locked ((s.site.com.rd_implausible _ (by decide) (by decide) rfl).trans hlock)
    ((s.site.com.rd_implausible _ (by decide) (by decide) rfl).trans hfree)
  have hraw : ∃ f : Replica → Replica, execMainsPlausibilityCheck false s = .next { s with
      site := (s.site.modCom fun c => c.implausible.orFreeRun).publishSdl.onLog f } := ⟨_, State.run_of_eq (if_neg Bool.false_ne_true)⟩
  have hmod : (s.site.modCom fun c => c.implausible.orFreeRun) = s.site.modCom fun _ => s.site.com.implausible.enterFreeRun :=
    congrArg (fun k => { s.site with com := k }) hcom
  rw [hmod] at hraw
  exact hraw

theorem gridLoss_enters_freeRun :
    (∃ t : State, exec .zeroCrossingTimeout s = .next t ∧ t.site.com.rd .SDL_STATUS_FREE_RUN = 1 ∧ t.site.com.rd .SDL_STATUS_LOCKED = 0 ∧
      t.site.com.sun.a.target = s.site.com.sun.meanRate ∧ (t.site.pav p).loc.rd .SDL_EVENT_GRID_LOST = 1) ∧
    (∃ t : State, exec (.mainsPlausibilityCheck false) s = .next t ∧ t.site.com.rd .GSP_STATUS_PLAUS = 0 ∧ t.site.com.rd .GSP_EVENT_IMPLAUS = 1 ∧
      t.site.com.rd .SDL_STATUS_FREE_RUN = 1 ∧ (t.site.pav p).loc.rd .SDL_EVENT_GRID_LOST = 1) := by
  constructor
  · obtain ⟨hrun, hlocked, hrate, hlost, _⟩ := s.site.freeRun_published p s.site.com
    refine ⟨_, execZeroCrossingTimeout_freeRun s hlock hfree, ?_⟩
    dsimp only
    exact ⟨hrun, hlocked, hrate, hlost⟩
  · obtain ⟨hrun, _, _, hlost, hrest⟩ := s.site.freeRun_published p s.site.com.implausible
    obtain ⟨hplaus, himplaus⟩ := s.site.com.implausible_shown
    obtain ⟨f, hexec⟩ := execMainsPlausibilityCheck_fails s hlock hfree
    have hregs := (congrArg (Regs.rd · .SDL_EVENT_GRID_LOST) (Site.regs_onLog (s.site.modCom fun _ => s.site.com.implausible.enterFreeRun).publishSdl p f)).trans hlost
    refine ⟨_, hexec, ?_⟩
    dsimp only
    rw [Site.onLog_com, hrest .GSP_STATUS_PLAUS rfl rfl, hrest .GSP_EVENT_IMPLAUS rfl rfl]
    exact ⟨hplaus, himplaus, hrun, hregs⟩

end

theorem execMainsPlausibilityCheck_passes : ∃ t : State, exec (.mainsPlausibilityCheck true) s = .next t ∧
    t.site.com.rd .GSP_STATUS_PLAUS = 1 ∧ t.site.a = s.site.a ∧ t.site.b = s.site.b :=
  ⟨_, (State.run_of_eq (if_pos rfl) : execMainsPlausibilityCheck true s = _),
    Common.rd_wr_of_lt s.site.com .GSP_STATUS_PLAUS 1 0 (by decide), rfl, rfl⟩

theorem execBitstreamStuck_clears (k : Fin 6) : ∃ t : State, exec (.bitstreamStuck k) s = .next t ∧ t.site.com.rd .GSP_EVENT_STUCK = 1 ∧
    bitOf (t.site.com.rd .GSP_STATUS_ACTIVE) k = false := by
  refine ⟨_, (State.run_of_eq rfl : execBitstreamStuck k s = _), ?_, ?_⟩
  · exact (Common.rd_wr_of_ne _ .GSP_STATUS_ACTIVE .GSP_EVENT_STUCK _ 0 0 (by decide)).trans
      (Common.rd_raise_same s.site.com .GSP_EVENT_STUCK 0 rfl (by decide))
  · exact (congrArg (bitOf · k) (Regs.rd_wr_same _ .GSP_STATUS_ACTIVE _ 0)).trans (bitOf_putBit_false _ k.val _)

/-- The replica of a pavilion in step, its queue of journal entries apart, is what the effect makes of it (R33). -/
theorem Site.rep_onLog_of_inStep (t : Site) {p : Pav} (hstep : (t.pav p).inStep = true) (f : Replica → Replica) :
    ((t.onLog f).pav p).rep = { f { (t.pav p).rep with now := t.now } with jq := [] } :=
  (t.onLog_rep f p).trans (if_pos hstep)

@[simp] theorem Site.inStep_onLog (t : Site) (p : Pav) (f : Replica → Replica) : ((t.onLog f).pav p).inStep = (t.pav p).inStep := by
  have hrole := Site.onLog_role t f p
  have hjoin := Site.onLog_keeps (·.join) (fun _ _ _ => rfl) t f p
  unfold Site.role at hrole
  unfold Pavilion.inStep
  rw [hrole, hjoin]

/-- A fault of the Sundial that journals and stops the site leaves every live outlet open, with a cause for FAULT (R70, R71). -/
theorem Site.opened_faultStop (t : Site) {p : Pav} {o : Nat} (location instNo outcome reaction cause now : Nat) (ho : o < 24)
    (hstep : (t.pav p).inStep = true) (hlive : (t.pav p).rep.stops o) :
    (((t.onLog fun r => r.fault now location instNo outcome reaction cause).controlledStop).pav p).rep.Opened o := by
  unfold Site.controlledStop
  rw [Site.rep_onLog_of_inStep _ ((Site.inStep_onLog t p _).trans hstep), Site.rep_onLog_of_inStep t hstep]
  have hnow : ∀ (q : Replica) (n : Nat), q.SameOutlets { q with now := n } := fun _ _ => ⟨rfl, fun _ _ _ => rfl⟩
  have hqueue : ∀ (q : Replica) (js : List JEntry), q.SameOutlets { q with jq := js } := fun _ _ => ⟨rfl, fun _ _ _ => rfl⟩
  refine (Replica.opened_controlledStop _ _ ho ?_).mono (hqueue _ _).opensOnly
  exact hlive.of_sameOutlets ((hnow _ _).trans
    ((Replica.reported_fault _ _ _ _ _ _ _).sameOutlets.trans ((hqueue _ _).trans (hnow _ _))))

theorem execCrystalFailure_A : ∃ t : State, exec (.crystalFailure .A) s = .next t ∧ t.site.com.xtalBadA = true ∧
    (s.site.com.xtalBadB = false → t.site.com.rd .SDL_STATUS_XTAL = 1) := by
  refine ⟨_, (State.run_of_eq rfl : execCrystalFailure .A s = _), ?_⟩
  show (if s.site.com.xtalBadB then _ else _ : Common).xtalBadA = true ∧ (_ → (if s.site.com.xtalBadB then _ else _ : Common).rd .SDL_STATUS_XTAL = 1)
  cases s.site.com.xtalBadB
  · exact ⟨rfl, fun _ => Common.rd_wr_of_lt _ .SDL_STATUS_XTAL 1 0 (by decide)⟩
  · exact ⟨rfl, nofun⟩

theorem execCrystalFailure_B : ∃ t : State, exec (.crystalFailure .B) s = .next t ∧ t.site.com.xtalBadB = true ∧
    (s.site.com.xtalBadA = false → t.site.com.rd .SDL_STATUS_XTAL = 0) := by
  refine ⟨_, (State.run_of_eq rfl : execCrystalFailure .B s = _), ?_⟩
  show (if s.site.com.xtalBadA then _ else _ : Common).xtalBadB = true ∧ (_ → (if s.site.com.xtalBadA then _ else _ : Common).rd .SDL_STATUS_XTAL = 0)
  cases s.site.com.xtalBadA
  · exact ⟨rfl, fun _ => Common.rd_wr_of_lt _ .SDL_STATUS_XTAL 0 0 (by decide)⟩
  · exact ⟨rfl, nofun⟩

/-- Either fault of the clock itself opens every live outlet (R70, R71). -/
theorem clockFault_opens {p : Pav} {o : Nat} (ho : o < 24) (hstep : (s.site.pav p).inStep = true) (hlive : (s.site.pav p).rep.stops o) :
    (∃ t : State, exec .sundialCopyMismatch s = .next t ∧ (t.site.pav p).rep.isOpen o = true ∧ ((t.site.pav p).rep.out o).faultDue ≠ none) ∧
    (∃ t : State, exec .clockSelectorFault s = .next t ∧ (t.site.pav p).rep.isOpen o = true ∧ ((t.site.pav p).rep.out o).faultDue ≠ none) :=
  ⟨⟨_, (State.run_of_eq rfl : execSundialCopyMismatch s = _), s.site.opened_faultStop _ _ _ _ _ _ ho hstep hlive⟩,
    ⟨_, (State.run_of_eq rfl : execClockSelectorFault s = _), s.site.opened_faultStop _ _ _ _ _ _ ho hstep hlive⟩⟩

end

/-! ### Event slots (R72, R73) -/

section
variable (l : Local) (n : Slot) (ctrl : Word)

/-- The codes of a slot's control word lie in range (R72). -/
def slotCodesOk (w : Nat) : Bool := w % 2 = 1 && w / 16 % 16 < 8 && w / 256 % 16 < 12

/-- The time written for a slot. -/
def Local.slotTime : Nat := l.rd .SDL_STIME_HI_TIME_HI n * 2 ^ 32 + l.rd .SDL_STIME_LO_TIME_LO n

/-- The control word of a slot, written field by field (R72). -/
def Local.slotWritten (w : Nat) : Local :=
  (((((l.wr .SDL_SCTRL_ARM (slotCodesOk w).toNat n).wr .SDL_SCTRL_MODE (w / 2) n).wr .SDL_SCTRL_TARGET (w / 16) n).wr
    .SDL_SCTRL_ENGINE (w / 256) n).wr .SDL_SCTRL_QUEUE (w / 4096) n).wr .SDL_SCTRL_OFFSET (w / 65536) n

theorem Local.slotTime_slotWritten (w : Nat) : (l.slotWritten n w).slotTime n = l.slotTime n := by
  have htime : ∀ f : Field, f = .SDL_STIME_HI_TIME_HI ∨ f = .SDL_STIME_LO_TIME_LO → (l.slotWritten n w).rd f n = l.rd f n := by
    rintro f (rfl | rfl) <;> simp (disch := decide) only [Local.slotWritten, Local.rd, Local.wr, Regs.rd_wr_of_ne]
  unfold Local.slotTime
  rw [htime _ (.inl rfl), htime _ (.inr rfl)]

theorem Local.armSlot_eq : l.armSlot n ctrl = if slotCodesOk ctrl.toNat then
    { l.slotWritten n ctrl.toNat with slots := vput (l.slotWritten n ctrl.toNat).slots n { time := l.slotTime n, held := false } }
    else l.slotWritten n ctrl.toNat := by
  rw [← l.slotTime_slotWritten n ctrl.toNat]
  rfl

theorem Local.rd_armSlot (f : Field) (i : Nat) : (l.armSlot n ctrl).rd f i = (l.slotWritten n ctrl.toNat).rd f i := by
  rw [Local.armSlot_eq]
  split <;> rfl

/-- What an armed control word shows, and the time the slot takes (R72). -/
theorem Local.armSlot_spec : (l.armSlot n ctrl).rd .SDL_SCTRL_TARGET n = ctrl.toNat / 16 % 16 ∧
    (l.armSlot n ctrl).rd .SDL_SCTRL_MODE n = ctrl.toNat / 2 % 4 ∧
    (l.armSlot n ctrl).rd .SDL_SCTRL_ARM n = (slotCodesOk ctrl.toNat).toNat ∧
    (slotCodesOk ctrl.toNat = true → vget (l.armSlot n ctrl).slots n {} = { time := l.slotTime n, held := false }) := by
  have hbit : (slotCodesOk ctrl.toNat).toNat % 2 ^ 1 = (slotCodesOk ctrl.toNat).toNat := by cases slotCodesOk ctrl.toNat <;> rfl
  rw [Local.rd_armSlot, Local.rd_armSlot, Local.rd_armSlot]
  refine ⟨?_, ?_, ?_, fun hok => ?_⟩
  · simp (disch := decide) only [Local.slotWritten, Local.rd, Local.wr, Regs.rd_wr_of_ne, Regs.rd_wr_same]
    rfl
  · simp (disch := decide) only [Local.slotWritten, Local.rd, Local.wr, Regs.rd_wr_of_ne, Regs.rd_wr_same]
    rfl
  · simp (disch := decide) only [Local.slotWritten, Local.rd, Local.wr, Regs.rd_wr_of_ne, Regs.rd_wr_same]
    exact hbit
  · rw [Local.armSlot_eq, if_pos hok]
    exact vget_vput_same _ _ _ _ n.isLt

variable (s : State) (p : Pav)

/-- A slot armed for a time that has come, in ONCE mode, raises EV_LATE (R72). -/
def Local.armLate (now : Nat) : Local :=
  if l.rd .SDL_SCTRL_ARM n = 1 && l.rd .SDL_SCTRL_MODE n = 0 && (vget l.slots n {}).time ≤ now then l.raise .SDL_EVENT_EV_LATE else l

theorem Local.armLate_keeps : (l.armLate n m).slots = l.slots ∧ ∀ f i, f ≠ .SDL_EVENT_EV_LATE → f.isCount = false → (l.armLate n m).rd f i = l.rd f i := by
  unfold Local.armLate
  split
  · exact ⟨rfl, fun f i hf hc => Regs.rd_raise_ne _ _ _ _ _ hf hc⟩
  · exact ⟨rfl, fun _ _ _ _ => rfl⟩

theorem execSdlSlotArm_loc : ∃ t : State, execSdlSlotArm p n ctrl s = .next t ∧
    (t.site.pav p).loc = (((s.site.pav p).loc.armSlot n ctrl).armLate n s.site.now) := by
  refine ⟨_, State.run_of_eq rfl, ?_⟩
  have hloc : ((s.site.modLoc p fun l => l.armSlot n ctrl).pav p).loc = (s.site.pav p).loc.armSlot n ctrl :=
    Site.loc_modLoc_same _ p _
  have hnow : (s.site.modLoc p fun l => l.armSlot n ctrl).now = s.site.now := by unfold Site.now; rw [Site.com_modLoc]
  unfold Local.armLate
  dsimp only
  rw [hloc, hnow]
  split
  · exact (Site.loc_modLoc_same _ p _).trans (congrArg (Local.raise · .SDL_EVENT_EV_LATE) hloc)
  · exact hloc

theorem sdlSlotArm_shows_and_times : ∃ t : State, exec (.sdlSlotArm p n ctrl) s = .next t ∧
    (t.site.pav p).loc.rd .SDL_SCTRL_TARGET n = ctrl.toNat / 16 % 16 ∧ (t.site.pav p).loc.rd .SDL_SCTRL_MODE n = ctrl.toNat / 2 % 4 ∧
    if ctrl.toNat % 2 = 1 ∧ ctrl.toNat / 16 % 16 < 8 ∧ ctrl.toNat / 256 % 16 < 12 then
      (t.site.pav p).loc.rd .SDL_SCTRL_ARM n = 1 ∧ (vget (t.site.pav p).loc.slots n {}).time = (s.site.pav p).loc.slotTime n ∧
        (ctrl.toNat / 2 % 4 = 0 ∧ (s.site.pav p).loc.slotTime n ≤ s.site.now → (t.site.pav p).loc.rd .SDL_EVENT_EV_LATE = 1)
    else (t.site.pav p).loc.rd .SDL_SCTRL_ARM n = 0 := by
  obtain ⟨t, hexec, hloc⟩ := execSdlSlotArm_loc n ctrl s p
  obtain ⟨htarget, hmode, harm, htime⟩ := (s.site.pav p).loc.armSlot_spec n ctrl
  obtain ⟨hslots, hrd⟩ := ((s.site.pav p).loc.armSlot n ctrl).armLate_keeps n (m := s.site.now)
  refine ⟨t, hexec, ?_⟩
  have hok : slotCodesOk ctrl.toNat = true ↔ ctrl.toNat % 2 = 1 ∧ ctrl.toNat / 16 % 16 < 8 ∧ ctrl.toNat / 256 % 16 < 12 := by
    simp [slotCodesOk, and_assoc]
  rw [hloc, hrd _ _ (by decide) rfl, hrd _ _ (by decide) rfl, hrd _ _ (by decide) rfl, hslots, htarget, hmode, harm]
  refine ⟨rfl, rfl, ?_⟩
  split
  · next h =>
    have hcodes := hok.2 h
    rw [hcodes, htime hcodes]
    refine ⟨rfl, rfl, fun ⟨hm, hlate⟩ => ?_⟩
    unfold Local.armLate
    rw [if_pos (by simp [harm, hcodes, hmode, hm, htime hcodes, hlate])]
    exact Regs.rd_raise_same _ .SDL_EVENT_EV_LATE 0 rfl (by decide)
  · next h => rw [Bool.eq_false_iff.2 fun hcodes => h (hok.1 hcodes)]; rfl

/-! ### Firing and delivery (R73) -/

section
variable (l : Local) (n : Slot)

theorem Eng.ofNat_val (e : Eng) : Fin.ofNat 12 e.val = e := Fin.ext (Nat.mod_eq_of_lt e.isLt)
theorem queue_ofNat_val (q : Fin 8) : Fin.ofNat 8 q.val = q := Fin.ext (Nat.mod_eq_of_lt q.isLt)

/-- A firing slot counts, and in ONCE mode disarms; an engine waiting for it is released, nothing else of an engine changes. -/
theorem Local.fired_spec (ticks : Nat) : (l.fired ticks n).rd .SDL_SFIRES_FIRES n = (l.rd .SDL_SFIRES_FIRES n + 1) % 2 ^ 16 ∧
    (l.rd .SDL_SCTRL_MODE n = 0 → (l.fired ticks n).rd .SDL_SCTRL_ARM n = 0) ∧
    ∀ e : Eng, ((l.fired ticks n).eng e).queues = (l.eng e).queues ∧ ((l.fired ticks n).eng e).slotPl = (l.eng e).slotPl ∧
      ((l.fired ticks n).eng e).slotPh = (l.eng e).slotPh := by
  have hmode : (l.wr .SDL_SFIRES_FIRES (l.rd .SDL_SFIRES_FIRES n + 1) n).rd .SDL_SCTRL_MODE n = l.rd .SDL_SCTRL_MODE n :=
    Regs.rd_wr_of_ne l.regs .SDL_SFIRES_FIRES .SDL_SCTRL_MODE _ n n (by decide)
  have hfires : (l.wr .SDL_SFIRES_FIRES (l.rd .SDL_SFIRES_FIRES n + 1) n).rd .SDL_SFIRES_FIRES n = (l.rd .SDL_SFIRES_FIRES n + 1) % 2 ^ 16 :=
    Regs.rd_wr_same l.regs .SDL_SFIRES_FIRES _ n
  refine ⟨?_, fun hm => ?_, fun e => ?_⟩
  · unfold Local.fired
    dsimp only
    rw [hmode]
    split
    · exact (Regs.rd_wr_of_ne _ .SDL_SCTRL_ARM .SDL_SFIRES_FIRES 0 n n (by decide)).trans hfires
    · exact hfires
  · unfold Local.fired
    dsimp only
    rw [hmode, if_pos hm]
    exact Regs.rd_wr_of_lt _ .SDL_SCTRL_ARM 0 n (by decide)
  · have heng : ∃ w : Wait, (l.fired ticks n).eng e = { l.eng e with wait := w } := by
      have hmap : ∀ (v : Vector Engine 12) (f : Engine → Engine), (v.map f).get e = f (v.get e) := fun v f => Vector.getElem_map f e.isLt
      have harm : ∀ (c : Prop) [Decidable c] (k : Local), (if c then k.wr .SDL_SCTRL_ARM 0 n else k).engines = k.engines := fun c _ k => by
        split <;> rfl
      unfold Local.fired Local.eng
      dsimp only
      rw [hmap, harm, Local.wr_engines]
      split
      · split
        · exact ⟨_, rfl⟩
        · exact ⟨(l.engines.get e).wait, rfl⟩
      · exact ⟨(l.engines.get e).wait, rfl⟩
    obtain ⟨w, hw⟩ := heng
    rw [hw]
    exact ⟨rfl, rfl, rfl⟩

variable (s : State) (p : Pav) (e : Eng) (q : Fin 8)

/-- The site once the slot has fired, before its effect. -/
def Site.slotFired (t : Site) (p : Pav) (n : Slot) : Site := t.modLoc p fun l => l.fired t.ticks n

theorem Site.slotFired_spec (t : Site) : ((t.slotFired p n).pav p).loc = (t.pav p).loc.fired t.ticks n ∧
    (t.slotFired p n).eng p e = ((t.pav p).loc.fired t.ticks n).eng e := by
  have hloc : ((t.slotFired p n).pav p).loc = (t.pav p).loc.fired t.ticks n := Site.loc_modLoc_same t p _
  exact ⟨hloc, congrArg (Local.eng · e) hloc⟩

theorem Site.loc_modEng_regs (t : Site) (f : Engine → Engine) : ((t.modEng p e f).pav p).loc.regs = (t.pav p).loc.regs ∧
    ((t.modEng p e f).pav p).loc.slots = (t.pav p).loc.slots := by cases p <;> exact ⟨rfl, rfl⟩

variable {s p e q n}

/-- A slot that is armed and whose time has come goes on to its target. -/
theorem execSlotFire_due (harm : (s.site.pav p).loc.rd .SDL_SCTRL_ARM n = 1) (htime : (vget (s.site.pav p).loc.slots n {}).time ≤ s.site.now) :
    ((s.site.pav p).loc.rd .SDL_SCTRL_ARM n.val = 0 ||
      ((s.site.pav p).loc.rd .SDL_SCTRL_MODE n.val = 0 && s.site.now < (vget (s.site.pav p).loc.slots n.val {}).time) : Bool) = false := by
  rw [harm, decide_eq_false (not_lt.2 htime), Bool.and_false]
  rfl

theorem execSlotFire_message (harm : (s.site.pav p).loc.rd .SDL_SCTRL_ARM n = 1)
    (htime : (vget (s.site.pav p).loc.slots n {}).time ≤ s.site.now) (heng : (s.site.pav p).loc.rd .SDL_SCTRL_ENGINE n = e.val)
    (hqueue : (s.site.pav p).loc.rd .SDL_SCTRL_QUEUE n = q.val) (htarget : (s.site.pav p).loc.rd .SDL_SCTRL_TARGET n = 3)
    (hroom : s.site.queueFull p e q = false) :
    execSlotFire p n s = .next { s with site := (s.site.slotFired p n).modEng p e fun en => en.push q (slotMsg n) } := by
  have hfull : (s.site.slotFired p n).queueFull p e q = false := by
    unfold Site.queueFull at hroom ⊢
    rw [(s.site.slotFired_spec n p e).2, (((s.site.pav p).loc.fired_spec n s.site.ticks).2.2 e).1]
    exact hroom
  refine State.run_of_eq ((if_neg (Bool.eq_false_iff.1 (execSlotFire_due harm htime))).trans ?_)
  rw [heng, hqueue, Eng.ofNat_val, queue_ofNat_val, htarget]
  refine (if_pos rfl).trans ((if_neg ?_).trans rfl)
  exact Bool.eq_false_iff.1 hfull

theorem execSlotFire_interrupt (harm : (s.site.pav p).loc.rd .SDL_SCTRL_ARM n = 1)
    (htime : (vget (s.site.pav p).loc.slots n {}).time ≤ s.site.now) (heng : (s.site.pav p).loc.rd .SDL_SCTRL_ENGINE n = e.val)
    (htarget : (s.site.pav p).loc.rd .SDL_SCTRL_TARGET n = 4) (hlow : n.val < 32) : execSlotFire p n s = .next { s with
      site := (s.site.slotFired p n).modEng p e fun en => { en with slotPl := en.slotPl ||| (1#32 <<< n.val) } } := by
  refine State.run_of_eq ((if_neg (Bool.eq_false_iff.1 (execSlotFire_due harm htime))).trans ?_)
  rw [heng, Eng.ofNat_val, htarget]
  refine (if_neg (by decide)).trans ((if_pos rfl).trans (Site.modEng_congr (if_pos hlow)))

theorem execSlotMessageDeliver_held (heng : (s.site.pav p).loc.rd .SDL_SCTRL_ENGINE n = e.val)
    (hqueue : (s.site.pav p).loc.rd .SDL_SCTRL_QUEUE n = q.val) (hheld : (vget (s.site.pav p).loc.slots n {}).held = true)
    (hroom : s.site.queueFull p e q = false) : execSlotMessageDeliver p n s = .next { s with
      site := (s.site.modLoc p fun l => { l with slots := vput l.slots n.val { vget l.slots n.val {} with held := false } }).modEng p e
        fun en => en.push q (slotMsg n) } := by
  refine State.run_of_eq ?_
  dsimp only
  rw [heng, hqueue, Eng.ofNat_val, queue_ofNat_val, hheld, hroom]
  rfl

/-- What a pushed message leaves in its queue. -/
theorem Engine.queue_push (en : Engine) (m : Msg) : (en.push q m).queues.get q = en.queues.get q ++ [m] := Vector.getElem_set_self _

theorem slotFire_enqueues (harm : (s.site.pav p).loc.rd .SDL_SCTRL_ARM n = 1)
    (htime : (vget (s.site.pav p).loc.slots n {}).time ≤ s.site.now) (heng : (s.site.pav p).loc.rd .SDL_SCTRL_ENGINE n = e.val)
    (hqueue : (s.site.pav p).loc.rd .SDL_SCTRL_QUEUE n = q.val) (htarget : (s.site.pav p).loc.rd .SDL_SCTRL_TARGET n = 3)
    (hroom : s.site.queueFull p e q = false) : ∃ t : State, exec (.slotFire p n) s = .next t ∧
      (t.site.eng p e).queues.get q = (s.site.eng p e).queues.get q ++ [slotMsg n] ∧
      (t.site.pav p).loc.rd .SDL_SFIRES_FIRES n = ((s.site.pav p).loc.rd .SDL_SFIRES_FIRES n + 1) % 2 ^ 16 ∧
      ((s.site.pav p).loc.rd .SDL_SCTRL_MODE n = 0 → (t.site.pav p).loc.rd .SDL_SCTRL_ARM n = 0) := by
  obtain ⟨hfires, honce, hkeeps⟩ := (s.site.pav p).loc.fired_spec n s.site.ticks
  obtain ⟨hloc, heng'⟩ := s.site.slotFired_spec n p e
  have hregs := ((s.site.slotFired p n).loc_modEng_regs p e fun en => en.push q (slotMsg n)).1
  rw [hloc] at hregs
  refine ⟨_, execSlotFire_message harm htime heng hqueue htarget hroom, ?_⟩
  dsimp only
  rw [Site.eng_modEng_same, Engine.queue_push, heng', (hkeeps e).1]
  unfold Local.rd at hfires honce ⊢
  rw [hregs]
  exact ⟨rfl, hfires, honce⟩

theorem slotFire_sets_pending (harm : (s.site.pav p).loc.rd .SDL_SCTRL_ARM n = 1)
    (htime : (vget (s.site.pav p).loc.slots n {}).time ≤ s.site.now) (heng : (s.site.pav p).loc.rd .SDL_SCTRL_ENGINE n = e.val)
    (htarget : (s.site.pav p).loc.rd .SDL_SCTRL_TARGET n = 4) (hlow : n.val < 32) : ∃ t : State, exec (.slotFire p n) s = .next t ∧
      (t.site.eng p e).slotPl.getLsbD n = true ∧ (t.site.eng p e).slotPh = (s.site.eng p e).slotPh := by
  obtain ⟨_, _, hkeeps⟩ := (s.site.pav p).loc.fired_spec n s.site.ticks
  obtain ⟨_, heng'⟩ := s.site.slotFired_spec n p e
  refine ⟨_, execSlotFire_interrupt harm htime heng htarget hlow, ?_⟩
  dsimp only
  rw [Site.eng_modEng_same, heng']
  exact ⟨by simp [hlow], (hkeeps e).2.2⟩

theorem slotMessageDeliver_enqueues (heng : (s.site.pav p).loc.rd .SDL_SCTRL_ENGINE n = e.val)
    (hqueue : (s.site.pav p).loc.rd .SDL_SCTRL_QUEUE n = q.val) (hheld : (vget (s.site.pav p).loc.slots n {}).held = true)
    (hroom : s.site.queueFull p e q = false) : ∃ t : State, exec (.slotMessageDeliver p n) s = .next t ∧
      (t.site.eng p e).queues.get q = (s.site.eng p e).queues.get q ++ [slotMsg n] ∧ (vget (t.site.pav p).loc.slots n {}).held = false := by
  refine ⟨_, execSlotMessageDeliver_held heng hqueue hheld hroom, ?_⟩
  have hslots := ((s.site.modLoc p fun l => { l with slots := vput l.slots n.val { vget l.slots n.val {} with held := false } }).loc_modEng_regs
    p e fun en => en.push q (slotMsg n)).2
  rw [Site.loc_modLoc_same] at hslots
  have heng' : (s.site.modLoc p fun l => { l with slots := vput l.slots n.val { vget l.slots n.val {} with held := false } }).eng p e =
      s.site.eng p e := Site.eng_modLoc_of_engines fun _ => rfl
  dsimp only
  rw [Site.eng_modEng_same, Engine.queue_push, heng', hslots]
  exact ⟨rfl, by rw [vget_vput_same _ _ _ _ n.isLt]⟩

end
end

/-- Settles O32: one lemma per clause above, the crossings through the tracking rule, the losses through free-run and its publication,
the clock's faults through the controlled stop. -/
theorem sundialResults : Obligations.SundialResults := by
  intro p s c l l'
  refine ⟨fun ago last hlast hvalid hlock hfree hslew hcand => zeroCrossing_tracks_or_holds s hlast hvalid hlock hfree hslew hcand,
    fun hlock hfree => gridLoss_enters_freeRun s p hlock hfree, execMainsPlausibilityCheck_passes s, execBitstreamStuck_clears s,
    fun o ho hstep hlive => clockFault_opens s ho hstep hlive, execCrystalFailure_A s, execCrystalFailure_B s,
    fun n ctrl => sdlSlotArm_shows_and_times n ctrl s p, fun n e q heng hqueue => ⟨fun harm htime =>
      ⟨fun htarget hroom => slotFire_enqueues harm htime heng hqueue htarget hroom,
        fun htarget hlow => slotFire_sets_pending harm htime heng htarget hlow⟩,
      fun hheld hroom => slotMessageDeliver_enqueues heng hqueue hheld hroom⟩⟩

end Sys2Proof.Machine
end

section
/-! PROOFS. Legal writes, test outputs, and the safety inputs with their tests (R343 to R393). -/
namespace Sys2Proof.Machine

/-! ### A pass over the outlets, seen from one of them -/

/-- In a fold over different elements, what the step of one of them brings about and the other steps preserve holds at the end. -/
theorem foldl_once {α β : Type} {P Q : β → Prop} {f : β → α → β} {a : α} (hown : ∀ b, P b → Q (f b a))
    (hP : ∀ b x, x ≠ a → P b → P (f b x)) (hQ : ∀ b x, x ≠ a → Q b → Q (f b x)) :
    ∀ (l : List α) (b : β), l.Nodup → a ∈ l → P b → Q (l.foldl f b) := by
  have hstay : ∀ (l : List α) (b : β), a ∉ l → Q b → Q (l.foldl f b) := fun l => by
    induction l with
    | nil => exact fun _ _ h => h
    | cons x l ih => exact fun b hmem h => ih _ (List.not_mem_of_not_mem_cons hmem) (hQ b x (List.ne_of_not_mem_cons hmem).symm h)
  intro l
  induction l with
  | nil => exact fun _ _ hmem => nomatch hmem
  | cons x l ih =>
    intro b hnodup hmem h
    obtain ⟨hx, hrest⟩ := List.nodup_cons.1 hnodup
    rcases List.mem_cons.1 hmem with rfl | hmem
    · exact hstay l _ hx (hown b h)
    · exact ih _ hrest hmem (hP b x (fun hxa => hx (hxa ▸ hmem)) h)

/-- What an outlet's own step brings about and the others' steps preserve holds after a pass over the outlets. -/
theorem Replica.eachOut_once {P Q : Replica → Prop} {f : Nat → Replica → Replica} {o : Nat} (ho : o < 24) (hown : ∀ r, P r → Q (f o r))
    (hP : ∀ k r, k ≠ o → P r → P (f k r)) (hQ : ∀ k r, k ≠ o → Q r → Q (f k r)) (r : Replica) (h : P r) : Q (r.eachOut f) :=
  foldl_once (f := fun r k => f k r) hown (fun r k => hP k r) (fun r k => hQ k r) _ r List.nodup_range (List.mem_range.2 ho) h

/-! ### Saves and legal writes (R343, R350) -/

/-- A meter after its save: the next number, the other bank. -/
def Meter.saved (m : Meter) : Meter := { m with saveNo := m.saveNo + 1, saveBank := 1 - m.saveBank }

section
variable (r : Replica) (v : Env)

theorem Replica.meter_saveOutlet_same (forVeh : Bool) {o : Nat} (ho : o < 24) : (r.saveOutlet v o forVeh).meter o = (r.meter o).saved :=
  vget_vput_same _ _ _ _ ho

theorem Replica.meter_saveOutlet_ne (forVeh : Bool) {o k : Nat} (hk : k ≠ o) : (r.saveOutlet v k forVeh).meter o = r.meter o :=
  vget_vput_ne _ _ _ _ _ hk.symm

theorem Replica.writes_saveOutlet (o : Nat) (forVeh : Bool) :
    (r.saveOutlet v o forVeh).legal.writes.length = r.legal.writes.length + 1 := List.length_append

/-- A save of every outlet: the next save number in the other bank, one legal write each. -/
theorem Replica.saveAll_spec {o : Nat} (ho : o < 24) : ((r.eachOut fun o r => r.saveOutlet v o false).meter o).saveNo = (r.meter o).saveNo + 1 ∧
    ((r.eachOut fun o r => r.saveOutlet v o false).meter o).saveBank = 1 - (r.meter o).saveBank ∧
    (r.eachOut fun o r => r.saveOutlet v o false).legal.writes.length = r.legal.writes.length + 24 := by
  have hmeter : (r.eachOut fun o r => r.saveOutlet v o false).meter o = (r.meter o).saved := by
    refine Replica.eachOut_once (P := fun q => q.meter o = r.meter o) (Q := fun q => q.meter o = (r.meter o).saved) ho (fun q h => ?_) (fun k q hk h => ?_) (fun k q hk h => ?_) r rfl
    · rw [← h]
      exact q.meter_saveOutlet_same v false ho
    · exact (q.meter_saveOutlet_ne v false hk).trans h
    · exact (q.meter_saveOutlet_ne v false hk).trans h
  have hlen : ∀ (l : List Nat) (q : Replica), (l.foldl (fun q o => q.saveOutlet v o false) q).legal.writes.length = q.legal.writes.length + l.length :=
    fun l => by
      induction l with
      | nil => exact fun _ => rfl
      | cons k l ih =>
        intro q
        rw [List.foldl_cons, ih, Replica.writes_saveOutlet, List.length_cons]
        omega
  rw [hmeter]
  exact ⟨rfl, rfl, hlen (List.range 24) r⟩

@[simp] theorem Replica.legal_meterReady (o : Nat) : (r.meterReady o).legal = r.legal := by
  unfold Replica.meterReady
  dsimp only
  rw [Replica.wr_legal, Replica.wr_legal]

@[simp] theorem Replica.legal_writeVeh (o : Nat) (x : Nat × Nat × Nat × Nat) : (r.writeVeh o x).legal = r.legal := rfl

/-- The write at the front, taken by both copies in service, leaves the queue (R350). -/
theorem Replica.writes_legalDone {w : LegalWrite} {l : List LegalWrite} (hwrites : r.legal.writes = w :: l)
    (ha : r.rd .MET_STATUS_COPY_A = 1) (hb : r.rd .MET_STATUS_COPY_B = 1) : (r.legalDone v true true).legal.writes = l := by
  have hready : ∀ q : Replica, (q.eachOut fun o q => q.meterReady o).legal = q.legal := Replica.eachOut_keeps (·.legal) fun o q => q.legal_meterReady o
  have ha' : (r.withLegal fun x => { x with writes := l }).rd .MET_STATUS_COPY_A = 1 := ha
  have hb' : (r.withLegal fun x => { x with writes := l }).rd .MET_STATUS_COPY_B = 1 := hb
  unfold Replica.legalDone
  rw [hwrites]
  dsimp only
  rw [hready, ha', hb']
  simp only [Bool.not_true, Bool.and_false, Bool.false_eq_true, if_false, ha']
  split
  · rfl
  · split <;> rfl

/-! ### Test outputs (R351) -/

/-- A legal event writes the event number only. -/
theorem Replica.rd_legalEvent (code outlet tx : Nat) (detail : List Byte) (f : Field) (i : Nat) (h : f ≠ .MET_EVNO_NEXT) :
    (r.legalEvent v code outlet tx detail).rd f i = r.rd f i :=
  (show (r.legalEvent v code outlet tx detail).rd f i = (r.regs.wr .MET_EVNO_NEXT _ 0).rd f i from rfl).trans
    (Regs.rd_wr_of_ne r.regs .MET_EVNO_NEXT f _ 0 i h)

theorem Replica.mtpWrite_spec {n w : Nat} (hw : w < 2 ^ 32) : (r.mtpWrite v n w).rd .MET_MTP_OUTLET n = w % 32 ∧
    (r.mtpWrite v n w).rd .MET_MTP_EN n = w / 64 % 2 ∧ (r.mtpWrite v n w).rd .MET_MTP_K n = w / 65536 := by
  have hk : w / 65536 % 2 ^ 16 = w / 65536 := by omega
  have hevent : ∀ (f : Field), f ≠ .MET_EVNO_NEXT → (r.mtpWrite v n w).rd f n =
      ((((r.wr .MET_MTP_OUTLET w n).wr .MET_MTP_REG (w / 32) n).wr .MET_MTP_EN (w / 64) n).wr .MET_MTP_K (w / 65536) n).rd f n := fun f hf => by
    unfold Replica.mtpWrite
    dsimp only
    split
    · exact Replica.rd_legalEvent _ v _ _ _ _ f n hf
    · rfl
  rw [hevent _ (by decide), hevent _ (by decide), hevent _ (by decide)]
  refine ⟨?_, ?_, ?_⟩ <;> simp (disch := decide) only [Replica.rd, Replica.wr, Regs.rd_wr_of_ne, Regs.rd_wr_same]
  · rfl
  · rfl
  · exact hk

/-- A pulse of a test output takes 1 from its backlog (R351). -/
def Replica.pulsed (r : Replica) (n : Fin 4) : Replica :=
  let b := r.rd .MET_MTPB_BACKLOG n
  if r.rd .MET_MTP_EN n = 1 && 0 < b then (r.wr .MET_MTPB_BACKLOG (b - 1) n).send (.mtpPulse n.val) else r

theorem Replica.pulsed_spec {n : Fin 4} (hen : r.rd .MET_MTP_EN n = 1) (hback : 0 < r.rd .MET_MTPB_BACKLOG n) :
    (r.pulsed n).rd .MET_MTPB_BACKLOG n + 1 = r.rd .MET_MTPB_BACKLOG n ∧ (r.pulsed n).tx = r.tx ++ [.mtpPulse n] := by
  have hlt : r.rd .MET_MTPB_BACKLOG n < 2 ^ 16 := Regs.rd_lt r.regs .MET_MTPB_BACKLOG n
  have hless : (r.wr .MET_MTPB_BACKLOG (r.rd .MET_MTPB_BACKLOG n - 1) n).rd .MET_MTPB_BACKLOG n = r.rd .MET_MTPB_BACKLOG n - 1 :=
    Regs.rd_wr_of_lt r.regs .MET_MTPB_BACKLOG _ n (lt_of_le_of_lt (Nat.sub_le _ 1) hlt)
  have hsend : ∀ q : Replica, (q.send (.mtpPulse n.val)).rd .MET_MTPB_BACKLOG n = q.rd .MET_MTPB_BACKLOG n := fun _ => rfl
  unfold Replica.pulsed
  dsimp only
  rw [hen, decide_eq_true hback]
  simp only [decide_true, Bool.and_true, if_true]
  rw [hsend, hless]
  exact ⟨Nat.sub_add_cancel hback, rfl⟩

/-! ### Checks of a safety channel (R367, R368) -/

theorem Replica.so_setSo_same {o : Nat} (ho : o < 24) (x : SafetyOutlet) : (r.setSo o x).so o = x := vget_vput_same _ _ _ _ ho

theorem Replica.so_setSo_ne {o k : Nat} (hk : k ≠ o) (x : SafetyOutlet) : (r.setSo k x).so o = r.so o := vget_vput_ne _ _ _ _ _ hk.symm

/-- An outlet's channel is a matter of its safety set alone. -/
theorem Replica.channelOf_congr {r r' : Replica} {o : Nat} (hold : (r'.so o).oldSet = (r.so o).oldSet)
    (hforce : r'.safety.inForce = r.safety.inForce) (hbefore : r'.safety.before = r.safety.before) : r'.channelOf o = r.channelOf o := by
  unfold Replica.channelOf Replica.inService Replica.safOut Replica.safHO Replica.safSet
  rw [hold, hforce, hbefore]

theorem Replica.channelOf_reported {r r' : Replica} (h : r.Reported r') (o : Nat) : r'.channelOf o = r.channelOf o := by
  obtain ⟨_, _, _, _, rfl, _⟩ := h
  rfl

theorem Replica.channelOf_setSo (o k : Nat) (b : Bool) : (r.setSo k { r.so k with checkOk := b }).channelOf o = r.channelOf o := by
  by_cases hk : k = o
  · subst hk
    by_cases hlt : k < 24
    · exact Replica.channelOf_congr (by rw [r.so_setSo_same hlt]) rfl rfl
    · refine Replica.channelOf_congr ?_ rfl rfl
      unfold Replica.so vget
      rw [dif_neg hlt, dif_neg hlt]
  · exact Replica.channelOf_congr (by rw [r.so_setSo_ne hk]) rfl rfl

/-- A check's outcome for an outlet of the channel. -/
theorem Replica.checkOk_channelCheck {o c : Nat} (ho : o < 24) (hchan : r.channelOf o = some c) (pass : Bool) :
    ((r.channelCheck c pass).so o).checkOk = pass ∧
    (pass = false → (r.channelCheck c pass).safety.checkFail = c :: r.safety.checkFail) := by
  have hcheck : ((r.eachOut fun o r => if r.channelOf o = some c then r.setSo o { r.so o with checkOk := pass } else r).so o).checkOk = pass := by
    refine Replica.eachOut_once (P := fun q => q.channelOf o = some c) (Q := fun q => (q.so o).checkOk = pass) ho (fun q h => ?_)
      (fun k q hk h => ?_) (fun k q hk h => ?_) r hchan
    · rw [if_pos h, q.so_setSo_same ho]
    · split
      · exact (q.channelOf_setSo o k pass).trans h
      · exact h
    · split
      · rw [q.so_setSo_ne hk]
        exact h
      · exact h
  have hfail : (r.eachOut fun o r => if r.channelOf o = some c then r.setSo o { r.so o with checkOk := pass } else r).safety.checkFail =
      r.safety.checkFail := Replica.eachOut_keeps (·.safety.checkFail) (fun k q => by split <;> rfl) r
  unfold Replica.channelCheck
  dsimp only
  cases pass
  · exact ⟨hcheck, fun _ => congrArg (c :: ·) hfail⟩
  · exact ⟨hcheck, nofun⟩

theorem Replica.isSafetyChannel_of_channelOf {o c : Nat} (ho : o < 24) (hchan : r.channelOf o = some c) : r.isSafetyChannel c = true :=
  List.any_eq_true.2 ⟨o, List.mem_range.2 ho, by simp [hchan]⟩

end
/-- Both copies of the legal MRAM after a write (R350). -/
def Common.legalWritten (c : Common) (w : LegalWrite) : Common :=
  { c with legalA := c.legalA.wrBytes w.addr w.data, legalB := c.legalB.wrBytes w.addr w.data }

/-! ### The clauses at a log position -/

section
variable (s : State) (p : Pav)

/-- A replica at a log position: its Sundial time is the position's. -/
def Replica.clock (r : Replica) (now : Nat) : Replica := { r with now := now }
/-- A replica whose journal entries have been written. -/
def Replica.flushed (r : Replica) : Replica := { r with jq := [] }

section
variable (r : Replica) (now : Nat) (f : Field) (i : Nat)

@[simp] theorem Replica.rd_flushed : r.flushed.rd f i = r.rd f i := rfl
@[simp] theorem Replica.legal_flushed : r.flushed.legal = r.legal := rfl
@[simp] theorem Replica.meter_flushed : r.flushed.meter i = r.meter i := rfl
@[simp] theorem Replica.safety_flushed : r.flushed.safety = r.safety := rfl
@[simp] theorem Replica.so_flushed : r.flushed.so i = r.so i := rfl

end

theorem Site.rep_onLog (t : Site) {p : Pav} (hstep : (t.pav p).inStep = true) (f : Replica → Replica) :
    ((t.onLog f).pav p).rep = (f ((t.pav p).rep.clock t.now)).flushed := t.rep_onLog_of_inStep hstep f

/-- The check of a channel whose gate is as the check asks, and its fault entry (R367, R368). -/
def Replica.checked (r : Replica) (now c : Nat) (gate pass : Bool) : Replica :=
  if r.isSafetyChannel c && gate then (if pass then r else r.fault now locLoadSwitch c detected reBankOff 6).channelCheck c pass else r

theorem Replica.checked_spec (r : Replica) (now : Nat) {o c : Nat} (pass : Bool) (ho : o < 24) (hchan : r.channelOf o = some c) :
    ((r.checked now c true pass).so o).checkOk = pass ∧
      (pass = false → (r.checked now c true pass).safety.checkFail = c :: r.safety.checkFail) := by
  unfold Replica.checked
  rw [r.isSafetyChannel_of_channelOf ho hchan, Bool.and_true, if_pos rfl]
  cases pass
  · have hrep := r.reported_fault now locLoadSwitch c detected reBankOff 6
    have hfailed : (r.fault now locLoadSwitch c detected reBankOff 6).safety = r.safety := by
      obtain ⟨_, _, _, _, heq, _⟩ := hrep
      rw [heq]
    obtain ⟨hcheck, hfail⟩ := Replica.checkOk_channelCheck _ ho ((Replica.channelOf_reported hrep o).trans hchan) false
    rw [hfailed] at hfail
    exact ⟨hcheck, hfail⟩
  · exact r.checkOk_channelCheck ho hchan true

/-- What a logged effect leaves in the replica of a pavilion in step, but for the queue of its journal (R33). -/
theorem State.onLog_rep {f : Site → Replica → Replica} (hstep : (s.site.pav p).inStep = true) : ∃ t : State, s.onLog f = .next t ∧
    (t.site.pav p).rep = (f s.site ((s.site.pav p).rep.clock s.site.now)).flushed :=
  ⟨_, rfl, Site.rep_onLog_of_inStep s.site hstep _⟩

variable {s p} (hstep : (s.site.pav p).inStep = true)
include hstep

theorem metrologySave_saves_all {o : Nat} (ho : o < 24) (hdue : s.site.now / 2 ^ 31 % (s.site.pav p).rep.rd .MET_CTRL_SAVE_INT = 0) :
    ∃ t : State, exec .metrologySave s = .next t ∧ ((t.site.pav p).rep.meter o).saveNo = ((s.site.pav p).rep.meter o).saveNo + 1 ∧
      ((t.site.pav p).rep.meter o).saveBank = 1 - ((s.site.pav p).rep.meter o).saveBank ∧
      (t.site.pav p).rep.legal.writes.length = (s.site.pav p).rep.legal.writes.length + 24 := by
  obtain ⟨t, hexec, hrep⟩ := s.onLog_rep p (f := fun t r =>
    if t.now / 2 ^ 31 % r.rd .MET_CTRL_SAVE_INT = 0 then r.eachOut fun o r => r.saveOutlet t.env o false else r) hstep
  refine ⟨t, hexec, ?_⟩
  rw [hrep.trans (congrArg Replica.flushed (if_pos hdue))]
  simp only [Replica.meter_flushed, Replica.legal_flushed]
  exact Replica.saveAll_spec ((s.site.pav p).rep.clock s.site.now) s.site.env ho

theorem metMtpWrite_shows (n : Fin 4) (v : Word) : ∃ t : State, exec (.metMtpWrite n v) s = .next t ∧
    (t.site.pav p).rep.rd .MET_MTP_OUTLET n = v.toNat % 32 ∧ (t.site.pav p).rep.rd .MET_MTP_EN n = v.toNat / 64 % 2 ∧
    (t.site.pav p).rep.rd .MET_MTP_K n = v.toNat / 65536 := by
  obtain ⟨t, hexec, hrep⟩ := s.onLog_rep p (f := fun t r => r.mtpWrite t.env n v.toNat) hstep
  refine ⟨t, hexec, ?_⟩
  rw [hrep]
  simp only [Replica.rd_flushed]
  exact Replica.mtpWrite_spec ((s.site.pav p).rep.clock s.site.now) s.site.env v.isLt

theorem mtpPulse_takes_one (n : Fin 4) (hen : (s.site.pav p).rep.rd .MET_MTP_EN n = 1) (hback : 0 < (s.site.pav p).rep.rd .MET_MTPB_BACKLOG n) :
    ∃ t : State, exec (.mtpPulse n) s = .next t ∧
      (t.site.pav p).rep.rd .MET_MTPB_BACKLOG n + 1 = (s.site.pav p).rep.rd .MET_MTPB_BACKLOG n ∧
      (t.site.pav p).rep.tx = (s.site.pav p).rep.tx ++ [.mtpPulse n] := by
  obtain ⟨t, hexec, hrep⟩ := s.onLog_rep p (f := fun _ r => r.pulsed n) hstep
  refine ⟨t, hexec, ?_⟩
  rw [hrep, Replica.rd_flushed]
  obtain ⟨hless, htx⟩ := Replica.pulsed_spec ((s.site.pav p).rep.clock s.site.now) hen hback
  exact ⟨hless, htx⟩

theorem checked_rep {o c : Nat} (ho : o < 24) (hchan : (s.site.pav p).rep.channelOf o = some c) (pass : Bool) {gate : Bool} (hgate : gate = true) :
    (((s.site.onLog fun r => r.checked s.site.now c gate pass).pav p).rep.so o).checkOk = pass ∧
    (pass = false → ((s.site.onLog fun r => r.checked s.site.now c gate pass).pav p).rep.safety.checkFail =
      c :: (s.site.pav p).rep.safety.checkFail) := by
  rw [Site.rep_onLog _ hstep, Replica.so_flushed, Replica.safety_flushed, hgate]
  exact Replica.checked_spec _ _ pass ho hchan

theorem channelChecks_note_outcome {o : Nat} (k : Chan) (ho : o < 24) (hchan : (s.site.pav p).rep.channelOf o = some k.val) :
    (bitOf (s.site.com.rd .SIO_GATE_GATE) k = true →
      (∃ t : State, exec (.offPulseCheck k true) s = .next t ∧ ((t.site.pav p).rep.so o).checkOk = true) ∧
      ∃ t : State, exec (.offPulseCheck k false) s = .next t ∧ ((t.site.pav p).rep.so o).checkOk = false ∧
        (t.site.pav p).rep.safety.checkFail = k.val :: (s.site.pav p).rep.safety.checkFail) ∧
    (bitOf (s.site.com.rd .SIO_GATE_GATE) k = false →
      ∃ t : State, exec (.offChannelCheck k true) s = .next t ∧ ((t.site.pav p).rep.so o).checkOk = true) := by
  refine ⟨fun hgate => ⟨⟨_, rfl, (checked_rep hstep ho hchan true hgate).1⟩, ⟨_, rfl, ?_⟩⟩, fun hgate => ⟨_, rfl, ?_⟩⟩
  · obtain ⟨hcheck, hfail⟩ := checked_rep hstep ho hchan false hgate
    exact ⟨hcheck, hfail rfl⟩
  · have hopen : (!bitOf (s.site.com.rd .SIO_GATE_GATE) k) = true := by rw [hgate]; rfl
    exact (checked_rep hstep ho hchan true hopen).1

omit hstep in
theorem legalMramWrite_takes_front {w : LegalWrite} {l : List LegalWrite} (hlead : s.site.leader = some p) (hpriv : s.site.privOpen = true)
    (hstep : (s.site.pav p).inStep = true) (hwrites : (s.site.pav p).rep.legal.writes = w :: l)
    (ha : (s.site.pav p).rep.rd .MET_STATUS_COPY_A = 1) (hb : (s.site.pav p).rep.rd .MET_STATUS_COPY_B = 1) :
    ∃ t : State, exec (.legalMramWrite true true) s = .next t ∧ t.site.com.legalA = s.site.com.legalA.wrBytes w.addr w.data ∧
      t.site.com.legalB = s.site.com.legalB.wrBytes w.addr w.data ∧ (t.site.pav p).rep.legal.writes = l := by
  have hexec : execLegalMramWrite true true s = .next { s with
      site := (s.site.modCom fun c => c.legalWritten w).onLog fun r => r.legalDone (s.site.modCom fun c => c.legalWritten w).env true true } := by
    refine State.run_of_eq ?_
    dsimp only
    rw [hlead]
    dsimp only
    rw [hwrites]
    dsimp only
    rw [hpriv, ha, hb]
    rfl
  refine ⟨_, hexec, rfl, rfl, ?_⟩
  dsimp only
  rw [Site.rep_onLog _ (by rw [Site.pav_modCom]; exact hstep), Replica.legal_flushed, Site.pav_modCom]
  exact Replica.writes_legalDone _ _ hwrites ha hb

end

end Sys2Proof.Machine
end

section
/-! PROOFS. Safety inputs, their test pulses and SAFE_RESET (R361 to R363, R393). -/
namespace Sys2Proof.Machine

section
variable (c : Common)

/-! ### Input faults and the judgement of a test pulse -/

/-- What a fault of a safety input shows. -/
theorem Common.inputFault_spec {i : Nat} (hi : i < 16) (code : Nat) {ev : Field} (hcount : ev.isCount = false) (hwidth : 0 < ev.info.width)
    (hne : ev ≠ .SIO_IN_FAULT) : bitOf ((c.inputFault i code ev).rd .SIO_IN_FAULT) i = true ∧ (c.inputFault i code ev).rd ev = 1 ∧
      vget (c.inputFault i code ev).sio.code i 0 = code := by
  refine ⟨?_, Common.rd_raise_same (c.wr .SIO_IN_FAULT _) ev 0 hcount hwidth, vget_vput_same _ _ _ _ hi⟩
  refine (congrArg (bitOf · i) (Common.rd_raise_ne (c.wr .SIO_IN_FAULT _) ev .SIO_IN_FAULT 0 0 hne.symm rfl)).trans ?_
  exact (congrArg (bitOf · i) (Regs.rd_wr_same c.regs .SIO_IN_FAULT _ 0)).trans (bitOf_putBit_true _ hi)

theorem Common.rd_inputFault (i code : Nat) (ev f : Field) (hev : f ≠ ev) (hfault : f ≠ .SIO_IN_FAULT) (hcount : f.isCount = false) :
    (c.inputFault i code ev).rd f = c.rd f :=
  (Common.rd_raise_ne (c.wr .SIO_IN_FAULT _) ev f 0 0 hev hcount).trans (Common.rd_wr_of_ne c .SIO_IN_FAULT f _ 0 0 hfault)

/-- An input is faulted for its own window. -/
def Common.pulseFault (i : Nat) : Prop := bitOf (c.rd .SIO_IN_FAULT) i = true ∧ c.rd .SIO_EVENT_SI_PULSE = 1

variable {c}

/-- A further fault of an input leaves the faults there are. -/
theorem Common.pulseFault.inputFault {i : Nat} (h : c.pulseFault i) (hi : i < 16) (j code : Nat) (ev : Field)
    (hev : ev = .SIO_EVENT_SI_PULSE ∨ ev = .SIO_EVENT_SI_CROSS) : (c.inputFault j code ev).pulseFault i := by
  obtain ⟨hbit, hpulse⟩ := h
  refine ⟨?_, ?_⟩
  · have hne : Field.SIO_IN_FAULT ≠ ev := by rcases hev with rfl | rfl <;> decide
    refine (congrArg (bitOf · i) (Common.rd_raise_ne (c.wr .SIO_IN_FAULT _) ev .SIO_IN_FAULT 0 0 hne rfl)).trans ?_
    exact (congrArg (bitOf · i) (Regs.rd_wr_same c.regs .SIO_IN_FAULT _ 0)).trans (bitOf_putBit_true_of_bitOf hbit hi)
  · rcases hev with rfl | rfl
    · exact Common.rd_raise_same (c.wr .SIO_IN_FAULT _) .SIO_EVENT_SI_PULSE 0 rfl (by decide)
    · exact (Common.rd_inputFault c j code .SIO_EVENT_SI_CROSS .SIO_EVENT_SI_PULSE (by decide) (by decide) rfl).trans hpulse

theorem Common.pulseFault.withSio {i : Nat} (h : c.pulseFault i) (x : SioState) : ({ c with sio := x } : Common).pulseFault i := h

theorem Common.pulseFault.judgeInput {i : Nat} (h : c.pulseFault i) (hi : i < 16) (k j : Nat) (stayed fell : Bool) :
    (c.judgeInput k j stayed fell).pulseFault i := by
  unfold Common.judgeInput
  dsimp only
  generalize (if stayed then vget c.sio.stayRun j 0 + 1 else 0) = n
  generalize (if fell then vget c.sio.fellRun j 0 + 1 else 0) = m
  split
  · split
    · exact (h.withSio _).inputFault hi _ _ _ (.inl rfl)
    · exact h.withSio _
  · split
    · exact (h.withSio _).inputFault hi _ _ _ (.inr rfl)
    · exact h.withSio _

/-- An input that has stayed high in its own window once. -/
def Common.stayedOnce (c : Common) (k i : Nat) : Prop := c.tpOf i = k ∧ vget c.sio.stayRun i 0 = 1

/-- A second stay in its own window faults it. -/
theorem Common.stayedOnce.pulseFault {k i : Nat} (h : c.stayedOnce k i) (hi : i < 16) (fell : Bool) : (c.judgeInput k i true fell).pulseFault i := by
  obtain ⟨htp, hrun⟩ := h
  unfold Common.judgeInput
  rw [if_pos htp]
  simp only [hrun, if_true]
  obtain ⟨hbit, hev, _⟩ := Common.inputFault_spec { c with sio := { c.sio with stayRun := vput c.sio.stayRun i (1 + 1) } } hi siPulse
    (ev := .SIO_EVENT_SI_PULSE) rfl (by decide) (by decide)
  exact ⟨hbit, hev⟩

/-- The judgement of another input leaves its window and its count. -/
theorem Common.stayedOnce.judgeInput {k i : Nat} (h : c.stayedOnce k i) {j : Nat} (hj : j ≠ i) (stayed fell : Bool) :
    (c.judgeInput k j stayed fell).stayedOnce k i := by
  obtain ⟨htp, hrun⟩ := h
  have hfault : ∀ (d : Common) (code : Nat) (ev : Field), ev = .SIO_EVENT_SI_PULSE ∨ ev = .SIO_EVENT_SI_CROSS → d.stayedOnce k i →
      (d.inputFault j code ev).stayedOnce k i := fun d code ev hev hd => by
    have hsel : (d.inputFault j code ev).rd .SIO_TPSEL_TP = d.rd .SIO_TPSEL_TP := by
      rcases hev with rfl | rfl <;> exact d.rd_inputFault j code _ .SIO_TPSEL_TP (by decide) (by decide) rfl
    exact ⟨(congrArg (· / 4 ^ i % 4) hsel).trans hd.1, hd.2⟩
  have hstay : ∀ n, ({ c with sio := { c.sio with stayRun := vput c.sio.stayRun j n } } : Common).stayedOnce k i := fun n =>
    ⟨htp, (vget_vput_ne _ _ _ _ _ hj.symm).trans hrun⟩
  have hfell : ∀ n, ({ c with sio := { c.sio with fellRun := vput c.sio.fellRun j n } } : Common).stayedOnce k i := fun n => ⟨htp, hrun⟩
  unfold Common.judgeInput
  dsimp only
  generalize (if stayed then vget c.sio.stayRun j 0 + 1 else 0) = n
  generalize (if fell then vget c.sio.fellRun j 0 + 1 else 0) = m
  split
  · split
    · exact hfault _ _ _ (.inl rfl) (hstay _)
    · exact hstay _
  · split
    · exact hfault _ _ _ (.inr rfl) (hfell _)
    · exact hfell _

/-- The judgement of all inputs at a pulse faults one that stays a second time. -/
theorem Common.stayedOnce.judged {k i : Nat} (h : c.stayedOnce k i) (hi : i < 16) (stayed fell : Nat → Bool) (hstayed : stayed i = true) :
    ((List.range 16).foldl (fun c j => c.judgeInput k j (stayed j) (fell j)) c).pulseFault i := by
  refine foldl_once (f := fun c j => Common.judgeInput c k j (stayed j) (fell j)) (P := (·.stayedOnce k i)) (Q := (·.pulseFault i))
    (fun d hd => ?_) (fun d j hj hd => hd.judgeInput hj _ _) (fun d j _ hd => hd.judgeInput hi k j _ _) _ c List.nodup_range (List.mem_range.2 hi) h
  rw [hstayed]
  exact hd.pulseFault hi _

/-- A faulted test output leaves the faults of inputs there are. -/
theorem Common.pulseFault.wrOther {i : Nat} (h : c.pulseFault i) (f : Field) (v : Nat) (hf : f = .SIO_TPSTAT_FAULT) : (c.wr f v).pulseFault i := by
  subst hf
  exact ⟨(congrArg (bitOf · i) (Common.rd_wr_of_ne c .SIO_TPSTAT_FAULT .SIO_IN_FAULT v 0 0 (by decide))).trans h.1,
    (Common.rd_wr_of_ne c .SIO_TPSTAT_FAULT .SIO_EVENT_SI_PULSE v 0 0 (by decide)).trans h.2⟩

theorem Common.pulseFault.raiseTp {i : Nat} (h : c.pulseFault i) : (c.raise .SIO_EVENT_TP_FAULT).pulseFault i :=
  ⟨(congrArg (bitOf · i) (Common.rd_raise_ne c .SIO_EVENT_TP_FAULT .SIO_IN_FAULT 0 0 (by decide) rfl)).trans h.1,
    (Common.rd_raise_ne c .SIO_EVENT_TP_FAULT .SIO_EVENT_SI_PULSE 0 0 (by decide) rfl).trans h.2⟩

theorem Common.pulseFault.faultInput {i : Nat} (h : c.pulseFault i) (hi : i < 16) (j : Nat) (x : SioState) :
    ({ c.wr .SIO_IN_FAULT (putBit (c.rd .SIO_IN_FAULT) j true) with sio := x } : Common).pulseFault i := by
  refine Common.pulseFault.withSio ⟨?_, ?_⟩ x
  · exact (congrArg (bitOf · i) (Regs.rd_wr_same c.regs .SIO_IN_FAULT _ 0)).trans (bitOf_putBit_true_of_bitOf h.1 hi)
  · exact (Common.rd_wr_of_ne c .SIO_IN_FAULT .SIO_EVENT_SI_PULSE _ 0 0 (by decide)).trans h.2

end

/-- The journal entries of newly faulted inputs change nothing of the common block. -/
theorem Site.com_journalFaults (before : Nat) (l : List Nat) (u : Site) : (l.foldl (fun t i =>
    if bitOf (t.com.rd .SIO_IN_FAULT) i && !bitOf before i then
      t.journalFault locSafetyInput i detected reSafeState (vget t.com.sio.code i 0) else t) u).com = u.com :=
  foldl_keeps (·.com) (fun t i => by split <;> rfl) l u

/-- An input whose test output is faulty is faulted with it (R363). -/
def Common.faultOfTp (c : Common) (k : TestOut) (i : Nat) : Common :=
  if c.tpOf i = k.val then
    { c.wr .SIO_IN_FAULT (putBit (c.rd .SIO_IN_FAULT) i true) with sio := { c.sio with code := vput c.sio.code i siTpFault } }
  else c

/-- What the read-back of a test output does, at its n-th consecutive miss (R362). -/
def Common.tpJudged (c : Common) (k : TestOut) (n : Nat) : Common :=
  let c := { c with sio := { c.sio with tpRun := vput c.sio.tpRun k.val n } }
  if n = 2 then
    (List.range 16).foldl (fun c i => c.faultOfTp k i)
      ((c.wr .SIO_TPSTAT_FAULT (putBit (c.rd .SIO_TPSTAT_FAULT) k true)).raise .SIO_EVENT_TP_FAULT)
  else c

/-- What the common block makes of a test pulse: the inputs judged, and the test output itself (R362). -/
def Common.pulseJudged (c : Common) (k : TestOut) (stayed fell : BitVec 16) (tpOk : Bool) : Common :=
  let c := (List.range 16).foldl (fun c i => c.judgeInput k i (stayed.getLsbD i) (fell.getLsbD i)) c
  c.tpJudged k (if tpOk then 0 else vget c.sio.tpRun k.val 0 + 1)

theorem Common.pulseFault.tpJudged {c : Common} {i : Nat} (h : c.pulseFault i) (hi : i < 16) (k : TestOut) (n : Nat) :
    (c.tpJudged k n).pulseFault i := by
  have hinputs : ∀ (l : List Nat) (d : Common), d.pulseFault i → (l.foldl (fun c i => c.faultOfTp k i) d).pulseFault i := fun l => by
    induction l with
    | nil => exact fun _ hd => hd
    | cons j l ih =>
      intro d hd
      refine ih (d.faultOfTp k j) ?_
      unfold Common.faultOfTp
      split
      · exact hd.faultInput hi j _
      · exact hd
  unfold Common.tpJudged
  dsimp only
  split
  · exact hinputs _ _ (((h.withSio _).wrOther .SIO_TPSTAT_FAULT _ rfl).raiseTp)
  · exact h.withSio _

theorem Common.stayedOnce.pulseJudged {c : Common} {k : TestOut} {i : Nat} (h : c.stayedOnce k i) (hi : i < 16) (stayed fell : BitVec 16)
    (hstayed : stayed.getLsbD i = true) (tpOk : Bool) : (c.pulseJudged k stayed fell tpOk).pulseFault i :=
  (h.judged hi (fun j => stayed.getLsbD j) (fun j => fell.getLsbD j) hstayed).tpJudged hi k _

theorem testPulse_faults_input (s : State) (i : SafeIn) (k : TestOut) (stayed fell : BitVec 16) (ok : Bool)
    (hen : bitOf (s.site.com.rd .SIO_TPEN_EN) k = true) (htp : s.site.com.tpOf i = k.val) (hstayed : stayed.getLsbD i = true)
    (hrun : vget s.site.com.sio.stayRun i 0 = 1) : ∃ t : State, exec (.testPulse k stayed fell ok) s = .next t ∧
      bitOf (t.site.com.rd .SIO_IN_FAULT) i = true ∧ t.site.com.rd .SIO_EVENT_SI_PULSE = 1 := by
  have hfault := Common.stayedOnce.pulseJudged (c := s.site.com) (k := k) ⟨htp, hrun⟩ i.isLt stayed fell hstayed ok
  have hon : ¬ (!bitOf (s.site.com.rd .SIO_TPEN_EN) k) = true := by rw [hen]; decide
  have hexec : ∃ u : Site, execTestPulse k stayed fell ok s = .next { s with site := u } ∧ u.com = s.site.com.pulseJudged k stayed fell ok :=
    ⟨_, State.run_of_eq (if_neg hon), Site.com_journalFaults _ _ _⟩
  obtain ⟨u, hexec, hcom⟩ := hexec
  refine ⟨_, hexec, ?_⟩
  dsimp only
  rw [hcom]
  exact hfault

/-! ### The other acts of a safety input, and SAFE_RESET -/

section
variable (s : State) (i : SafeIn)

theorem safetyInput_level (b : Bool) : bitOf ((s.site.com.wr .SIO_IN_IN (putBit (s.site.com.rd .SIO_IN_IN) i.val b)).rd .SIO_IN_IN) i = b := by
  refine (congrArg (bitOf · i) (Regs.rd_wr_same s.site.com.regs .SIO_IN_IN _ 0)).trans ?_
  cases b
  · exact bitOf_putBit_false _ _ _
  · exact bitOf_putBit_true _ i.isLt

theorem siDiscrep_faults_input : ∃ t : State, exec (.siDiscrep i) s = .next t ∧ bitOf (t.site.com.rd .SIO_IN_FAULT) i = true ∧
    vget t.site.com.sio.code i 0 = siDiscrep ∧ t.site.com.rd .SIO_EVENT_SI_DISCREP = 1 := by
  obtain ⟨hbit, hev, hcode⟩ := s.site.com.inputFault_spec i.isLt siDiscrep (ev := .SIO_EVENT_SI_DISCREP) rfl (by decide) (by decide)
  refine ⟨_, (State.run_of_eq rfl : execSiDiscrep i s = _), ?_⟩
  exact ⟨hbit, hcode, hev⟩

theorem siFaultClear_clears : ∃ t : State, exec (.siFaultClear i) s = .next t ∧ bitOf (t.site.com.rd .SIO_IN_FAULT) i = false ∧
    vget t.site.com.sio.code i 0 = 0 := by
  have hbit : bitOf ((s.site.com.wr .SIO_IN_FAULT (putBit (s.site.com.rd .SIO_IN_FAULT) i.val false)).rd .SIO_IN_FAULT) i = false :=
    (congrArg (bitOf · i) (Regs.rd_wr_same s.site.com.regs .SIO_IN_FAULT _ 0)).trans (bitOf_putBit_false _ _ _)
  have hcode : vget (vput s.site.com.sio.code i.val 0) i.val 0 = 0 := vget_vput_same _ _ _ _ i.isLt
  have hwr : ∀ (q : Prop) [Decidable q] (d : Common) (v : Nat), bitOf (d.rd .SIO_IN_FAULT) i = false ∧ vget d.sio.code i 0 = 0 →
      bitOf ((if q then d else d.wr .SIO_TPSTAT_FAULT v).rd .SIO_IN_FAULT) i = false ∧
        vget (if q then d else d.wr .SIO_TPSTAT_FAULT v).sio.code i 0 = 0 := fun q _ d v hd => by
    split
    · exact hd
    · exact ⟨(congrArg (bitOf · i) (Common.rd_wr_of_ne d .SIO_TPSTAT_FAULT .SIO_IN_FAULT v 0 0 (by decide))).trans hd.1, hd.2⟩
  exact ⟨_, (State.run_of_eq rfl : execSiFaultClear i s = _), hwr _ _ _ ⟨hbit, hcode⟩⟩

theorem safeResetPress_counts (hjam : s.site.com.rd .SIO_RESET_JAM = 0) : ∃ t : State, exec .safeResetPress s = .next t ∧
    t.site.com.sio.pressed = true ∧ t.site.com.rd .SIO_EVENT_RESET_PRESS = 1 ∧ t.site.com.rd .SIO_RESET_LEVEL = 0 := by
  have hfree : ¬ s.site.com.rd .SIO_RESET_JAM = 1 := by rw [hjam]; decide
  refine ⟨_, (State.run_of_eq (congrArg (fun k => { s.site with com := k }) (if_neg hfree)) : execSafeResetPress s = _), rfl, ?_, ?_⟩
  · exact Common.rd_raise_same _ .SIO_EVENT_RESET_PRESS 0 rfl (by decide)
  · exact (Common.rd_raise_ne _ .SIO_EVENT_RESET_PRESS .SIO_RESET_LEVEL 0 0 (by decide) rfl).trans
      (Common.rd_wr_of_lt _ .SIO_RESET_LEVEL 0 0 (by decide))

theorem resetJam_shows : ∃ t : State, exec .resetJam s = .next t ∧ t.site.com.rd .SIO_RESET_JAM = 1 ∧
    t.site.com.rd .SIO_EVENT_RESET_JAM = 1 ∧ t.site.com.sio.pressed = s.site.com.sio.pressed := by
  refine ⟨_, (State.run_of_eq rfl : execResetJam s = _), ?_, ?_, rfl⟩
  · exact (Common.rd_raise_ne _ .SIO_EVENT_RESET_JAM .SIO_RESET_JAM 0 0 (by decide) rfl).trans
      (Common.rd_wr_of_lt _ .SIO_RESET_JAM 1 0 (by decide))
  · exact Common.rd_raise_same _ .SIO_EVENT_RESET_JAM 0 rfl (by decide)

theorem resetJamClear_clears : ∃ t : State, exec .resetJamClear s = .next t ∧ t.site.com.rd .SIO_RESET_JAM = 0 ∧
    t.site.com.rd .SIO_RESET_LEVEL = 0 := by
  refine ⟨_, (State.run_of_eq rfl : execResetJamClear s = _), Common.rd_wr_of_lt _ .SIO_RESET_JAM 0 0 (by decide), ?_⟩
  exact (Common.rd_wr_of_ne _ .SIO_RESET_JAM .SIO_RESET_LEVEL 0 0 0 (by decide)).trans (Common.rd_wr_of_lt _ .SIO_RESET_LEVEL 0 0 (by decide))

end

/-- Settles O40: the acts at a log position through the replica of a pavilion in step, the safety inputs through the common block. -/
theorem meterWritesAndSafetyInputs : Obligations.MeterWritesAndSafetyInputs := by
  intro p o s c r r'
  refine ⟨fun hstep hdue => metrologySave_saves_all hstep o.isLt hdue,
    fun w l hlead hpriv hstep hwrites ha hb => legalMramWrite_takes_front hlead hpriv hstep hwrites ha hb,
    fun n v hstep => metMtpWrite_shows hstep n v, fun n hstep hen hback => mtpPulse_takes_one hstep n hen hback, fun i => ⟨?_, ?_,
      fun k stayed fell ok hen htp hstayed hrun => testPulse_faults_input s i k stayed fell ok hen htp hstayed hrun, siDiscrep_faults_input s i,
      siFaultClear_clears s i⟩,
    fun hjam => safeResetPress_counts s hjam, resetJam_shows s, resetJamClear_clears s,
    fun k hstep hchan => channelChecks_note_outcome hstep k o.isLt hchan⟩
  · exact ⟨_, (State.run_of_eq rfl : execSafetyInputDemand i s = _), safetyInput_level s i false, rfl, rfl⟩
  · exact ⟨_, (State.run_of_eq rfl : execSafetyInputHealthy i s = _), safetyInput_level s i true, rfl, rfl⟩

end Sys2Proof.Machine
end

section
/-! PROOFS. A parameter set that the checks of a commit find good (R38, R384, R599), and a commit that is never shown. -/
namespace Sys2Proof.Machine

/-! ### Bytes laid out in a memory -/

/-- The bytes of a list from an address on, zero bytes unlisted. -/
def bytesAt : Nat → List Byte → Mem
  | _, [] => []
  | a, b :: r => if b = 0 then bytesAt (a + 1) r else (a, b) :: bytesAt (a + 1) r

theorem mem_bytesAt {e : Nat × Byte} : ∀ {bs : List Byte} {a : Nat}, e ∈ bytesAt a bs → a ≤ e.1 ∧ e.1 < a + bs.length
  | [], _, h => nomatch h
  | b :: r, a, h => by
    have hrest : e ∈ bytesAt (a + 1) r → a ≤ e.1 ∧ e.1 < a + (b :: r).length := fun he => by
      have hin := mem_bytesAt he
      rw [List.length_cons]
      omega
    unfold bytesAt at h
    split at h
    · exact hrest h
    · rcases List.mem_cons.1 h with rfl | he
      · simp
      · exact hrest he

theorem Mem.rd_of_above {m : Mem} {k : Nat} (h : ∀ e ∈ m, k < e.1) : m.rd k = 0 := by
  cases m with
  | nil => rfl
  | cons e m => exact if_pos (h e List.mem_cons_self)

theorem Mem.rd_append_of_below {A C : Mem} {k : Nat} (h : ∀ e ∈ A, e.1 < k) : Mem.rd (A ++ C) k = C.rd k := by
  induction A with
  | nil => rfl
  | cons e A ih =>
    have he : e.1 < k := h e List.mem_cons_self
    exact (if_neg (by omega)).trans ((if_neg (by omega)).trans (ih fun x hx => h x (List.mem_cons_of_mem _ hx)))

theorem Mem.rdBytes_append_of_below {A C : Mem} (n : Nat) : ∀ {k : Nat}, (∀ e ∈ A, e.1 < k) → Mem.rdBytes (A ++ C) k n = C.rdBytes k n := by
  induction n with
  | zero => exact fun _ => rfl
  | succ n ih => exact fun h => congrArg₂ List.cons (Mem.rd_append_of_below h) (ih fun e he => (h e he).trans (Nat.lt_succ_self _))

/-- Bytes laid out below everything else read back. -/
theorem Mem.rdBytes_bytesAt {C : Mem} : ∀ (bs : List Byte) (a : Nat), (∀ e ∈ C, a + bs.length ≤ e.1) →
    Mem.rdBytes (bytesAt a bs ++ C) a bs.length = bs
  | [], _, _ => rfl
  | b :: r, a, h => by
    have hrest : Mem.rdBytes (bytesAt (a + 1) r ++ C) (a + 1) r.length = r := Mem.rdBytes_bytesAt r (a + 1) fun e he => by
      have hle := h e he
      rw [List.length_cons] at hle
      omega
    unfold bytesAt
    split
    · next hb =>
      refine congrArg₂ List.cons ((Mem.rd_of_above fun e he => ?_).trans hb.symm) hrest
      rcases List.mem_append.1 he with he | he
      · exact (mem_bytesAt he).1
      · have hle := h e he
        rw [List.length_cons] at hle
        omega
    · have hfirst : Mem.rd ((a, b) :: (bytesAt (a + 1) r ++ C)) a = b := (if_neg (lt_irrefl a)).trans (if_pos rfl)
      have hskip : Mem.rdBytes ([(a, b)] ++ (bytesAt (a + 1) r ++ C)) (a + 1) r.length = Mem.rdBytes (bytesAt (a + 1) r ++ C) (a + 1) r.length :=
        Mem.rdBytes_append_of_below _ fun e he => by
          obtain rfl := List.mem_singleton.1 he
          exact Nat.lt_succ_self a
      exact congrArg₂ List.cons hfirst (hskip.trans hrest)

theorem Mem.rdN_eq_ofLe (m : Mem) (n : Nat) : ∀ a, m.rdN a n = ofLe (m.rdBytes a n) := by
  induction n with
  | zero => exact fun _ => rfl
  | succ n ih => exact fun a => congrArg ((m.rd a).toNat + 256 * ·) (ih (a + 1))

theorem Mem.rdBytes_slice (m : Mem) (len : Nat) : ∀ (a off n : Nat), off + n ≤ len → m.rdBytes (a + off) n = ((m.rdBytes a len).drop off).take n := by
  have hprefix : ∀ (n len a : Nat), n ≤ len → m.rdBytes a n = (m.rdBytes a len).take n := fun n => by
    induction n with
    | zero => exact fun _ _ _ => rfl
    | succ n ih =>
      intro len a h
      obtain ⟨len, rfl⟩ := Nat.exists_eq_add_of_lt h
      exact congrArg (m.rd a :: ·) (ih _ (a + 1) (by omega))
  induction len with
  | zero =>
    intro a off n h
    obtain rfl : off = 0 := by omega
    exact hprefix n 0 a (by omega)
  | succ len ih =>
    intro a off n h
    cases off with
    | zero => exact hprefix n (len + 1) a (by omega)
    | succ off => exact (congrArg (m.rdBytes · n) (by omega)).trans (ih (a + 1) off n (by omega))

/-- A field of bytes that read back. -/
theorem Mem.rdN_of_rdBytes {m : Mem} {a len off n : Nat} {bs : List Byte} (h : m.rdBytes a len = bs) (hoff : off + n ≤ len) :
    m.rdN (a + off) n = fieldAt bs off n := by
  rw [Mem.rdN_eq_ofLe, m.rdBytes_slice len a off n hoff, h]
  rfl

/-! ### A sample parameter set: no outlet in service, no group in use -/

/-- A record with its own CHECK at the end (R38). -/
def withCheck (bs : List Byte) : List Byte := bs ++ leBytes 4 (crc32c bs).toNat

/-- The entry of an outlet that names no channel. -/
def sampleOutletEntry : List Byte :=
  leBytes 1 0xFF ++ leBytes 1 0 ++ leBytes 2 800 ++ leBytes 1 1 ++ leBytes 1 2 ++ leBytes 2 10 ++ leBytes 2 200 ++ leBytes 2 100 ++ leBytes 4 0

/-- A safety set: header, 16 unused inputs, 24 outlets (R384). -/
def sampleSafety : List Byte :=
  withCheck (leBytes 2 0x0B01 ++ leBytes 2 580 ++ leBytes 1 0 ++ leBytes 1 5 ++ leBytes 2 1 ++ leBytes 4 0 ++ leBytes 2 5 ++ leBytes 1 30 ++
    leBytes 1 10 ++ leBytes 1 1 ++ leBytes 1 0 ++ leBytes 2 200 ++ leBytes 2 20 ++ leBytes 2 50 ++ leBytes 2 500 ++ leBytes 2 10 ++ leBytes 36 0 ++
    leBytes 128 0 ++ (List.replicate 24 sampleOutletEntry).flatten)

/-- A metrology record (R353). -/
def sampleMeter : List Byte := withCheck (leBytes 2 0x0A04 ++ leBytes 2 32 ++ leBytes 4 0 ++ leBytes 2 10 ++ leBytes 2 10 ++ leBytes 16 0)

/-- The metrology records of n outlets from o on. -/
def sampleMeters (o : Nat) : Nat → Mem
  | 0 => []
  | n + 1 => bytesAt (recMet * 2 ^ 16 + o * 2 ^ 10) sampleMeter ++ sampleMeters (o + 1) n

def sampleRecords : Mem := bytesAt (recSafety * 2 ^ 16) sampleSafety ++ sampleMeters 0 24

/-- The replicated registers of the sample: a connected load, no stage link enabled. -/
def sampleRegs : Regs := (List.range 32).foldl (fun r g => r.wr .STG_LCFG_EN_LINK 0 g) (Regs.wr [] .CTL_PCONN_PCONN 1)
/-- A leader's own registers, the result of an earlier commit shown. -/
def sampleOwnRegs : Regs := ((Regs.wr [] .SDL_MULT_N 400).wr .FBR_STATUS_ROLE roleLeader).wr .SYS_COMMIT_RESULT 1
/-- Fields waiting for a commit, one of which is no RWL field: the pavilion's role. -/
def sampleWaiting : List (Field × Nat × Nat) := [(.FBR_STATUS_ROLE, 0, roleSetAside)]
def sampleLayout : Layout := { offClose := 30000, offRelease := 60000 }

theorem length_sampleSafety : sampleSafety.length = 580 := by decide +kernel
theorem length_sampleMeter : sampleMeter.length = 32 := by decide +kernel

theorem above_sampleMeters {e : Nat × Byte} : ∀ {n o : Nat}, e ∈ sampleMeters o n → recMet * 2 ^ 16 + o * 2 ^ 10 ≤ e.1
  | 0, _, h => nomatch h
  | n + 1, o, h => by
    rcases List.mem_append.1 h with h | h
    · exact (mem_bytesAt h).1
    · exact le_trans (by omega) (above_sampleMeters h)

theorem record_sampleMeters : ∀ (n o k : Nat), o ≤ k → k < o + n →
    (sampleMeters o n).rdBytes (recMet * 2 ^ 16 + k * 2 ^ 10) sampleMeter.length = sampleMeter
  | 0, _, _, hle, hlt => absurd hlt (by omega)
  | n + 1, o, k, hle, hlt => by
    by_cases hk : k = o
    · subst hk
      rw [sampleMeters]
      refine Mem.rdBytes_bytesAt sampleMeter _ fun e he => ?_
      rw [length_sampleMeter]
      exact le_trans (by omega) (above_sampleMeters he)
    · refine (Mem.rdBytes_append_of_below _ fun e he => ?_).trans (record_sampleMeters n (o + 1) k (by omega) (by omega))
      have hin := mem_bytesAt he
      rw [length_sampleMeter] at hin
      omega

theorem safety_sampleRecords : sampleRecords.rdBytes (recSafety * 2 ^ 16 + 0 * 2 ^ 10) 580 = sampleSafety := by
  rw [← length_sampleSafety, sampleRecords]
  refine Mem.rdBytes_bytesAt sampleSafety _ fun e he => ?_
  have hrest := above_sampleMeters he
  rw [length_sampleSafety]
  simp only [recSafety, recMet] at hrest ⊢
  omega

theorem meter_sampleRecords {o : Nat} (ho : o < 24) : sampleRecords.rdBytes (recMet * 2 ^ 16 + o * 2 ^ 10) 32 = sampleMeter := by
  rw [← length_sampleMeter]
  refine (Mem.rdBytes_append_of_below _ fun e he => ?_).trans (record_sampleMeters 24 0 o (Nat.zero_le o) (by omega))
  have hin := mem_bytesAt he
  rw [length_sampleSafety] at hin
  simp only [recSafety, recMet] at hin ⊢
  omega

/-! ### The checks find nothing -/

/-- A candidate with the sample set. -/
def sampleCand : Cand := { loc := sampleOwnRegs.written sampleWaiting, rep := sampleRegs, recs := sampleRecords }

theorem sampleCand_used : ∀ g < 32, sampleCand.used g = false := by decide +kernel
theorem sampleCand_outlet : ∀ o < 24, sampleCand.outlet o = false := by decide +kernel
set_option maxRecDepth 20000 in
theorem crcGood_sampleSafety : crcGood sampleSafety = true := by decide +kernel
theorem crcGood_sampleMeter : crcGood sampleMeter = true := by decide +kernel
set_option maxRecDepth 20000 in
theorem sampleCand_safetyOk : sampleCand.safetyOk = true := by decide +kernel
theorem sampleCand_badField : sampleCand.badField sampleLayout = none := by decide +kernel
theorem sampleCand_badLayer : sampleCand.badLayer sampleLayout = none := by decide +kernel
theorem sampleCand_overload : sampleCand.overload sampleLayout = false := by decide +kernel

theorem sampleCand_meterOk {o : Nat} (ho : o < 24) : sampleCand.meterOk o = true := by
  have hfield : ∀ off n, off + n ≤ 32 → sampleCand.prm recMet o off n = fieldAt sampleMeter off n := fun off n h =>
    Mem.rdN_of_rdBytes (meter_sampleRecords ho) h
  unfold Cand.meterOk
  dsimp only
  simp only [hfield 0 2 (by decide), hfield 2 2 (by decide), hfield 4 4 (by decide), hfield 8 2 (by decide), hfield 10 2 (by decide),
    hfield 21 7 (by decide)]
  decide +kernel

theorem sampleCand_badCheck : sampleCand.badCheck = false := by
  have hgroups : ((List.range 32).any fun g => sampleCand.used g && !crcGood (sampleCand.record recPhase g 64)) = false :=
    List.any_eq_false.2 fun g hg => by simp [sampleCand_used g (List.mem_range.1 hg)]
  have houtlets : ((List.range 24).any fun o => (sampleCand.outlet o && !crcGood (sampleCand.record recCable o 48)) ||
      !crcGood (sampleCand.record recMet o 32)) = false := List.any_eq_false.2 fun o ho => by
    have hrecord : sampleCand.record recMet o 32 = sampleMeter := meter_sampleRecords (List.mem_range.1 ho)
    simp [sampleCand_outlet o (List.mem_range.1 ho), hrecord, crcGood_sampleMeter]
  have hsafety : sampleCand.record recSafety 0 580 = sampleSafety := safety_sampleRecords
  unfold Cand.badCheck
  rw [hgroups, houtlets, hsafety, crcGood_sampleSafety]
  rfl

theorem sampleCand_badRecord : sampleCand.badRecord = false := by
  have hgroups : ((List.range 32).any fun g => sampleCand.used g && !sampleCand.phaseOk g) = false :=
    List.any_eq_false.2 fun g hg => by simp [sampleCand_used g (List.mem_range.1 hg)]
  have houtlets : ((List.range 24).any fun o => (sampleCand.outlet o && !sampleCand.cableOk o) || !sampleCand.meterOk o) = false :=
    List.any_eq_false.2 fun o ho => by simp [sampleCand_outlet o (List.mem_range.1 ho), sampleCand_meterOk (List.mem_range.1 ho)]
  unfold Cand.badRecord
  rw [hgroups, houtlets, sampleCand_safetyOk]
  rfl

/-- A candidate in which the checks find nothing passes. -/
theorem Cand.check_eq_coOk {c : Cand} {lay : Layout} (hcheck : c.badCheck = false) (hfield : c.badField lay = none)
    (hrecord : c.badRecord = false) (hlayer : c.badLayer lay = none) (hload : c.overload lay = false) (k : Nat) :
    (c.check lay true true k).1 = coOk := by
  unfold Cand.check
  rw [hcheck, hfield, hrecord, hlayer, hload]
  rfl

/-- The sample set passes every check of a commit. -/
theorem sampleCand_check (k : Nat) : (sampleCand.check sampleLayout true true k).1 = coOk :=
  Cand.check_eq_coOk sampleCand_badCheck sampleCand_badField sampleCand_badRecord sampleCand_badLayer sampleCand_overload k

/-! ### A commit that takes the pavilion out of step shows nothing -/

/-- What an effect at the position leaves of a pavilion. -/
theorem Site.pav_onStep (t : Site) (f : Pavilion → Pavilion) (p : Pav) : ∃ red : Bool, (t.onStep f).pav p =
    if (t.pav p).inStep then (f { t.pav p with rep := { (t.pav p).rep with now := t.now } }).flush p red else t.pav p := by
  cases p <;> exact ⟨_, rfl⟩

theorem Site.regs_onStep_of_inStep (t : Site) (f : Pavilion → Pavilion) {p : Pav} (h : (t.pav p).inStep = true) :
    (t.onStep f).regs p = (f { t.pav p with rep := { (t.pav p).rep with now := t.now } }).loc.regs := by
  obtain ⟨red, heq⟩ := t.pav_onStep f p
  unfold Site.regs
  rw [heq, if_pos h]
  exact Pavilion.flush_regs _ p red

theorem Site.pav_onStep_of_not (t : Site) (f : Pavilion → Pavilion) {p : Pav} (h : (t.pav p).inStep = false) : (t.onStep f).pav p = t.pav p := by
  obtain ⟨_, heq⟩ := t.pav_onStep f p
  rw [heq, if_neg (by rw [h]; decide)]

/-- A commit that may take effect puts the candidate's own registers in force in a pavilion in step. -/
theorem Site.regs_commitTake (t : Site) {p q : Pav} (hlead : t.leader = some q) (hmay : (t.pav q).rep.mayCommit = true)
    (hstep : (t.pav p).inStep = true) : t.commitTake.regs p = (t.pav p).cand.loc := by
  unfold Site.commitTake
  simp only [hlead, hmay, if_true]
  have htake := t.regs_onStep_of_inStep (fun v => v.takeCand t.env v.cand) hstep
  split
  · exact (Site.regs_modCom _ p _).trans htake
  · exact htake

/-- If those registers take the pavilion out of step, nothing is shown in them. -/
theorem Site.regs_commit (t : Site) {p q : Pav} {crcOk : Bool} (hlead : t.leader = some q) (hmay : (t.pav q).rep.mayCommit = true)
    (hstep : (t.pav p).inStep = true) (hcheck : (t.commitCheck crcOk).1 = coOk) (hleaves : (t.pav p).cand.loc.rd .FBR_STATUS_ROLE = roleSetAside) :
    (t.commit crcOk).regs p = (t.pav p).cand.loc := by
  have htaken := t.regs_commitTake hlead hmay hstep
  have hout : (t.commitTake.pav p).inStep = false := by
    have hrole : (t.commitTake.pav p).role = roleSetAside := (congrArg (Regs.rd · .FBR_STATUS_ROLE) htaken).trans hleaves
    unfold Pavilion.inStep
    rw [hrole]
    rfl
  have hfree : ∀ (u : Site) (n : Nat), ({ u with free := n } : Site).regs p = u.regs p := fun _ _ => by cases p <;> rfl
  refine (hfree _ _).trans ?_
  rw [if_pos hcheck]
  exact (congrArg (·.loc.regs) (t.commitTake.pav_onStep_of_not _ hout)).trans htaken

theorem execSysCommitGo_keeps_result {s t : State} {p q : Pav} {crcOk : Bool} (hexec : exec (.sysCommitGo crcOk) s = .next t)
    (hlead : s.site.leader = some q) (hmay : (s.site.pav q).rep.mayCommit = true) (hstep : (s.site.pav p).inStep = true)
    (hcheck : (s.site.commitCheck crcOk).1 = coOk) (hleaves : (s.site.pav p).cand.loc.rd .FBR_STATUS_ROLE = roleSetAside) :
    (t.site.pav p).loc.rd .SYS_COMMIT_RESULT = (s.site.pav p).cand.loc.rd .SYS_COMMIT_RESULT := by
  have hgo : exec (.sysCommitGo crcOk) s = .next { s with site := s.site.commit crcOk } := rfl
  obtain rfl : { s with site := s.site.commit crcOk } = t := Host.Outcome.next.inj (hgo.symm.trans hexec)
  exact congrArg (Regs.rd · .SYS_COMMIT_RESULT) (s.site.regs_commit hlead hmay hstep hcheck hleaves)

/-- Pavilion A leads alone; its sample set is good and may take effect, and its own role is among the fields waiting. -/
def straySite : Site :=
  { a := { loc := { regs := sampleOwnRegs, rwl := sampleWaiting }
           rep := { regs := sampleRegs, params := sampleRecords, layout := sampleLayout } } }

theorem straySite_leads : straySite.leader = some .A ∧ (straySite.pav .A).inStep = true ∧ straySite.redundant = false := by decide +kernel

theorem straySite_leaves : (straySite.pav .A).rep.mayCommit = true ∧ (straySite.pav .A).cand.loc.rd .FBR_STATUS_ROLE = roleSetAside ∧
    (straySite.pav .A).cand.loc.rd .SYS_COMMIT_RESULT = 1 := by decide +kernel

theorem straySite_check : (straySite.commitCheck true).1 = coOk := by
  obtain ⟨hlead, _, hred⟩ := straySite_leads
  unfold Site.commitCheck
  rw [hlead, hred]
  exact sampleCand_check straySite.free

/-- Refutes O47: the commit of `straySite` is good, so `sysCommitGo` has to show OK in SYS_COMMIT; but it puts the waiting fields in
force first, the role among them takes pavilion A out of step, and the result of the earlier commit stays. Only RWL fields are ever
entered among the waiting ones; the statement does not ask that of its state. -/
theorem not_hostConfiguration : ¬ Obligations.HostConfiguration := by
  intro h
  obtain ⟨hlead, hstep, _⟩ := straySite_leads
  obtain ⟨_, _, _, _, hgo⟩ := h .A 0 0 0 { site := straySite } hstep
  obtain ⟨t, hexec, hshows, _⟩ := hgo true
  obtain ⟨hresult, _⟩ := hshows
  have hkept := execSysCommitGo_keeps_result hexec hlead straySite_leaves.1 hstep straySite_check straySite_leaves.2.1
  have hshown : (t.site.pav .A).loc.rd .SYS_COMMIT_RESULT = coOk % 16 := hresult.trans (congrArg (· % 16) straySite_check)
  exact absurd ((straySite_leaves.2.2.symm.trans hkept.symm).trans hshown) (by decide)

end Sys2Proof.Machine
end

section
/-! PROOFS. A reset of a register file whose entries do not stand in order (R531, R564). -/
namespace Sys2Proof.Machine

/-- A register file with two entries for TRIAL and, between them, a field that no reset keeps: TRIAL reads 1; a write of 0 takes the
first entry away, and a reset then brings the second one to light. -/
def hiddenTrial : Regs := [(Field.UPD_STATUS_TRIAL.key 0, 1), (Field.UPD_STATUS_PHASE.key 0, 0), (Field.UPD_STATUS_TRIAL.key 0, 1)]

/-- Pavilion B leads an activation whose first pavilion is A; A, out of reset, has a trial to start and no image in its slots. -/
def trialSite : Site :=
  { a := { loc := { inReset := false }, rep := { regs := hiddenTrial } }
    b := { loc := { regs := Regs.wr [] .FBR_STATUS_ROLE roleLeader }
           rep := { regs := Regs.wr [] .UPD_STATUS_PHASE 3, upd := { lead := .B } } } }

/-- The image check fails, the activation ends, and A's reset shows the hidden entry. -/
theorem trial_after_bootImageCheckDone : ∃ u : Site, execBootImageCheckDone .A { site := trialSite } = .next { site := u } ∧
    (u.pav .A).rep.rd .UPD_STATUS_TRIAL = 1 := ⟨_, rfl, by decide +kernel⟩

/-- Refutes O54: after the image check of pavilion A in `trialSite`, TRIAL reads 1. Its register file is not in order, which no step of
the model makes; the statement does not ask the register files of its state to be in order. -/
theorem not_suppliesAndResets : ¬ Obligations.SuppliesAndResets := by
  intro h
  obtain ⟨u, hdone, hone⟩ := trial_after_bootImageCheckDone
  obtain ⟨_, _, _, _, _, _, _, _, hboot, _⟩ := h .A { site := trialSite }
  obtain ⟨t, hexec, hzero, _⟩ := hboot rfl rfl rfl
  obtain rfl : { site := u } = t := Host.Outcome.next.inj (hdone.symm.trans hexec)
  exact absurd (hone.symm.trans hzero) (by decide)

end Sys2Proof.Machine
end

section
/-! PROOFS. Awaits, their end, and the time reads (R52, R140 to R142). -/
namespace Sys2Proof.Machine

/-- The number a pair holds, its low word in the named register (R117): the operand of `await` (R140). -/
def Engine.pairNat (en : Engine) (r : Gpr) : Nat := (en.g (gprPlus r 1)).toNat * 2 ^ 32 + (en.g r).toNat

theorem Engine.toNat_pair (en : Engine) (r : Gpr) : (en.g (gprPlus r 1) ++ en.g r).toNat = en.pairNat r := by
  rw [BitVec.toNat_append, ← Nat.shiftLeft_add_eq_or_of_lt (en.g r).isLt, Nat.shiftLeft_eq, Engine.pairNat]

/-- The end mark is no register (R142). -/
@[simp] theorem Engine.g_markEnd (en : Engine) (b : Bool) (r : Gpr) : (en.markEnd b).g r = en.g r := by
  cases b <;> rfl

section
variable {s : State} {p : Pav} {e : Eng} {d s1 : Gpr} {slot : Slot}

section
variable (b : Bool) (hready : s.site.ready p e = true)
include hready

theorem execAwait_of_now_lt (hpair : pairOk s1 = true) (hnow : s.site.now < (s.site.eng p e).pairNat s1) :
    execAwait p e s1 b s = .next (s.upd p e fun en => (en.markEnd b).awaitWait (.await ((s.site.eng p e).pairNat s1))) :=
  State.siteX_ok s p e _ _ hready (by simp [hpair, Engine.toNat_pair, Nat.not_le.mpr hnow, Site.modEng])

theorem execAwait_of_le_now (hpair : pairOk s1 = true) (hnow : (s.site.eng p e).pairNat s1 ≤ s.site.now) :
    execAwait p e s1 b s = .next (s.upd p e fun en => (en.markEnd b).awaitLate) :=
  State.siteX_ok s p e _ _ hready (by simp [hpair, Engine.toNat_pair, hnow, Site.modEng])

theorem execAwait_of_not_pair (hpair : pairOk s1 = false) :
    execAwait p e s1 b s = .next (s.raises p e exILLEGAL (encTime 0 0 s1 b 0)) :=
  State.siteX_exc s p e _ _ _ hready (by simp [hpair])

theorem execAwaitp_waits : execAwaitp p e s1 b s = .next (s.upd p e fun en =>
    (en.markEnd b).awaitWait (.awaitp (s.site.nextPlace (((s.site.eng p e).g s1).toNat % 65536)))) :=
  State.siteX_ok s p e _ _ hready (by simp only [Engine.g_markEnd, Site.modEng])

theorem execAwaits_of_armed (harm : (s.site.pav p).loc.rd .SDL_SCTRL_ARM slot.val ≠ 0) :
    execAwaits p e slot b s = .next (s.upd p e fun en => (en.markEnd b).awaitWait (.awaits slot s.site.ticks false)) :=
  State.siteX_ok s p e _ _ hready (by simp only [if_neg harm, Site.modEng])

theorem execAwaits_of_disarmed (harm : (s.site.pav p).loc.rd .SDL_SCTRL_ARM slot.val = 0) :
    execAwaits p e slot b s = .next (s.upd p e fun en => (en.markEnd b).awaitLate) :=
  State.siteX_ok s p e _ _ hready (by simp only [if_pos harm, Site.modEng])

/-- The low word of the time is the angle and the high word the cycle (R14). -/
theorem execTread_of_pair (hpair : pairOk d = true) : execTread p e d s = .next (s.upd p e fun en =>
    (en.setPair d (BitVec.ofNat 32 s.site.angle) (BitVec.ofNat 32 s.site.cycle)).next) := by
  have hangle : BitVec.ofNat 32 s.site.now = BitVec.ofNat 32 s.site.angle := BitVec.eq_of_toNat_eq (by simp [Site.angle])
  rw [← hangle]
  exact State.siteX_ok s p e _ _ hready (by simp [hpair, Site.cycle])

theorem execTsite_puts : execTsite p e d s = .next (s.put p e d fun _ =>
    BitVec.ofNat 32 (s.site.siteIndex * 2 ^ 16 + s.site.sitePos)) :=
  State.siteX_ok s p e _ _ hready rfl

end

/-- An await ends once what it waits for has come (R141). -/
theorem execAwaitWake_of_done (hdone : s.site.awaitDone (s.site.eng p e).wait = true) :
    execAwaitWake p e s = .next (s.upd p e Engine.wake) := by
  simp only [execAwaitWake, State.run, if_pos hdone, State.upd]

end

/-- Settles O23: each clause is one of the lemmas on the awaits, the time reads and the end of an await above. -/
theorem timeInstructionResults : Obligations.TimeInstructionResults := by
  intro p e d s1 slot s now armed late
  refine ⟨fun hready => ?_, fun w hwait hnow => ?_, fun i hwait => ?_⟩
  · exact ⟨execAwait_of_now_lt false hready, execAwait_of_le_now false hready, execAwaitp_waits true hready, execAwaits_of_armed true hready,
      execAwaits_of_disarmed false hready, execTread_of_pair hready, execTsite_puts hready,
      fun hpair => ⟨_, execAwait_of_not_pair false hready hpair⟩⟩
  · exact execAwaitWake_of_done (by rw [hwait]; exact decide_eq_true hnow)
  · exact execAwaitWake_of_done (by rw [hwait]; rfl)

end Sys2Proof.Machine
end

section
/-! PROOFS. Frame halfwords between the windows and the registers (R80, R134, R135). -/
namespace Sys2Proof.Machine

/-! ### The formats of frst (R135) -/

/-- The value frst sends for a register value in format S16, U16 or RAW16. -/
def frameSent (fmt : BitVec 2) (v : Int) : Int :=
  if fmt = 0 then max (-32768) (min 32767 ((v + 2 ^ 15) / 2 ^ 16))
  else if fmt = 1 then (if v < 0 then 0 else min 65535 ((v + 2 ^ 14) / 2 ^ 15)) else v

/-- The value lay beyond the halfword's range, so that Q is set. -/
def frameCut (fmt : BitVec 2) (v : Int) : Bool :=
  if fmt = 0 then decide (frameSent 0 v ≠ (v + 2 ^ 15) / 2 ^ 16)
  else if fmt = 1 then decide (v < 0 ∨ 65535 < (v + 2 ^ 14) / 2 ^ 15) else false

theorem satTo_eq_max_min (lo hi x : Int) (h : lo ≤ hi) : satTo lo hi x = max lo (min hi x) := by
  unfold satTo
  split
  · omega
  · split <;> omega

theorem satHit_eq_decide_ne (lo hi x : Int) (h : lo ≤ hi) : satHit lo hi x = decide (max lo (min hi x) ≠ x) := by
  rw [satHit, ← Bool.decide_or]
  exact decide_eq_decide.2 (by omega)

theorem frameOut_eq (fmt : BitVec 2) (w : Word) :
    frameOut fmt w = (BitVec.ofInt 16 (frameSent fmt w.toInt), frameCut fmt w.toInt) := by
  unfold frameOut frameCut frameSent
  by_cases h0 : fmt = 0
  · simp only [h0, if_true, satTo_eq_max_min (-32768) 32767 _ (by decide), satHit_eq_decide_ne (-32768) 32767 _ (by decide)]
  · by_cases h1 : fmt = 1
    · by_cases hneg : w.toInt < 0 <;> simp [h1, hneg]
    · have hraw : w.setWidth 16 = BitVec.ofInt 16 w.toInt := by
        apply BitVec.eq_of_toNat_eq
        rw [BitVec.toNat_setWidth, BitVec.toNat_ofInt, BitVec.toInt_eq_toNat_cond]
        split <;> omega
      simp only [h0, h1, if_false, hraw]

/-! ### What a frame instruction does (R134) -/

section
variable {s : State} {p : Pav} {e : Eng} {s1 : Gpr} (word : Word) (f : Site → Nat → Site) (hready : s.site.ready p e = true)
  (hloop : loopProfile e = true)
include hready hloop

theorem State.frameX_of_group (hg : ((s.site.eng p e).g s1).toNat < 32) : s.frameX p e word true s1 f =
    .next { s with site := (f s.site ((s.site.eng p e).g s1).toNat).modEng p e Engine.next } :=
  State.siteX_ok s p e _ _ hready (by simp [hloop, Nat.not_le.2 hg])

theorem State.frameX_of_no_group (hg : 32 ≤ ((s.site.eng p e).g s1).toNat) : s.frameX p e word true s1 f =
    .next (s.raises p e exACCESS ((s.site.eng p e).g s1)) :=
  State.siteX_exc s p e _ _ _ hready (by simp [hloop, hg])

omit hloop in
theorem State.frameX_of_bad_format : s.frameX p e word false s1 f = .next (s.raises p e exILLEGAL word) :=
  State.siteX_exc s p e _ _ _ hready (by simp)

end

/-- A change of an engine after another of the same engine. -/
theorem Site.modEng_modEng (t : Site) (p : Pav) (e : Eng) (f g : Engine → Engine) :
    (t.modEng p e f).modEng p e g = t.modEng p e fun en => g (f en) := by
  have hset : ∀ (l : Local) (x y : Engine), (l.setEng e x).setEng e y = l.setEng e y := fun l x y => by simp [Local.setEng]
  unfold Site.modEng
  rw [Site.eng_setEng_same]
  cases p <;> simp [Site.setEng, Site.modLoc, Site.modPav, hset]

/-- The M flag takes MISSING, bit 1 of the status word (R80). -/
theorem getLsbD_one_ofNat (w : Nat) : (BitVec.ofNat 32 w).getLsbD 1 = decide (w / 2 % 2 = 1) := by
  rw [BitVec.getLsbD_ofNat, Nat.testBit_eq_decide_div_mod_eq]
  rfl

/-- A halfword enters the output window of a pavilion (R135). -/
def Site.putHalf (t : Site) (p : Pav) (a : Nat) (h : BitVec 16) : Site :=
  t.modLoc p fun l => { l with outWin := l.outWin.wrN a 2 h.toNat }

section
variable (t : Site) (p : Pav) (e : Eng) (a : Nat) (h : BitVec 16) (f : Engine → Engine)

/-- The halfword reads back, and no other byte of the output window changes. -/
theorem Site.outWin_putHalf : BitVec.ofNat 16 (((t.putHalf p a h).pav p).loc.outWin.rdN a 2) = h ∧
    ∀ c : Nat, c < a ∨ a + 2 ≤ c → ((t.putHalf p a h).pav p).loc.outWin.rd c = (t.pav p).loc.outWin.rd c := by
  simp only [Site.putHalf, Site.pav_modLoc_same]
  refine ⟨?_, fun c hc => Mem.rd_wrN_outside _ _ _ _ _ hc⟩
  rw [Mem.rdN_wrN]
  exact BitVec.eq_of_toNat_eq (by simp [h.isLt])

@[simp] theorem Site.eng_putHalf : (t.putHalf p a h).eng p e = t.eng p e := Site.eng_modLoc_of_engines fun _ => rfl

/-- An engine's change leaves the windows of its pavilion alone. -/
theorem Site.windows_modEng : ((t.modEng p e f).pav p).loc.outWin = (t.pav p).loc.outWin ∧
    ((t.modEng p e f).pav p).loc.inWin = (t.pav p).loc.inWin := by
  simp [Site.modEng, Site.setEng]

end

section
variable {s : State} {p : Pav} {e : Eng} {s1 : Gpr} (d : Gpr) (fmt : BitVec 2) (hw : BitVec 6) (hready : s.site.ready p e = true)
  (hloop : loopProfile e = true) (hg : ((s.site.eng p e).g s1).toNat < 32)
include hready hloop hg

theorem execFrld_of_group : execFrld p e d s1 fmt hw s = .next (s.upd p e fun en =>
    ((en.setG d (frameIn fmt ((s.site.pav p).loc.frameHalf ((s.site.eng p e).g s1).toNat hw.toNat))).setFlag flagM
      (decide ((s.site.pav p).loc.inWin.rdN (4 * ((s.site.eng p e).g s1).toNat) 4 / 2 % 2 = 1))).next) := by
  refine (State.frameX_of_group _ _ hready hloop hg).trans ?_
  simp only [Site.modEng_modEng, Local.statusWord, getLsbD_one_ofNat]
  rfl

theorem execFrstat_of_group : execFrstat p e d s1 s = .next (s.upd p e fun en =>
    ((en.setG d ((s.site.pav p).loc.statusWord ((s.site.eng p e).g s1).toNat)).setFlag flagM
      (decide ((s.site.pav p).loc.inWin.rdN (4 * ((s.site.eng p e).g s1).toNat) 4 / 2 % 2 = 1))).next) := by
  refine (State.frameX_of_group _ _ hready hloop hg).trans ?_
  simp only [Site.modEng_modEng, Local.statusWord, getLsbD_one_ofNat]
  rfl

/-- frst stores the converted halfword, sets Q where the value was cut, and goes on. -/
theorem execFrst_of_group (hfmt : fmt ≠ 3) : execFrst p e d s1 fmt hw s = .next { s with
      site := (s.site.putHalf p (128 * ((s.site.eng p e).g s1).toNat + 2 * hw.toNat)
        (BitVec.ofInt 16 (frameSent fmt ((s.site.eng p e).g d).toInt))).modEng p e fun en =>
          (en.stick flagQ (frameCut fmt ((s.site.eng p e).g d).toInt)).next } := by
  unfold execFrst
  rw [decide_eq_true hfmt, State.frameX_of_group _ _ hready hloop hg]
  simp only [Site.modEng_modEng, frameOut_eq]
  rfl

end

/-- Settles O22: each clause is one of the outcomes of a frame instruction above. -/
theorem frameWindowResults : Obligations.FrameWindowResults := by
  intro p e d s1 fmt hw s hready hloop en g win stat h v sent cut mis
  refine ⟨fun hg => ?_, fun hg => ?_, ?_⟩
  · refine ⟨execFrld_of_group d 0 hw hready hloop hg, execFrld_of_group d 1 hw hready hloop hg, execFrld_of_group d 2 hw hready hloop hg,
      execFrld_of_group d 3 hw hready hloop hg, execFrstat_of_group d hready hloop hg, fun hfmt => ?_⟩
    have hput := s.site.outWin_putHalf p (128 * g + 2 * hw.toNat) (BitVec.ofInt 16 (frameSent fmt v))
    refine ⟨_, execFrst_of_group d fmt hw hready hloop hg hfmt, ?_, ?_, fun c hc => ?_, ?_, ?_, ?_⟩
    · exact (Site.eng_modEng_same _ p e _).trans (by rw [Site.eng_putHalf]; rfl)
    · rw [(Site.windows_modEng _ p e _).1]
      exact hput.1
    · rw [(Site.windows_modEng _ p e _).1]
      exact hput.2 c hc
    · rw [(Site.windows_modEng _ p e _).2]
      exact congrArg (·.loc.inWin) (s.site.pav_modLoc_same p _)
    · rw [Site.pav_modEng_other, Site.putHalf, Site.pav_modLoc_other]
    · rw [Site.com_modEng, Site.putHalf, Site.com_modLoc]
  · exact ⟨(State.frameX_of_no_group _ _ hready hloop hg : execFrld p e d s1 fmt hw s = _),
      (State.frameX_of_no_group _ _ hready hloop hg : execFrstat p e d s1 s = _)⟩
  · exact ⟨_, (State.frameX_of_bad_format _ _ hready : execFrst p e d s1 3 hw s = _)⟩

end Sys2Proof.Machine
end

section
/-! PROOFS. Joining step by step, and the handback (R88, R101 to R104, R107). -/
namespace Sys2Proof.Machine

/-! ### An entry the leader makes itself (R82) -/

/-- A leader's own part with one more entry in its log. -/
def Local.entered (l : Local) (p : Pav) (x : LogEntry) : Local :=
  ({ l with log := l.log ++ [x], nextSeq := l.nextSeq + 1, tx := l.tx ++ [.logEntry p x] } : Local).showSeq

/-- No input waits, and the ring has room for one more entry. -/
def Local.logRoom (l : Local) : Prop := l.inputs = [] ∧ l.log.length < 2048

section
variable {t : Site} {p q : Pav}

theorem Site.entry_of_logRoom {payload : List Byte} (kind : Nat) (hroom : (t.pav p).loc.logRoom) (hpayload : payload.length ≤ 228) :
    t.entry p kind payload = some (t.modLoc p fun l => l.entered p (t.entryOf p kind 0 payload false)) := by
  obtain ⟨hinputs, hlen⟩ := hroom
  have hfull : ¬ 2048 < (t.pav p).loc.log.length + 1 := by omega
  simp only [Site.entry, if_pos hinputs, Site.sequence, groupSize_of_short hpayload, if_neg hfull, List.range_one, List.map_cons, List.map_nil,
    Nat.mul_zero, List.drop_zero, List.take_of_length_le hpayload]
  rfl

theorem Local.rd_entered (l : Local) (x : LogEntry) {f : Field} (hlog : f.ofLog = false) : (l.entered p x).rd f = l.rd f := by
  have hlo : f ≠ .FBR_SEQ_LO_SEQ := by rintro rfl; cases hlog
  have hhi : f ≠ .FBR_SEQ_HI_SEQ := by rintro rfl; cases hlog
  exact (Regs.rd_wr_of_ne _ _ _ _ _ _ hhi).trans (Regs.rd_wr_of_ne _ _ _ _ _ _ hlo)

/-! ### Asking to join (R101) -/

theorem Pav.other_ne (p : Pav) : p.other ≠ p := by cases p <;> decide

theorem Site.role_setRole {role : Nat} (hrole : role < 8) : (t.setRole p role).role p = role := by
  obtain ⟨a, b, h⟩ := t.setRole_regs_self p role
  rw [Site.role_eq, h]
  simp (disch := decide) only [Regs.rd_wr_of_ne, Regs.rd_wr_same]
  exact Nat.mod_eq_of_lt hrole

/-- What a pavilion sends does not change whether the other one accepts it. -/
theorem Site.accepts_modLoc_send (x : Tx) : (t.modLoc p fun l => l.send x).accepts p.other p = t.accepts p.other p := by
  simp only [Site.accepts, Site.pav_modLoc_other, Site.rep_modLoc]

theorem Site.askJoin_of_accepted (hlead : t.leader = some p.other) (hask : t.canAsk p = true) (haccepts : t.accepts p.other p = true) :
    (t.askJoin p).role p = roleJoining ∧ ((t.askJoin p).pav p).loc.join = .mirroring := by
  have heq : t.askJoin p = ((t.modLoc p fun l => l.send (.joinRequest p)).modLoc p fun l => { l with join := .mirroring }).setRole p
      roleJoining := by
    simp only [Site.askJoin, hlead, hask, Bool.not_true, Bool.false_eq_true, if_false, Site.accepts_modLoc_send, haccepts, if_true]
  rw [heq]
  refine ⟨Site.role_setRole (by decide), ?_⟩
  rw [Local.Steady.setRole (g := (·.join)) (fun _ _ _ _ _ => rfl), Site.pav_modLoc_same]

end

section
variable {s : State} {p : Pav} (hlead : s.site.leader = some p.other)

/-! ### Boundary B and the handover record (R101, R102) -/

/-- The leader's SYNC entry for a joiner stands in its log. -/
def Site.withSync (t : Site) (p : Pav) : Site := t.modLoc p.other fun l => l.entered p.other (t.entryOf p.other 7 0 [] false)

/-- A joiner that waits for boundary B, with the leader's claim in store (R88). -/
def Local.synced (l lead : Local) : Local :=
  { l.wr .FBR_CLAIM_STORED (lead.rd .FBR_CLAIM_STORED) with join := .syncLogged (lead.log.foldl (fun b x => max b x.effective) 0) }

theorem Local.claim_synced (l lead : Local) : (l.synced lead).rd .FBR_CLAIM_STORED = lead.rd .FBR_CLAIM_STORED % 2 ^ 32 :=
  Regs.rd_wr_same _ _ _ _

section
include hlead

theorem execBackgroundCopyDone_of_mirroring (hrole : s.site.role p = roleJoining) (hjoin : (s.site.pav p).loc.join = .mirroring)
    (hroom : (s.site.pav p.other).loc.logRoom) : execBackgroundCopyDone p s = .next { s with
      site := (s.site.withSync p).modLoc p fun l => l.synced ((s.site.withSync p).pav p.other).loc } :=
  State.run_of_eq (by
    simp only [hlead, hrole, hjoin, Pav.other_ne, ne_eq, not_true_eq_false, decide_false, Bool.or_self, Bool.false_eq_true, if_false,
      Site.entry_of_logRoom (payload := []) 7 hroom (by decide)]
    rfl)

theorem backgroundCopyDone_syncs (hrole : s.site.role p = roleJoining) (hjoin : (s.site.pav p).loc.join = .mirroring)
    (hroom : (s.site.pav p.other).loc.logRoom) : ∃ (t : State) (b : Nat), exec (.backgroundCopyDone p) s = .next t ∧
      (t.site.pav p).loc.join = .syncLogged b ∧ (t.site.pav p.other).loc.nextSeq = (s.site.pav p.other).loc.nextSeq + 1 ∧
      (t.site.pav p).loc.rd .FBR_CLAIM_STORED = (s.site.pav p.other).loc.rd .FBR_CLAIM_STORED % 2 ^ 32 := by
  have hlog : ((s.site.withSync p).pav p.other).loc = (s.site.pav p.other).loc.entered p.other (s.site.entryOf p.other 7 0 [] false) := by
    rw [Site.withSync, Site.pav_modLoc_same]
  have hloc := (s.site.withSync p).loc_modLoc_same p fun l => l.synced ((s.site.withSync p).pav p.other).loc
  refine ⟨_, _, execBackgroundCopyDone_of_mirroring hlead hrole hjoin hroom, congrArg Local.join hloc, ?_, ?_⟩
  · rw [Site.pav_modLoc_other, hlog]
    rfl
  · rw [hloc, Local.claim_synced, hlog, Local.rd_entered _ _ rfl]

theorem syncBoundary_sends_handover {b : Nat} (hjoin : (s.site.pav p).loc.join = .syncLogged b) : ∃ t : State,
    exec .syncBoundary s = .next t ∧ (t.site.pav p.other).loc.tx =
      (s.site.pav p.other).loc.tx ++ [.handover p.other b (s.site.pav p.other).loc.nextSeq] := by
  have hrun : execSyncBoundary s = .next { s with
      site := s.site.modLoc p.other fun l => l.send (.handover p.other b l.nextSeq) } :=
    State.run_of_eq (by simp only [hlead, Pav.other_other, hjoin])
  refine ⟨_, hrun, ?_⟩
  rw [Site.pav_modLoc_same]
  rfl

/-- The joiner takes over what the leader holds, its own image being the leader's (R102). -/
def Site.handedOver (t : Site) (p : Pav) : Site := t.modPav p fun v => v.handed (t.pav p.other) false

theorem execHandoverRecordRx_of_match {b : Nat} (hrole : s.site.role p = roleJoining) (hjoin : (s.site.pav p).loc.join = .syncLogged b)
    (hact : s.site.actFirst ≠ some p) (hbuild : (s.site.pav p).rep.layout.build = (s.site.pav p.other).rep.layout.build)
    (hparam : paramCheck (s.site.pav p).loc (s.site.pav p).rep = paramCheck (s.site.pav p.other).loc (s.site.pav p.other).rep) :
    execHandoverRecordRx p true s = .next { s with site := s.site.handedOver p } :=
  State.run_of_eq (by
    have hrole' : (s.site.pav p).role = roleJoining := hrole
    simp [hjoin, hrole', hlead, hact, hbuild, hparam, Site.handedOver])

end

/-- An engine of the joiner runs on from where the leader's stands. -/
theorem Pavilion.eng_handed (v lead : Pavilion) (e : Eng) :
    (v.handed lead false).loc.eng e = (v.loc.eng e).handed (lead.loc.eng e) none := by
  simp [Pavilion.handed, Local.showSeq, Local.eng]

/-- The joiner's engines stand in the context of the leader's (R102). -/
theorem Site.context_handed (t : Site) (p : Pav) (e : Eng) :
    let en := (t.handedOver p).eng p e
    let lead := t.eng p.other e
    en.gpr = lead.gpr ∧ en.acc = lead.acc ∧ en.flags = lead.flags ∧ en.pc = lead.pc ∧ en.dtcm = lead.dtcm := by
  have heng : (t.handedOver p).eng p e = (t.eng p e).handed (t.eng p.other e) none := by
    rw [Site.eng, Site.handedOver, Site.pav_modPav_same, Pavilion.eng_handed]
    rfl
  dsimp only
  rw [heng]
  exact ⟨rfl, rfl, rfl, rfl, rfl⟩

theorem Site.loc_handedOver (t : Site) (p : Pav) : ((t.handedOver p).pav p).loc.join = .joining 0 ∧
    ((t.handedOver p).pav p).loc.sram = (t.pav p.other).loc.sram ∧
      ((t.handedOver p).pav p).loc.nextSeq = (t.pav p.other).loc.nextSeq := by
  rw [Site.handedOver, Site.pav_modPav_same]
  exact ⟨rfl, rfl, rfl⟩

/-- A joiner takes the role FOLLOWER (R101 step 6). -/
def Site.promoted (t : Site) (p : Pav) : Site :=
  (t.modLoc p fun l => { l with join := .idle, healthyAt := t.ticks }).setRole p roleFollower

theorem Site.join_promoted (t : Site) (p : Pav) : ((t.promoted p).pav p).loc.join = .idle := by
  rw [Site.promoted, Local.Steady.setRole (g := (·.join)) (fun _ _ _ _ _ => rfl), Site.pav_modLoc_same]

theorem Site.restartDue_promoted (t : Site) (p : Pav) : ((t.promoted p).pav p.other).loc.restartDue = (t.pav p.other).loc.restartDue := by
  rw [Site.promoted, Local.Steady.setRole (g := (·.restartDue)) (fun _ _ _ _ _ => rfl), Site.pav_modLoc_other]

theorem execJoinerBecomesFollower_of_ready {k : Nat} (hrole : s.site.role p = roleJoining) (hjoin : (s.site.pav p).loc.join = .joining k)
    (hk : 16 ≤ k) (hact : s.site.actFirst ≠ some p) (hphase : (s.site.pav p).rep.rd .UPD_STATUS_PHASE = 0)
    (hdue : (s.site.pav p.other).loc.restartDue = false) : execJoinerBecomesFollower p s = .next { s with
      site := (s.site.promoted p).onLog fun r => r.journal (s.site.promoted p).now locPavLogic 0xFF restored reLogged 0 } := by
  have hrole' : (s.site.pav p).role = roleJoining := hrole
  have hstays : (((s.site.promoted p).onLog fun r => r.journal (s.site.promoted p).now locPavLogic 0xFF restored reLogged 0).pav
      p.other).loc.restartDue = false := by
    rw [Local.Steady.onLog (g := (·.restartDue)) (fun _ _ _ _ _ => rfl), Site.restartDue_promoted, hdue]
  refine State.run_of_eq ?_
  simp only [hjoin, hrole', hact, hphase, hk, decide_true, ne_eq, not_true_eq_false, decide_false, Bool.not_true, Bool.or_self,
    Bool.false_eq_true, if_false, OfNat.zero_ne_ofNat]
  exact if_neg (by rw [Bool.not_eq_true]; exact hstays)

/-! ### Ordering a handback (R103, R104) -/

/-- Both pavilions know the tick of an ordered handback. -/
def Site.handbackBoth (t : Site) (x : Nat) : Site :=
  (t.modLoc .A fun l => { l with handbackAt := some x }).modLoc .B fun l => { l with handbackAt := some x }

theorem Site.handbackAt_handbackBoth (t : Site) (x : Nat) (q : Pav) : ((t.handbackBoth x).pav q).loc.handbackAt = some x := by
  cases q <;> rfl

/-- The tick of a handback ordered now: the second allocation tick after it. -/
def Site.handbackTick (t : Site) : Nat := (nextTickOf t.now + 2 ^ 31) % 2 ^ 64

theorem Site.handbackTick_mod (t : Site) : t.handbackTick % 2 ^ 31 = 0 := by
  unfold Site.handbackTick nextTickOf
  omega

theorem Site.orderHandback_of_logRoom {t : Site} {q : Pav} (hlead : t.leader = some q) (hroom : (t.pav q).loc.logRoom) : t.orderHandback =
    (t.modLoc q fun l => l.entered q (t.entryOf q 8 0 (leBytes 8 t.handbackTick) false)).handbackBoth t.handbackTick := by
  have hentry := Site.entry_of_logRoom (payload := leBytes 8 t.handbackTick) 8 hroom (by rw [leBytes_length]; decide)
  unfold Site.handbackTick at hentry
  simp only [Site.orderHandback, hlead, hentry]
  rfl

theorem Site.handbackAt_orderHandback {t : Site} {q : Pav} (hlead : t.leader = some q) (hroom : (t.pav q).loc.logRoom) (p : Pav) :
    (t.orderHandback.pav p).loc.handbackAt = some t.handbackTick := by
  rw [Site.orderHandback_of_logRoom hlead hroom, Site.handbackAt_handbackBoth]

theorem execHoldElapsed_of_home (hhome : (s.site.pav p).loc.rd .FBR_CTRL_HOME = (if p = .A then 0 else 1))
    (hrevert : (s.site.pav p).loc.rd .FBR_CTRL_REVERT = 1) (hrole : s.site.role p = roleFollower)
    (hind : (s.site.pav p).loc.indicated = false) (hfree : s.site.handbackFree = true) (hphase : (s.site.pav p).rep.rd .UPD_STATUS_PHASE = 0) :
    execHoldElapsed p s = .next { s with site := s.site.orderHandback } :=
  State.run_of_eq (by simp [hhome, hrevert, hrole, hind, hfree, hphase])

theorem execFbrYield_of_free (hfree : s.site.handbackFree = true) : execFbrYield s = .next { s with site := s.site.orderHandback } :=
  State.run_of_eq (if_pos hfree)

/-! ### The tick of a handback (R104) -/

/-- Both pavilions show HANDBACK; no handback is ordered any more for the new leader. -/
def Site.handedBack (t : Site) (p : Pav) : Site :=
  (t.modLoc p fun l => { l.raise .FBR_EVENT_HANDBACK with handbackAt := none }).modLoc p.other fun l => l.raise .FBR_EVENT_HANDBACK

theorem Site.handback_handedBack (t : Site) (p q : Pav) : ((t.handedBack p).regs q).rd .FBR_EVENT_HANDBACK = 1 := by
  obtain rfl | rfl : q = p ∨ q = p.other := by cases p <;> cases q <;> simp [Pav.other]
  · rw [Site.handedBack, Site.regs_modLoc_of_other, Site.regs_modLoc_same]
    exact Regs.rd_raise_same _ _ _ rfl (by decide)
  · rw [Site.handedBack, Site.regs_modLoc_same]
    exact Regs.rd_raise_same _ _ _ rfl (by decide)

theorem Site.rd_handedBack (t : Site) (p q : Pav) {f : Field} (hf : f ≠ .FBR_EVENT_HANDBACK) (hcount : f.isCount = false) :
    ((t.handedBack p).regs q).rd f = (t.regs q).rd f :=
  (Site.rd_modLoc fun _ => Regs.rd_raise_ne _ _ _ _ _ hf hcount).trans (Site.rd_modLoc fun _ => Regs.rd_raise_ne _ _ _ _ _ hf hcount)

/-- What a new leader shows once it has claimed the lease (R87). -/
theorem Site.shows_takeClaim (t : Site) (p : Pav) (hclaim : (t.pav p).loc.nextClaim ≤ 0xFFFFFFFF) :
    ((t.takeClaim p).regs p).rd .FBR_STATUS_ROLE = roleLeader ∧
      ((t.takeClaim p).regs p).rd .FBR_CLAIM_STORED = (t.pav p).loc.nextClaim := by
  obtain ⟨a, b, h⟩ := t.takeClaim_regs p
  rw [h]
  simp (disch := decide) only [Regs.rd_wr_of_ne, Regs.rd_wr_same]
  exact ⟨rfl, Nat.mod_eq_of_lt (Nat.lt_succ_of_le hclaim)⟩

/-- A handback: the follower claims the lease, both show it, and the inputs and switches pass to the new leader. -/
def Site.handback (t : Site) (p : Pav) : Site := (((t.takeClaim p).handedBack p).passInputs p).takeSwitches

theorem Site.rd_handback (t : Site) (p q : Pav) {f : Field} (hlog : f.ofLog = false) (hcount : f.isCount = false) :
    ((t.handback p).regs q).rd f = (((t.takeClaim p).handedBack p).regs q).rd f := by
  rw [Site.handback, Site.regs_takeSwitches, Site.rd_passInputs hlog hcount]

theorem execHandbackTick_of_ordered (hlead : s.site.leader = some p.other) (hrole : s.site.role p = roleFollower)
    (hown : (s.site.pav p).loc.handbackAt ≠ none) (hpeer : (s.site.pav p.other).loc.handbackAt ≠ none)
    (hact : s.site.actFirst ≠ some p) (hclaim : (s.site.pav p).loc.nextClaim ≤ 0xFFFFFFFF) :
    execHandbackTick s = .next { s with site := s.site.handback p } := by
  obtain ⟨x, hx⟩ := Option.ne_none_iff_exists'.1 hown
  obtain ⟨y, hy⟩ := Option.ne_none_iff_exists'.1 hpeer
  exact State.run_of_eq (by simp [hlead, hx, hy, hrole, hact, Nat.not_lt.2 hclaim, Site.handback, Site.handedBack])

end

/-- Settles O29: one lemma per step of the joining and of the handback above. -/
theorem joiningAndHandback : Obligations.JoiningAndHandback := by
  intro p s q l l' room
  refine ⟨fun hlead hask haccepts => ?_, fun hlead hrole hjoin hroom => backgroundCopyDone_syncs hlead hrole hjoin hroom,
    fun b hlead hjoin => syncBoundary_sends_handover hlead hjoin, fun b hlead hrole hjoin hact hbuild hparam => ?_,
    fun k hrole hjoin hk hact hphase hdue => ?_, fun hlead hhome hrevert hrole hind hfree hphase hroom => ?_, fun hlead hfree hroom => ?_, ?_,
    fun hlead hrole hown hpeer hact hclaim => ?_⟩
  · have hasked := Site.askJoin_of_accepted hlead hask haccepts
    exact ⟨⟨_, rfl, hasked⟩, fun hjoin => ⟨_, State.run_of_eq (if_pos hjoin), hasked⟩⟩
  · obtain ⟨hjoining, hsram, hseq⟩ := s.site.loc_handedOver p
    exact ⟨_, execHandoverRecordRx_of_match hlead hrole hjoin hact hbuild hparam, hjoining, hsram, hseq, s.site.context_handed p⟩
  · refine ⟨_, execJoinerBecomesFollower_of_ready hrole hjoin hk hact hphase hdue, ?_, ?_⟩
    · rw [Site.onLog_role, Site.promoted, Site.role_setRole (by decide)]
    · rw [Local.Steady.onLog (g := (·.join)) (fun _ _ _ _ _ => rfl), Site.join_promoted]
  · exact ⟨_, _, execHoldElapsed_of_home hhome hrevert hrole hind hfree hphase, Site.handbackAt_orderHandback hlead hroom p,
      Site.handbackAt_orderHandback hlead hroom p.other, s.site.handbackTick_mod⟩
  · exact ⟨_, _, execFbrYield_of_free hfree, Site.handbackAt_orderHandback hlead hroom p,
      Site.handbackAt_orderHandback hlead hroom p.other, s.site.handbackTick_mod⟩
  · exact ⟨_, rfl, congrArg Local.heldOut (s.site.loc_modLoc_same p fun l => { l with heldOut := false })⟩
  · obtain ⟨hleads, hstored⟩ := s.site.shows_takeClaim p hclaim
    refine ⟨_, execHandbackTick_of_ordered hlead hrole hown hpeer hact hclaim, ?_, ?_, ?_, ?_⟩
    · exact (s.site.rd_handback p p rfl rfl).trans ((Site.rd_handedBack _ p p (by decide) rfl).trans hleads)
    · exact (s.site.rd_handback p p rfl rfl).trans ((Site.rd_handedBack _ p p (by decide) rfl).trans hstored)
    · exact (s.site.rd_handback p p rfl rfl).trans (Site.handback_handedBack _ p p)
    · exact (s.site.rd_handback p p.other rfl rfl).trans (Site.handback_handedBack _ p p.other)

end Sys2Proof.Machine
end

section
/-! PROOFS. Sample frames and delay probes of a pavilion's own lanes, and the messages of a stage link (R76, R78, R155 to R184). -/
namespace Sys2Proof.Machine

/-! ### A command on one pavilion -/

/-- The pavilion that a command on it leaves. -/
theorem State.run_modPav (s : State) (p : Pav) {f : Site → Pavilion → Pavilion} {w : Pavilion} (h : f s.site (s.site.pav p) = w) :
    ∃ t : State, (s.run fun t => t.modPav p (f t)) = .next t ∧ t.site.pav p = w := ⟨_, rfl, (Site.pav_modPav_same _ _ _).trans h⟩

/-! ### Sample frames (R76, R78, R155, R165) -/

section
variable {s : State} {p : Pav} {g : Grp} {frame : List Byte}

theorem stgSampleFrameRx_of_broken (h : frameWhole true frame = false ∨ crcGood frame = false ∨ byteAt frame 0 ≠ 0x81) : ∃ t : State,
    execStgSampleFrameRx p g frame true s = .next t ∧
      t.site.pav p = { s.site.pav p with loc := (s.site.pav p).loc.report { grp := g, errs := 1 } } := by
  refine State.run_modPav s p ?_
  obtain h | h | h := h <;> simp [h]

/-- A valid frame names the present frame period and is whole but for its length. -/
theorem of_sampleValid {slen seq : Nat} (h : sampleValid slen seq frame = true) :
    crcGood frame = true ∧ byteAt frame 0 = 0x81 ∧ fieldAt frame 4 4 = seq := by
  simp only [sampleValid, Bool.and_eq_true, decide_eq_true_eq] at h
  obtain ⟨⟨⟨hcrc, htype⟩, -⟩, hseq⟩ := h
  exact ⟨hcrc, htype, hseq⟩

theorem stgSampleFrameRx_of_valid (hwhole : frameWhole true frame = true)
    (hvalid : sampleValid ((s.site.pav p).rep.rd .STG_LSTATE_SLEN g) (s.site.frameSeq g) frame = true)
    (hopen : (s.site.pav p).loc.closed = false) (hused : ((s.site.pav p).rep.link g).unused p = false) : ∃ t : State,
    execStgSampleFrameRx p g frame true s = .next t ∧
      t.site.pav p = { s.site.pav p with loc := ((s.site.pav p).loc.send (.forward p g frame)).holdFrame p g frame } := by
  obtain ⟨hcrc, htype, hseq⟩ := of_sampleValid hvalid
  refine State.run_modPav s p ?_
  simp [hwhole, hcrc, htype, hseq, hvalid, hopen, hused]

theorem Local.rxA_holdFrame (l : Local) : vget (l.holdFrame .A g frame).rxA g none = some frame := vget_vput_same _ _ _ _ g.isLt

theorem Local.rxB_holdFrame (l : Local) : vget (l.holdFrame .B g frame).rxB g none = some frame := vget_vput_same _ _ _ _ g.isLt

/-- A pavilion's own frame is held for its own lane; the other lane keeps its own. -/
theorem Local.own_holdFrame (l : Local) (p : Pav) :
    if p = .A then vget (l.holdFrame p g frame).rxA g none = some frame ∧ (l.holdFrame p g frame).rxB = l.rxB
    else vget (l.holdFrame p g frame).rxB g none = some frame ∧ (l.holdFrame p g frame).rxA = l.rxA := by
  cases p
  · exact ⟨l.rxA_holdFrame, rfl⟩
  · exact ⟨l.rxB_holdFrame, rfl⟩

theorem Local.tx_holdFrame (l : Local) (lane : Lane) : (l.holdFrame lane g frame).tx = l.tx := by cases lane <;> rfl

theorem footbridgeFrameRx_of_valid {lane : Lane}
    (hvalid : sampleValid ((s.site.pav p).rep.rd .STG_LSTATE_SLEN g) (s.site.frameSeq g) frame = true)
    (hopen : (s.site.pav p).loc.setDone = false) (hused : ((s.site.pav p).rep.link g).unused lane = false) : ∃ t : State,
    execFootbridgeFrameRx p lane g frame s = .next t ∧
      t.site.pav p = { s.site.pav p with loc := (s.site.pav p).loc.holdFrame lane g frame } :=
  State.run_modPav s p (by simp [hvalid, hopen, hused])

theorem footbridgeFrameRx_of_late (lane : Lane) (hdone : (s.site.pav p).loc.setDone = true) : ∃ t : State,
    execFootbridgeFrameRx p lane g frame s = .next t ∧
      t.site.pav p = { s.site.pav p with loc := (s.site.pav p).loc.raise .FBR_EVENT_LATE_FRAME } :=
  State.run_modPav s p (by simp [hdone])

/-! ### Delay probes (R159) -/

/-- A pavilion's own part once it has sent an ECHO with its next token. -/
def Local.probed (l : Local) (p : Pav) (g : Nat) : Local :=
  ({ l with echo := vput l.echo g (some (BitVec.ofNat 8 l.echoNo)), echoNo := l.echoNo + 1 } : Local).send (.echo p g (BitVec.ofNat 8 l.echoNo))

theorem execEchoProbe_of_driven (hdrives : s.site.drives p = true) (hlink : (s.site.pav p).rep.lstate g ≠ lsDisabled) :
    execEchoProbe p g s = .next { s with site := s.site.modLoc p fun l => l.probed p g } :=
  State.run_of_eq (by
    simp only [hdrives, hlink, ne_eq, not_false_eq_true, decide_true, Bool.and_self, if_true]
    rfl)

/-- The one-way delay that a round trip gives. -/
def Pavilion.oneWay (v : Pavilion) (g trip : Nat) : Nat := (trip - (v.rep.link g).ident.turn) / 2

/-- A pavilion's own part once its token has come back: the delay is reported and becomes LEAD, and no token is out. -/
def Pavilion.delayTaken (v : Pavilion) (g : Grp) (trip : Nat) : Local :=
  { v.loc.report { grp := g, delay := some (v.oneWay g trip),
                   slow := v.rep.rd .STG_MAXDLY_DLY * 5 < v.oneWay g trip + (v.rep.link g).ident.txLat } with
    lead := vput v.loc.lead g.val (v.oneWay g trip), echo := vput v.loc.echo g.val none }

theorem echoReturnRx_of_token {token : Byte} (trip : Nat) (h : vget (s.site.pav p).loc.echo g none = some token) : ∃ t : State,
    execEchoReturnRx p g token trip s = .next t ∧ t.site.pav p = { s.site.pav p with loc := (s.site.pav p).delayTaken g trip } :=
  State.run_modPav s p (if_pos h)

end

/-! ### Messages (R171 to R173, R177, R184) -/

section
variable (r : Replica) (g : Grp)

theorem Replica.link_setLink_same (x : StageLink) : (r.setLink g x).link g = x := vget_vput_same _ _ _ _ g.isLt

theorem Replica.ph_setPh_same (x : Phases) : (r.setPh g x).ph g = x := vget_vput_same _ _ _ _ g.isLt

theorem Replica.rd_wr_of_ne {f h : Field} (v i j : Nat) (hne : h ≠ f) : (r.wr f v i).rd h j = r.rd h j := Regs.rd_wr_of_ne _ _ _ _ _ _ hne

theorem Replica.rd_wr_same (f : Field) (v i : Nat) : (r.wr f v i).rd f i = v % 2 ^ f.info.width := Regs.rd_wr_same _ _ _ _

/-- A message that GO starts with fragment 0 (R171, R173). -/
def Replica.msgOut (mtid len : Nat) : Replica :=
  let r := ((((r.wr .STG_LMSG_MTID mtid g).wr .STG_LMSG_LEN len g).wr .STG_LMSG_BUSY 1 g).wr .STG_LMSG_DONE 0 g).wr .STG_LMSG_FAIL 0 g
  r.setLink g { r.link g with nextFrag := some 0, sinceLast := 0, resends := r.rd .STG_RETRY_RCNT, replyFrag := 0, replyB := [] }

theorem Replica.msgGo_of_idle (hidle : r.rd .STG_LMSG_BUSY g = 0) (mtid len : Nat) : r.msgGo g mtid len = r.msgOut g mtid len :=
  if_neg (by omega)

theorem Replica.rd_msgOut (mtid len : Nat) (f : Field) : (r.msgOut g mtid len).rd f g = (((((r.wr .STG_LMSG_MTID mtid g).wr .STG_LMSG_LEN len g).wr
    .STG_LMSG_BUSY 1 g).wr .STG_LMSG_DONE 0 g).wr .STG_LMSG_FAIL 0 g).rd f g := rfl

theorem Replica.msgOut_spec {mtid len : Nat} (hmtid : mtid < 256) (hlen : len < 256) :
    (r.msgOut g mtid len).rd .STG_LMSG_BUSY g = 1 ∧ (r.msgOut g mtid len).rd .STG_LMSG_MTID g = mtid ∧
      (r.msgOut g mtid len).rd .STG_LMSG_LEN g = len ∧ (r.msgOut g mtid len).rd .STG_LMSG_DONE g = 0 ∧
      (r.msgOut g mtid len).rd .STG_LMSG_FAIL g = 0 ∧ ((r.msgOut g mtid len).link g).nextFrag = some 0 := by
  simp (disch := decide) only [Replica.rd_msgOut, Replica.rd_wr_of_ne, Replica.rd_wr_same]
  exact ⟨rfl, Nat.mod_eq_of_lt hmtid, Nat.mod_eq_of_lt hlen, rfl, rfl, congrArg StageLink.nextFrag (Replica.link_setLink_same _ g _)⟩

/-! ### A request without a reply (R173) -/

/-- A request that is sent again from its first fragment. -/
def Replica.resent : Replica :=
  r.setLink g { r.link g with nextFrag := some 0, sinceLast := 0, resends := (r.link g).resends - 1, replyFrag := 0, replyB := [] }

theorem Replica.resent_spec (hleft : 0 < (r.link g).resends) : ((r.resent g).link g).nextFrag = some 0 ∧
    ((r.resent g).link g).resends + 1 = (r.link g).resends ∧ (r.resent g).regs = r.regs := by
  rw [Replica.resent, Replica.link_setLink_same]
  exact ⟨rfl, Nat.sub_add_cancel hleft, rfl⟩

/-- A request that has failed. -/
def Replica.msgFailed : Replica := ((r.wr .STG_LMSG_BUSY 0 g).wr .STG_LMSG_FAIL 1 g).raise .STG_EVENT_MSG_FAIL

/-- What a failed request shows. -/
def Replica.showsFailed : Prop :=
  r.rd .STG_LMSG_BUSY g = 0 ∧ r.rd .STG_LMSG_FAIL g = 1 ∧ r.rd .STG_EVENT_MSG_FAIL = 1

theorem Replica.msgFailed_shows : (r.msgFailed g).showsFailed g := by
  have hflag : (r.msgFailed g).rd .STG_EVENT_MSG_FAIL = 1 := Regs.rd_raise_same _ _ _ rfl (by decide)
  have hother : ∀ f : Field, f ≠ .STG_EVENT_MSG_FAIL → f.isCount = false →
      (r.msgFailed g).rd f g = ((r.wr .STG_LMSG_BUSY 0 g).wr .STG_LMSG_FAIL 1 g).rd f g := fun f hf hc => Regs.rd_raise_ne _ _ _ _ _ hf hc
  refine ⟨?_, ?_, hflag⟩
  · rw [hother _ (by decide) rfl, Replica.rd_wr_of_ne _ _ _ _ (by decide), Replica.rd_wr_same]
    rfl
  · rw [hother _ (by decide) rfl, Replica.rd_wr_same]
    rfl

theorem Replica.rd_freezeRing (v : Env) (k cause : Nat) {f : Field} (i : Nat) (hlost : f ≠ .CTL_HLOST_LOST) (hfrz : f ≠ .CTL_HFRZ_FRZ) :
    (r.freezeRing v k cause).rd f i = r.rd f i := by
  unfold Replica.freezeRing
  split
  · exact r.rd_wr_of_ne _ _ _ hlost
  · exact r.rd_wr_of_ne _ _ _ hfrz

/-- A link that goes to FAULT changes its state, its place among the active links and the history ring. -/
theorem Replica.rd_setLink'_fault (v : Env) {f : Field} (i : Nat) (hlost : f ≠ .CTL_HLOST_LOST) (hfrz : f ≠ .CTL_HFRZ_FRZ)
    (hstate : f ≠ .STG_LSTATE_STATE) (hact : f ≠ .STG_ACTIVE_ACT) : (r.setLink' v g lsFault).rd f i = r.rd f i := by
  have hkept : ¬ (lsFault = lsDown ∨ lsFault = lsDisabled) := by decide
  unfold Replica.setLink'
  simp only [decide_eq_true_eq, Bool.or_eq_true, if_neg hkept]
  rw [Replica.rd_wr_of_ne _ _ _ _ hact, Replica.rd_wr_of_ne _ _ _ _ hstate]
  split
  · exact r.rd_freezeRing _ _ _ _ hlost hfrz
  · rfl

variable {r g} in
theorem Replica.showsFailed.setLink'_fault (h : r.showsFailed g) (v : Env) : (r.setLink' v g lsFault).showsFailed g := by
  obtain ⟨hbusy, hfail, hflag⟩ := h
  refine ⟨?_, ?_, ?_⟩
  · rwa [Replica.rd_setLink'_fault _ _ _ _ (by decide) (by decide) (by decide) (by decide)]
  · rwa [Replica.rd_setLink'_fault _ _ _ _ (by decide) (by decide) (by decide) (by decide)]
  · rwa [Replica.rd_setLink'_fault _ _ _ _ (by decide) (by decide) (by decide) (by decide)]

/-- A CONFIG in service whose request failed or was refused is due again (R239). -/
def Replica.configAgain : Replica :=
  r.setPh g { r.ph g with configOut := false, ofsDue := (r.ph g).ofsDue || (r.ph g).configOut, ofsWait := (r.ph g).configOut }

theorem Replica.configAgain_spec (hout : (r.ph g).configOut = true) : ((r.configAgain g).ph g).configOut = false ∧
    ((r.configAgain g).ph g).ofsDue = true ∧ (r.configAgain g).regs = r.regs := by
  rw [Replica.configAgain, Replica.ph_setPh_same, hout]
  exact ⟨rfl, Bool.or_true _, rfl⟩

/-- What a request without a reply leaves where no repetition is left: FAULT in discovery, a CONFIG due again in service. -/
def Replica.timedOut (v : Env) : Replica :=
  if (r.msgFailed g).discovering g then (r.msgFailed g).setLink' v g lsFault else (r.msgFailed g).configAgain g

theorem Replica.timedOut_shows (v : Env) : (r.timedOut g v).showsFailed g := by
  unfold Replica.timedOut
  split
  · exact (r.msgFailed_shows g).setLink'_fault v
  · exact r.msgFailed_shows g

end

/-! ### The commands -/

/-- What a logged effect leaves in the replica of a pavilion in step. -/
theorem State.onLog_of_eq {s : State} {p : Pav} (hstep : (s.site.pav p).inStep = true) {f : Site → Replica → Replica} {r : Replica}
    (h : f s.site ((s.site.pav p).rep.clock s.site.now) = r) : ∃ t : State, s.onLog f = .next t ∧ (t.site.pav p).rep = r.flushed := by
  obtain ⟨t, hrun, hrep⟩ := State.onLog_rep s p (f := f) hstep
  exact ⟨t, hrun, by rw [hrep, h]⟩

section
variable {s : State} {p : Pav} {g : Grp} (hstep : (s.site.pav p).inStep = true)
include hstep

theorem stgMsgGo_of_idle (mtid len : Byte) (hidle : (s.site.pav p).rep.rd .STG_LMSG_BUSY g = 0) : ∃ t : State,
    execStgMsgGo g mtid len s = .next t ∧ (t.site.pav p).rep =
      (((s.site.pav p).rep.clock s.site.now).msgOut g mtid.toNat len.toNat).flushed :=
  State.onLog_of_eq hstep (Replica.msgGo_of_idle ((s.site.pav p).rep.clock s.site.now) g hidle _ _)

section
variable (hbusy : (s.site.pav p).rep.rd .STG_LMSG_BUSY g = 1) (hsent : ((s.site.pav p).rep.link g).nextFrag = none)
  (hlate : (s.site.pav p).rep.rd .STG_RETRY_RTO ≤ ((s.site.pav p).rep.link g).sinceLast)
include hbusy hsent hlate

theorem stgReplyTimeout_of_late : ∃ t : State, execStgReplyTimeout g s = .next t ∧ (t.site.pav p).rep =
    (if 0 < ((s.site.pav p).rep.link g).resends then ((s.site.pav p).rep.clock s.site.now).resent g
      else ((s.site.pav p).rep.clock s.site.now).timedOut g s.site.env).flushed := by
  have hdue : (decide ((s.site.pav p).rep.rd .STG_LMSG_BUSY g = 0) || decide (((s.site.pav p).rep.link g).nextFrag ≠ none) ||
      decide (((s.site.pav p).rep.link g).sinceLast < (s.site.pav p).rep.rd .STG_RETRY_RTO)) = false := by
    simp [hbusy, hsent, hlate]
  exact State.onLog_of_eq hstep (if_neg (Bool.not_eq_true _ ▸ hdue))

end

section
variable (hdone : (s.site.pav p).rep.replyDone g = true) (hdisc : (s.site.pav p).rep.discovering g = false)
include hdone hdisc

theorem stgStatusReply_of_service : ∃ t : State, execStgStatusReply g s = .next t ∧ (t.site.pav p).rep =
    (((s.site.pav p).rep.clock s.site.now).setLink g { (s.site.pav p).rep.link g with
      status := [1, 5, 9, 13, 17].map fun k => fieldAt ((s.site.pav p).rep.stgReply g) k 4 }).flushed := by
  have hdone' : ((s.site.pav p).rep.clock s.site.now).replyDone g = true := hdone
  have hdisc' : ((s.site.pav p).rep.clock s.site.now).discovering g = false := hdisc
  refine State.onLog_of_eq hstep ?_
  simp only [hdone', hdisc', Bool.not_true, Bool.false_eq_true, if_false]
  rfl

theorem stgErrorReply_of_service : ∃ t : State, execStgErrorReply g s = .next t ∧
    (t.site.pav p).rep = (((s.site.pav p).rep.clock s.site.now).configAgain g).flushed := by
  have hdone' : ((s.site.pav p).rep.clock s.site.now).replyDone g = true := hdone
  have hdisc' : ((s.site.pav p).rep.clock s.site.now).discovering g = false := hdisc
  refine State.onLog_of_eq hstep ?_
  simp only [hdone', hdisc', Bool.not_true, Bool.false_eq_true, if_false]
  rfl

end

end

/-- Settles O30: one lemma per command above, with what it leaves of the pavilion. -/
theorem stageFramesAndMessages : Obligations.StageFramesAndMessages := by
  intro p g frame s v v'
  refine ⟨fun hbroken => ?_, fun hwhole hvalid hopen hused => ?_, fun hvalid hopen => ⟨fun hused => ?_, fun hused => ?_⟩, fun hdone lane => ?_,
    fun hdrives hlink => ?_, fun token trip htoken => ?_, fun hstep hidle mtid len => ?_, fun hstep hbusy hsent hlate => ?_,
    fun hstep hdone hdisc => ?_⟩
  · obtain ⟨t, hrun, (hpav : v' t = _)⟩ := stgSampleFrameRx_of_broken hbroken
    exact ⟨t, hrun, by rw [hpav], by rw [hpav]; rfl⟩
  · obtain ⟨t, hrun, (hpav : v' t = _)⟩ := stgSampleFrameRx_of_valid hwhole hvalid hopen hused
    exact ⟨t, hrun, by rw [hpav], by rw [hpav]; exact Local.tx_holdFrame _ p, by rw [hpav]; exact Local.own_holdFrame _ p⟩
  · obtain ⟨t, hrun, (hpav : v' t = _)⟩ := footbridgeFrameRx_of_valid hvalid hopen hused
    exact ⟨t, hrun, by rw [hpav]; exact v.loc.rxA_holdFrame⟩
  · obtain ⟨t, hrun, (hpav : v' t = _)⟩ := footbridgeFrameRx_of_valid hvalid hopen hused
    exact ⟨t, hrun, by rw [hpav]; exact v.loc.rxB_holdFrame⟩
  · obtain ⟨t, hrun, (hpav : v' t = _)⟩ := footbridgeFrameRx_of_late (g := g) (frame := frame) lane hdone
    refine ⟨t, hrun, ?_, by rw [hpav]; rfl, by rw [hpav]; rfl⟩
    rw [hpav]
    exact Regs.rd_raise_same _ _ _ rfl (by decide)
  · have hloc : (v' { s with site := s.site.modLoc p fun l => l.probed p g }).loc = v.loc.probed p g := s.site.loc_modLoc_same p _
    exact ⟨_, execEchoProbe_of_driven hdrives hlink, by rw [hloc]; rfl, by rw [hloc]; exact vget_vput_same _ _ _ _ g.isLt⟩
  · obtain ⟨t, hrun, (hpav : v' t = _)⟩ := echoReturnRx_of_token trip htoken
    exact ⟨t, hrun, by rw [hpav]; exact vget_vput_same _ _ _ _ g.isLt, by rw [hpav]; exact vget_vput_same _ _ _ _ g.isLt⟩
  · obtain ⟨t, hrun, (hrep : (v' t).rep = _)⟩ := stgMsgGo_of_idle hstep mtid len hidle
    obtain ⟨hbusy, hmtid, hlen, hdone, hfail, hfrag⟩ := (v.rep.clock s.site.now).msgOut_spec g mtid.isLt len.isLt
    refine ⟨t, hrun, ?_⟩
    rw [hrep]
    exact ⟨hbusy, hmtid, hlen, hdone, hfail, hfrag, rfl⟩
  · obtain ⟨t, hrun, (hrep : (v' t).rep = _)⟩ := stgReplyTimeout_of_late hstep hbusy hsent hlate
    refine ⟨fun hleft => ?_, fun hnone => ?_⟩
    · rw [if_pos hleft] at hrep
      obtain ⟨hfrag, hresends, hregs⟩ := (v.rep.clock s.site.now).resent_spec g hleft
      exact ⟨t, hrun, by rw [hrep]; exact hfrag, by rw [hrep]; exact hresends, by rw [hrep]; exact hregs⟩
    · rw [if_neg (Nat.not_lt.2 hnone.le)] at hrep
      refine ⟨t, hrun, ?_⟩
      rw [hrep]
      exact (v.rep.clock s.site.now).timedOut_shows g s.site.env
  · refine ⟨?_, fun hout => ?_⟩
    · obtain ⟨t, hrun, (hrep : (v' t).rep = _)⟩ := stgStatusReply_of_service hstep hdone hdisc
      refine ⟨t, hrun, by rw [hrep]; rfl, ?_⟩
      rw [hrep]
      exact congrArg StageLink.status (Replica.link_setLink_same _ g _)
    · obtain ⟨t, hrun, (hrep : (v' t).rep = _)⟩ := stgErrorReply_of_service hstep hdone hdisc
      refine ⟨t, hrun, ?_⟩
      rw [hrep]
      exact (v.rep.clock s.site.now).configAgain_spec g hout

end Sys2Proof.Machine
end

section
/-! PROOFS. The commands of a host on the device: log reads and acknowledgements, attestation, yield, rejoin, bank restore, return to the
maker, service opening (R104, R347, R413, R440, R450, R451, R592, R595). -/
namespace Sys2Proof.Machine

/-! ### The response to a request (R431, R437) -/

/-- A replica `w` that has answered a request of session `n`: its session and stored responses apart, only what it sends has grown. -/
def Replica.Answered (w w' : Replica) (n tag code : Nat) (y : Resp) : Prop :=
  ∃ (sessions : Vector Session 16) (tags : List TagEntry) (jq : List JEntry),
    w' = { w with
      hosts := { w.hosts with sessions, tags }
      jq := jq
      tx := w.tx ++ [.rhp n mkResponse 0 tag code y.status y.handle (leBytes 4 y.detail ++ y.body)] } ∧
    (vget sessions n {}).principal = (w.ses n).principal

section
variable {w w' : Replica} {n : Sess} {tag code : Nat} {y : Resp}

theorem Replica.Answered.answers (h : w.Answered w' n tag code y) : w'.answers n tag code y := by
  obtain ⟨sessions, tags, jq, rfl, hprincipal⟩ := h
  exact List.mem_append_right _ (List.mem_singleton.2 rfl)

/-- What an answer keeps of a replica and of what it holds for the hosts. -/
theorem Replica.Answered.keeps (h : w.Answered w' n tag code y) {α : Type} (g : Replica → α)
    (hg : ∀ (v : Replica) (sessions : Vector Session 16) (tags : List TagEntry) (jq : List JEntry) (tx : List Tx),
      g { v with hosts := { v.hosts with sessions, tags }, jq := jq, tx := tx } = g v := by exact fun _ _ _ _ _ => rfl) : g w' = g w := by
  obtain ⟨sessions, tags, jq, rfl, hprincipal⟩ := h
  exact hg w _ _ _ _

theorem Replica.Answered.principal (h : w.Answered w' n tag code y) : (w'.ses n).principal = (w.ses n).principal := by
  obtain ⟨sessions, tags, jq, rfl, hprincipal⟩ := h
  exact hprincipal

theorem Replica.Answered.respond (hopen : (w.ses n).phase = 3) : w.Answered (w.respond n tag code y).flushed n tag code y := by
  refine ⟨vput w.hosts.sessions n { w.ses n with waiting := (w.ses n).waiting - 1 }, if (w.ses n).major = 2 then keepTags w.hosts.tags
    { principal := (w.ses n).principal, tag, code, status := y.status, handle := y.handle, body := leBytes 4 y.detail ++ y.body }
    else w.hosts.tags, [], ?_, ?_⟩
  · unfold Replica.respond
    dsimp only
    rw [if_pos hopen]
    by_cases hmajor : (w.ses n).major = 2
    · simp only [if_pos hmajor, Replica.setSes, Replica.withHosts, Replica.send, Replica.flushed]
    · simp only [if_neg hmajor, Replica.setSes, Replica.withHosts, Replica.send, Replica.flushed]
  · rw [vget_vput_same _ _ _ _ n.isLt]

end

section
variable {s : State} {p : Pav} {n : Sess} {tag code : Nat} {roles : List Nat} {lock : Bool}

/-- The replica of a pavilion as a logged effect finds it. -/
def State.view (s : State) (p : Pav) : Replica := (s.site.pav p).rep.clock s.site.now

theorem Replica.command_of_maySend {r : Replica} (hmay : r.maySend n roles lock) (f : Replica → Replica × Resp) :
    r.command n tag code roles lock f = (f r).1.respond n tag code (f r).2 := by
  obtain ⟨hopen, hadmits⟩ := hmay
  have hlive : (r.ses n).live = true := by simp [Session.live, hopen]
  simp only [Replica.command, hlive, hadmits, Bool.not_true, Bool.false_eq_true, if_false]

section
variable (hstep : (s.site.pav p).inStep = true) (hmay : (s.view p).maySend n roles lock)
include hstep hmay

/-- A command that the session may send is carried out and answered. -/
theorem State.host_answers {f : Site → Replica → Replica × Resp} {w : Replica} {y : Resp} (hf : f s.site (s.view p) = (w, y))
    (hopen : (w.ses n).phase = 3) : ∃ t : State, s.host n tag code roles lock f = .next t ∧ w.Answered (t.site.pav p).rep n tag code y := by
  obtain ⟨t, hrun, hrep⟩ := State.onLog_of_eq (f := fun t r => r.command n tag code roles lock (f t)) hstep
    (Replica.command_of_maySend hmay (f s.site))
  refine ⟨t, hrun, ?_⟩
  rw [hrep, hf]
  exact .respond hopen

/-- A command that changes nothing is answered. -/
theorem State.host_gets {f : Site → Replica → Replica × Resp} {y : Resp} (hf : f s.site (s.view p) = (s.view p, y)) :
    ∃ t : State, s.host n tag code roles lock f = .next t ∧ (t.site.pav p).rep.answers n tag code y := by
  obtain ⟨t, hrun, hdone⟩ := State.host_answers (tag := tag) (code := code) hstep hmay hf hmay.1
  exact ⟨t, hrun, hdone.answers⟩

/-- A command with an effect on the site is answered, and then takes effect. -/
theorem State.hostSite_answers (hlead : s.site.leader = some p) {f : Site → Resp × (Site → Site)} {y : Resp} {g : Site → Site}
    (hf : f s.site = (y, g)) : ∃ h : Replica → Replica, s.hostSite n tag code roles lock f = .next { s with site := g (s.site.onLog h) } ∧
      ((s.site.onLog h).pav p).rep.answers n tag code y := by
  have hmay' : (s.site.pav p).rep.maySend n roles lock := hmay
  obtain ⟨hopen, hadmits⟩ := hmay'
  have hlive : ((s.site.pav p).rep.ses n).live = true := by simp [Session.live, hopen]
  refine ⟨fun r => r.command n tag code roles lock fun r => (r, y), State.run_of_eq ?_, ?_⟩
  · simp only [hlead, hlive, hadmits, hf, Option.isNone_none, Bool.and_self, if_true]
  · rw [Site.rep_onLog _ hstep]
    change ((s.view p).command n tag code roles lock fun r => (r, y)).flushed.answers n tag code y
    rw [Replica.command_of_maySend hmay]
    exact (Replica.Answered.respond hmay.1).answers

end

end

/-! ### The phase of a session -/

/-- The phase of a session: none of the steps below opens or closes one. -/
def Replica.sesPhase (r : Replica) (n : Nat) : Nat := (r.ses n).phase

section
variable (r : Replica) (n : Nat)

@[simp] theorem Replica.sesPhase_wr (f : Field) (v i : Nat) : (r.wr f v i).sesPhase n = r.sesPhase n := rfl
@[simp] theorem Replica.sesPhase_raise (f : Field) (i : Nat) : (r.raise f i).sesPhase n = r.sesPhase n := rfl
@[simp] theorem Replica.sesPhase_send (x : Tx) : (r.send x).sesPhase n = r.sesPhase n := rfl
@[simp] theorem Replica.sesPhase_setVs (o : Nat) (x : VehSession) : (r.setVs o x).sesPhase n = r.sesPhase n := rfl
@[simp] theorem Replica.sesPhase_setOut (o : Nat) (x : OutletLoop) : (r.setOut o x).sesPhase n = r.sesPhase n := rfl
@[simp] theorem Replica.sesPhase_setSo (o : Nat) (x : SafetyOutlet) : (r.setSo o x).sesPhase n = r.sesPhase n := rfl
@[simp] theorem Replica.sesPhase_setDl (d : Nat) (x : DispLink) : (r.setDl d x).sesPhase n = r.sesPhase n := rfl
@[simp] theorem Replica.sesPhase_setMeter (o : Nat) (m : Meter) : (r.setMeter o m).sesPhase n = r.sesPhase n := rfl
@[simp] theorem Replica.sesPhase_legalEvent (v : Env) (code o tx : Nat) (detail : List Byte) :
    (r.legalEvent v code o tx detail).sesPhase n = r.sesPhase n := rfl
@[simp] theorem Replica.sesPhase_legalWrite (addr : Nat) (data : List Byte) (forSave : Option Nat) :
    (r.legalWrite addr data forSave).sesPhase n = r.sesPhase n := rfl
@[simp] theorem Replica.sesPhase_writeVeh (o : Nat) (x : Nat × Nat × Nat × Nat) : (r.writeVeh o x).sesPhase n = r.sesPhase n := rfl
@[simp] theorem Replica.sesPhase_adoptSafety (o : Nat) : (r.adoptSafety o).sesPhase n = r.sesPhase n := rfl
@[simp] theorem Replica.sesPhase_endInj (i code : Nat) : (r.endInj i code).sesPhase n = r.sesPhase n := rfl

theorem Replica.sesPhase_withHosts {f : Hosts → Hosts} (hf : ∀ h, (f h).sessions = h.sessions) :
    (r.withHosts f).sesPhase n = r.sesPhase n := congrArg (fun x => (vget x n {}).phase) (hf r.hosts)

@[simp] theorem Replica.sesPhase_setCtx (cls k : Nat) (x : Option KeyContext) : (r.setCtx cls k x).sesPhase n = r.sesPhase n := by
  unfold Replica.setCtx
  split <;> rfl

theorem Replica.sesPhase_setSes {k : Nat} {x : Session} (hphase : x.phase = r.sesPhase k) : (r.setSes k x).sesPhase n = r.sesPhase n := by
  change (vget (vput r.hosts.sessions k x) n {}).phase = _
  by_cases hk : n = k
  · subst hk
    by_cases hn : n < 16
    · rw [vget_vput_same _ _ _ _ hn, hphase]
    · simp [Replica.sesPhase, Replica.ses, vget, hn]
  · rw [vget_vput_ne _ _ _ _ _ hk]
    rfl

@[simp] theorem Replica.sesPhase_sessionEvent (k code : Nat) (data : List Nat) : (r.sessionEvent k code data).sesPhase n = r.sesPhase n := by
  unfold Replica.sessionEvent
  dsimp only
  split
  · rfl
  · split
    · exact r.sesPhase_setSes n rfl
    · exact r.sesPhase_setSes n rfl

@[simp] theorem Replica.sesPhase_eventClass (cls code : Nat) (data : List Nat) : (r.eventClass cls code data).sesPhase n = r.sesPhase n :=
  foldl_keeps (·.sesPhase n) (fun r k => r.sesPhase_sessionEvent n k code data) _ r

@[simp] theorem Replica.sesPhase_journal (now location instNo outcome reaction cause : Nat) (detail : List Byte) :
    (r.journal now location instNo outcome reaction cause detail).sesPhase n = r.sesPhase n :=
  Replica.sesPhase_eventClass _ n _ _ _

/-! ### The steps by which an outlet leaves service keep every session (R592) -/

@[simp] theorem Replica.sesPhase_countSlots (v : Env) : (r.countSlots v).sesPhase n = r.sesPhase n := by
  unfold Replica.countSlots
  dsimp only
  split <;> split <;> simp

@[simp] theorem Replica.sesPhase_putSlot (v : Env) (k : Nat) (x : LegalSlot) : (r.putSlot v k x).sesPhase n = r.sesPhase n :=
  Replica.sesPhase_countSlots _ n v

@[simp] theorem Replica.sesPhase_adoptMeter (v : Env) (o : Nat) : (r.adoptMeter v o).sesPhase n = r.sesPhase n := by
  unfold Replica.adoptMeter
  dsimp only
  split
  · rfl
  · split <;> split <;> simp

@[simp] theorem Replica.sesPhase_releaseSlot (v : Env) (o : Nat) : (r.releaseSlot v o).sesPhase n = r.sesPhase n := by
  unfold Replica.releaseSlot
  split <;> simp

@[simp] theorem Replica.sesPhase_endSession (v : Env) (o : Nat) : (r.endSession v o).sesPhase n = r.sesPhase n := by
  simp [Replica.endSession]

@[simp] theorem Replica.sesPhase_endInjOn (o code : Nat) : (r.endInjOn o code).sesPhase n = r.sesPhase n :=
  foldl_keeps (·.sesPhase n) (fun r i => by split <;> simp) _ r

@[simp] theorem Replica.sesPhase_writeMode (o m : Nat) : (r.writeMode o m).sesPhase n = r.sesPhase n := by
  unfold Replica.writeMode
  dsimp only
  split <;> split <;> simp

@[simp] theorem Replica.sesPhase_setOstate (v : Env) (o st : Nat) (cause : Option Nat) : (r.setOstate v o st cause).sesPhase n = r.sesPhase n := by
  cases cause <;> simp [Replica.setOstate]

@[simp] theorem Replica.sesPhase_stopOutlet (v : Env) (o cause : Nat) : (r.stopOutlet v o cause).sesPhase n = r.sesPhase n := by
  unfold Replica.stopOutlet
  dsimp only
  split <;> simp

@[simp] theorem Replica.sesPhase_outSend (o type : Nat) (body : List Nat) : (r.outSend o type body).sesPhase n = r.sesPhase n := by
  unfold Replica.outSend Replica.dlpSend Replica.dlpOut
  dsimp only
  split <;> simp

@[simp] theorem Replica.sesPhase_setHead (o st : Nat) : (r.setHead o st).sesPhase n = r.sesPhase n := by
  unfold Replica.setHead
  dsimp only
  split <;> simp

@[simp] theorem Replica.sesPhase_startHead (o : Nat) : (r.startHead o).sesPhase n = r.sesPhase n := by
  simp [Replica.startHead]

@[simp] theorem Replica.sesPhase_renewHead (o st : Nat) : (r.renewHead o st).sesPhase n = r.sesPhase n := by
  unfold Replica.renewHead
  split <;> simp

@[simp] theorem Replica.sesPhase_moveSafety (v : Env) (o : Nat) : (r.moveSafety v o).sesPhase n = r.sesPhase n := by
  unfold Replica.moveSafety
  split <;> simp

theorem Replica.sesPhase_entryEffects_osStopping (v : Env) (o old cause : Nat) :
    (r.entryEffects v o old osStopping cause).sesPhase n = r.sesPhase n := rfl

theorem Replica.sesPhase_entryEffects_osUnavailable (v : Env) (o old cause : Nat) :
    (r.entryEffects v o old osUnavailable cause).sesPhase n = r.sesPhase n := r.sesPhase_endSession n v o

/-- A transition closes no session where entering the state does not. -/
theorem Replica.sesPhase_goto {v : Env} {o st : Nat} (cause : Option Nat)
    (hentry : ∀ (r : Replica) (old cause : Nat), (r.entryEffects v o old st cause).sesPhase n = r.sesPhase n) :
    (r.goto v o st cause).sesPhase n = r.sesPhase n := by
  unfold Replica.goto
  dsimp only
  split <;> simp [hentry]

theorem Replica.sesPhase_leaveService (v : Env) : (r.leaveService v).sesPhase n = r.sesPhase n :=
  Replica.eachOut_keeps (·.sesPhase n) (fun o r => by
    dsimp only
    split
    · simp
    · split
      · exact Replica.sesPhase_goto _ n _ fun r old cause => r.sesPhase_entryEffects_osStopping n v o old cause
      · split
        · rfl
        · exact Replica.sesPhase_goto _ n _ fun r old cause => r.sesPhase_entryEffects_osUnavailable n v o old cause) r

/-- A replica that begins the entry into RETURN (R592). -/
def Replica.returnBegun (v : Env) : Replica := (r.leaveService v).withHosts fun h => { h with ret := none, returning := .closing }

theorem Replica.sesPhase_returnBegun (v : Env) : (r.returnBegun v).sesPhase n = r.sesPhase n := by
  rw [Replica.returnBegun, Replica.sesPhase_withHosts _ n (by exact fun _ => rfl), Replica.sesPhase_leaveService]

end

/-! ### Operations and the slots of the legal log (R347, R441) -/

section
variable (r : Replica) {n : Nat}

/-- A replica that holds one more operation. -/
def Replica.withOp (x : HostOp) (counters : Sparse Nat) : Replica :=
  (r.withHosts fun h => { h with ops := h.ops ++ [x], counters }).countHandles

/-- The counter of the next handle at an index. -/
def Replica.nextCounter (i : Nat) : Nat := Sparse.get 0 r.hosts.counters i % 255 + 1

/-- An operation with room for it is accepted (R441). -/
theorem Replica.newOp_of_opRoom (v : Env) (kind : OpKind) (hroom : r.opRoom n) : ∃ (x : HostOp) (counters : Sparse Nat),
    r.newOp v n kind = (r.withOp x counters, { status := hsAccepted, handle := x.handle }) ∧
      x.kind = kind ∧ x.done = false ∧ x.principal = (r.ses n).principal := by
  obtain ⟨⟨k, hk, hunused⟩, hquota⟩ := hroom
  obtain ⟨i, hi⟩ : ∃ i, (List.range 512).find? (fun i => !(r.hosts.ops.any fun x => x.index = i)) = some i :=
    Option.isSome_iff_exists.1 (List.find?_isSome.2 ⟨k, List.mem_range.2 hk, by simpa using hunused⟩)
  refine ⟨{ index := i, gen := r.nextCounter i * 256 + v.boot % 256, principal := (r.ses n).principal, kind },
    Sparse.put 0 r.hosts.counters i (r.nextCounter i), ?_, rfl, rfl, rfl⟩
  unfold Replica.newOp
  rw [hi]
  exact if_neg (Nat.not_le.2 hquota)

theorem Replica.legal_eventClass (cls code : Nat) (data : List Nat) : (r.eventClass cls code data).legal = r.legal := by
  obtain ⟨regs, hosts, jq, tx, heq, hrd⟩ := r.reported_eventClass cls code data
  rw [heq]

/-- Counting the slots changes none of them. -/
theorem Replica.slots_countSlots (v : Env) : (r.countSlots v).legal.slots = r.legal.slots := by
  have hevent : ∀ (r : Replica) (code o tx : Nat), (r.legalEvent v code o tx []).legal.slots = r.legal.slots := fun _ _ _ _ => rfl
  unfold Replica.countSlots
  dsimp only
  split <;> split <;> simp [Replica.legal_eventClass, hevent]

theorem Replica.slot_putSlot (v : Env) (k : Nat) (x : LegalSlot) : (r.putSlot v k x).slot k = x := by
  change Sparse.get {} (r.putSlot v k x).legal.slots k = x
  rw [Replica.putSlot, Replica.slots_countSlots]
  exact Sparse.get_put_same {} r.legal.slots k x

/-! ### What a journal entry leaves of the hosts -/

/-- What the hosts hold besides their sessions. -/
def Hosts.besides (h : Hosts) : Hosts := { h with sessions := Vector.replicate 16 {} }

theorem Replica.besides_sessionEvent (k code : Nat) (data : List Nat) : (r.sessionEvent k code data).hosts.besides = r.hosts.besides := by
  unfold Replica.sessionEvent
  dsimp only
  split
  · rfl
  · split <;> rfl

theorem Replica.besides_journal (now location instNo outcome reaction cause : Nat) (detail : List Byte) :
    (r.journal now location instNo outcome reaction cause detail).hosts.besides = r.hosts.besides :=
  foldl_keeps (fun r : Replica => r.hosts.besides) (fun r k => Replica.besides_sessionEvent r k _ _) _ _

end

/-! ### What the effects on the site read and write -/

theorem Site.handbackFree_onLog (t : Site) (h : Replica → Replica) : (t.onLog h).handbackFree = t.handbackFree := by
  have hback := Site.onLog_keeps (·.handbackAt) (fun _ _ _ => rfl) t h
  have hdiv := Site.onLog_keeps (·.div) (fun _ _ _ => rfl) t h
  simp only [Site.handbackFree, Site.redundant, Site.onLog_role, hback, hdiv]

theorem Site.leader_onLog (t : Site) (h : Replica → Replica) : (t.onLog h).leader = t.leader := by
  have hclaim : ∀ q, ((t.onLog h).pav q).loc.rd .FBR_PRESENT_OWN = (t.pav q).loc.rd .FBR_PRESENT_OWN :=
    fun q => congrArg (·.rd .FBR_PRESENT_OWN 0) (t.onLog_regs h q)
  simp only [Site.leader, Site.onLog_role, hclaim]

/-- What a bank's restoration leaves in the common block (R413). -/
def Common.restored (c : Common) (b : Bank) (pass : Bool) : Common :=
  if pass then
    (bankChans b).foldl (fun c i => c.setCh i chOff) { c.wr .LSW_STATUS_BANK_IN (putBit (c.rd .LSW_STATUS_BANK_IN) b true) with
      lsw := { c.lsw with out := putBit c.lsw.out b false } }
  else c.raise .LSW_EVENT_SWITCH_FAULT

theorem Site.restoreBank_of_out {t : Site} {b : Bank} (hout : bitOf t.com.lsw.out b = true) (pass : Bool) :
    t.restoreBank b pass = t.modCom fun c => c.restored b pass := by
  cases pass <;> simp [Site.restoreBank, hout, Common.restored]

/-- Switching channels leaves the banks alone. -/
theorem Common.bank_setCh (c : Common) (i st : Nat) :
    ((c.setCh i st).rd .LSW_STATUS_BANK_IN, (c.setCh i st).lsw.out) = (c.rd .LSW_STATUS_BANK_IN, c.lsw.out) := by
  unfold Common.setCh
  split <;> simp (disch := decide) only [Common.rd_wr_of_ne] <;> rfl

theorem Common.restored_pass (c : Common) (b : Bank) :
    bitOf ((c.restored b true).rd .LSW_STATUS_BANK_IN) b = true ∧ bitOf (c.restored b true).lsw.out b = false := by
  have hbank : ((c.restored b true).rd .LSW_STATUS_BANK_IN, (c.restored b true).lsw.out) =
      (putBit (c.rd .LSW_STATUS_BANK_IN) b true % 2 ^ 4, putBit c.lsw.out b false) :=
    (foldl_keeps (fun c : Common => (c.rd .LSW_STATUS_BANK_IN, c.lsw.out)) (fun c i => c.bank_setCh i chOff) _ _).trans
      (congrArg (·, putBit c.lsw.out b false) (Regs.rd_wr_same c.regs .LSW_STATUS_BANK_IN _ 0))
  obtain ⟨hin, hout⟩ := Prod.mk.inj hbank
  refine ⟨by rw [hin]; exact bitOf_putBit_true _ b.isLt, ?_⟩
  have hbit := bitOf_putBit_false c.lsw.out b (b + 1)
  rw [hout]
  simpa [bitOf, Nat.testBit_mod_two_pow] using hbit

/-! ### What the vendor's requests do (R595) -/

/-- A request for a challenge: in RETURN a free value is held and answered. -/
def Replica.unlockChallenge (t : Site) (r : Replica) : Replica × Resp :=
  if r.lifeCycle ≠ lcReturn then (r, refuse hsNotPermitted)
  else (r.withHosts fun h => { h with chal := some (Config.freeBytes t.free 16, t.ticks) }, { body := Config.freeBytes t.free 16 })

/-- A challenge takes a free value. -/
theorem execServiceUnlockChallenge_of_next {s t : State} {n : Sess} {tag : Nat}
    (hrun : s.host n tag 0x0406 [3] false Replica.unlockChallenge = .next t) :
    execServiceUnlockChallenge n tag s = .next { t with site := { t.site with free := s.site.free + 1 } } := by
  unfold Replica.unlockChallenge at hrun
  rw [execServiceUnlockChallenge, hrun]

/-- A replica whose service port is open, before its journal entry. -/
def Replica.serviceOpen (r : Replica) : Replica := r.withHosts fun h => { h with servicePort := true, chal := none }

/-! ### Logs and attestation (R347, R451) -/

theorem padTo_length (n : Nat) (bs : List Byte) : (padTo n bs).length = n := by
  simp only [padTo, List.length_append, List.length_take, List.length_replicate]
  omega

section
variable {s : State} {p : Pav} {n : Sess} {tag : Nat} (hstep : (s.site.pav p).inStep = true)
include hstep

section
variable (hmay : (s.view p).maySend n rolesAny false)
include hmay

theorem execLogRead_of_room {log start count : Nat} (hlog : log ≤ 4)
    (hstart : start < (if log = 0 then 4096 else if log = 4 then 32 else 2 ^ 32)) (hcount : count ≤ 512)
    (hfits : (s.view p).resultFits (.log log start count) = true) (hroom : (s.view p).opRoom n) : ∃ t : State,
      execLogRead n tag log start count s = .next t ∧ (t.site.pav p).rep.accepts n tag 0x0701 (.log log start count) := by
  obtain ⟨x, counters, hop, hkind, hdone, hprincipal⟩ := (s.view p).newOp_of_opRoom s.site.env (.log log start count) hroom
  obtain ⟨t, hrun, hanswered⟩ : ∃ t : State, execLogRead n tag log start count s = .next t ∧
      ((s.view p).withOp x counters).Answered (t.site.pav p).rep n tag 0x0701 { status := hsAccepted, handle := x.handle } :=
    State.host_answers hstep hmay (by
      dsimp only
      rw [if_neg (Nat.not_lt.2 hlog), if_neg (Nat.not_le.2 hstart), if_neg (Nat.not_lt.2 hcount), hfits, hop]
      rfl) hmay.1
  refine ⟨t, hrun, x, ?_, hkind, hdone, ?_, hanswered.answers⟩
  · rw [hanswered.keeps (·.hosts.ops)]
    exact List.mem_append_right _ (List.mem_singleton.2 rfl)
  · rw [hanswered.principal, hprincipal]
    rfl

theorem execLogRead_of_unknown {log start count : Nat} (hlog : 4 < log) : ∃ t : State, execLogRead n tag log start count s = .next t ∧
    (t.site.pav p).rep.answers n tag 0x0701 (refuse hsBadValue 16) := State.host_gets hstep hmay (if_pos hlog)

theorem execDeviceAttest_of_no_key (nonce : List Byte) (hkey : (s.view p).keyOf 11 = none) : ∃ t : State,
    execDeviceAttest n tag nonce s = .next t ∧ (t.site.pav p).rep.answers n tag 0x0401 (refuse hsFailed 0x0B) :=
  State.host_gets hstep hmay (by
    dsimp only
    rw [hkey])

/-- An attestation names UNIT, model and life cycle; 35 bytes of state and the MAC follow. -/
theorem execDeviceAttest_of_key (nonce : List Byte) {k : Nat} (hkey : (s.view p).keyOf 11 = some k) : ∃ b : List Byte, b.length = 51 ∧
    ∃ t : State, execDeviceAttest n tag nonce s = .next t ∧ (t.site.pav p).rep.answers n tag 0x0401
      { body := leBytes 8 Config.unitId ++ leBytes 4 0x24480002 ++ leBytes 1 (s.view p).lifeCycle ++ b } := by
  refine ⟨_, ?_, State.host_gets hstep hmay (by
    dsimp only
    rw [hkey]
    simp only [List.append_assoc]
    rfl)⟩
  simp [leBytes_length, padTo_length]

end

section
variable (hmay : (s.view p).maySend n rolesOp false) {slot : Nat} (hslot : slot < 4096) (hclosed : ((s.view p).slot slot).state = 2)
include hmay hslot hclosed

theorem execLogAck_of_read (hread : 0 < ((s.view p).slot slot).readouts) : ∃ t : State,
    execLogAck n tag slot ((s.view p).slot slot).txNo s = .next t ∧ (t.site.pav p).rep.answers n tag 0x0702 {} ∧
      (t.site.pav p).rep.slot slot = { (s.view p).slot slot with state := 3, ackSeq := s.site.logSeq } := by
  obtain ⟨t, hrun, hanswered⟩ : ∃ t : State, execLogAck n tag slot ((s.view p).slot slot).txNo s = .next t ∧
      ((s.view p).putSlot s.site.env slot { (s.view p).slot slot with state := 3, ackSeq := s.site.logSeq }).Answered (t.site.pav p).rep n tag
        0x0702 {} :=
    State.host_answers hstep hmay (by simp [Nat.not_le.2 hslot, hclosed, Nat.ne_of_gt hread])
      ((Replica.sesPhase_putSlot _ n _ _ _).trans hmay.1)
  exact ⟨t, hrun, hanswered.answers, (hanswered.keeps (·.slot slot)).trans ((s.view p).slot_putSlot _ _ _)⟩

theorem execLogAck_of_unread (hunread : ((s.view p).slot slot).readouts = 0) : ∃ t : State,
    execLogAck n tag slot ((s.view p).slot slot).txNo s = .next t ∧ (t.site.pav p).rep.answers n tag 0x0702 (refuse hsWrongState) :=
  State.host_gets hstep hmay (by simp [Nat.not_le.2 hslot, hclosed, hunread])

end

/-! ### Return to the maker (R450, R592) -/

section
variable (hmay : (s.view p).maySend n rolesBoth false) {nonce : List Byte} (hnonce : nonce.length = 8)
include hmay hnonce

theorem execDeviceReturn_of_lifeCycle (hlife : (s.view p).lifeCycle ≠ 2) : ∃ t : State, execDeviceReturn n tag nonce s = .next t ∧
    (t.site.pav p).rep.answers n tag 0x0405 (refuse hsWrongState) := State.host_gets hstep hmay (by simp [hnonce, hlife])

section
variable (hlife : (s.view p).lifeCycle = 2) (hno : (s.view p).hosts.returning = .no)
include hlife hno

/-- The first role's request is held until the other one's. -/
theorem execDeviceReturn_of_first (hret : (s.view p).hosts.ret = none) : ∃ t : State, execDeviceReturn n tag nonce s = .next t ∧
    (t.site.pav p).rep.answers n tag 0x0405 { detail := 1 } ∧ (t.site.pav p).rep.hosts.ret = some (((s.view p).ses n).role, nonce) ∧
      (t.site.pav p).rep.hosts.returning = .no := by
  obtain ⟨t, hrun, hanswered⟩ : ∃ t : State, execDeviceReturn n tag nonce s = .next t ∧
      ((s.view p).withHosts fun h => { h with ret := some (((s.view p).ses n).role, nonce) }).Answered (t.site.pav p).rep n tag 0x0405
        { detail := 1 } := State.host_answers hstep hmay (by simp [hnonce, hlife, hno, hret]) hmay.1
  exact ⟨t, hrun, hanswered.answers, hanswered.keeps (·.hosts.ret), (hanswered.keeps (·.hosts.returning)).trans hno⟩

/-- The other role's request with the same nonce begins the entry into RETURN. -/
theorem execDeviceReturn_of_second {role : Nat} (hret : (s.view p).hosts.ret = some (role, nonce)) (hrole : role ≠ ((s.view p).ses n).role)
    (hops : (s.view p).hosts.ops = []) (hphase : (s.view p).phase = 0) : ∃ t : State, execDeviceReturn n tag nonce s = .next t ∧
      (t.site.pav p).rep.answers n tag 0x0405 { detail := 2 } ∧ (t.site.pav p).rep.hosts.returning = .closing := by
  have hidle : ∀ k, (s.view p).running k = [] := fun k => by simp [Replica.running, hops]
  obtain ⟨t, hrun, hanswered⟩ : ∃ t : State, execDeviceReturn n tag nonce s = .next t ∧
      ((s.view p).returnBegun s.site.env).Answered (t.site.pav p).rep n tag 0x0405 { detail := 2 } :=
    State.host_answers hstep hmay (by simp [hnonce, hlife, hno, hret, hrole, hidle, hphase, Replica.returnBegun])
      (((s.view p).sesPhase_returnBegun n s.site.env).trans hmay.1)
  exact ⟨t, hrun, hanswered.answers, hanswered.keeps (·.hosts.returning)⟩

end

end

/-! ### Opening the service port (R595) -/

section
variable (hmay : (s.view p).maySend n [3] false)
include hmay

theorem execServiceUnlockChallenge_of_return (hlife : (s.view p).lifeCycle = lcReturn) : ∃ t : State,
    execServiceUnlockChallenge n tag s = .next t ∧
      (t.site.pav p).rep.hosts.chal = some (Config.freeBytes s.site.free 16, s.site.ticks) ∧
      (t.site.pav p).rep.answers n tag 0x0406 { body := Config.freeBytes s.site.free 16 } := by
  obtain ⟨t, hrun, hanswered⟩ := State.host_answers (tag := tag) (code := 0x0406) hstep hmay (f := Replica.unlockChallenge)
    (if_neg (not_not.2 hlife)) hmay.1
  refine ⟨_, execServiceUnlockChallenge_of_next hrun, ?_⟩
  change (t.site.pav p).rep.hosts.chal = _ ∧ (t.site.pav p).rep.answers _ _ _ _
  exact ⟨hanswered.keeps (·.hosts.chal), hanswered.answers⟩

theorem execServiceUnlockChallenge_of_not_return (hlife : (s.view p).lifeCycle ≠ lcReturn) : ∃ t : State,
    execServiceUnlockChallenge n tag s = .next t ∧ (t.site.pav p).rep.answers n tag 0x0406 (refuse hsNotPermitted) := by
  obtain ⟨t, hrun, hanswers⟩ := State.host_gets (tag := tag) (code := 0x0406) hstep hmay (f := Replica.unlockChallenge) (if_pos hlife)
  exact ⟨_, execServiceUnlockChallenge_of_next hrun, hanswers⟩

section
variable (hlife : (s.view p).lifeCycle = lcReturn) {chal : List Byte}
include hlife

theorem execServiceUnlockOpen_of_other_unit {unit : Nat} (hunit : unit ≠ Config.unitId) (sigOk : Bool) : ∃ t : State,
    execServiceUnlockOpen n tag unit chal sigOk s = .next t ∧ (t.site.pav p).rep.answers n tag 0x0406 (refuse hsFailed 1) :=
  State.host_gets hstep hmay (by simp only [hlife, ne_eq, not_true_eq_false, if_false, hunit, not_false_eq_true, if_true])

theorem execServiceUnlockOpen_of_no_challenge (hchal : (s.view p).hosts.chal = none) (sigOk : Bool) : ∃ t : State,
    execServiceUnlockOpen n tag Config.unitId chal sigOk s = .next t ∧ (t.site.pav p).rep.answers n tag 0x0406 (refuse hsFailed 2) :=
  State.host_gets hstep hmay (by simp [hlife, hchal])

section
variable {at' : Nat} (hchal : (s.view p).hosts.chal = some (chal, at')) (hfresh : s.site.ticks < at' + 12000000000)
include hchal hfresh

theorem execServiceUnlockOpen_of_bad_signature : ∃ t : State, execServiceUnlockOpen n tag Config.unitId chal false s = .next t ∧
    (t.site.pav p).rep.answers n tag 0x0406 (refuse hsFailed 3) := State.host_gets hstep hmay (by simp [hlife, hchal, hfresh])

theorem execServiceUnlockOpen_of_good : ∃ t : State, execServiceUnlockOpen n tag Config.unitId chal true s = .next t ∧
    (t.site.pav p).rep.answers n tag 0x0406 {} ∧ (t.site.pav p).rep.hosts.servicePort = true ∧ (t.site.pav p).rep.hosts.chal = none := by
  obtain ⟨t, hrun, hanswered⟩ : ∃ t : State, execServiceUnlockOpen n tag Config.unitId chal true s = .next t ∧
      ((s.view p).serviceOpen.journal s.site.now locAon 0xFF detected reLogged 0).Answered (t.site.pav p).rep n tag 0x0406 {} :=
    State.host_answers hstep hmay (by simp [hlife, hchal, hfresh, Replica.serviceOpen])
      ((Replica.sesPhase_journal _ n _ _ _ _ _ _ _).trans hmay.1)
  have hhosts := Replica.besides_journal (s.view p).serviceOpen s.site.now locAon 0xFF detected reLogged 0 []
  exact ⟨t, hrun, hanswered.answers, (hanswered.keeps (·.hosts.servicePort)).trans (congrArg Hosts.servicePort hhosts),
    (hanswered.keeps (·.hosts.chal)).trans (congrArg Hosts.chal hhosts)⟩

end

end

end

/-! ### Commands with an effect on the site (R104, R413, R440) -/

section
variable (hlead : s.site.leader = some p)
include hlead

section
variable (hmay : (s.view p).maySend n rolesBoth false)
include hmay

/-- A yield where a handback may start orders it for both pavilions. -/
theorem execPavilionYield_of_free (hfree : s.site.handbackFree = true) (hphase : (s.view p).phase < 2) (hroom : (s.site.pav p).loc.logRoom) :
    ∃ (t : State) (x : Nat), execPavilionYield n tag s = .next t ∧ (t.site.pav p).rep.answers n tag 0x0402 {} ∧
      ∀ q : Pav, (t.site.pav q).loc.handbackAt = some x := by
  have hphase' : (s.site.pav p).rep.phase < 2 := hphase
  obtain ⟨h, hrun, hanswers⟩ : ∃ h : Replica → Replica, execPavilionYield n tag s = .next { s with site := (s.site.onLog h).yield } ∧
      ((s.site.onLog h).pav p).rep.answers n tag 0x0402 {} :=
    State.hostSite_answers hstep hmay hlead (by simp [hlead, hfree, Nat.not_le.2 hphase'])
  have hlead' := (s.site.leader_onLog h).trans hlead
  have hroom' : ((s.site.onLog h).pav p).loc.logRoom :=
    ⟨(Site.onLog_keeps (·.inputs) (fun _ _ _ => rfl) s.site h p).trans hroom.1,
      (Site.onLog_keeps (·.log.length) (fun _ _ _ => rfl) s.site h p).trans_lt hroom.2⟩
  have hyield : (s.site.onLog h).yield = (s.site.onLog h).orderHandback := if_pos ((s.site.handbackFree_onLog h).trans hfree)
  refine ⟨_, (s.site.onLog h).handbackTick, hrun, ?_, fun q => ?_⟩
  · rw [hyield, Site.orderHandback_of_logRoom hlead' hroom']
    simpa only [Site.handbackBoth, Site.rep_modLoc] using hanswers
  · rw [hyield, Site.handbackAt_orderHandback hlead' hroom']

theorem execPavilionYield_of_busy (hbusy : s.site.handbackFree = false ∨ 2 ≤ (s.view p).phase) : ∃ t : State,
    execPavilionYield n tag s = .next t ∧ (t.site.pav p).rep.answers n tag 0x0402 (refuse hsBusy) := by
  have hbusy' : s.site.handbackFree = false ∨ 2 ≤ (s.site.pav p).rep.phase := hbusy
  obtain ⟨h, hrun, hanswers⟩ : ∃ h : Replica → Replica, execPavilionYield n tag s = .next { s with site := id (s.site.onLog h) } ∧
      ((s.site.onLog h).pav p).rep.answers n tag 0x0402 (refuse hsBusy) :=
    State.hostSite_answers hstep hmay hlead (by simp [hlead, hbusy'])
  exact ⟨_, hrun, hanswers⟩

end

section
variable (hmay : (s.view p).maySend n rolesOem false)
include hmay

theorem execPavilionRejoin_of_lt {pav : Nat} (hpav : pav < 2) : ∃ t : State, execPavilionRejoin n tag pav s = .next t ∧
    (t.site.pav p).rep.answers n tag 0x0403 {} ∧ (t.site.pav (if pav = 0 then .A else .B)).loc.heldOut = false := by
  obtain ⟨h, hrun, hanswers⟩ : ∃ h : Replica → Replica, execPavilionRejoin n tag pav s = .next { s with
      site := (s.site.onLog h).rejoin (if pav = 0 then .A else .B) } ∧ ((s.site.onLog h).pav p).rep.answers n tag 0x0403 {} :=
    State.hostSite_answers (g := fun t => t.rejoin (if pav = 0 then .A else .B)) hstep hmay hlead (if_neg (Nat.not_le.2 hpav))
  refine ⟨_, hrun, ?_, ?_⟩
  · rwa [Site.rejoin, Site.rep_modLoc]
  · rw [Site.rejoin, Site.pav_modLoc_same]

theorem execPavilionRejoin_of_le {pav : Nat} (hpav : 2 ≤ pav) : ∃ t : State, execPavilionRejoin n tag pav s = .next t ∧
    (t.site.pav p).rep.answers n tag 0x0403 (refuse hsBadValue 16) := by
  obtain ⟨h, hrun, hanswers⟩ : ∃ h : Replica → Replica, execPavilionRejoin n tag pav s = .next { s with site := id (s.site.onLog h) } ∧
      ((s.site.onLog h).pav p).rep.answers n tag 0x0403 (refuse hsBadValue 16) :=
    State.hostSite_answers hstep hmay hlead (if_pos hpav)
  exact ⟨_, hrun, hanswers⟩

theorem execBankRestore_of_out {b : Bank} (hout : bitOf s.site.com.lsw.out b = true) (pass : Bool) : ∃ t : State,
    execBankRestore n tag b pass s = .next t ∧ (t.site.pav p).rep.answers n tag 0x0404 {} ∧ t.site.com = s.site.com.restored b pass := by
  obtain ⟨h, hrun, hanswers⟩ : ∃ h : Replica → Replica, execBankRestore n tag b pass s = .next { s with
      site := (s.site.onLog h).restoreBank b pass } ∧ ((s.site.onLog h).pav p).rep.answers n tag 0x0404 {} :=
    State.hostSite_answers (g := fun t => t.restoreBank b pass) hstep hmay hlead (dif_pos b.isLt)
  have hrestore := Site.restoreBank_of_out (t := s.site.onLog h) hout pass
  refine ⟨_, hrun, ?_, ?_⟩
  · rw [hrestore]
    exact hanswers
  · rw [hrestore]
    rfl

end

end

end

/-- Settles O48: one lemma per outcome of each command above. -/
theorem hostDeviceCommands : Obligations.HostDeviceCommands := by
  intro p n tag s hstep r r' gets
  refine ⟨fun hmay => ⟨fun log start count hlog hstart hcount hfits hroom => ?_, fun log hlog => ?_,
      fun nonce => ⟨fun hkey => ?_, fun hkey => ?_⟩⟩,
    fun hmay slot hslot => ⟨fun hclosed hread => ?_, fun hclosed hunread => ?_⟩,
    fun hmay => ⟨fun hlead => ⟨fun hfree hphase hinputs hlen => ?_, fun hbusy => ?_⟩,
      fun nonce hnonce hlife hno => ⟨fun hret => ?_, fun role hret hrole hops hphase => ?_⟩, fun hlife nonce hnonce => ?_⟩,
    fun hlead hmay => ⟨fun pav => ⟨fun hpav => ?_, fun hpav => ?_⟩, fun b pass hout => ?_⟩,
    fun hmay => ⟨fun hlife => ⟨?_, fun unit at' chal sigOk => ⟨fun hunit => ?_, fun hchal => ?_, fun hchal hfresh => ⟨?_, ?_⟩⟩⟩,
      fun hlife => ?_⟩⟩
  · exact execLogRead_of_room hstep hmay hlog hstart hcount hfits hroom
  · exact execLogRead_of_unknown hstep hmay hlog
  · exact execDeviceAttest_of_no_key hstep hmay nonce hkey
  · obtain ⟨k, hk⟩ := Option.ne_none_iff_exists'.1 hkey
    exact execDeviceAttest_of_key hstep hmay nonce hk
  · obtain ⟨t, hrun, hanswers, (hack : (r' t).slot slot = _)⟩ := execLogAck_of_read hstep hmay hslot hclosed hread
    exact ⟨t, hrun, hanswers, by rw [hack], by rw [hack]; rfl⟩
  · exact execLogAck_of_unread hstep hmay hslot hclosed hunread
  · obtain ⟨t, x, hrun, hanswers, hback⟩ := execPavilionYield_of_free hstep hlead hmay hfree hphase ⟨hinputs, hlen⟩
    exact ⟨t, x, hrun, hanswers, hback .A, hback .B⟩
  · exact execPavilionYield_of_busy hstep hlead hmay hbusy
  · exact execDeviceReturn_of_first hstep hmay hnonce hlife hno hret
  · exact execDeviceReturn_of_second hstep hmay hnonce hlife hno hret hrole hops hphase
  · exact execDeviceReturn_of_lifeCycle hstep hmay hnonce hlife
  · exact execPavilionRejoin_of_lt hstep hlead hmay hpav
  · exact execPavilionRejoin_of_le hstep hlead hmay hpav
  · obtain ⟨t, hrun, hanswers, hcom⟩ := execBankRestore_of_out hstep hlead hmay hout pass
    refine ⟨t, hrun, hanswers, fun hpass => ?_, fun hpass => ?_⟩
    · rw [hcom, hpass]
      exact s.site.com.restored_pass b
    · rw [hcom, hpass]
      exact Common.rd_raise_same _ _ _ rfl (by decide)
  · exact execServiceUnlockChallenge_of_return hstep hmay hlife
  · exact execServiceUnlockOpen_of_other_unit hstep hmay hlife hunit sigOk
  · exact execServiceUnlockOpen_of_no_challenge hstep hmay hlife hchal sigOk
  · rintro rfl
    exact execServiceUnlockOpen_of_bad_signature hstep hmay hlife hchal hfresh
  · rintro rfl
    exact execServiceUnlockOpen_of_good hstep hmay hlife hchal hfresh
  · exact execServiceUnlockChallenge_of_not_return hstep hmay hlife

end Sys2Proof.Machine
end

section
/-! PROOFS. g0 and the accumulators of the base profile (R110, R116). -/
namespace Sys2Proof.Machine

/-- Every engine of the base profile holds zero in its eight accumulators. -/
def SiteLaw.baseAccumulators : SiteLaw where
  eng _ e en := loopProfile e = false → en.acc = Vector.replicate 8 0
  canonical := False
  fresh _ _ _ := rfl
  moves hzero hmoves hbase := by
    obtain ⟨_, _, _, _, hacc⟩ := hmoves
    exact (hacc hbase).trans (hzero hbase)
  handed _ _ hlead := hlead

/-- A buffered store is no accumulator. -/
theorem SiteLaw.baseAccumulators_takesStores : SiteLaw.baseAccumulators.TakesStores := fun _ _ hnew _ => hnew

theorem Site.meets_baseAccumulators_iff (t : Site) : t.Meets SiteLaw.baseAccumulators ↔
    ∀ (p : Pav) (e : Eng), loopProfile e = false → (t.eng p e).acc = Vector.replicate 8 0 :=
  ⟨fun h p e => h.eng p e, fun h => ⟨fun p => ⟨h p, False.elim⟩, False.elim⟩⟩

/-- Settles O58: zero accumulators in the base profile are a law of the site that takes stores, which the state after reset meets and every
step keeps (`State.reset_meets`, `step_meets`). -/
theorem baseProfileAccumulatorsStayZero : Obligations.BaseProfileAccumulatorsStayZero := by
  refine ⟨fun en => ⟨en.g_zero, fun v => congrArg Engine.gpr (en.setG_zero v)⟩, ?_, fun s t hzero hstep => ?_⟩
  · exact (Site.meets_baseAccumulators_iff _).mp (State.reset_meets _)
  · have hmeets : s.site.Meets SiteLaw.baseAccumulators := (Site.meets_baseAccumulators_iff _).mpr hzero
    exact (Site.meets_baseAccumulators_iff _).mp (step_meets SiteLaw.baseAccumulators_takesStores hmeets hstep)

end Sys2Proof.Machine
end

section
/-! PROOFS. Register and immediate ALU of the Ziljan instruction set (R112, R118 to R122). -/
namespace Sys2Proof.Machine

/-! ### The values (R118, R120) -/

theorem boolWord_slt (x y : Word) : boolWord (x.slt y) = if x.toInt < y.toInt then 1 else 0 := by
  simp [boolWord, BitVec.slt]

theorem boolWord_ult (x y : Word) : boolWord (x.ult y) = if x.toNat < y.toNat then 1 else 0 := by
  simp [boolWord, BitVec.ult]

theorem ite_slt_eq_ofInt_min (x y : Word) : (if x.slt y then x else y) = BitVec.ofInt 32 (min x.toInt y.toInt) := by
  simp only [min_def_lt, apply_ite (BitVec.ofInt 32), BitVec.ofInt_toInt, BitVec.slt_iff_toInt_lt]

theorem ite_slt_eq_ofInt_max (x y : Word) : (if x.slt y then y else x) = BitVec.ofInt 32 (max x.toInt y.toInt) := by
  simp only [max_def_lt, apply_ite (BitVec.ofInt 32), BitVec.ofInt_toInt, BitVec.slt_iff_toInt_lt]

theorem ite_ult_eq_ofNat_min (x y : Word) : (if x.ult y then x else y) = BitVec.ofNat 32 (min x.toNat y.toNat) := by
  simp only [min_def_lt, apply_ite (BitVec.ofNat 32), BitVec.ofNat_toNat, BitVec.setWidth_eq, BitVec.ult_iff_lt, BitVec.lt_def]

theorem ite_ult_eq_ofNat_max (x y : Word) : (if x.ult y then y else x) = BitVec.ofNat 32 (max x.toNat y.toNat) := by
  simp only [max_def_lt, apply_ite (BitVec.ofNat 32), BitVec.ofNat_toNat, BitVec.setWidth_eq, BitVec.ult_iff_lt, BitVec.lt_def]

theorem mul_eq_ofNat_mul (x y : Word) : x * y = BitVec.ofNat 32 (x.toNat * y.toNat) := BitVec.eq_of_toNat_eq (by simp)

/-- Saturation takes the nearest value in the range of a word (R118). -/
theorem sat32_eq (x : Int) : sat32 x = BitVec.ofInt 32 (max (-2147483648) (min 2147483647 x)) := by
  rw [sat32, satTo_eq_max_min _ _ _ (by decide)]

/-- With bit n clear, a value below 2^(n + 1) lies below 2^n; with bit n set, it does not. -/
theorem getLsbD_eq_decide_two_pow_le {w : Word} {n : Nat} (h : w.toNat < 2 ^ (n + 1)) : w.getLsbD n = decide (2 ^ n ≤ w.toNat) := by
  rw [← BitVec.testBit_toNat, Nat.testBit_eq_decide_div_mod_eq]
  refine decide_eq_decide.mpr ?_
  have hlt : w.toNat / 2 ^ n < 2 := (Nat.div_lt_iff_lt_mul (Nat.two_pow_pos n)).mpr (by rw [pow_succ] at h; omega)
  rw [Nat.mod_eq_of_lt hlt, ← Nat.one_le_div_iff (Nat.two_pow_pos n)]
  omega

theorem clzFrom_zero (n : Nat) : clzFrom 0 n = n := by
  induction n with
  | zero => rfl
  | succ n ih =>
    have hbit : (0 : Word).getLsbD n = false := BitVec.getLsbD_zero
    rw [clzFrom, hbit, if_neg Bool.false_ne_true, ih]

theorem clzFrom_of_lt {w : Word} (hw : w ≠ 0) : ∀ n, w.toNat < 2 ^ n → clzFrom w n = n - 1 - w.toNat.log2 := by
  have hpos : w.toNat ≠ 0 := fun h => hw (BitVec.eq_of_toNat_eq h)
  intro n
  induction n with
  | zero => intro h; omega
  | succ n ih =>
    intro h
    rw [clzFrom, getLsbD_eq_decide_two_pow_le h]
    by_cases hle : 2 ^ n ≤ w.toNat
    · have hlog : n ≤ w.toNat.log2 := (Nat.le_log2 hpos).mpr hle
      simp only [hle, decide_true, if_true]
      omega
    · have hlog : w.toNat.log2 < n := (Nat.log2_lt hpos).mpr (by omega)
      simp only [hle, decide_false, Bool.false_eq_true, if_false, ih (by omega)]
      omega

theorem clz32_eq (w : Word) : clz32 w = BitVec.ofNat 32 (if w = 0 then 32 else 31 - w.toNat.log2) := by
  unfold clz32
  split
  · next h => rw [h, clzFrom_zero]
  · next h => rw [clzFrom_of_lt h 32 w.isLt]

/-! ### What an instruction of the ALU does to its engine -/

section
variable (en : Engine) (d s1 s2 : Gpr)

theorem Engine.stick_next (n : Nat) (b : Bool) : en.next.stick n b = (en.stick n b).next := by
  cases b <;> rfl

theorem Engine.aluSat_eq (x : Int) : en.aluSat d x = ((en.setG d (BitVec.ofInt 32 (max (-2147483648) (min 2147483647 x)))).stick flagQ
    (decide (x < -2147483648) || decide (2147483647 < x))).next := by
  rw [Engine.aluSat, sat32_eq]
  rfl

/-- A carry form puts the 33-bit sum into C and D (R120). -/
theorem Engine.aluCarry_eq (x y : Word) {n : Nat} (hn : n = x.toNat + y.toNat + (en.flag flagC).toNat) :
    en.aluCarry d x y = ((en.setG d (BitVec.ofNat 32 n)).setFlag flagC (decide (2 ^ 32 ≤ n))).next := by
  have hsum : x + y + BitVec.ofNat 32 (en.flag flagC).toNat = BitVec.ofNat 32 n := BitVec.eq_of_toNat_eq (by simp [hn, Nat.add_mod])
  rw [Engine.aluCarry, hsum, carryOut, hn]

variable {en s2} (f : Word → Word → Word) (q : Word → Word → Bool)

theorem Engine.aluDiv_of_ne_zero (h : en.g s2 ≠ 0) :
    en.aluDiv d s1 s2 f q = ((en.setG d (f (en.g s1) (en.g s2))).stick flagQ (q (en.g s1) (en.g s2))).next := by
  rw [← Engine.stick_next, Engine.aluDiv, decide_eq_false h]
  rfl

/-- A division by zero that saturates nothing sets DZ only (R121). -/
theorem Engine.aluDiv_of_zero (h : en.g s2 = 0) (hq : q (en.g s1) 0 = false) :
    en.aluDiv d s1 s2 f q = ((en.setG d (f (en.g s1) 0)).next).setFlag flagDZ true := by
  rw [Engine.aluDiv, Engine.alu, h, hq, decide_eq_true rfl]
  rfl

end

/-! ### What an instruction of the ALU does to the machine -/

section
variable {s : State} {p : Pav} {e : Eng} {d s1 s2 : Gpr} (hready : s.site.ready p e = true)
include hready

/-- An engine that executes takes the change that is stated for it as it stands. -/
theorem State.engine_of_eq {f g : Engine → Engine} (h : f (s.site.eng p e) = g (s.site.eng p e)) : s.engine p e f = .next (s.upd p e g) := by
  rw [State.engine_ready s p e f hready, Site.modEng_congr h]
  rfl

theorem State.engine_alu (f : Word → Word → Word) {v : Engine → Word}
    (hv : f ((s.site.eng p e).g s1) ((s.site.eng p e).g s2) = v (s.site.eng p e)) :
    s.engine p e (fun en => en.alu d s1 s2 f) = .next (s.put p e d v) :=
  State.engine_of_eq hready (by rw [Engine.alu, hv])

theorem State.engine_aluImm (f : Word → Word) {v : Engine → Word} (hv : f ((s.site.eng p e).g s1) = v (s.site.eng p e)) :
    s.engine p e (fun en => en.aluImm d s1 f) = .next (s.put p e d v) :=
  State.engine_of_eq hready (by rw [Engine.aluImm, hv])

theorem State.engine_aluSat (x : Engine → Int) : s.engine p e (fun en => en.aluSat d (x en)) = .next (s.putSat p e d x) :=
  State.engine_of_eq hready (Engine.aluSat_eq _ d _)

/-- A division form that saturates nothing. -/
theorem State.engine_aluDiv {f : Word → Word → Word} {q : Word → Word → Bool} {v : Engine → Word} (hne : (s.site.eng p e).g s2 ≠ 0)
    (hq : q ((s.site.eng p e).g s1) ((s.site.eng p e).g s2) = false)
    (hv : f ((s.site.eng p e).g s1) ((s.site.eng p e).g s2) = v (s.site.eng p e)) :
    s.engine p e (fun en => en.aluDiv d s1 s2 f q) = .next (s.put p e d v) :=
  State.engine_of_eq hready (by rw [Engine.aluDiv_of_ne_zero d s1 f q hne, hq, hv]; rfl)

theorem State.engine_aluDiv_zero {f : Word → Word → Word} {q : Word → Word → Bool} {v : Engine → Word} (hzero : (s.site.eng p e).g s2 = 0)
    (hq : q ((s.site.eng p e).g s1) 0 = false) (hv : f ((s.site.eng p e).g s1) 0 = v (s.site.eng p e)) :
    s.engine p e (fun en => en.aluDiv d s1 s2 f q) = .next (s.upd p e fun en => ((en.setG d (v en)).next).setFlag flagDZ true) :=
  State.engine_of_eq hready (by rw [Engine.aluDiv_of_zero d s1 f q hzero hq, hv])

end

/-- Settles O9: each command is a three-register operation without flags, whose value is that of the table of R120. -/
theorem registerAluResults : Obligations.RegisterAluResults := by
  intro p e d s1 s2 s hready
  exact ⟨State.engine_alu hready _ rfl, State.engine_alu hready _ rfl, State.engine_alu hready _ rfl, State.engine_alu hready _ rfl,
    State.engine_alu hready _ rfl, State.engine_alu hready _ rfl, State.engine_alu hready _ rfl, State.engine_alu hready _ rfl,
    State.engine_alu hready _ (boolWord_slt _ _), State.engine_alu hready _ (boolWord_ult _ _),
    State.engine_alu hready _ (ite_slt_eq_ofInt_min _ _), State.engine_alu hready _ (ite_slt_eq_ofInt_max _ _),
    State.engine_alu hready _ (ite_ult_eq_ofNat_min _ _), State.engine_alu hready _ (ite_ult_eq_ofNat_max _ _),
    State.engine_alu hready _ (mul_eq_ofNat_mul _ _), State.engine_alu hready _ rfl, State.engine_alu hready _ rfl⟩

/-! ### Carries and divisions (R120, R121) -/

section
variable {s : State} {p : Pav} {e : Eng} {d s1 s2 : Gpr} (hready : s.site.ready p e = true)
include hready

theorem execAddc_carries : execAddc p e d s1 s2 s = .next (s.upd p e fun en =>
    let x := (en.g s1).toNat + (en.g s2).toNat + (en.flag flagC).toNat
    ((en.setG d (BitVec.ofNat 32 x)).setFlag flagC (decide (2 ^ 32 ≤ x))).next) :=
  State.engine_of_eq hready (Engine.aluCarry_eq _ d _ _ rfl)

theorem execSubc_carries : execSubc p e d s1 s2 s = .next (s.upd p e fun en =>
    let x := (en.g s1).toNat + (2 ^ 32 - 1 - (en.g s2).toNat) + (en.flag flagC).toNat
    ((en.setG d (BitVec.ofNat 32 x)).setFlag flagC (decide (2 ^ 32 ≤ x))).next) :=
  State.engine_of_eq hready (Engine.aluCarry_eq _ d _ _ (by rw [BitVec.toNat_not]))

theorem execDiv_of_ne_zero (hne : (s.site.eng p e).g s2 ≠ 0) :
    execDiv p e d s1 s2 s = .next (s.putSat p e d fun en => (en.g s1).toInt.tdiv (en.g s2).toInt) := by
  refine State.engine_of_eq hready ?_
  rw [Engine.aluDiv_of_ne_zero d s1 divS divSatS hne, ← Engine.aluSat_eq, divS, if_neg hne, divSatS, decide_eq_true hne, Bool.true_and]
  rfl

/-- The one quotient of two words that is no word (R121). -/
theorem execDiv_of_overflow (h1 : (s.site.eng p e).g s1 = 0x80000000) (h2 : (s.site.eng p e).g s2 = 0xFFFFFFFF) :
    execDiv p e d s1 s2 s = .next (s.upd p e fun en => ((en.setG d 0x7FFFFFFF).next).setFlag flagQ true) := by
  have hne : (s.site.eng p e).g s2 ≠ 0 := by rw [h2]; decide
  have hquot : divS 0x80000000 0xFFFFFFFF = 0x7FFFFFFF := by decide
  have hsat : divSatS 0x80000000 0xFFFFFFFF = true := by decide
  refine State.engine_of_eq hready ?_
  rw [Engine.aluDiv_of_ne_zero d s1 divS divSatS hne, h1, h2, hquot, hsat]
  rfl

theorem execRem_of_overflow (h1 : (s.site.eng p e).g s1 = 0x80000000) (h2 : (s.site.eng p e).g s2 = 0xFFFFFFFF) :
    execRem p e d s1 s2 s = .next (s.put p e d fun _ => 0) :=
  State.engine_aluDiv hready (by rw [h2]; decide) rfl (by rw [h1, h2]; decide)

end

/-- Settles O10: the carry forms, the saturating forms and the two cases of a division, each by its lemma above. -/
theorem carrySaturationDivisionResults : Obligations.CarrySaturationDivisionResults := by
  intro p e d s1 s2 s hready
  refine ⟨execAddc_carries hready, execSubc_carries hready, State.engine_aluSat hready _, State.engine_aluSat hready _,
    State.engine_aluSat hready _, State.engine_aluSat hready _, State.engine_alu hready _ (clz32_eq _), fun hne => ?_, fun hzero => ?_,
    fun h1 h2 => ⟨execDiv_of_overflow hready h1 h2, execRem_of_overflow hready h1 h2⟩⟩
  · exact ⟨execDiv_of_ne_zero hready hne, State.engine_aluDiv hready hne rfl (if_neg hne), State.engine_aluDiv hready hne rfl (if_neg hne),
      State.engine_aluDiv hready hne rfl (if_neg hne)⟩
  · intro z
    exact ⟨State.engine_aluDiv_zero hready hzero rfl rfl, State.engine_aluDiv_zero hready hzero rfl rfl,
      State.engine_aluDiv_zero hready hzero rfl rfl, State.engine_aluDiv_zero hready hzero rfl rfl⟩

/-- A sign-extended immediate keeps its value (R122). -/
theorem toInt_sext14 (imm : BitVec 14) : (sext14 imm).toInt = imm.toInt := BitVec.toInt_signExtend_of_le (by decide)

/-- Settles O11: each command is an immediate operation without flags, whose value is that of the table of R122, and `addsi` saturates. -/
theorem immediateAluResults : Obligations.ImmediateAluResults := by
  intro p e d s1 imm sh s hready
  refine ⟨State.engine_aluImm hready _ rfl, State.engine_aluImm hready _ rfl, State.engine_aluImm hready _ rfl,
    State.engine_aluImm hready _ rfl, State.engine_aluImm hready _ ?_, State.engine_aluImm hready _ (boolWord_ult _ _),
    State.engine_aluImm hready _ rfl, State.engine_aluImm hready _ rfl, State.engine_aluImm hready _ rfl,
    State.engine_aluImm hready _ rfl, ?_⟩
  · rw [boolWord_slt, toInt_sext14]
  · rw [← toInt_sext14]
    exact State.engine_aluSat hready _

end Sys2Proof.Machine
end

section
/-! PROOFS. An instruction of the ALU reaches no further than the general registers, FLAGS and the pc of its engine (R110, R112). -/
namespace Sys2Proof.Machine

/-- Of an engine, only D, the flags and the pc differ. -/
def Engine.WritesOnly (d : Gpr) (en en' : Engine) : Prop :=
  (∀ r : Gpr, r ≠ d → en'.g r = en.g r) ∧ en' = { en with pc := en'.pc, gpr := en'.gpr, flags := en'.flags }

section
variable {d : Gpr} {en en' : Engine}

theorem Engine.WritesOnly.refl (d : Gpr) (en : Engine) : Engine.WritesOnly d en en := ⟨fun _ _ => rfl, rfl⟩

theorem Engine.WritesOnly.setG (h : Engine.WritesOnly d en en') (v : Word) : Engine.WritesOnly d en (en'.setG d v) := by
  obtain ⟨hg, hrest⟩ := h
  refine ⟨fun r hr => (Engine.g_setG_ne en' d r v hr).trans (hg r hr), ?_⟩
  unfold Engine.setG
  split
  · exact hrest
  · rw [hrest]

theorem Engine.WritesOnly.setPc (h : Engine.WritesOnly d en en') (pc : Word) : Engine.WritesOnly d en { en' with pc := pc } := by
  obtain ⟨hg, hrest⟩ := h
  exact ⟨hg, by rw [hrest]⟩

theorem Engine.WritesOnly.setFlag (h : Engine.WritesOnly d en en') (n : Nat) (b : Bool) : Engine.WritesOnly d en (en'.setFlag n b) := by
  obtain ⟨hg, hrest⟩ := h
  exact ⟨hg, by rw [hrest]; rfl⟩

theorem Engine.WritesOnly.stick (h : Engine.WritesOnly d en en') (n : Nat) (b : Bool) : Engine.WritesOnly d en (en'.stick n b) := by
  cases b
  · exact h
  · exact h.setFlag n true

theorem Engine.WritesOnly.next (h : Engine.WritesOnly d en en') : Engine.WritesOnly d en en'.next := h.setPc _

variable (d) (en) (s1 s2 : Gpr)

theorem Engine.alu_writesOnly (f : Word → Word → Word) : Engine.WritesOnly d en (en.alu d s1 s2 f) := ((Engine.WritesOnly.refl d en).setG _).next

theorem Engine.aluImm_writesOnly (f : Word → Word) : Engine.WritesOnly d en (en.aluImm d s1 f) := ((Engine.WritesOnly.refl d en).setG _).next

theorem Engine.aluSat_writesOnly (x : Int) : Engine.WritesOnly d en (en.aluSat d x) :=
  (((Engine.WritesOnly.refl d en).setG _).stick _ _).next

theorem Engine.aluCarry_writesOnly (x y : Word) : Engine.WritesOnly d en (en.aluCarry d x y) :=
  (((Engine.WritesOnly.refl d en).setG _).setFlag _ _).next

theorem Engine.aluDiv_writesOnly (f : Word → Word → Word) (q : Word → Word → Bool) : Engine.WritesOnly d en (en.aluDiv d s1 s2 f q) :=
  ((Engine.alu_writesOnly d en s1 s2 f).stick _ _).stick _ _

end

theorem Site.eng_setEng_ne (t : Site) (p : Pav) {e e' : Eng} (en : Engine) (h : e' ≠ e) : (t.setEng p e en).eng p e' = t.eng p e' := by
  simp [Site.eng, Site.setEng, Local.eng_setEng_ne _ _ _ _ h]

/-- Of the site, only engine `e` of pavilion `p` differs, and of that engine only D, the flags and the pc. -/
def Site.WritesOnly (p : Pav) (e : Eng) (d : Gpr) (t u : Site) : Prop :=
  u.pav p.other = t.pav p.other ∧ u.com = t.com ∧ u.free = t.free ∧ (u.pav p).rep = (t.pav p).rep ∧
    (∀ e' : Eng, e' ≠ e → u.eng p e' = t.eng p e') ∧ (u.pav p).loc = { (t.pav p).loc with engines := (u.pav p).loc.engines } ∧
    Engine.WritesOnly d (t.eng p e) (u.eng p e)

theorem Site.WritesOnly.refl (p : Pav) (e : Eng) (d : Gpr) (t : Site) : t.WritesOnly p e d t :=
  ⟨rfl, rfl, rfl, rfl, fun _ _ => rfl, rfl, Engine.WritesOnly.refl d _⟩

theorem Site.WritesOnly.modEng (t : Site) (p : Pav) (e : Eng) {d : Gpr} {f : Engine → Engine} (hf : ∀ en, Engine.WritesOnly d en (f en)) :
    t.WritesOnly p e d (t.modEng p e f) := by
  refine ⟨t.pav_modEng_other p e f, t.com_modEng p e f, Site.free_modPav t p _, ?_, fun e' => t.eng_setEng_ne p _, ?_, ?_⟩
  · rw [Site.modEng, Site.setEng, Site.pav_modLoc_same]
  · rw [Site.modEng, Site.setEng, Site.pav_modLoc_same]
    rfl
  · rw [Site.eng_modEng_same]
    exact hf _

/-- An engine that does not execute leaves all as it is; one that does changes itself alone. -/
theorem State.engine_writesOnly {s t : State} {p : Pav} {e : Eng} {d : Gpr} {f : Engine → Engine} (hf : ∀ en, Engine.WritesOnly d en (f en))
    (h : s.engine p e f = .next t) : t.pending = s.pending ∧ s.site.WritesOnly p e d t.site := by
  cases hready : s.site.ready p e
  · rw [State.engine_idle s p e f hready] at h
    cases h
    exact ⟨rfl, Site.WritesOnly.refl p e d _⟩
  · rw [State.engine_ready s p e f hready] at h
    cases h
    exact ⟨rfl, Site.WritesOnly.modEng _ p e hf⟩

/-- Settles O24: each command changes one engine, of which it writes D, the flags and the pc. -/
theorem instructionsOfOneEngineStayThere : Obligations.InstructionsOfOneEngineStayThere := by
  intro p e d s1 s2 imm j s t hexec
  have hframe : t.pending = s.pending ∧ s.site.WritesOnly p e d t.site := by
    obtain hadd | haddc | hadds | hdiv | hmulq | haddi | hlhi | hjal | hnop := hexec
    · exact State.engine_writesOnly (fun en => en.alu_writesOnly d s1 s2 _) hadd
    · exact State.engine_writesOnly (fun en => en.aluCarry_writesOnly d _ _) haddc
    · exact State.engine_writesOnly (fun en => en.aluSat_writesOnly d _) hadds
    · exact State.engine_writesOnly (fun en => en.aluDiv_writesOnly d s1 s2 _ _) hdiv
    · exact State.engine_writesOnly (fun en => en.aluSat_writesOnly d _) hmulq
    · exact State.engine_writesOnly (fun en => en.aluImm_writesOnly d s1 _) haddi
    · exact State.engine_writesOnly (fun en => en.aluImm_writesOnly d s1 _) hlhi
    · exact State.engine_writesOnly (fun en => ((Engine.WritesOnly.refl d en).setG _).setPc _) hjal
    · exact State.engine_writesOnly (fun en => (Engine.WritesOnly.refl d en).next) hnop
  obtain ⟨hpending, hother, hcom, hfree, hrep, hengines, hloc, hg, hrest⟩ := hframe
  exact ⟨hother, hcom, hfree, hpending, hrep, hengines, hloc, hg, hrest⟩

end Sys2Proof.Machine
end

section
/-! PROOFS. Branches, jumps and calls (R112, R116, R125, R126). -/
namespace Sys2Proof.Machine

theorem inItcm_iff (a : Word) : inItcm a = true ↔ a.toNat < 0x40000 := by simp [inItcm]

theorem not_slt_iff (x y : Word) : (!x.slt y) = true ↔ y.toInt ≤ x.toInt := by simp [BitVec.slt]

theorem not_ult_iff (x y : Word) : (!x.ult y) = true ↔ y.toNat ≤ x.toNat := by simp [BitVec.ult]

/-- IE, EXC and PIE exist in the base profile only (R112). -/
theorem Engine.flagSeen_iff (en : Engine) (e : Eng) (n : Nat) :
    en.flagSeen e n = true ↔ en.flag n = true ∧ (loopProfile e = true → n < 8) := by
  cases hloop : loopProfile e <;> simp [Engine.flagSeen, hloop]

section
variable {s : State} {p : Pav} {e : Eng}

/-- What a branch to `t` answers: it goes there where `cond` holds, raises FETCH where `t` lies outside ITCM, and else falls through. -/
def State.BranchesTo (s : State) (p : Pav) (e : Eng) (t : Word) (r : Result) (cond : Prop) : Prop :=
  (cond → t.toNat < 0x40000 → r = .next (s.upd p e fun en => { en with pc := t })) ∧
    (cond → ¬ t.toNat < 0x40000 → r = .next (s.raises p e exFETCH t)) ∧
    (¬ cond → r = .next (s.upd p e fun en => { en with pc := en.pc + 4 }))

variable (hready : s.site.ready p e = true)
include hready

/-- An instruction that looks at its engine as it stands to answer either a new state of it or an exception. -/
theorem State.engineX_upd {f : Engine → EngRes} {g : Engine → Engine} (h : f (s.site.eng p e) = .ok (g (s.site.eng p e))) :
    s.engineX p e f = .next (s.upd p e g) := State.engineX_ok s p e f _ hready h

theorem State.engineX_raises {f : Engine → EngRes} {c : Nat} {a : Word} (h : f (s.site.eng p e) = .exc c a) :
    s.engineX p e f = .next (s.raises p e c a) := State.engineX_exc s p e f c a hready h

theorem State.engineX_branch (off : BitVec 15) (taken : Engine → Bool) {cond : Prop} (hcond : taken (s.site.eng p e) = true ↔ cond) :
    s.BranchesTo p e ((s.site.eng p e).pc + branchOff off) (s.engineX p e fun en => en.branch (taken en) off) cond := by
  refine ⟨fun hc ht => ?_, fun hc ht => ?_, fun hc => ?_⟩
  · exact State.engineX_upd hready (by rw [Engine.branch, if_pos (hcond.mpr hc), if_pos ((inItcm_iff _).mpr ht)])
  · exact State.engineX_raises hready (by rw [Engine.branch, if_pos (hcond.mpr hc), if_neg ((inItcm_iff _).not.mpr ht)])
  · exact State.engineX_upd hready (by rw [Engine.branch, if_neg (hcond.not.mpr hc)]; rfl)

variable (flag : Gpr) (off : BitVec 15)

theorem execBfs_branches (hflag : flag.val ≤ 10) : s.BranchesTo p e ((s.site.eng p e).pc + branchOff off) (execBfs p e flag off s)
    ((s.site.eng p e).flag flag.val = true ∧ (loopProfile e = true → flag.val < 8)) := by
  simp only [execBfs, if_neg (Nat.not_lt.mpr hflag)]
  exact State.engineX_branch hready off _ (Engine.flagSeen_iff _ e _)

theorem execBfc_branches (hflag : flag.val ≤ 10) : s.BranchesTo p e ((s.site.eng p e).pc + branchOff off) (execBfc p e flag off s)
    (¬ ((s.site.eng p e).flag flag.val = true ∧ (loopProfile e = true → flag.val < 8))) := by
  simp only [execBfc, if_neg (Nat.not_lt.mpr hflag)]
  refine State.engineX_branch hready off _ ?_
  rw [← Engine.flagSeen_iff, Bool.not_eq_true', Bool.not_eq_true]

theorem execBfs_of_no_flag (hflag : 10 < flag.val) :
    execBfs p e flag off s = .next (s.raises p e exILLEGAL (encBranch 6 0 flag off)) := State.engineX_raises hready (if_pos hflag)

theorem execBfc_of_no_flag (hflag : 10 < flag.val) :
    execBfc p e flag off s = .next (s.raises p e exILLEGAL (encBranch 7 0 flag off)) := State.engineX_raises hready (if_pos hflag)

variable (d s1 : Gpr) (imm : BitVec 16)

/-- The word address in a jal covers all of ITCM (R126). -/
theorem execJal_jumps : execJal p e d imm s =
    .next (s.upd p e fun en => { en.setG d (en.pc + 4) with pc := BitVec.ofNat 32 (imm.toNat * 4) }) := by
  have htarget : (imm.zeroExtend 32) <<< 2 = BitVec.ofNat 32 (imm.toNat * 4) :=
    BitVec.eq_of_toNat_eq (by have := imm.isLt; simp [Nat.shiftLeft_eq])
  rw [← htarget]
  exact State.engine_ready s p e _ hready

theorem execJalr_jumps (ht : (jalrTarget (s.site.eng p e) s1 imm).toNat < 0x40000) : execJalr p e d s1 imm s =
    .next (s.upd p e fun en => { en.setG d (en.pc + 4) with pc := jalrTarget (s.site.eng p e) s1 imm }) :=
  State.engineX_upd hready (if_pos ((inItcm_iff _).mpr ht))

theorem execJalr_of_fetch (ht : ¬ (jalrTarget (s.site.eng p e) s1 imm).toNat < 0x40000) :
    execJalr p e d s1 imm s = .next (s.raises p e exFETCH (jalrTarget (s.site.eng p e) s1 imm)) :=
  State.engineX_raises hready (if_neg ((inItcm_iff _).not.mpr ht))

theorem execSequentialFetchBeyondItcm_of_fetch (hpc : ¬ (s.site.eng p e).pc.toNat < 0x40000) :
    execSequentialFetchBeyondItcm p e s = .next (s.raises p e exFETCH (s.site.eng p e).pc) := by
  have hout : inItcm (s.site.eng p e).pc = false := eq_false_of_ne_true ((inItcm_iff _).not.mpr hpc)
  simp [execSequentialFetchBeyondItcm, hready, hout, State.raises]

end

/-- Settles O12: each branch is `Engine.branch` under its condition; jumps and calls by their lemmas above. -/
theorem branchesAndJumps : Obligations.BranchesAndJumps := by
  intro p e d s1 off imm s hready en t goes
  have hgoes : ∀ {c : Instr} {r : Result} {cond : Prop}, s.BranchesTo p e t r cond → exec c s = r → goes c cond := by
    rintro c _ cond hbranches rfl
    exact hbranches
  refine ⟨hgoes (State.engineX_branch hready off (fun en => en.g s1 = en.g d) decide_eq_true_iff) rfl,
    hgoes (State.engineX_branch hready off (fun en => en.g s1 ≠ en.g d) decide_eq_true_iff) rfl,
    hgoes (State.engineX_branch hready off (fun en => (en.g s1).slt (en.g d)) BitVec.slt_iff_toInt_lt) rfl,
    hgoes (State.engineX_branch hready off (fun en => !(en.g s1).slt (en.g d)) (not_slt_iff _ _)) rfl,
    hgoes (State.engineX_branch hready off (fun en => (en.g s1).ult (en.g d)) BitVec.ult_iff_lt) rfl,
    hgoes (State.engineX_branch hready off (fun en => !(en.g s1).ult (en.g d)) (not_ult_iff _ _)) rfl,
    fun hflag => ⟨hgoes (execBfs_branches hready s1 off hflag) rfl, hgoes (execBfc_branches hready s1 off hflag) rfl⟩,
    fun hflag => ⟨⟨_, execBfs_of_no_flag hready s1 off hflag⟩, ⟨_, execBfc_of_no_flag hready s1 off hflag⟩⟩,
    execJal_jumps hready d imm, ?_, execSequentialFetchBeyondItcm_of_fetch hready⟩
  exact ⟨execJalr_jumps hready d s1 imm, execJalr_of_fetch hready d s1 imm⟩

end Sys2Proof.Machine
end

section
/-! PROOFS. Stores into the write buffer (R26, R123, R124). -/
namespace Sys2Proof.Machine

/-- Every engine may reach its own TCMs (R26). -/
theorem mayAccess_tcm (e : Eng) (write : Bool) {a : Nat} (size : Nat) (h : a < 0x60000) : mayAccess e write a size = true := by
  simp [mayAccess, regionOf_tcm h]

section
variable {s : State} {p : Pav} {e : Eng} {src base : Gpr} {off : BitVec 15} (size : Nat) (hready : s.site.ready p e = true)
include hready

/-- With room in the buffer, an allowed store enters it at the end, and the instruction is done. -/
theorem State.store_buffers (hroom : (s.site.eng p e).wbuf.length < 4) (halign : ((s.site.eng p e).ea base off).toNat % size = 0)
    (hmay : mayAccess e true ((s.site.eng p e).ea base off).toNat size = true) :
    s.store p e src base off size = .next (s.upd p e fun en => { en with
      wbuf := en.wbuf ++ [⟨(s.site.eng p e).ea base off, size, BitVec.ofNat 32 ((en.g src).toNat % 256 ^ size)⟩], pc := en.pc + 4 }) := by
  have hnotFull : ¬ 4 ≤ (s.site.eng p e).wbuf.length := by omega
  simp only [State.store, State.run, hready, accessFault, halign, hmay, hnotFull, Bool.not_true, Bool.false_eq_true, ne_eq, not_true,
    if_false, if_true]
  rfl

theorem State.store_misaligned (hmisaligned : ((s.site.eng p e).ea base off).toNat % size ≠ 0) :
    s.store p e src base off size = .next (s.raises p e exALIGN ((s.site.eng p e).ea base off)) := by
  simp [State.store, State.raises, hready, accessFault, hmisaligned, Site.refuseAccess_align]

theorem State.store_refused (halign : ((s.site.eng p e).ea base off).toNat % size = 0)
    (hno : mayAccess e true ((s.site.eng p e).ea base off).toNat size = false) :
    s.store p e src base off size = .next (s.refuses p e ((s.site.eng p e).ea base off)) := by
  simp [State.store, State.refuses, hready, accessFault, halign, hno]

end

/-- Settles O14: each store is `State.store` at its width, and its outcomes are those of the lemmas above. -/
theorem storesEnterTheWriteBuffer : Obligations.StoresEnterTheWriteBuffer := by
  intro p e src base off s hready hroom a buf
  exact ⟨fun htcm => State.store_buffers 1 hready hroom (Nat.mod_one _) (mayAccess_tcm e true 1 htcm),
    fun htcm halign => State.store_buffers 2 hready hroom halign (mayAccess_tcm e true 2 htcm),
    fun htcm halign => State.store_buffers 4 hready hroom halign (mayAccess_tcm e true 4 htcm),
    State.store_misaligned 2 hready, State.store_misaligned 4 hready,
    fun hnone => State.store_refused 1 hready (Nat.mod_one _) (mayAccess_of_no_region e true 1 hnone)⟩

end Sys2Proof.Machine
end

section
/-! PROOFS. Exceptions and interrupts (R126, R139, R145 to R148). -/
namespace Sys2Proof.Machine

/-! ### FLAGS (R112) -/

theorem getLsbD_flagPut_same (w : BitVec 11) {n : Nat} (b : Bool) (hn : n < 11) : (flagPut w n b).getLsbD n = b := by
  cases b <;> simp [flagPut, hn]

theorem getLsbD_flagPut_ne (w : BitVec 11) {n k : Nat} (b : Bool) (hk : k ≠ n) : (flagPut w n b).getLsbD k = w.getLsbD k := by
  have hbit : (1#11 <<< n).getLsbD k = false := by
    rw [BitVec.getLsbD_shiftLeft, BitVec.getLsbD_one]
    simp
    omega
  cases b
  · rw [flagPut, if_neg Bool.false_ne_true, BitVec.getLsbD_and, BitVec.getLsbD_not, hbit]
    simpa using w.lt_of_getLsbD
  · simp [flagPut, hbit]

section
variable (en : Engine) {n : Nat} (b : Bool)

theorem Engine.flag_setFlag_same (hn : n < 11) : (en.setFlag n b).flag n = b := getLsbD_flagPut_same _ b hn

/-- A sticky flag stays set (R112). -/
theorem Engine.flag_stick_same (hn : n < 11) : (en.stick n b).flag n = (en.flag n || b) := by
  cases b
  · simp [Engine.stick]
  · simp [Engine.stick, Engine.flag_setFlag_same en true hn]

end

/-! ### Entry of the base profile (R146) -/

section
variable (en : Engine) (cause : Nat) (a : Word)

theorem Engine.flag_exceptionEntry (k : Nat) : (en.exceptionEntry cause a).flag k =
    (flagPut (flagPut (flagPut en.flags flagPIE (en.flag flagIE)) flagIE false) flagEXC true).getLsbD k := rfl

theorem Engine.flag_exceptionEntry_pie : (en.exceptionEntry cause a).flag flagPIE = en.flag flagIE := by
  rw [Engine.flag_exceptionEntry, getLsbD_flagPut_ne _ _ (by decide), getLsbD_flagPut_ne _ _ (by decide), getLsbD_flagPut_same _ _ (by decide)]

theorem Engine.flag_exceptionEntry_ie : (en.exceptionEntry cause a).flag flagIE = false := by
  rw [Engine.flag_exceptionEntry, getLsbD_flagPut_ne _ _ (by decide), getLsbD_flagPut_same _ _ (by decide)]

theorem Engine.flag_exceptionEntry_exc : (en.exceptionEntry cause a).flag flagEXC = true := by
  rw [Engine.flag_exceptionEntry, getLsbD_flagPut_same _ _ (by decide)]

/-- The flags of a program's own arithmetic stay. -/
theorem Engine.flag_exceptionEntry_of_lt {k : Nat} (hk : k < 8) : (en.exceptionEntry cause a).flag k = en.flag k := by
  have hexc : k ≠ flagEXC := by rw [flagEXC]; omega
  have hie : k ≠ flagIE := by rw [flagIE]; omega
  have hpie : k ≠ flagPIE := by rw [flagPIE]; omega
  rw [Engine.flag_exceptionEntry, getLsbD_flagPut_ne _ _ hexc, getLsbD_flagPut_ne _ _ hie, getLsbD_flagPut_ne _ _ hpie, Engine.flag]

/-- The handler stands at EVEC, whose bits [1:0] are clear. -/
theorem Engine.exceptionEntry_pc : (en.exceptionEntry cause a).pc = en.evec &&& 0xFFFFFFFC := rfl

end

/-! ### What an exception does (R145 to R147) -/

/-- The fault indicator an exception sets, and the count of a double-bit error (R145, R23). -/
def Local.noteException (l : Local) (cause : Nat) : Local :=
  let l := { l with ind := { l.ind with engine := true, ecc := l.ind.ecc || cause = exECC } }
  if cause = exECC then l.wr .SYS_ECC_DOUBLE (l.rd .SYS_ECC_DOUBLE + 1) else l

theorem Local.noteException_engines (l : Local) (cause : Nat) : (l.noteException cause).engines = l.engines := by
  unfold Local.noteException
  split <;> rfl

/-- A halted engine, and what SYS shows of it (R146, R147, R569). -/
def Engine.halt (en : Engine) (cause : Nat) (a : Word) : Engine :=
  { en with run := .halted, wait := .none, ecause := BitVec.ofNat 8 cause, eaddr := a }

def Local.showHalt (l : Local) (e : Eng) (pc : Word) (cause second : Nat) (a : Word) : Local :=
  let l := (((l.wr .SYS_EPC_PC pc.toNat e.val).wr .SYS_ECAUSE_CAUSE cause e.val).wr .SYS_ECAUSE_SECOND second e.val).wr .SYS_EADDR_EADDR a.toNat e.val
  (l.wr .SYS_HALT_HALT (putBit (l.rd .SYS_HALT_HALT) e.val true)).wr .SYS_ENGSTAT_RUNNING (putBit (l.rd .SYS_ENGSTAT_RUNNING) e.val false)

section
variable (l : Local) (e : Eng) (pc : Word) (cause second : Nat) (a : Word)

theorem Local.showHalt_engines : (l.showHalt e pc cause second a).engines = l.engines := rfl

theorem Local.rd_showHalt_pc : (l.showHalt e pc cause second a).rd .SYS_EPC_PC e.val = pc.toNat := by
  have hpc : pc.toNat < 2 ^ Field.SYS_EPC_PC.info.width := pc.isLt
  simp (disch := decide) only [Local.showHalt, Local.rd, Local.wr, Regs.rd_wr_of_ne, Regs.rd_wr_of_lt _ _ _ _ hpc]

theorem Local.rd_showHalt_eaddr : (l.showHalt e pc cause second a).rd .SYS_EADDR_EADDR e.val = a.toNat := by
  have ha : a.toNat < 2 ^ Field.SYS_EADDR_EADDR.info.width := a.isLt
  simp (disch := decide) only [Local.showHalt, Local.rd, Local.wr, Regs.rd_wr_of_ne, Regs.rd_wr_of_lt _ _ _ _ ha]

end

section
variable (t : Site) (p : Pav) (e : Eng) (cause : Nat) (a : Word)

theorem Site.eng_noteException : (t.modLoc p fun l => l.noteException cause).eng p e = t.eng p e :=
  Site.eng_modLoc_of_engines fun l => l.noteException_engines cause

theorem Site.exception_of_entry (hbase : loopProfile e = false) (hexc : (t.eng p e).flag flagEXC = false) :
    t.exception p e cause a = (t.modLoc p fun l => l.noteException cause).setEng p e ((t.eng p e).exceptionEntry cause a) := by
  simp only [Site.exception, hbase, hexc, Bool.not_false, Bool.false_eq_true, if_false, if_true]
  rfl

/-- A second exception in a base engine (R146). -/
theorem Site.exception_of_double (hbase : loopProfile e = false) (hexc : (t.eng p e).flag flagEXC = true) (hne : e ≠ lodge) :
    t.exception p e cause a = (t.modLoc p fun l => l.noteException cause).haltEngine p e exDOUBLE cause a := by
  simp only [Site.exception, hbase, hexc, hne, Bool.not_true, Bool.false_eq_true, if_false]
  rfl

/-- Engine `e` has halted with the registers of `en`, and SYS shows its pc and EADDR. -/
def Site.ShowsHalt (t : Site) (p : Pav) (e : Eng) (en : Engine) (a : Word) : Prop :=
  (t.eng p e).run = .halted ∧ (t.eng p e).gpr = en.gpr ∧ (t.pav p).loc.rd .SYS_EPC_PC e.val = en.pc.toNat ∧
    (t.pav p).loc.rd .SYS_EADDR_EADDR e.val = a.toNat

variable {t p e a} {u : Site} {en : Engine}

theorem Site.ShowsHalt.of_eq (h : t.ShowsHalt p e en a) (heng : u.eng p e = t.eng p e) (hregs : u.regs p = t.regs p) :
    u.ShowsHalt p e en a := by
  obtain ⟨hrun, hgpr, hepc, headdr⟩ := h
  refine ⟨by rw [heng, hrun], by rw [heng, hgpr], ?_, ?_⟩
  · exact (congrArg (Regs.rd · .SYS_EPC_PC e.val) hregs).trans hepc
  · exact (congrArg (Regs.rd · .SYS_EADDR_EADDR e.val) hregs).trans headdr

/-- The report of a halt goes to the Lodge's queue (R137). -/
theorem Site.ShowsHalt.sysReport (h : t.ShowsHalt p e en a) (hne : e ≠ lodge) : (t.sysReport p e).ShowsHalt p e en a := by
  unfold Site.sysReport
  split
  · exact h
  · exact h.of_eq (Site.eng_setEng_ne _ _ _ hne) (Site.regs_modLoc_same _ _ _)

theorem Site.ShowsHalt.onLog (h : t.ShowsHalt p e en a) (f : Replica → Replica) : (t.onLog f).ShowsHalt p e en a :=
  h.of_eq (congrArg (Vector.get · e) (Site.onLog_engines t f p)) (Site.regs_onLog t p f)

theorem Site.ShowsHalt.modRep (h : t.ShowsHalt p e en a) (f : Replica → Replica) : (t.modRep p f).ShowsHalt p e en a :=
  h.of_eq (by simp [Site.eng]) (Site.regs_modRep t p p f)

theorem Site.ShowsHalt.modCom (h : t.ShowsHalt p e en a) (f : Common → Common) : (t.modCom f).ShowsHalt p e en a :=
  h.of_eq (by simp [Site.eng]) (Site.regs_modCom t p f)

theorem Site.ShowsHalt.ite {P : Prop} {_ : Decidable P} (ht : t.ShowsHalt p e en a) (hu : u.ShowsHalt p e en a) :
    (if P then t else u).ShowsHalt p e en a := by
  split
  · exact ht
  · exact hu

theorem Site.haltEngine_eq (t : Site) (p : Pav) (e : Eng) (cause second : Nat) (a : Word) : t.haltEngine p e cause second a =
    ((t.modEng p e fun en => en.halt cause a).modLoc p fun l => l.showHalt e (t.eng p e).pc cause second a).sysReport p e := rfl

theorem Site.haltEngine_showsHalt (t : Site) (p : Pav) {e : Eng} (cause second : Nat) (a : Word) (hne : e ≠ lodge) :
    (t.haltEngine p e cause second a).ShowsHalt p e (t.eng p e) a := by
  have heng : ((t.modEng p e fun en => en.halt cause a).modLoc p fun l => l.showHalt e (t.eng p e).pc cause second a).eng p e =
      (t.eng p e).halt cause a :=
    (Site.eng_modLoc_of_engines fun l => l.showHalt_engines e _ cause second a).trans (Site.eng_modEng_same t p e _)
  rw [Site.haltEngine_eq]
  refine Site.ShowsHalt.sysReport ⟨by rw [heng]; rfl, by rw [heng]; rfl, ?_, ?_⟩ hne
  · rw [Site.loc_modLoc_same, Local.rd_showHalt_pc]
  · rw [Site.loc_modLoc_same, Local.rd_showHalt_eaddr]

/-- A loop engine halts, whatever the converters make of it then (R147, R359). -/
theorem Site.exception_of_loop (t : Site) (p : Pav) {e : Eng} (cause : Nat) (a : Word) (hloop : loopProfile e = true) :
    (t.exception p e cause a).ShowsHalt p e (t.eng p e) a := by
  have hne : e ≠ lodge := by
    rintro rfl
    exact absurd hloop (by decide)
  have hhalt := (t.modLoc p fun l => l.noteException cause).haltEngine_showsHalt p cause 0 a hne
  rw [Site.eng_noteException] at hhalt
  rw [Site.exception, if_pos hloop]
  exact Site.ShowsHalt.ite (hhalt.modRep _) (Site.ShowsHalt.ite ((hhalt.onLog _).modCom _) hhalt)

theorem Site.exception_showsHalt (t : Site) (p : Pav) {e : Eng} (cause : Nat) (a : Word)
    (h : loopProfile e = true ∨ ((t.eng p e).flag flagEXC = true ∧ e ≠ lodge)) : (t.exception p e cause a).ShowsHalt p e (t.eng p e) a := by
  cases hprofile : loopProfile e
  · obtain ⟨hexc, hne⟩ := h.resolve_left (by simp [hprofile])
    rw [Site.exception_of_double t p e cause a hprofile hexc hne, ← Site.eng_noteException t p e cause]
    exact Site.haltEngine_showsHalt _ p _ _ a hne
  · exact Site.exception_of_loop t p cause a hprofile

end

/-! ### Interrupts (R148) -/

theorem lowestSet_eq {w : BitVec 17} {k : Nat} (hk : k < 17) (hset : w.getLsbD k = true) (hlow : ∀ j < k, w.getLsbD j = false) :
    ∀ n, 17 ≤ n + k → lowestSet w n = k := by
  intro n
  induction n with
  | zero => intro h; omega
  | succ n ih =>
    intro h
    rw [lowestSet]
    obtain heq | hlt : 16 - n = k ∨ 16 - n < k := by omega
    · rw [heq, if_pos hset]
    · rw [hlow _ hlt, if_neg Bool.false_ne_true, ih (by omega)]

section
variable {s : State} {p : Pav} {e : Eng}

theorem execTrap_raises (hready : s.site.ready p e = true) (opd : BitVec 12) :
    execTrap p e opd s = .next (s.raises p e exTRAP (opd.setWidth 32)) := State.engineX_raises hready rfl

theorem execIllegalInstruction_raises (hready : s.site.ready p e = true) {w : Word} (hword : legalWord e w.toNat = false) :
    execIllegalInstruction p e w s = .next (s.raises p e exILLEGAL w) :=
  State.engineX_raises hready (by rw [hword, if_neg Bool.false_ne_true])

theorem execQueueStall_of_loop {target : BitVec 4} {q : Fin 8} {m : Dword} (hwait : (s.site.eng p e).wait = .msnd target q m)
    (hloop : loopProfile e = true) :
    execQueueStall p e s = .next (s.raises p e exQUEUE_STALL (BitVec.ofNat 32 (target.toNat * 8 + q.val))) := by
  simp only [execQueueStall, State.run, hwait, hloop, if_true, State.raises]

/-- A base engine that runs with IE set and EXC clear takes the lowest-numbered enabled source that is pending. -/
theorem execInterruptEntry_of_pending {k : Fin 17} (hrun : (s.site.eng p e).run = .running) (hwait : (s.site.eng p e).wait = .none)
    (hbase : loopProfile e = false) (hie : (s.site.eng p e).flag flagIE = true) (hexc : (s.site.eng p e).flag flagEXC = false)
    (hset : (s.site.ipend p e &&& (s.site.eng p e).imask).getLsbD k.val = true)
    (hlow : ∀ j < k.val, (s.site.ipend p e &&& (s.site.eng p e).imask).getLsbD j = false) :
    execInterruptEntry p e s = .next (s.upd p e fun en => en.exceptionEntry exINTERRUPT (BitVec.ofNat 32 k.val)) := by
  have hne : s.site.ipend p e &&& (s.site.eng p e).imask ≠ 0 := by
    intro hzero
    simp [hzero] at hset
  simp only [execInterruptEntry, State.run, hrun, hwait, hbase, hie, hexc, hne, lowestSet_eq k.isLt hset hlow 17 (Nat.le_add_right 17 _), ne_eq,
    reduceCtorEq, not_false_eq_true, decide_true, Bool.not_false, Bool.and_true, if_true]
  rfl

end

/-- Settles O17: the entry of the base profile, the halt of an engine that has none, and the commands that raise an exception. -/
theorem exceptionsAndInterrupts : Obligations.ExceptionsAndInterrupts := by
  intro p e s en
  refine ⟨fun cause a hbase hexc => ⟨en.exceptionEntry cause a, ?_, rfl, rfl, rfl, en.exceptionEntry_pc cause a,
      en.flag_exceptionEntry_pie cause a, en.flag_exceptionEntry_ie cause a, en.flag_exceptionEntry_exc cause a,
      fun n hn => en.flag_exceptionEntry_of_lt cause a hn, rfl, rfl, rfl, rfl, rfl⟩,
    fun cause a h => s.site.exception_showsHalt p cause a h, fun hready opd => execTrap_raises hready opd,
    fun hready w hword => execIllegalInstruction_raises hready hword, fun target q m hwait hloop => execQueueStall_of_loop hwait hloop,
    fun k hrun hwait hbase hie hexc hset hlow => execInterruptEntry_of_pending hrun hwait hbase hie hexc hset hlow⟩
  rw [Site.exception_of_entry s.site p e cause a hbase hexc, Site.eng_setEng_same]

end Sys2Proof.Machine
end

section
/-! PROOFS. Accumulators of the loop profile: exact 72-bit arithmetic, transfers and saturation (R117 to R119, R128, R129). -/
namespace Sys2Proof.Machine

/-! ### Values (R118, R119, R128) -/

/-- Saturation takes the nearest value in the range of an accumulator (R119). -/
theorem sat72_eq (x : Int) : sat72 x = BitVec.ofInt 72 (max (-(2 ^ 71)) (min (2 ^ 71 - 1) x)) := by
  rw [sat72, satTo_eq_max_min _ _ _ (by decide)]

theorem toInt_sat72 (x : Int) : (sat72 x).toInt = max (-(2 ^ 71)) (min (2 ^ 71 - 1) x) := by
  rw [sat72_eq]
  exact BitVec.toInt_ofInt_eq_self (by decide) (by omega) (by omega)

theorem roundShift_eq (x : Int) (sh : Nat) : roundShift x sh = (x + if sh = 0 then 0 else 2 ^ (sh - 1)) / 2 ^ sh := by
  unfold roundShift
  split
  · next h => simp [h]
  · rfl

/-- A product of two words is at most 2^62 from zero: it is a signed 64-bit value, and 256 of them fit an accumulator (R119). -/
theorem abs_prod_le (x y : Word) : |prod x y| ≤ 2 ^ 62 := by
  have hword : ∀ w : Word, |w.toInt| ≤ 2 ^ 31 := fun w => abs_le.mpr ⟨w.le_toInt, w.toInt_lt.le⟩
  calc |prod x y| = |x.toInt| * |y.toInt| := abs_mul _ _
    _ ≤ 2 ^ 31 * 2 ^ 31 := mul_le_mul (hword x) (hword y) (abs_nonneg _) (by decide)
    _ = 2 ^ 62 := by decide

theorem extractLsb'_eq_ushiftRight {w : Nat} (x : BitVec w) (start len : Nat) : x.extractLsb' start len = (x >>> start).setWidth len :=
  BitVec.eq_of_toNat_eq (by simp)

/-- The parts of an accumulator: bits [31:0], [63:32] and [71:64] (R128). -/
theorem accPart_zero (x : Acc) : accPart x 0 = x.setWidth 32 := (extractLsb'_eq_ushiftRight x 0 32).trans (by rw [BitVec.ushiftRight_zero])

theorem accPart_one (x : Acc) : accPart x 1 = (x >>> 32).setWidth 32 := extractLsb'_eq_ushiftRight x 32 32

theorem accPart_two (x : Acc) : accPart x 2 = ((x >>> 64).setWidth 8).signExtend 32 :=
  congrArg (BitVec.signExtend 32) (extractLsb'_eq_ushiftRight x 64 8)

theorem accPutPart_zero (x : Acc) (w : Word) : accPutPart x 0 w = (x >>> 32).setWidth 40 ++ w :=
  congrArg (· ++ w) (extractLsb'_eq_ushiftRight x 32 40)

theorem accPutPart_one (x : Acc) (w : Word) : accPutPart x 1 w = (x >>> 64).setWidth 8 ++ w ++ x.setWidth 32 := by
  rw [← accPart_zero, ← extractLsb'_eq_ushiftRight]
  rfl

theorem accPutPart_two (x : Acc) (w : Word) : accPutPart x 2 w = w.setWidth 8 ++ x.setWidth 64 := by
  have hlow : ∀ {n : Nat} (v : BitVec n) (len : Nat), v.extractLsb' 0 len = v.setWidth len := fun v len => by
    rw [extractLsb'_eq_ushiftRight, BitVec.ushiftRight_zero]
  rw [← hlow, ← hlow]
  rfl

/-! ### What an accumulate does to its engine -/

section
variable (en : Engine) (k : AccIx) (x : Int)

theorem Engine.a_setA_same (v : Acc) : (en.setA k v).a k = v := by
  simp [Engine.a, Engine.setA, Vector.get_eq_getElem]

theorem Engine.a_stick (n : Nat) (b : Bool) : (en.stick n b).a k = en.a k := by
  simp [Engine.a]

theorem Engine.setAccSat_eq : en.setAccSat k x = (en.setA k (BitVec.ofInt 72 (max (-(2 ^ 71)) (min (2 ^ 71 - 1) x)))).stick flagQ
    (decide (x < -(2 ^ 71)) || decide (2 ^ 71 - 1 < x)) := by
  rw [Engine.setAccSat, sat72_eq]
  rfl

theorem Engine.toInt_a_setAccSat : ((en.setAccSat k x).a k).toInt = max (-(2 ^ 71)) (min (2 ^ 71 - 1) x) := by
  rw [Engine.setAccSat, Engine.a_stick, Engine.a_setA_same, toInt_sat72]

theorem Engine.flag_setAccSat : (en.setAccSat k x).flag flagQ = (en.flag flagQ || decide (x < -(2 ^ 71) ∨ 2 ^ 71 - 1 < x)) := by
  rw [Engine.setAccSat, Engine.flag_stick_same _ _ (by decide), Bool.decide_or]
  rfl

variable {en k x}

/-- A sum in range is kept exactly, and Q stays as it was. -/
theorem Engine.setAccSat_of_abs_le (h : |x| ≤ 2 ^ 70) :
    ((en.setAccSat k x).a k).toInt = x ∧ (en.setAccSat k x).flag flagQ = en.flag flagQ := by
  obtain ⟨hlo, hhi⟩ := abs_le.mp h
  have hin : ¬ (x < -(2 ^ 71) ∨ 2 ^ 71 - 1 < x) := by omega
  refine ⟨?_, ?_⟩
  · rw [Engine.toInt_a_setAccSat]
    omega
  · rw [Engine.flag_setAccSat, decide_eq_false hin, Bool.or_false]

/-- One accumulate after the other, as long as the products together stay within 2^70. -/
theorem Engine.foldl_setAccSat (ws : List (Word × Word)) : ∀ en : Engine, |(en.a k).toInt| + ws.length * 2 ^ 62 ≤ 2 ^ 70 →
    ((ws.foldl (fun en w => en.setAccSat k ((en.a k).toInt + prod w.1 w.2)) en).a k).toInt =
        (en.a k).toInt + (ws.map fun w => prod w.1 w.2).sum ∧
      (ws.foldl (fun en w => en.setAccSat k ((en.a k).toInt + prod w.1 w.2)) en).flag flagQ = en.flag flagQ := by
  induction ws with
  | nil => exact fun en _ => ⟨by simp, rfl⟩
  | cons w ws ih =>
    intro en hroom
    rw [List.length_cons] at hroom
    have hsum : |(en.a k).toInt + prod w.1 w.2| ≤ |(en.a k).toInt| + 2 ^ 62 :=
      (abs_add_le _ _).trans (Int.add_le_add_left (abs_prod_le _ _) _)
    obtain ⟨hval, hflag⟩ := Engine.setAccSat_of_abs_le (en := en) (k := k) (x := (en.a k).toInt + prod w.1 w.2) (by push_cast at hroom; omega)
    obtain ⟨hval', hflag'⟩ := ih (en.setAccSat k ((en.a k).toInt + prod w.1 w.2)) (by rw [hval]; push_cast at hroom; omega)
    refine ⟨?_, hflag'.trans hflag⟩
    rw [List.foldl_cons, hval', hval, List.map_cons, List.sum_cons, Int.add_assoc]

end

/-! ### What the instructions do -/

section
variable {s : State} {p : Pav} {e : Eng} (hready : s.site.ready p e = true)
include hready

/-- A loop-profile instruction whose operands keep R117, stated by what it makes of its engine as it stands. -/
theorem State.loopInstr_upd (hloop : loopProfile e = true) {word : Word} {ok : Bool} {f g : Engine → Engine} (hok : ok = true)
    (h : (f (s.site.eng p e)).next = g (s.site.eng p e)) : s.loopInstr p e word ok f = .next (s.upd p e g) :=
  State.engineX_upd hready (by rw [hloop, hok, h]; rfl)

theorem State.loopInstr_raises {word : Word} {ok : Bool} {f : Engine → Engine} (hok : ok = false) :
    s.loopInstr p e word ok f = .next (s.raises p e exILLEGAL word) := State.engineX_raises hready (by rw [hok, Bool.and_false]; rfl)

variable (hloop : loopProfile e = true) (s1 s2 d : Gpr) (k : AccIx) (sh : BitVec 5)

section
include hloop

theorem execMacc_accumulates : execMacc p e s1 s2 k s =
    .next (s.upd p e fun en => (en.setAccSat k ((en.a k).toInt + prod (en.g s1) (en.g s2))).next) :=
  State.loopInstr_upd hready hloop rfl rfl

theorem execMsub_accumulates : execMsub p e s1 s2 k s =
    .next (s.upd p e fun en => (en.setAccSat k ((en.a k).toInt - prod (en.g s1) (en.g s2))).next) :=
  State.loopInstr_upd hready hloop rfl rfl

/-- mac4 adds its four products at once (R129). -/
theorem execMac4_accumulates (h1 : quadOk s1 = true) (h2 : quadOk s2 = true) : execMac4 p e s1 s2 k s = .next (s.upd p e fun en =>
    (en.setAccSat k ((en.a k).toInt + en.lanes s1 s2 0 + en.lanes s1 s2 1 + en.lanes s1 s2 2 + en.lanes s1 s2 3)).next) :=
  State.loopInstr_upd hready hloop (by rw [h1, h2]; rfl) (by simp only [Int.add_assoc])

theorem execMpy_sets : execMpy p e s1 s2 k s =
    .next (s.upd p e fun en => (en.setA k (BitVec.ofInt 72 (prod (en.g s1) (en.g s2)))).next) := State.loopInstr_upd hready hloop rfl rfl

theorem execAccclr_clears : execAccclr p e k s = .next (s.upd p e fun en => (en.setA k 0).next) := State.loopInstr_upd hready hloop rfl rfl

theorem execAccx_saturates : execAccx p e d k sh s =
    .next (s.putSat p e d fun en => ((en.a k).toInt + if sh.toNat = 0 then 0 else 2 ^ (sh.toNat - 1)) / 2 ^ sh.toNat) := by
  have hround : (fun en : Engine => ((en.a k).toInt + if sh.toNat = 0 then 0 else 2 ^ (sh.toNat - 1)) / 2 ^ sh.toNat) =
      fun en => roundShift (en.a k).toInt sh.toNat := funext fun en => (roundShift_eq _ _).symm
  rw [hround]
  exact State.loopInstr_upd hready hloop rfl (Engine.aluSat_eq _ d _)

theorem execAccrd_reads (hsh : sh.toNat < 3) : execAccrd p e d k sh s = .next (s.put p e d fun en => accPart (en.a k) sh.toNat) :=
  State.loopInstr_upd hready hloop (decide_eq_true hsh) rfl

theorem execAccwr_writes (hsh : sh.toNat < 3) : execAccwr p e s1 k sh s =
    .next (s.upd p e fun en => (en.setA k (accPutPart (en.a k) sh.toNat (en.g s1))).next) :=
  State.loopInstr_upd hready hloop (decide_eq_true hsh) rfl

end

theorem execMac4_of_not_quad (h : quadOk s1 = false ∨ quadOk s2 = false) :
    execMac4 p e s1 s2 k s = .next (s.raises p e exILLEGAL (encMac 3 0 s1 s2 k 0)) :=
  State.loopInstr_raises hready (Bool.and_eq_false_iff.mpr h)

theorem execAccrd_of_no_part (hsh : 3 ≤ sh.toNat) :
    execAccrd p e d k sh s = .next (s.raises p e exILLEGAL (encMac 9 d 0 0 k sh.toNat)) :=
  State.loopInstr_raises hready (decide_eq_false (Nat.not_lt.mpr hsh))

theorem execAccwr_of_no_part (hsh : 3 ≤ sh.toNat) :
    execAccwr p e s1 k sh s = .next (s.raises p e exILLEGAL (encMac 10 0 s1 0 k sh.toNat)) :=
  State.loopInstr_raises hready (decide_eq_false (Nat.not_lt.mpr hsh))

end

/-- Settles O19: each instruction by its lemma above, with the saturation and the parts of an accumulator spelled out. -/
theorem accumulatorResults : Obligations.AccumulatorResults := by
  intro p e d s1 s2 k sh s hready hloop accSat pr half
  have haccSat : ∀ x : Engine → Int, (s.upd p e fun en => (en.setAccSat k (x en)).next) = accSat x := fun x => by
    simp only [accSat, Engine.setAccSat_eq]
  have hput : ∀ {v w : Acc → Word}, (∀ x, v x = w x) → (s.put p e d fun en => v (en.a k)) = s.put p e d fun en => w (en.a k) :=
    fun h => by rw [funext h]
  have hset : ∀ {v w : Acc → Word → Acc}, (∀ x y, v x y = w x y) → (s.upd p e fun en => (en.setA k (v (en.a k) (en.g s1))).next) =
      s.upd p e fun en => (en.setA k (w (en.a k) (en.g s1))).next := fun h => by rw [funext fun x => funext (h x)]
  refine ⟨haccSat _ ▸ execMacc_accumulates hready hloop s1 s2 k, haccSat _ ▸ execMsub_accumulates hready hloop s1 s2 k,
    execMpy_sets hready hloop s1 s2 k, fun h1 h2 => haccSat _ ▸ execMac4_accumulates hready hloop s1 s2 k h1 h2,
    fun h => ⟨_, execMac4_of_not_quad hready s1 s2 k h⟩, execAccx_saturates hready hloop d k sh, execAccclr_clears hready hloop k,
    hput accPart_zero ▸ execAccrd_reads hready hloop d k 0 (by decide), hput accPart_one ▸ execAccrd_reads hready hloop d k 1 (by decide),
    hput accPart_two ▸ execAccrd_reads hready hloop d k 2 (by decide),
    hset accPutPart_zero ▸ execAccwr_writes hready hloop s1 k 0 (by decide),
    hset accPutPart_one ▸ execAccwr_writes hready hloop s1 k 1 (by decide),
    hset accPutPart_two ▸ execAccwr_writes hready hloop s1 k 2 (by decide),
    fun hsh => ⟨⟨_, execAccrd_of_no_part hready d k sh hsh⟩, ⟨_, execAccwr_of_no_part hready s1 k sh hsh⟩⟩⟩

/-- Settles O60: an accumulate leaves the saturated exact sum, and 256 products of at most 2^62 each never reach saturation. -/
theorem accumulatorArithmeticIsExact : Obligations.AccumulatorArithmeticIsExact := by
  intro p e s1 s2 k s hready hloop en gives
  have hgives : ∀ (c : Instr) (x : Engine → Int), exec c s = .next (s.upd p e fun en => (en.setAccSat k (x en)).next) → gives c (x en) := by
    intro c x hexec
    have heng : (s.upd p e fun en => (en.setAccSat k (x en)).next).site.eng p e = (en.setAccSat k (x en)).next := Site.eng_modEng_same _ p e _
    exact ⟨_, hexec, heng ▸ en.toInt_a_setAccSat k _, heng ▸ en.flag_setAccSat k _⟩
  refine ⟨?_, ?_, fun x y => ?_, fun ws hlen => ?_⟩
  · exact hgives (.macc p e s1 s2 k) (fun en => (en.a k).toInt + prod (en.g s1) (en.g s2)) (execMacc_accumulates hready hloop s1 s2 k)
  · exact hgives (.msub p e s1 s2 k) (fun en => (en.a k).toInt - prod (en.g s1) (en.g s2)) (execMsub_accumulates hready hloop s1 s2 k)
  · have hle := abs_le.mp (abs_prod_le x y)
    omega
  · have hzero : ((en.setA k 0).a k).toInt = 0 := by rw [Engine.a_setA_same]; rfl
    obtain ⟨hval, hflag⟩ := Engine.foldl_setAccSat (k := k) ws (en.setA k 0) (by rw [hzero, abs_zero]; omega)
    exact ⟨by rw [hval, hzero, Int.zero_add], hflag⟩

end Sys2Proof.Machine
end

section
/-! PROOFS. The filter-section instructions (R130 to R133). -/
namespace Sys2Proof.Machine

/-! ### The record in DTCM (R130, R133) -/

theorem Mem.rdN_lt (m : Mem) (n : Nat) : ∀ a, m.rdN a n < 256 ^ n := by
  induction n with
  | zero => exact fun _ => Nat.one_pos
  | succ n ih =>
    intro a
    have hbyte := (m.rd a).isLt
    have hrest := ih (a + 1)
    rw [Mem.rdN, pow_succ]
    omega

/-- With no store waiting there is nothing to settle (R124). -/
theorem Engine.settleTcm_of_nil {en : Engine} (h : en.wbuf = []) : en.settleTcm = en := by
  cases en
  cases h
  rfl

theorem Engine.sectionAt_ctrl (en : Engine) (a : Nat) : (en.sectionAt a).ctrl = en.dtcm.rdN (a + 28) 4 :=
  Nat.mod_eq_of_lt (en.dtcm.rdN_lt 4 (a + 28))

/-! ### The output (R131) -/

section
variable (r : SectionRecord) (x : Int)

theorem SectionRecord.y_eq : r.y x = max (-2147483648) (min 2147483647 (r.exact x)) := satTo_eq_max_min _ _ _ (by decide)

theorem SectionRecord.out_eq : r.out x = if r.ctrl % 2 = 1 then min (max (r.y x) r.ymin) r.ymax else r.y x := by
  simp [SectionRecord.out, SectionRecord.clamp]

/-- LIM is set exactly when the clamp changed the output. -/
theorem SectionRecord.lim_eq : r.lim x = decide (r.out x ≠ r.y x) := by
  cases hclamp : r.clamp <;> simp [SectionRecord.lim, SectionRecord.out, hclamp]

/-- Q is set exactly when saturation changed the exact value. -/
theorem SectionRecord.sat32Hit_exact : sat32Hit (r.exact x) = decide (r.exact x ≠ r.y x) := by
  rw [sat32Hit, satHit_eq_decide_ne _ _ _ (by decide), ← SectionRecord.y_eq]
  exact decide_eq_decide.mpr ne_comm

theorem Engine.sectionOut_eq (en : Engine) (d : Gpr) : en.sectionOut d r x =
    ((en.setG d (BitVec.ofInt 32 (r.out x))).setFlag flagLIM (decide (r.out x ≠ r.y x))).stick flagQ (decide (r.exact x ≠ r.y x)) := by
  rw [Engine.sectionOut, SectionRecord.lim_eq, SectionRecord.sat32Hit_exact]

end

/-- The state words stored back into DTCM, in the order of the record (R130). -/
theorem Engine.putSectionState_eq (en : Engine) (a : Nat) (x1 x2 y1 y2 : Int) : en.putSectionState a x1 x2 y1 y2 =
    { en with dtcm := (((en.dtcm.wrN (a + 32) 4 (BitVec.ofInt 32 x1).toNat).wrN (a + 36) 4 (BitVec.ofInt 32 x2).toNat).wrN (a + 40) 4
      (BitVec.ofInt 32 y1).toNat).wrN (a + 44) 4 (BitVec.ofInt 32 y2).toNat } := by
  simp only [Engine.putSectionState, Engine.putDtcmWord]

/-! ### What the instructions do -/

section
variable {s : State} {p : Pav} {e : Eng} {s2 : Gpr} {idx : BitVec 9} {word : Word} {f : Engine → Nat → SectionRecord → Engine} {a : Word}
  (hready : s.site.ready p e = true) (hloop : loopProfile e = true) (ha : (s.site.eng p e).recAddr s2 idx = a)
include hready hloop ha

/-- A record that has a byte outside DTCM (R130). -/
theorem State.section_access (hout : a.toNat < 0x40000 ∨ 0x60000 < a.toNat + 48) :
    s.engineX p e (fun en => en.withSection e word s2 idx f) = .next (s.raises p e exACCESS a) :=
  State.engineX_raises hready (by simp [Engine.withSection, hloop, ha, hout])

theorem State.section_align (hlo : 0x40000 ≤ a.toNat) (hhi : a.toNat + 48 ≤ 0x60000) (halign : a.toNat % 16 ≠ 0) :
    s.engineX p e (fun en => en.withSection e word s2 idx f) = .next (s.raises p e exALIGN a) :=
  State.engineX_raises hready (by simp [Engine.withSection, hloop, ha, Nat.not_lt.mpr hlo, Nat.not_lt.mpr hhi, halign])

/-- A record that may be used is read as it stands in DTCM, with no store waiting. -/
theorem State.section_upd (hbuf : (s.site.eng p e).wbuf = []) (hlo : 0x40000 ≤ a.toNat) (hhi : a.toNat + 48 ≤ 0x60000)
    (halign : a.toNat % 16 = 0) (hctrl : (s.site.eng p e).dtcm.rdN (a.toNat + 28) 4 < 16) {g : Engine → Engine}
    (h : (f (s.site.eng p e) a.toNat ((s.site.eng p e).sectionAt a.toNat)).next = g (s.site.eng p e)) :
    s.engineX p e (fun en => en.withSection e word s2 idx f) = .next (s.upd p e g) :=
  State.engineX_upd hready (by simp [Engine.withSection, Engine.settleTcm_of_nil hbuf, Engine.sectionAt_ctrl, hloop, ha, Nat.not_lt.mpr hlo,
    Nat.not_lt.mpr hhi, halign, Nat.not_le.mpr hctrl, h])

variable (d s1 : Gpr)

theorem execSos_of_outside (hout : a.toNat < 0x40000 ∨ 0x60000 < a.toNat + 48) :
    execSos p e d s1 s2 idx s = .next (s.raises p e exACCESS a) := State.section_access hready hloop ha hout

theorem execSos_of_misaligned (hlo : 0x40000 ≤ a.toNat) (hhi : a.toNat + 48 ≤ 0x60000) (halign : a.toNat % 16 ≠ 0) :
    execSos p e d s1 s2 idx s = .next (s.raises p e exALIGN a) := State.section_align hready hloop ha hlo hhi halign

variable {r : SectionRecord} {x : Int} (hr : (s.site.eng p e).sectionAt a.toNat = r) (hx : ((s.site.eng p e).g s1).toInt = x)
  (hbuf : (s.site.eng p e).wbuf = []) (hlo : 0x40000 ≤ a.toNat) (hhi : a.toNat + 48 ≤ 0x60000) (halign : a.toNat % 16 = 0)
  (hctrl : (s.site.eng p e).dtcm.rdN (a.toNat + 28) 4 < 16)
include hx hbuf hlo hhi halign hctrl

theorem execSosp_presets : execSosp p e d s1 s2 idx s =
    .next (s.upd p e fun en => (en.putSectionState a.toNat x x (en.g d).toInt (en.g d).toInt).next) :=
  State.section_upd hready hloop ha hbuf hlo hhi halign hctrl (by rw [hx])

include hr

theorem execSos_filters : execSos p e d s1 s2 idx s =
    .next (s.upd p e fun en => ((en.putSectionState a.toNat x r.x1 (r.out x) r.y1).sectionOut d r x).next) :=
  State.section_upd hready hloop ha hbuf hlo hhi halign hctrl (by rw [hr, hx])

theorem execSosh_filters : execSosh p e d s1 s2 idx s = .next (s.upd p e fun en => (en.sectionOut d r x).next) :=
  State.section_upd hready hloop ha hbuf hlo hhi halign hctrl (by rw [hr, hx])

end

/-- Settles O21: the outcomes of a section instruction above, with the record's output spelled out. -/
theorem filterSectionResults : Obligations.FilterSectionResults := by
  intro p e d s1 s2 idx s hready hloop hbuf en a w ctrl x acc yx ys y st out
  have ha : en.recAddr s2 idx = a := rfl
  have hctrl : (en.sectionAt a.toNat).ctrl = ctrl := en.sectionAt_ctrl a.toNat
  have hacc : (en.sectionAt a.toNat).sum x = acc := by
    simp only [acc, w, SectionRecord.sum, Engine.sectionAt, Engine.dtcmWord]
  have hyx : (en.sectionAt a.toNat).exact x = yx := by rw [SectionRecord.exact, SectionRecord.gsh, hctrl, hacc]
  have hys : (en.sectionAt a.toNat).y x = ys := by rw [SectionRecord.y_eq, hyx]
  have hy : (en.sectionAt a.toNat).out x = y := by
    rw [SectionRecord.out_eq, hctrl, hys]
    simp only [y, w, Engine.sectionAt, Engine.dtcmWord]
  have hout : ∀ en' : Engine, (en'.sectionOut d (en.sectionAt a.toNat) x).next = out en' := fun en' => by
    rw [Engine.sectionOut_eq, hy, hys, hyx]
  have hstate : ∀ (en' : Engine) (x1 x2 y1 y2 : Int), en'.putSectionState a.toNat x1 x2 y1 y2 = { en' with dtcm := st en'.dtcm x1 x2 y1 y2 } :=
    fun en' => en'.putSectionState_eq a.toNat
  have hx1 : (en.sectionAt a.toNat).x1 = w 8 := by simp only [w, Engine.sectionAt, Engine.dtcmWord]
  have hy1 : (en.sectionAt a.toNat).y1 = w 10 := by simp only [w, Engine.sectionAt, Engine.dtcmWord]
  refine ⟨fun hlo hhi halign hlt => ⟨?_, ?_, ?_⟩, execSos_of_outside hready hloop ha d s1, execSos_of_misaligned hready hloop ha d s1⟩
  · refine (execSos_filters hready hloop ha d s1 rfl rfl hbuf hlo hhi halign hlt).trans ?_
    simp only [hout, hstate, hy, hx1, hy1, x, en]
  · refine (execSosh_filters hready hloop ha d s1 rfl rfl hbuf hlo hhi halign hlt).trans ?_
    simp only [hout, x, en]
  · refine (execSosp_presets hready hloop ha d s1 rfl hbuf hlo hhi halign hlt).trans ?_
    simp only [hstate, Engine.next, x, en]

end Sys2Proof.Machine
end

section
/-! PROOFS. Discovery on a stage link: IDENT, AUTH, CONFIG, ROUTE_SET, and the ways out of it (R165, R174 to R177, R184). -/
namespace Sys2Proof.Machine

/-! ### What a step of the discovery writes -/

/-- A change writes no field but those of `own` and the event counters, and leaves the allocation records. -/
structure Replica.WritesOnly (own : List Field) (r r' : Replica) : Prop where
  rd : ∀ (f : Field) (i : Nat), f ∉ own → f.isCount = false → r'.rd f i = r.rd f i
  alloc : r'.alloc = r.alloc

section
variable {own own' : List Field} {r r' r'' : Replica}

theorem Replica.WritesOnly.refl (r : Replica) : Replica.WritesOnly own r r := ⟨fun _ _ _ _ => rfl, rfl⟩

theorem Replica.WritesOnly.trans (h : Replica.WritesOnly own r r') (h' : Replica.WritesOnly own r' r'') : Replica.WritesOnly own r r'' :=
  ⟨fun f i hf hc => (h'.rd f i hf hc).trans (h.rd f i hf hc), h'.alloc.trans h.alloc⟩

theorem Replica.WritesOnly.mono (h : Replica.WritesOnly own r r') (hsub : own ⊆ own') : Replica.WritesOnly own' r r' :=
  ⟨fun f i hf => h.rd f i fun hmem => hf (hsub hmem), h.alloc⟩

theorem Replica.WritesOnly.wr (h : Replica.WritesOnly own r r') {f : Field} (hf : f ∈ own) (v i : Nat) : Replica.WritesOnly own r (r'.wr f v i) :=
  h.trans ⟨fun _ _ hh _ => r'.rd_wr_of_ne _ _ _ (ne_of_mem_of_not_mem hf hh).symm, rfl⟩

theorem Replica.WritesOnly.raise (h : Replica.WritesOnly own r r') {f : Field} (hf : f ∈ own) (i : Nat) : Replica.WritesOnly own r (r'.raise f i) :=
  h.trans ⟨fun _ _ hh hc => Regs.rd_raise_ne _ _ _ _ _ (ne_of_mem_of_not_mem hf hh).symm hc, rfl⟩

theorem Replica.WritesOnly.setLink (h : Replica.WritesOnly own r r') (g : Nat) (x : StageLink) : Replica.WritesOnly own r (r'.setLink g x) :=
  ⟨h.rd, h.alloc⟩

end

/-- The fields that a change of a link's state may write: the state itself, what entry into DOWN resets, and the marks of the history ring. -/
def stateFields : List Field :=
  [.STG_LSTATE_STATE, .STG_ACTIVE_ACT, .STG_LSTATE_VER, .STG_LSTATE_SLEN, .STG_LSTATE_CLEN, .STG_LMSG_BUSY, .CTL_HLOST_LOST, .CTL_HFRZ_FRZ]

/-- The fields that a request writes (R184). -/
def requestFields : List Field := [.STG_LMSG_MTID, .STG_LMSG_LEN, .STG_LMSG_BUSY, .STG_LMSG_DONE, .STG_LMSG_FAIL]

/-! ### A change of a link's state (R177) -/

section
variable (r : Replica) (v : Env) (g : Grp) (st : Nat)

/-- The state and the place among the active links, with the history ring frozen where ACTIVE is left. -/
def Replica.linkMoved : Replica :=
  let r := if r.lstate g = lsActive && (st = lsDown || st = lsFault) then r.freezeRing v g 0x12 else r
  (r.wr .STG_LSTATE_STATE st g).wr .STG_ACTIVE_ACT (putBit (r.rd .STG_ACTIVE_ACT) g (st = lsActive))

/-- The agreed values and the exchange of a link that is down. -/
def Replica.linkReset : Replica :=
  let r := ((r.wr .STG_LSTATE_VER 0 g).wr .STG_LSTATE_SLEN 56 g).wr .STG_LSTATE_CLEN 42 g
  (r.setLink g { r.link g with goodRun := 0, silentRun := 0, awaited := 0, nextFrag := none, replyFrag := 0, replyB := [], refusedB := false }).wr
    .STG_LMSG_BUSY 0 g

theorem Replica.setLink'_down : r.setLink' v g lsDown = (r.linkMoved v g lsDown).linkReset g := rfl

variable {st} in
theorem Replica.setLink'_of_up (hdown : st ≠ lsDown) (hdis : st ≠ lsDisabled) : r.setLink' v g st = r.linkMoved v g st :=
  if_neg (by simp [hdown, hdis])

theorem Replica.writesOnly_freezeRing (k cause : Nat) : Replica.WritesOnly stateFields r (r.freezeRing v k cause) := by
  refine ⟨fun f i hf _ => r.rd_freezeRing v k cause i ?_ ?_, ?_⟩
  · exact (ne_of_mem_of_not_mem (by decide) hf).symm
  · exact (ne_of_mem_of_not_mem (by decide) hf).symm
  · unfold Replica.freezeRing
    split <;> rfl

theorem Replica.writesOnly_linkMoved : Replica.WritesOnly stateFields r (r.linkMoved v g st) := by
  unfold Replica.linkMoved
  split
  · exact ((r.writesOnly_freezeRing v g 0x12).wr (by decide) _ _).wr (by decide) _ _
  · exact ((Replica.WritesOnly.refl r).wr (by decide) _ _).wr (by decide) _ _

theorem Replica.writesOnly_linkReset :
    Replica.WritesOnly [.STG_LSTATE_VER, .STG_LSTATE_SLEN, .STG_LSTATE_CLEN, .STG_LMSG_BUSY] r (r.linkReset g) :=
  (((((Replica.WritesOnly.refl r).wr (by decide) _ _).wr (by decide) _ _).wr (by decide) _ _).setLink _ _).wr (by decide) _ _

theorem Replica.writesOnly_setLink' : Replica.WritesOnly stateFields r (r.setLink' v g st) := by
  have hmoved := r.writesOnly_linkMoved v g st
  change Replica.WritesOnly stateFields r (if _ then (r.linkMoved v g st).linkReset g else r.linkMoved v g st)
  split
  · exact hmoved.trans ((Replica.writesOnly_linkReset _ g).mono (by decide))
  · exact hmoved

variable {st} in
theorem Replica.lstate_linkMoved (hst : st < 8) : (r.linkMoved v g st).lstate g = st :=
  (Replica.rd_wr_of_ne _ _ _ _ (by decide)).trans ((Replica.rd_wr_same _ _ _ _).trans (Nat.mod_eq_of_lt hst))

theorem Replica.active_linkMoved : bitOf ((r.linkMoved v g st).rd .STG_ACTIVE_ACT) g = decide (st = lsActive) := by
  refine (congrArg (bitOf · g) (Replica.rd_wr_same _ .STG_ACTIVE_ACT _ 0)).trans ?_
  cases decide (st = lsActive)
  · exact bitOf_putBit_false _ _ _
  · exact bitOf_putBit_true _ g.isLt

variable {st} in
/-- A link that is neither down nor disabled keeps what it knows of its endpoint. -/
theorem Replica.link_setLink'_of_up (hdown : st ≠ lsDown) (hdis : st ≠ lsDisabled) : (r.setLink' v g st).link g = r.link g := by
  have hring : (r.freezeRing v g 0x12).link g = r.link g := by
    unfold Replica.freezeRing
    split <;> rfl
  rw [r.setLink'_of_up v g hdown hdis, Replica.linkMoved]
  split
  · exact hring
  · rfl

variable {st} in
theorem Replica.lstate_setLink'_of_up (hst : st < 8) (hdown : st ≠ lsDown) (hdis : st ≠ lsDisabled) : (r.setLink' v g st).lstate g = st := by
  rw [r.setLink'_of_up v g hdown hdis, r.lstate_linkMoved v g hst]

theorem Replica.lstate_setLink'_down : (r.setLink' v g lsDown).lstate g = lsDown :=
  ((Replica.writesOnly_linkReset _ g).rd _ _ (by decide) rfl).trans (r.lstate_linkMoved v g (by decide))

theorem Replica.active_setLink'_active : bitOf ((r.setLink' v g lsActive).rd .STG_ACTIVE_ACT) g = true := by
  rw [r.setLink'_of_up v g (by decide) (by decide)]
  exact r.active_linkMoved v g lsActive

theorem Replica.active_setLink'_down : bitOf ((r.setLink' v g lsDown).rd .STG_ACTIVE_ACT) g = false := by
  rw [r.setLink'_down, (Replica.writesOnly_linkReset _ g).rd _ _ (by decide) rfl]
  exact r.active_linkMoved v g lsDown

theorem Replica.agreed_setLink'_down : (r.setLink' v g lsDown).rd .STG_LSTATE_VER g = 0 ∧ (r.setLink' v g lsDown).rd .STG_LSTATE_SLEN g = 56 ∧
    (r.setLink' v g lsDown).rd .STG_LSTATE_CLEN g = 42 := by
  have hreads : ∀ f, (r.setLink' v g lsDown).rd f g = (((((r.linkMoved v g lsDown).wr .STG_LSTATE_VER 0 g).wr .STG_LSTATE_SLEN 56 g).wr
      .STG_LSTATE_CLEN 42 g).wr .STG_LMSG_BUSY 0 g).rd f g := fun _ => rfl
  simp (disch := decide) only [hreads, Replica.rd_wr_of_ne, Replica.rd_wr_same]
  exact ⟨rfl, rfl, rfl⟩

variable {v g} in
/-- FAULT with its event. -/
theorem Replica.discFault_faults {ev : Field} (hev : ev ∉ stateFields) (hcount : ev.isCount = false) (hwidth : 0 < ev.info.width) :
    (r.discFault v g ev).lstate g = lsFault ∧ (r.discFault v g ev).rd ev = 1 :=
  ⟨Replica.lstate_setLink'_of_up _ v g (by decide) (by decide) (by decide),
    ((Replica.writesOnly_setLink' _ v g lsFault).rd ev 0 hev hcount).trans (Regs.rd_raise_same _ _ _ hcount hwidth)⟩

end

/-! ### A request (R173, R184) -/

section
variable (r : Replica) (v : Env) (g : Grp)

theorem Replica.unused_setLink_same (x : StageLink) (lane : Lane) : ((r.setLink g x).link g).unused lane = x.unused lane :=
  congrArg (StageLink.unused · lane) (r.link_setLink_same g x)

theorem Replica.writesOnly_msgGo (mtid len : Nat) : Replica.WritesOnly requestFields r (r.msgGo g mtid len) := by
  unfold Replica.msgGo
  split
  · exact .refl r
  · exact ((((((Replica.WritesOnly.refl r).wr (by decide) _ _).wr (by decide) _ _).wr (by decide) _ _).wr (by decide) _ _).wr
      (by decide) _ _).setLink _ _

theorem Replica.unused_msgGo (mtid len : Nat) (lane : Lane) : ((r.msgGo g mtid len).link g).unused lane = (r.link g).unused lane := by
  unfold Replica.msgGo
  split
  · rfl
  · exact (Replica.unused_setLink_same _ g _ lane).trans rfl

theorem Replica.writesOnly_stgSend (awaited : Nat) (bytes : List Byte) : Replica.WritesOnly requestFields r (r.stgSend g awaited bytes) := by
  obtain ⟨hrd, halloc⟩ := Replica.writesOnly_msgGo { r with blkMem := r.blkMem.wrBytes (stgReq g) (padTo 128 bytes) } g
    ((r.link g).mtid % 255 + 1) bytes.length
  exact ⟨hrd, halloc⟩

theorem Replica.unused_stgSend (awaited : Nat) (bytes : List Byte) (lane : Lane) :
    ((r.stgSend g awaited bytes).link g).unused lane = (r.link g).unused lane :=
  (Replica.unused_setLink_same _ g _ lane).trans (Replica.unused_msgGo _ g _ _ lane)

theorem Replica.awaited_stgSend (awaited : Nat) (bytes : List Byte) : ((r.stgSend g awaited bytes).link g).awaited = awaited :=
  congrArg StageLink.awaited (Replica.link_setLink_same _ g _)

theorem Replica.lstate_stgSend (awaited : Nat) (bytes : List Byte) : (r.stgSend g awaited bytes).lstate g = r.lstate g :=
  (r.writesOnly_stgSend g awaited bytes).rd _ _ (by decide) rfl

/-- A challenge is a request, or the link waits for a usable slot (R509). -/
theorem Replica.writesOnly_sendAuthChal : Replica.WritesOnly requestFields r (r.sendAuthChal v g) := by
  unfold Replica.sendAuthChal
  split
  · exact r.writesOnly_stgSend g _ _
  · exact (Replica.WritesOnly.refl r).setLink _ _

theorem Replica.unused_sendAuthChal (lane : Lane) : ((r.sendAuthChal v g).link g).unused lane = (r.link g).unused lane := by
  unfold Replica.sendAuthChal
  split
  · exact r.unused_stgSend g _ _ lane
  · exact (r.unused_setLink_same g _ lane).trans rfl

end

/-! ### IDENT (R175, R177) -/

theorem ofLe_lt (bs : List Byte) : ofLe bs < 256 ^ bs.length := by
  induction bs with
  | nil => exact Nat.one_pos
  | cons b bs ih =>
    have hbyte := b.isLt
    rw [ofLe, List.length_cons, pow_succ]
    omega

theorem fieldAt_lt (bs : List Byte) (i n : Nat) : fieldAt bs i n < 256 ^ n :=
  (ofLe_lt _).trans_le (Nat.pow_le_pow_right (by decide) (List.length_take_le _ _))

/-- A sound IDENT counts at most 8 phases. -/
theorem nph_le_of_identOk {b : List Byte} (h : identOk b = true) : byteAt b 30 ≤ 8 := by
  simp only [identOk, Bool.and_eq_true, decide_eq_true_eq] at h
  obtain ⟨⟨⟨⟨-, hnph⟩, -⟩, -⟩, -⟩ := h
  exact hnph

section
variable (r : Replica) (v : Env) (g : Grp)

/-- The unit that the reply in the buffer reports. -/
def Replica.replyUnit : Nat := fieldAt (r.stgReply g) 8 8

/-- What a new endpoint leaves: the event, and its group's mark for the allocation (R177, R267). -/
def Replica.newEndpointShown : Prop := r.rd .STG_EVENT_NEW_ENDPOINT = 1 ∧ vget r.alloc.newEndpoint g 0 = 1

variable {r g} in
theorem Replica.newEndpointShown.of_writesOnly (h : r.newEndpointShown g) {own : List Field} {r' : Replica} (hw : Replica.WritesOnly own r r')
    (hown : .STG_EVENT_NEW_ENDPOINT ∉ own) : r'.newEndpointShown g := by
  obtain ⟨hflag, hmark⟩ := h
  exact ⟨(hw.rd _ _ hown rfl).trans hflag, by rw [hw.alloc]; exact hmark⟩

theorem Replica.link_noteUnit (unit : Nat) : (r.noteUnit g unit).link g = { r.link g with lastUnit := some unit } := by
  unfold Replica.noteUnit
  dsimp only
  split <;> exact r.link_setLink_same g _

theorem Replica.rd_noteUnit (unit : Nat) {f : Field} (i : Nat) (hf : f ≠ .STG_EVENT_NEW_ENDPOINT) (hc : f.isCount = false) :
    (r.noteUnit g unit).rd f i = r.rd f i := by
  unfold Replica.noteUnit
  dsimp only
  split
  · rfl
  · exact Regs.rd_raise_ne _ _ _ _ _ hf hc

variable {r g} in
theorem Replica.newEndpointShown_noteUnit {u unit : Nat} (hlast : (r.link g).lastUnit = some u) (hne : u ≠ unit) :
    (r.noteUnit g unit).newEndpointShown g := by
  unfold Replica.noteUnit
  dsimp only
  rw [if_neg (by simp [hlast, hne])]
  exact ⟨Regs.rd_raise_same _ _ _ rfl (by decide), vget_vput_same _ _ _ _ g.isLt⟩

theorem Replica.writesOnly_checkLaneB (unit : Nat) : Replica.WritesOnly [.STG_EVENT_LANE_MISMATCH] r (r.checkLaneB g unit) := by
  unfold Replica.checkLaneB
  dsimp only
  split
  · exact ((Replica.WritesOnly.refl r).setLink _ _).raise (by decide) _
  · exact .refl r

variable {r g} in
/-- Lane B of a two-lane link that reports another unit is refused. -/
theorem Replica.checkLaneB_refuses {unit : Nat} (hlanes : r.rd .STG_LCFG_LANES g = 0) (hlong : 16 ≤ (r.link g).replyB.length)
    (hne : fieldAt (r.link g).replyB 8 8 ≠ unit) :
    (r.checkLaneB g unit).rd .STG_EVENT_LANE_MISMATCH = 1 ∧ ((r.checkLaneB g unit).link g).unused .B = true := by
  unfold Replica.checkLaneB
  dsimp only
  rw [if_pos (by simp [hlanes, hlong, hne])]
  exact ⟨Regs.rd_raise_same _ _ _ rfl (by decide), (r.unused_setLink_same g _ .B).trans (Bool.or_true _)⟩

/-- The unit is noted, and the link holds what the endpoint says of itself. -/
def Replica.identHeld : Replica :=
  (r.noteUnit g (r.replyUnit g)).setLink g
    { (r.noteUnit g (r.replyUnit g)).link g with ident := identOf (r.stgReply g), awaited := 0 }

/-- What a sound IDENT leaves before the next request. -/
def Replica.identified : Replica :=
  ((((r.identHeld g).checkLaneB g (r.replyUnit g)).wr .STG_LSTATE_NPH (byteAt (r.stgReply g) 30) g).wr
    .STG_LUNIT_LO_UNIT (r.replyUnit g) g).wr .STG_LUNIT_HI_UNIT (r.replyUnit g / 2 ^ 32) g

/-- Discovery goes on with AUTH where it is asked for, with CONFIG otherwise. -/
def Replica.identPassed : Replica :=
  if r.rd .STG_CTRL_AUTHREQ = 1 then (r.setLink' v g lsAuth).sendAuthChal v g else (r.setLink' v g lsConfig).sendConfig v g

/-- The fields that an IDENT may write after its unit is noted. -/
def identFields : List Field :=
  List.append [.STG_EVENT_NO_VERSION, .STG_EVENT_DISC_REFUSED, .STG_EVENT_LANE_MISMATCH, .STG_LSTATE_NPH, .STG_LUNIT_LO_UNIT,
    .STG_LUNIT_HI_UNIT] (stateFields ++ requestFields)

theorem Replica.writesOnly_identPassed : Replica.WritesOnly (stateFields ++ requestFields) r (r.identPassed v g) := by
  have hstate : ∀ st, Replica.WritesOnly (stateFields ++ requestFields) r (r.setLink' v g st) :=
    fun st => (r.writesOnly_setLink' v g st).mono (List.subset_append_left _ _)
  unfold Replica.identPassed
  split
  · exact (hstate _).trans ((Replica.writesOnly_sendAuthChal _ v g).mono (List.subset_append_right _ _))
  · exact (hstate _).trans ((Replica.writesOnly_stgSend _ g _ _).mono (List.subset_append_right _ _))

theorem Replica.lstate_identPassed : (r.identPassed v g).lstate g = if r.rd .STG_CTRL_AUTHREQ = 1 then lsAuth else lsConfig := by
  unfold Replica.identPassed
  split
  · exact ((Replica.writesOnly_sendAuthChal _ v g).rd _ _ (by decide) rfl).trans
      (r.lstate_setLink'_of_up v g (by decide) (by decide) (by decide))
  · exact (Replica.lstate_stgSend _ g _ _).trans (r.lstate_setLink'_of_up v g (by decide) (by decide) (by decide))

theorem Replica.unused_identPassed (lane : Lane) : ((r.identPassed v g).link g).unused lane = (r.link g).unused lane := by
  unfold Replica.identPassed
  split
  · rw [Replica.unused_sendAuthChal, r.link_setLink'_of_up v g (by decide) (by decide)]
  · exact (Replica.unused_stgSend _ g _ _ lane).trans (by rw [r.link_setLink'_of_up v g (by decide) (by decide)])

theorem Replica.writesOnly_identified : Replica.WritesOnly identFields (r.noteUnit g (r.replyUnit g)) (r.identified g) :=
  ((((((Replica.WritesOnly.refl _).setLink _ _).trans ((Replica.writesOnly_checkLaneB _ g _).mono (by decide))).wr (by decide) _ _).wr
    (by decide) _ _).wr (by decide) _ _)

theorem Replica.rd_identified {f : Field} (i : Nat) (hnew : f ≠ .STG_EVENT_NEW_ENDPOINT) (hf : f ∉ identFields) (hc : f.isCount = false) :
    (r.identified g).rd f i = r.rd f i := ((r.writesOnly_identified g).rd f i hf hc).trans (r.rd_noteUnit g _ i hnew hc)

theorem Replica.endpoint_identified (hok : identOk (r.stgReply g) = true) :
    (r.identified g).rd .STG_LSTATE_NPH g = byteAt (r.stgReply g) 30 ∧ (r.identified g).rd .STG_LUNIT_LO_UNIT g = r.replyUnit g % 2 ^ 32 ∧
      (r.identified g).rd .STG_LUNIT_HI_UNIT g = r.replyUnit g / 2 ^ 32 := by
  have hnph := nph_le_of_identOk hok
  have hunit : r.replyUnit g < 2 ^ 64 := fieldAt_lt _ 8 8
  simp (disch := decide) only [Replica.identified, Replica.rd_wr_of_ne, Replica.rd_wr_same]
  exact ⟨Nat.mod_eq_of_lt (by change _ < 2 ^ 4; omega), rfl, Nat.mod_eq_of_lt (by change _ < 2 ^ 32; omega)⟩

variable {r g} in
theorem Replica.identified_refuses (hlanes : r.rd .STG_LCFG_LANES g = 0) (hlong : 16 ≤ (r.link g).replyB.length)
    (hne : fieldAt (r.link g).replyB 8 8 ≠ r.replyUnit g) :
    (r.identified g).rd .STG_EVENT_LANE_MISMATCH = 1 ∧ ((r.identified g).link g).unused .B = true := by
  have hreply : ((r.identHeld g).link g).replyB = (r.link g).replyB := by rw [Replica.identHeld, Replica.link_setLink_same, Replica.link_noteUnit]
  obtain ⟨hflag, hunused⟩ := Replica.checkLaneB_refuses (r := r.identHeld g) (g := g) (unit := r.replyUnit g)
    ((r.rd_noteUnit g _ g (by decide) rfl).trans hlanes) (by rwa [hreply]) (by rwa [hreply])
  refine ⟨?_, hunused⟩
  simp (disch := decide) only [Replica.identified, Replica.rd_wr_of_ne]
  exact hflag

variable {r g} in
/-- What an IDENT does where one is awaited. -/
theorem Replica.identReply_of_ident (hstate : r.lstate g = lsIdent) : r.identReply v g =
    if byteAt (r.stgReply g) 2 = 0 then (r.noteUnit g (r.replyUnit g)).discFault v g .STG_EVENT_NO_VERSION
    else if identOk (r.stgReply g) = true ∧ (byteAt (r.stgReply g) 3 = 1 ↔ r.rd .STG_LCFG_LANES g = 1) then (r.identified g).identPassed v g
    else (r.noteUnit g (r.replyUnit g)).discFault v g .STG_EVENT_DISC_REFUSED := by
  have hlanes : (r.noteUnit g (identOf (r.stgReply g)).unit).rd .STG_LCFG_LANES g = r.rd .STG_LCFG_LANES g :=
    r.rd_noteUnit g _ g (by decide) rfl
  unfold Replica.identReply
  rw [if_neg (not_not.2 hstate)]
  dsimp only
  rw [hlanes]
  by_cases hver : byteAt (r.stgReply g) 2 = 0
  · rw [if_pos hver, if_pos hver]
    rfl
  · rw [if_neg hver, if_neg hver]
    by_cases hsound : identOk (r.stgReply g) = true ∧ (byteAt (r.stgReply g) 3 = 1 ↔ r.rd .STG_LCFG_LANES g = 1)
    · rw [if_pos hsound, if_neg (by simp [hsound])]
      rfl
    · rw [if_neg hsound, if_pos (by simpa [imp_iff_not_or] using hsound)]
      rfl

variable {r g} in
/-- Whatever becomes of an IDENT, its unit is noted. -/
theorem Replica.writesOnly_identReply (hstate : r.lstate g = lsIdent) :
    Replica.WritesOnly identFields (r.noteUnit g (r.replyUnit g)) (r.identReply v g) := by
  have hfault : ∀ ev ∈ identFields,
      Replica.WritesOnly identFields (r.noteUnit g (r.replyUnit g)) ((r.noteUnit g (r.replyUnit g)).discFault v g ev) :=
    fun ev hev => ((Replica.WritesOnly.refl _).raise hev 0).trans ((Replica.writesOnly_setLink' _ v g lsFault).mono (by decide))
  rw [Replica.identReply_of_ident v hstate]
  split
  · exact hfault _ (by decide)
  · split
    · exact (r.writesOnly_identified g).trans ((Replica.writesOnly_identPassed _ v g).mono (List.subset_append_right _ _))
    · exact hfault _ (by decide)

variable {r g} in
theorem Replica.identReply_of_sound (hstate : r.lstate g = lsIdent) (hver : byteAt (r.stgReply g) 2 ≠ 0) (hok : identOk (r.stgReply g) = true)
    (hlanes : byteAt (r.stgReply g) 3 = 1 ↔ r.rd .STG_LCFG_LANES g = 1) : r.identReply v g = (r.identified g).identPassed v g := by
  rw [Replica.identReply_of_ident v hstate, if_neg hver, if_pos ⟨hok, hlanes⟩]

variable {r g} in
theorem Replica.identReply_identifies (hstate : r.lstate g = lsIdent) (hver : byteAt (r.stgReply g) 2 ≠ 0) (hok : identOk (r.stgReply g) = true)
    (hlanes : byteAt (r.stgReply g) 3 = 1 ↔ r.rd .STG_LCFG_LANES g = 1) :
    (r.identReply v g).lstate g = (if r.rd .STG_CTRL_AUTHREQ = 1 then lsAuth else lsConfig) ∧
      (r.identReply v g).rd .STG_LSTATE_NPH g = byteAt (r.stgReply g) 30 ∧
      (r.identReply v g).rd .STG_LUNIT_LO_UNIT g = r.replyUnit g % 2 ^ 32 ∧
      (r.identReply v g).rd .STG_LUNIT_HI_UNIT g = r.replyUnit g / 2 ^ 32 := by
  obtain ⟨hnph, hlo, hhi⟩ := r.endpoint_identified g hok
  have hkept := (r.identified g).writesOnly_identPassed v g
  rw [Replica.identReply_of_sound v hstate hver hok hlanes, Replica.lstate_identPassed, r.rd_identified g _ (by decide) (by decide) rfl]
  exact ⟨rfl, (hkept.rd _ _ (by decide) rfl).trans hnph, (hkept.rd _ _ (by decide) rfl).trans hlo, (hkept.rd _ _ (by decide) rfl).trans hhi⟩

variable {r g} in
theorem Replica.identReply_of_no_version (hstate : r.lstate g = lsIdent) (hver : byteAt (r.stgReply g) 2 = 0) :
    (r.identReply v g).lstate g = lsFault ∧ (r.identReply v g).rd .STG_EVENT_NO_VERSION = 1 := by
  rw [Replica.identReply_of_ident v hstate, if_pos hver]
  exact Replica.discFault_faults _ (by decide) rfl (by decide)

variable {r g} in
theorem Replica.identReply_of_other_unit (hstate : r.lstate g = lsIdent) {u : Nat} (hlast : (r.link g).lastUnit = some u)
    (hne : u ≠ r.replyUnit g) : (r.identReply v g).newEndpointShown g :=
  (Replica.newEndpointShown_noteUnit hlast hne).of_writesOnly (Replica.writesOnly_identReply v hstate) (by decide)

variable {r g} in
theorem Replica.identReply_refuses_laneB (hstate : r.lstate g = lsIdent) (hver : byteAt (r.stgReply g) 2 ≠ 0)
    (hok : identOk (r.stgReply g) = true) (htwo : byteAt (r.stgReply g) 3 ≠ 1) (hlanes : r.rd .STG_LCFG_LANES g = 0)
    (hlong : 16 ≤ (r.link g).replyB.length) (hne : fieldAt (r.link g).replyB 8 8 ≠ r.replyUnit g) :
    (r.identReply v g).rd .STG_EVENT_LANE_MISMATCH = 1 ∧ ((r.identReply v g).link g).unused .B = true := by
  obtain ⟨hflag, hunused⟩ := Replica.identified_refuses hlanes hlong hne
  rw [Replica.identReply_of_sound v hstate hver hok (iff_of_false htwo (by omega)), Replica.unused_identPassed]
  exact ⟨((Replica.writesOnly_identPassed _ v g).rd _ _ (by decide) rfl).trans hflag, hunused⟩

end

/-! ### CONFIG and ROUTE_SET (R165, R177) -/

/-- A replica with the values of the CONFIG in force (R165). -/
def Replica.agreed (r : Replica) (g : Grp) : Replica :=
  ((r.wr .STG_LSTATE_VER (r.link g).ident.verSel g).wr .STG_LSTATE_SLEN (r.link g).ident.slen g).wr .STG_LSTATE_CLEN (r.link g).ident.clen g

/-- CONFIG goes out, and its answer is awaited. -/
theorem Replica.configEntered (r : Replica) (v : Env) (g : Grp) : ((r.setLink' v g lsConfig).sendConfig v g).lstate g = lsConfig ∧
    (((r.setLink' v g lsConfig).sendConfig v g).link g).awaited = 0x83 :=
  ⟨(Replica.lstate_stgSend _ g 0x83 _).trans (r.lstate_setLink'_of_up v g (by decide) (by decide) (by decide)), Replica.awaited_stgSend _ g _ _⟩

/-- The agreed values stand while ROUTE_SET goes out. -/
theorem Replica.agreed_routeSet (r : Replica) (g : Grp) (hstate : r.lstate g = lsConfig) :
    ((r.agreed g).sendRouteSet g).lstate g = lsConfig ∧ ((r.agreed g).sendRouteSet g).rd .STG_LSTATE_VER g = (r.link g).ident.verSel % 4 ∧
      ((r.agreed g).sendRouteSet g).rd .STG_LSTATE_SLEN g = (r.link g).ident.slen % 256 ∧
      ((r.agreed g).sendRouteSet g).rd .STG_LSTATE_CLEN g = (r.link g).ident.clen % 256 ∧
      (((r.agreed g).sendRouteSet g).link g).awaited = 0x84 := by
  have hsent : ∀ f, f ∉ requestFields → f.isCount = false → ((r.agreed g).sendRouteSet g).rd f g = (r.agreed g).rd f g :=
    fun f => (Replica.writesOnly_stgSend (r.agreed g) g _ _).rd f g
  refine ⟨(hsent _ (by decide) rfl).trans ?_, (hsent _ (by decide) rfl).trans ?_, (hsent _ (by decide) rfl).trans ?_,
    (hsent _ (by decide) rfl).trans ?_, Replica.awaited_stgSend _ g _ _⟩ <;>
    simp (disch := decide) only [Replica.agreed, Replica.rd_wr_of_ne, Replica.rd_wr_same]
  · exact hstate
  all_goals rfl

/-! ### The commands -/

@[simp] theorem Replica.lstate_flushed (r : Replica) (g : Nat) : r.flushed.lstate g = r.lstate g := rfl
@[simp] theorem Replica.link_flushed (r : Replica) (g : Nat) : r.flushed.link g = r.link g := rfl
@[simp] theorem Replica.alloc_flushed (r : Replica) : r.flushed.alloc = r.alloc := rfl

theorem Replica.discovering_of_lstate {r : Replica} {g st : Nat} (h : r.lstate g = st) (hlo : 1 ≤ st) (hhi : st ≤ 3) :
    r.discovering g = true := by simp [Replica.discovering, h, hlo, hhi]

section
variable {s : State} {p : Pav} {g : Grp} (hstep : (s.site.pav p).inStep = true)
include hstep

theorem stgLinkLost_of_silent (hrun : 64 ≤ ((s.site.pav p).rep.link g).silentRun) (hdown : (s.site.pav p).rep.lstate g ≠ lsDown)
    (hdis : (s.site.pav p).rep.lstate g ≠ lsDisabled) : ∃ t : State, execStgLinkLost g s = .next t ∧
      (t.site.pav p).rep = (((s.view p).raise .STG_EVENT_LINK_LOST).setLink' s.site.env g lsDown).flushed := by
  have hlive : (decide (((s.site.pav p).rep.link g).silentRun < 64) || decide ((s.site.pav p).rep.lstate g = lsDown) ||
      decide ((s.site.pav p).rep.lstate g = lsDisabled)) = false := by
    simp [Nat.not_lt.2 hrun, hdown, hdis]
  exact State.onLog_of_eq hstep (if_neg (Bool.not_eq_true _ ▸ hlive))

theorem stgFaultExit_of_fault (hstate : (s.site.pav p).rep.lstate g = lsFault) : ∃ t : State, execStgFaultExit g s = .next t ∧
    (t.site.pav p).rep = ((s.view p).setLink' s.site.env g lsDown).flushed := State.onLog_of_eq hstep (if_pos hstate)

theorem stgLinkRestart_of_fault (hstate : (s.site.pav p).rep.lstate g = lsFault) : ∃ t : State, execStgLinkRestart g s = .next t ∧
    (t.site.pav p).rep = ((s.view p).setLink' s.site.env g lsDown).flushed := State.onLog_of_eq hstep (if_pos hstate)

section
variable (hdone : (s.site.pav p).rep.replyDone g = true)
include hdone

theorem stgIdentReply_of_done : ∃ t : State, execStgIdentReply g s = .next t ∧
    (t.site.pav p).rep = ((s.view p).identReply s.site.env g).flushed :=
  ⟨_, rfl, (Site.rep_onLog s.site hstep fun r => if r.replyDone g then r.identReply s.site.env g else r).trans
    (congrArg Replica.flushed (if_pos hdone))⟩

theorem stgErrorReply_of_discovery (hdisc : (s.site.pav p).rep.discovering g = true) : ∃ t : State, execStgErrorReply g s = .next t ∧
    (t.site.pav p).rep = ((s.view p).discFault s.site.env g .STG_EVENT_DISC_REFUSED).flushed := by
  have hdone' : ((s.site.pav p).rep.clock s.site.now).replyDone g = true := hdone
  have hdisc' : ((s.site.pav p).rep.clock s.site.now).discovering g = true := hdisc
  exact State.onLog_of_eq hstep (by rw [hdone', hdisc']; rfl)

theorem stgAuthRespReply_of_auth (hstate : (s.site.pav p).rep.lstate g = lsAuth) (verified : Bool) : ∃ t : State,
    execStgAuthRespReply g verified s = .next t ∧ (t.site.pav p).rep =
      (if verified then ((s.view p).setLink' s.site.env g lsConfig).sendConfig s.site.env g
        else (s.view p).discFault s.site.env g .STG_EVENT_AUTH_FAIL).flushed := by
  have hdone' : ((s.site.pav p).rep.clock s.site.now).replyDone g = true := hdone
  have hstate' : ((s.site.pav p).rep.clock s.site.now).lstate g = lsAuth := hstate
  have hdisc := Replica.discovering_of_lstate hstate' (by decide) (by decide)
  refine State.onLog_of_eq hstep ?_
  rw [hdone', hdisc, hstate']
  rfl

section
variable (hstate : (s.site.pav p).rep.lstate g = lsConfig) (haccepted : byteAt ((s.site.pav p).rep.stgReply g) 1 = 0)
include hstate haccepted

theorem stgConfigAckReply_of_config (hawaited : ((s.site.pav p).rep.link g).awaited = 0x83) : ∃ t : State,
    execStgConfigAckReply g s = .next t ∧ (t.site.pav p).rep = (((s.view p).agreed g).sendRouteSet g).flushed := by
  have hdone' : ((s.site.pav p).rep.clock s.site.now).replyDone g = true := hdone
  have hconfig : (decide (((s.site.pav p).rep.clock s.site.now).lstate g = lsConfig) &&
      decide ((((s.site.pav p).rep.clock s.site.now).link g).awaited = 0x83)) = true := by
    rw [Bool.and_eq_true, decide_eq_true_eq, decide_eq_true_eq]
    exact ⟨hstate, hawaited⟩
  refine State.onLog_of_eq hstep ?_
  dsimp only
  rw [hdone', if_neg (by decide), if_pos hconfig, if_pos (by exact haccepted)]
  rfl

theorem stgRouteReportReply_of_config (hawaited : ((s.site.pav p).rep.link g).awaited = 0x84) : ∃ t : State,
    execStgRouteReportReply g s = .next t ∧ (t.site.pav p).rep =
      (((s.view p).setLink g { (s.view p).link g with awaited := 0 }).setLink' s.site.env g lsActive).flushed := by
  have hdone' : ((s.site.pav p).rep.clock s.site.now).replyDone g = true := hdone
  have hstate' : ((s.site.pav p).rep.clock s.site.now).lstate g = lsConfig := hstate
  have hdisc := Replica.discovering_of_lstate hstate' (by decide) (by decide)
  have hconfig : (decide (((s.site.pav p).rep.clock s.site.now).lstate g = lsConfig) &&
      decide ((((s.site.pav p).rep.clock s.site.now).link g).awaited = 0x84) &&
      decide (byteAt (((s.site.pav p).rep.clock s.site.now).stgReply g) 1 = 0)) = true := by
    rw [Bool.and_eq_true, Bool.and_eq_true, decide_eq_true_eq, decide_eq_true_eq, decide_eq_true_eq]
    exact ⟨⟨hstate, hawaited⟩, haccepted⟩
  refine State.onLog_of_eq hstep ?_
  dsimp only
  rw [hdone', hdisc, if_neg (by decide), if_pos hconfig]
  rfl

end

end

end

/-- Settles O31: one lemma per command above, with what it leaves of the replica. -/
theorem stageDiscovery : Obligations.StageDiscovery := by
  intro p g s hstep r r' b
  refine ⟨fun hdone hstate => ?_, fun hdone hstate => ⟨?_, ?_⟩, fun hdone hstate haccepted => ⟨fun hawaited => ?_, fun hawaited => ?_⟩,
    fun hdone hdisc => ?_, fun hrun hdown hdis => ?_, fun hstate => ⟨?_, ?_⟩⟩
  · obtain ⟨t, hexec, (hrep : r' t = _)⟩ := stgIdentReply_of_done hstep hdone
    refine ⟨fun hver hok hlanes => ⟨t, hexec, ?_⟩, fun hver => ⟨t, hexec, ?_⟩, fun u hlast hne => ⟨t, hexec, ?_⟩,
      fun hver hok htwo hlanes hlong hne => ⟨t, hexec, ?_⟩⟩ <;>
      simp only [hrep, Replica.lstate_flushed, Replica.rd_flushed, Replica.link_flushed, Replica.alloc_flushed]
    · exact Replica.identReply_identifies (r := s.view p) _ hstate hver hok hlanes
    · exact Replica.identReply_of_no_version (r := s.view p) _ hstate hver
    · exact Replica.identReply_of_other_unit (r := s.view p) _ hstate hlast hne
    · exact Replica.identReply_refuses_laneB (r := s.view p) _ hstate hver hok htwo hlanes hlong hne
  · obtain ⟨t, hexec, (hrep : r' t = _)⟩ := stgAuthRespReply_of_auth hstep hdone hstate true
    refine ⟨t, hexec, ?_⟩
    simp only [hrep, Replica.lstate_flushed, Replica.link_flushed]
    exact (s.view p).configEntered _ g
  · obtain ⟨t, hexec, (hrep : r' t = _)⟩ := stgAuthRespReply_of_auth hstep hdone hstate false
    refine ⟨t, hexec, ?_⟩
    simp only [hrep, Replica.lstate_flushed, Replica.rd_flushed]
    exact Replica.discFault_faults _ (by decide) rfl (by decide)
  · obtain ⟨t, hexec, (hrep : r' t = _)⟩ := stgConfigAckReply_of_config hstep hdone hstate haccepted hawaited
    refine ⟨t, hexec, ?_⟩
    simp only [hrep, Replica.lstate_flushed, Replica.rd_flushed, Replica.link_flushed]
    obtain ⟨hconfig, hver, hslen, hclen, hawaited⟩ := (s.view p).agreed_routeSet g hstate
    exact ⟨hconfig, hver, hslen, hclen, hawaited⟩
  · obtain ⟨t, hexec, (hrep : r' t = _)⟩ := stgRouteReportReply_of_config hstep hdone hstate haccepted hawaited
    refine ⟨t, hexec, ?_⟩
    simp only [hrep, Replica.lstate_flushed, Replica.rd_flushed]
    exact ⟨Replica.lstate_setLink'_of_up _ _ g (by decide) (by decide) (by decide), Replica.active_setLink'_active _ _ g⟩
  · obtain ⟨t, hexec, (hrep : r' t = _)⟩ := stgErrorReply_of_discovery hstep hdone hdisc
    refine ⟨t, hexec, ?_⟩
    simp only [hrep, Replica.lstate_flushed, Replica.rd_flushed]
    exact Replica.discFault_faults _ (by decide) rfl (by decide)
  · obtain ⟨t, hexec, (hrep : r' t = _)⟩ := stgLinkLost_of_silent hstep hrun hdown hdis
    obtain ⟨hver, hslen, hclen⟩ := ((s.view p).raise .STG_EVENT_LINK_LOST).agreed_setLink'_down s.site.env g
    refine ⟨t, hexec, ?_⟩
    simp only [hrep, Replica.lstate_flushed, Replica.rd_flushed]
    exact ⟨Replica.lstate_setLink'_down _ _ g, ((Replica.writesOnly_setLink' _ _ g lsDown).rd _ _ (by decide) rfl).trans
      (Regs.rd_raise_same _ _ _ rfl (by decide)), hver, hslen, hclen, Replica.active_setLink'_down _ _ g⟩
  · obtain ⟨t, hexec, (hrep : r' t = _)⟩ := stgFaultExit_of_fault hstep hstate
    exact ⟨t, hexec, by rw [hrep, Replica.lstate_flushed, Replica.lstate_setLink'_down]⟩
  · obtain ⟨t, hexec, (hrep : r' t = _)⟩ := stgLinkRestart_of_fault hstep hstate
    exact ⟨t, hexec, by rw [hrep, Replica.lstate_flushed, Replica.lstate_setLink'_down]⟩

end Sys2Proof.Machine
end

section
/-! PROOFS. Converter control: writes of MODE, the guards, loop openings, stops and the end of a ramp (R201 to R213). -/
namespace Sys2Proof.Machine

/-! ### Registers of a replica -/

section
variable (r : Replica) (f : Field) (x i : Nat)

/-- A value that fits its field reads back. -/
theorem Replica.rd_wr_of_lt (h : x < 2 ^ f.info.width) : (r.wr f x i).rd f i = x := Regs.rd_wr_of_lt r.regs f x i h

theorem Replica.rd_raise_same (hc : f.isCount = false) (hwidth : 0 < f.info.width) : (r.raise f i).rd f i = 1 :=
  Regs.rd_raise_same r.regs f i hc hwidth

theorem Replica.rd_raise_of_ne {f h : Field} (i j : Nat) (hne : h ≠ f) (hc : h.isCount = false) : (r.raise f i).rd h j = r.rd h j :=
  Regs.rd_raise_ne r.regs f h i j hne hc

end

/-! ### What an opening leaves (R211, R213, R216, R252) -/

/-- The fields that every opening or stop may write, whatever the outlet: the marks of the history rings, the ends of the injections, and
the flag of lost events. -/
def openingFields : List Field :=
  [.CTL_HLOST_LOST, .CTL_HFRZ_FRZ, .CTL_INJCTRL_ACTIVE, .CTL_INJCTRL_END, .CTL_EVENT_INJ_DONE, .HST_EVENT_EVENTS_LOST]

/-- The fields in which an outlet shows its opening. -/
def outletFields : List Field := [.CTL_OMODE_RAMP, .CTL_OMODE_STOPPED, .CTL_OMODE_CAUSE]

section
variable {own : List Field} {r r' : Replica}

theorem Replica.WritesOnly.foldl {α : Type} {f : Replica → α → Replica} (h : ∀ r a, Replica.WritesOnly own r (f r a)) :
    ∀ (l : List α) (r : Replica), Replica.WritesOnly own r (l.foldl f r)
  | [], r => .refl r
  | a :: l, r => (h r a).trans (Replica.WritesOnly.foldl h l (f r a))

theorem Replica.Reported.writesOnly (h : r.Reported r') (hmem : .HST_EVENT_EVENTS_LOST ∈ own) : Replica.WritesOnly own r r' :=
  ⟨fun _ i hf hc => h.rd (ne_of_mem_of_not_mem hmem hf).symm hc i, by obtain ⟨_, _, _, _, rfl, _⟩ := h; rfl⟩

end

section
variable (r : Replica) (v : Env) (o cause : Nat) (grp : Option Nat)

theorem Replica.writesOnly_ring (g : Nat) : Replica.WritesOnly openingFields r (r.freezeRing v g cause) :=
  ⟨fun _ i hf _ => r.rd_freezeRing v g cause i (ne_of_mem_of_not_mem (by decide) hf).symm (ne_of_mem_of_not_mem (by decide) hf).symm,
    (r.writesOnly_freezeRing v g cause).alloc⟩

theorem Replica.writesOnly_endInj (i code : Nat) : Replica.WritesOnly openingFields r (r.endInj i code) := by
  have hregs := (((Replica.WritesOnly.refl (own := openingFields) r).wr (f := .CTL_INJCTRL_ACTIVE) (by decide) 0 i).wr
    (f := .CTL_INJCTRL_END) (by decide) code i).raise (f := .CTL_EVENT_INJ_DONE) (by decide) 0
  exact ⟨hregs.rd, hregs.alloc⟩

theorem Replica.writesOnly_endInjOn (code : Nat) : Replica.WritesOnly openingFields r (r.endInjOn o code) := by
  refine .foldl (fun r i => ?_) _ r
  split
  · exact r.writesOnly_endInj i code
  · exact .refl r

theorem Replica.writesOnly_openJournal : Replica.WritesOnly openingFields r (r.openJournal v o cause grp) := by
  unfold Replica.openJournal
  split <;> exact (r.reported_journal _ _ _ _ _ _ _).writesOnly (by decide)

theorem Replica.writesOnly_opening : Replica.WritesOnly openingFields r (r.opening v o cause grp) := by
  have hrings := Replica.WritesOnly.foldl (fun r g => r.writesOnly_ring v cause g) (r.groupsOf o) r
  have hmark : ∀ q : Replica, Replica.WritesOnly openingFields q (q.markOpening o) := fun _ => ⟨fun _ _ _ _ => rfl, rfl⟩
  have hset : ∀ (q : Replica) (x : OutletLoop), Replica.WritesOnly openingFields q (q.setOut o x) := fun _ _ => ⟨fun _ _ _ _ => rfl, rfl⟩
  unfold Replica.opening
  exact hrings.trans ((Replica.writesOnly_endInjOn _ o 3).trans ((hmark _).trans
    ((Replica.writesOnly_openJournal _ v o cause grp).trans (hset _ _))))

theorem Replica.isOpen_opening (k : Nat) : (r.opening v o cause grp).isOpen k = r.isOpen k := by
  have hkept := r.writesOnly_opening v o cause grp
  simp only [Replica.isOpen, hkept.rd .CTL_OMODE_RAMP k (by decide) rfl, hkept.rd .CTL_OMODE_STOPPED k (by decide) rfl]

end

/-! ### Which outlet an opening shows in -/

/-- A change that shows in the opening of one outlet only, besides what every opening may write. -/
def Replica.ShowsAt (o : Nat) (r r' : Replica) : Prop :=
  ∀ (f : Field) (i : Nat), f ∉ openingFields → f.isCount = false → (f ∈ outletFields → i ≠ o) → r'.rd f i = r.rd f i

section
variable {o : Nat} {r r' r'' : Replica}

theorem Replica.WritesOnly.showsAt (h : Replica.WritesOnly openingFields r r') : r.ShowsAt o r' := fun f i hf hc _ => h.rd f i hf hc

theorem Replica.ShowsAt.of_regs (h : r'.regs = r.regs) : r.ShowsAt o r' := fun _ _ _ _ _ => by simp [Replica.rd, h]

theorem Replica.ShowsAt.trans (h : Replica.ShowsAt o r r') (h' : r'.ShowsAt o r'') : r.ShowsAt o r'' :=
  fun f i hf hc hi => (h' f i hf hc hi).trans (h f i hf hc hi)

theorem Replica.ShowsAt.wr (h : Replica.ShowsAt o r r') {f : Field} (hf : f ∈ outletFields) (x : Nat) : r.ShowsAt o (r'.wr f x o) := by
  refine h.trans fun g i _ _ hi => Regs.rd_wr_ne _ _ _ _ _ _ ?_
  by_cases hg : g = f
  · exact .inr (hi (hg ▸ hf))
  · exact .inl hg

theorem Replica.isOpen_raise {f : Field} (hplace : f ∉ outletFields) (i : Nat) : (r.raise f i).isOpen o = r.isOpen o := by
  have hkept : ∀ h ∈ outletFields, h.isCount = false → (r.raise f i).rd h o = r.rd h o := fun h hh hc =>
    r.rd_raise_of_ne _ _ (ne_of_mem_of_not_mem hh hplace) hc
  simp only [Replica.isOpen, hkept .CTL_OMODE_RAMP (by decide) rfl, hkept .CTL_OMODE_STOPPED (by decide) rfl]

/-- An event raised before an opening stands after it. -/
theorem Replica.ShowsAt.event {f : Field} (h : (r.raise f).ShowsAt o r') (hf : f ∉ openingFields) (hplace : f ∉ outletFields)
    (hc : f.isCount = false) (hwidth : 0 < f.info.width) : r'.rd f = 1 :=
  (h f 0 hf hc fun hmem => absurd hmem hplace).trans (r.rd_raise_same _ _ hc hwidth)

end

/-! ### Causes at the closure of the opening (R213) -/

section
variable (r : Replica) (v : Env) (o cause : Nat) (grp : Option Nat)

/-- The records of an outlet's groups that this closure made take the further cause. -/
def Replica.recordsRenamed (old : Nat) : Replica :=
  (r.groupsOf o).foldl (fun r g => { r with frozen := vput r.frozen g ((vget r.frozen g none).map fun z =>
    if z.seq = v.seq && z.cause = old then { z with cause } else z) }) (r.wr .CTL_OMODE_CAUSE cause o)

theorem Replica.regs_recordsRenamed (old : Nat) : (r.recordsRenamed v o cause old).regs = r.regs.wr .CTL_OMODE_CAUSE cause o := by
  unfold Replica.recordsRenamed
  refine foldl_keeps Replica.regs (fun _ _ => ?_) _ _
  rfl

/-- CAUSE takes a cause that stands before it in R213's order. -/
theorem Replica.cause_addCause (hrank : 1 ≤ coRank cause && coRank cause ≤ 5 && coRank cause < coRank (r.rd .CTL_OMODE_CAUSE o))
    (hfits : cause < 2 ^ 8) : (r.addCause v o cause grp).rd .CTL_OMODE_CAUSE o = cause := by
  have hregs : (r.addCause v o cause grp).regs = (r.openJournal v o cause grp).regs.wr .CTL_OMODE_CAUSE cause o := by
    unfold Replica.addCause
    rw [if_pos hrank]
    exact Replica.regs_recordsRenamed _ v o cause _
  rw [Replica.rd, hregs]
  exact Regs.rd_wr_of_lt _ _ _ _ hfits

theorem Replica.showsAt_addCause : r.ShowsAt o (r.addCause v o cause grp) := by
  have hjournal := (r.writesOnly_openJournal v o cause grp).showsAt (o := o)
  have hnamed := hjournal.wr (f := .CTL_OMODE_CAUSE) (by decide) cause
  unfold Replica.addCause
  dsimp only
  split
  · exact hnamed.trans (.of_regs (Replica.regs_recordsRenamed _ v o cause _))
  · exact hjournal

end

/-! ### Loop openings and immediate stops (R204, R211, R212) -/

section
variable (r : Replica) (v : Env) (o cause : Nat) (grp : Option Nat)

/-- The opening of an outlet is declared at this closure. -/
def Replica.declared : Replica :=
  (r.opening v o cause grp).setOut o { (r.opening v o cause grp).out o with openSeq := some v.seq }

variable {o} in
theorem Replica.faultDue_setOut_openSeq (ho : o < 24) (x : Option Nat) :
    ((r.setOut o { r.out o with openSeq := x }).out o).faultDue = (r.out o).faultDue := by rw [Replica.out_setOut_same r ho]

theorem Replica.due_declared (ho : o < 24) : ((r.declared v o cause grp).out o).faultDue ≠ none := by
  rw [Replica.declared, Replica.faultDue_setOut_openSeq _ ho]
  exact r.due_opening v o cause grp ho

theorem Replica.showsAt_declared : r.ShowsAt o (r.declared v o cause grp) :=
  (r.writesOnly_opening v o cause grp).showsAt.trans (.of_regs (Replica.setOut_regs _ _ _))

/-- A ramp begins on an outlet: its groups start from the duties of their last release. -/
def Replica.ramped : Replica :=
  let r := (r.wr .CTL_OMODE_RAMP 1 o).wr .CTL_OMODE_CAUSE cause o
  (r.groupsOf o).foldl (fun r g =>
    let x := r.grp g
    r.setGrp g { x with rampK := 0, base := match x.sent with | d :: _ => d.1 | [] => [] }) r

/-- An outlet is stopped: no ramp is in progress. -/
def Replica.halted : Replica := (r.wr .CTL_OMODE_RAMP 0 o).wr .CTL_OMODE_STOPPED 1 o

theorem Replica.regs_ramped : (r.ramped o cause).regs = (r.regs.wr .CTL_OMODE_RAMP 1 o).wr .CTL_OMODE_CAUSE cause o := by
  unfold Replica.ramped
  refine foldl_keeps Replica.regs (fun _ _ => ?_) _ _
  rfl

theorem Replica.ramp_ramped : (r.ramped o cause).rd .CTL_OMODE_RAMP o = 1 := by
  rw [Replica.rd, Replica.regs_ramped, Regs.rd_wr_of_ne _ _ _ _ _ _ (by decide)]
  exact Regs.rd_wr_of_lt _ _ _ _ (by decide)

theorem Replica.cause_ramped (hfits : cause < 2 ^ 8) : (r.ramped o cause).rd .CTL_OMODE_CAUSE o = cause := by
  rw [Replica.rd, Replica.regs_ramped]
  exact Regs.rd_wr_of_lt _ _ _ _ hfits

theorem Replica.stopped_halted : (r.halted o).rd .CTL_OMODE_STOPPED o = 1 := Replica.rd_wr_of_lt _ _ _ _ (by decide)

theorem Replica.ramp_halted : (r.halted o).rd .CTL_OMODE_RAMP o = 0 :=
  (Replica.rd_wr_of_ne _ _ _ _ (by decide)).trans (Replica.rd_wr_of_lt _ _ _ _ (by decide))

theorem Replica.rd_halted {f : Field} (i : Nat) (hramp : f ≠ .CTL_OMODE_RAMP) (hstopped : f ≠ .CTL_OMODE_STOPPED) :
    (r.halted o).rd f i = r.rd f i := (Replica.rd_wr_of_ne _ _ _ _ hstopped).trans (Replica.rd_wr_of_ne _ _ _ _ hramp)

@[simp] theorem Replica.out_wr (f : Field) (x i k : Nat) : (r.wr f x i).out k = r.out k := rfl
@[simp] theorem Replica.out_raise (f : Field) (i k : Nat) : (r.raise f i).out k = r.out k := rfl
@[simp] theorem Replica.out_halted (k : Nat) : (r.halted o).out k = r.out k := rfl

variable {r o} in
theorem Replica.openedHere_of_closed (hclosed : r.isOpen o = false) : r.openedHere v o = false := by simp [Replica.openedHere, hclosed]

variable {r o} in
theorem Replica.openRamp_of_closed (hclosed : r.isOpen o = false) :
    r.openRamp v o cause grp = (r.declared v o cause grp).ramped o cause := by
  have hstill : (r.opening v o cause grp).isOpen o = false := (r.isOpen_opening v o cause grp o).trans hclosed
  unfold Replica.openRamp
  simp only [Replica.openedHere_of_closed v hclosed, hstill, Bool.false_eq_true, if_false]
  rfl

theorem Replica.showsAt_openRamp : r.ShowsAt o (r.openRamp v o cause grp) := by
  have hopening := (r.writesOnly_opening v o cause grp).showsAt (o := o)
  by_cases hopen : r.isOpen o = true
  · have hstill : (r.opening v o cause grp).isOpen o = true := (r.isOpen_opening v o cause grp o).trans hopen
    unfold Replica.openRamp
    split
    · exact r.showsAt_addCause v o cause grp
    · simpa only [hstill, if_true] using hopening
  · rw [Replica.openRamp_of_closed v cause grp (Bool.not_eq_true _ ▸ hopen)]
    exact (((r.showsAt_declared v o cause grp).wr (f := .CTL_OMODE_RAMP) (by decide) 1).wr (f := .CTL_OMODE_CAUSE) (by decide) cause).trans
      (.of_regs (Replica.regs_ramped _ o cause))

variable {r o} in
/-- The opening of an outlet that is not open: it ramps down for its cause, and the move to FAULT is due. -/
theorem Replica.openRamp_declares (ho : o < 24) (hclosed : r.isOpen o = false) (hfits : cause < 2 ^ 8) :
    (r.openRamp v o cause grp).rd .CTL_OMODE_RAMP o = 1 ∧ (r.openRamp v o cause grp).rd .CTL_OMODE_CAUSE o = cause ∧
      ((r.openRamp v o cause grp).out o).faultDue ≠ none := by
  obtain ⟨-, hdue⟩ := (r.openRamp_opens v o cause grp).2 ho
  refine ⟨?_, ?_, hdue⟩ <;> rw [Replica.openRamp_of_closed v cause grp hclosed]
  · exact Replica.ramp_ramped _ o cause
  · exact Replica.cause_ramped _ o cause hfits

variable {r o} in
theorem Replica.stopNow_of_closed (hclosed : r.isOpen o = false) :
    r.stopNow v o cause = ((r.declared v o cause none).wr .CTL_OMODE_CAUSE cause o).halted o := by
  have hstill : (r.opening v o cause none).isOpen o = false := (r.isOpen_opening v o cause none o).trans hclosed
  unfold Replica.stopNow
  simp only [Replica.openedHere_of_closed v hclosed, hstill, Bool.false_eq_true, if_false]
  rfl

variable {r o} in
theorem Replica.stopNow_of_openedHere (hhere : r.openedHere v o = true) : r.stopNow v o cause = (r.addCause v o cause none).halted o := by
  unfold Replica.stopNow
  rw [if_pos hhere]
  rfl

variable {r o} in
theorem Replica.stopNow_of_open (hopen : r.isOpen o = true) (hother : (r.out o).openSeq ≠ some v.seq) :
    r.stopNow v o cause = (r.opening v o cause none).halted o := by
  have hhere : r.openedHere v o = false := by simp [Replica.openedHere, hother]
  have hstill : (r.opening v o cause none).isOpen o = true := (r.isOpen_opening v o cause none o).trans hopen
  unfold Replica.stopNow
  simp only [hhere, hstill, Bool.false_eq_true, if_false, if_true]
  rfl

variable {r o} in
/-- The stop of an outlet that is not open. -/
theorem Replica.stopNow_declares (ho : o < 24) (hclosed : r.isOpen o = false) (hfits : cause < 2 ^ 8) :
    (r.stopNow v o cause).rd .CTL_OMODE_STOPPED o = 1 ∧ (r.stopNow v o cause).rd .CTL_OMODE_RAMP o = 0 ∧
      (r.stopNow v o cause).rd .CTL_OMODE_CAUSE o = cause ∧ ((r.stopNow v o cause).out o).faultDue ≠ none := by
  rw [Replica.stopNow_of_closed v cause hclosed]
  refine ⟨Replica.stopped_halted _ o, Replica.ramp_halted _ o, ?_, ?_⟩
  · rw [Replica.rd_halted _ o o (by decide) (by decide)]
    exact Replica.rd_wr_of_lt _ _ _ _ hfits
  · simpa only [Replica.out_halted, Replica.out_wr] using r.due_declared v o cause none ho

theorem Replica.showsAt_stopNow : r.ShowsAt o (r.stopNow v o cause) := by
  have hhalted : ∀ w : Replica, r.ShowsAt o w → r.ShowsAt o (w.halted o) := fun w h =>
    (h.wr (f := .CTL_OMODE_RAMP) (by decide) 0).wr (f := .CTL_OMODE_STOPPED) (by decide) 1
  have hopening := (r.writesOnly_opening v o cause none).showsAt (o := o)
  by_cases hopen : r.isOpen o = true
  · by_cases hseq : (r.out o).openSeq = some v.seq
    · rw [Replica.stopNow_of_openedHere v cause (by simp [Replica.openedHere, hopen, hseq])]
      exact hhalted _ (r.showsAt_addCause v o cause none)
    · rw [Replica.stopNow_of_open v cause hopen hseq]
      exact hhalted _ hopening
  · rw [Replica.stopNow_of_closed v cause (Bool.not_eq_true _ ▸ hopen)]
    exact hhalted _ ((r.showsAt_declared v o cause none).wr (by decide) cause)

section
variable {r o cause} {f : Field} (hf : f ∉ openingFields) (hplace : f ∉ outletFields) (hc : f.isCount = false) (hwidth : 0 < f.info.width)
include hf hplace hc hwidth

/-- A guard that opens an outlet which is not open: the outlet ramps down for the guard's cause, its event raised. -/
theorem Replica.openRamp_raised (ho : o < 24) (hclosed : r.isOpen o = false) (hfits : cause < 2 ^ 8) :
    ((r.raise f).openRamp v o cause grp).rd .CTL_OMODE_RAMP o = 1 ∧ ((r.raise f).openRamp v o cause grp).rd .CTL_OMODE_CAUSE o = cause ∧
      ((r.raise f).openRamp v o cause grp).rd f = 1 ∧ (((r.raise f).openRamp v o cause grp).out o).faultDue ≠ none := by
  obtain ⟨hramp, hcause, hdue⟩ :=
    Replica.openRamp_declares (r := r.raise f) v cause grp ho ((Replica.isOpen_raise hplace 0).trans hclosed) hfits
  exact ⟨hramp, hcause, (Replica.showsAt_openRamp _ v o cause grp).event hf hplace hc hwidth, hdue⟩

/-- A guard that stops an outlet which is not open. -/
theorem Replica.stopNow_raised (ho : o < 24) (hclosed : r.isOpen o = false) (hfits : cause < 2 ^ 8) :
    ((r.raise f).stopNow v o cause).rd .CTL_OMODE_STOPPED o = 1 ∧ ((r.raise f).stopNow v o cause).rd .CTL_OMODE_RAMP o = 0 ∧
      ((r.raise f).stopNow v o cause).rd .CTL_OMODE_CAUSE o = cause ∧ ((r.raise f).stopNow v o cause).rd f = 1 ∧
      (((r.raise f).stopNow v o cause).out o).faultDue ≠ none := by
  obtain ⟨hstopped, hramp, hcause, hdue⟩ :=
    Replica.stopNow_declares (r := r.raise f) v cause ho ((Replica.isOpen_raise hplace 0).trans hclosed) hfits
  exact ⟨hstopped, hramp, hcause, (Replica.showsAt_stopNow _ v o cause).event hf hplace hc hwidth, hdue⟩

/-- A guard that stops an outlet at the closure of its opening, for a cause that stands before the one shown. -/
theorem Replica.stopNow_renames (hhere : r.openedHere v o = true)
    (hrank : 1 ≤ coRank cause && coRank cause ≤ 5 && coRank cause < coRank (r.rd .CTL_OMODE_CAUSE o)) (hfits : cause < 2 ^ 8) :
    ((r.raise f).stopNow v o cause).rd .CTL_OMODE_STOPPED o = 1 ∧ ((r.raise f).stopNow v o cause).rd .CTL_OMODE_CAUSE o = cause ∧
      ((r.raise f).stopNow v o cause).rd f = 1 := by
  have hhere' : (r.raise f).openedHere v o = true := by
    rw [Replica.openedHere, Replica.isOpen_raise hplace, Replica.out_raise]
    exact hhere
  have hold : (r.raise f).rd .CTL_OMODE_CAUSE o = r.rd .CTL_OMODE_CAUSE o :=
    r.rd_raise_of_ne _ _ (ne_of_mem_of_not_mem (by decide) hplace) rfl
  refine ⟨?_, ?_, (Replica.showsAt_stopNow _ v o cause).event hf hplace hc hwidth⟩ <;> rw [Replica.stopNow_of_openedHere v cause hhere']
  · exact Replica.stopped_halted _ o
  · rw [Replica.rd_halted _ o o (by decide) (by decide)]
    exact Replica.cause_addCause _ v o cause none (by rwa [hold]) hfits

end

variable {r o} in
/-- A stop of an outlet whose opening is of an earlier closure leaves its cause. -/
theorem Replica.stopNow_keeps_cause (hopen : r.isOpen o = true) (hother : (r.out o).openSeq ≠ some v.seq) :
    (r.stopNow v o cause).rd .CTL_OMODE_STOPPED o = 1 ∧ (r.stopNow v o cause).rd .CTL_OMODE_RAMP o = 0 ∧
      (r.stopNow v o cause).rd .CTL_OMODE_CAUSE o = r.rd .CTL_OMODE_CAUSE o := by
  rw [Replica.stopNow_of_open v cause hopen hother]
  refine ⟨Replica.stopped_halted _ o, Replica.ramp_halted _ o, ?_⟩
  rw [Replica.rd_halted _ o o (by decide) (by decide)]
  exact (r.writesOnly_opening v o cause none).rd .CTL_OMODE_CAUSE o (by decide) rfl

end

/-! ### A write of MODE (R201) -/

section
variable (r : Replica) (o m : Nat)

/-- What a write of MODE sets, the ends of injections apart. -/
def Replica.modeWritten : Replica :=
  let r := (r.wr .CTL_OMODE_MODE m o).wr .CTL_OMODE_SOFT (decide (m = modeCableCheck) || decide (m = modePrecharge)).toNat o
  let r := r.setOut o { r.out o with ocRun := 0, shortCnt := 0 }
  if m = modeOff then (r.wr .CTL_OMODE_RAMP 0 o).wr .CTL_OMODE_STOPPED 0 o else r

/-- A write of MODE ends the injections on an outlet that no longer takes them (R216). -/
theorem Replica.writeMode_cases : r.writeMode o m = r.modeWritten o m ∨ r.writeMode o m = (r.modeWritten o m).endInjOn o 2 := by
  by_cases h : (decide (m = modeCharging) || decide (m = modeCommission)) = true
  · exact .inl (if_pos h)
  · exact .inr (if_neg h)

theorem Replica.writesOnly_writeMode : Replica.WritesOnly openingFields (r.modeWritten o m) (r.writeMode o m) ∧
    (r.writeMode o m).outs = (r.modeWritten o m).outs := by
  obtain h | h := r.writeMode_cases o m <;> rw [h]
  · exact ⟨.refl _, rfl⟩
  · exact ⟨Replica.writesOnly_endInjOn _ o 2, (Replica.sameOutlets_endInjOn _ o 2).1⟩

theorem Replica.rd_modeWritten {f : Field} (i : Nat) (hramp : f ≠ .CTL_OMODE_RAMP) (hstopped : f ≠ .CTL_OMODE_STOPPED) :
    (r.modeWritten o m).rd f i = ((r.wr .CTL_OMODE_MODE m o).wr .CTL_OMODE_SOFT
      (decide (m = modeCableCheck) || decide (m = modePrecharge)).toNat o).rd f i := by
  unfold Replica.modeWritten
  dsimp only
  split
  · exact (Replica.rd_wr_of_ne _ _ _ _ hstopped).trans (Replica.rd_wr_of_ne _ _ _ _ hramp)
  · rfl

theorem Replica.out_modeWritten (ho : o < 24) : (r.modeWritten o m).out o = { r.out o with ocRun := 0, shortCnt := 0 } := by
  unfold Replica.modeWritten
  dsimp only
  split <;> exact Replica.out_setOut_same _ ho _

theorem Replica.isOpen_modeWritten_off : (r.modeWritten o modeOff).isOpen o = false := by
  unfold Replica.modeWritten
  simp only [Replica.isOpen, if_true, Replica.rd_wr_same, Replica.rd_wr_of_ne _ _ _ _ (show Field.CTL_OMODE_RAMP ≠ .CTL_OMODE_STOPPED by decide)]
  rfl

variable {r m} in
theorem Replica.mode_writeMode_same (hm : m < 16) : (r.writeMode o m).mode o = m := by
  have hkept := (r.writesOnly_writeMode o m).1.rd .CTL_OMODE_MODE o (by decide) rfl
  rw [Replica.mode, hkept, r.rd_modeWritten o m o (by decide) (by decide), Replica.rd_wr_of_ne _ _ _ _ (by decide)]
  exact Replica.rd_wr_of_lt _ _ _ _ hm

theorem Replica.mode_writeMode_ne {q : Nat} (hq : q ≠ o) : (r.writeMode o m).mode q = r.mode q := by
  have hkept := (r.writesOnly_writeMode o m).1.rd .CTL_OMODE_MODE q (by decide) rfl
  rw [Replica.mode, hkept, r.rd_modeWritten o m q (by decide) (by decide), Replica.rd_wr_of_ne _ _ _ _ (by decide)]
  exact Regs.rd_wr_ne _ _ _ _ _ _ (.inr hq)

theorem Replica.soft_writeMode : (r.writeMode o m).rd .CTL_OMODE_SOFT o = if m = modeCableCheck ∨ m = modePrecharge then 1 else 0 := by
  have hkept := (r.writesOnly_writeMode o m).1.rd .CTL_OMODE_SOFT o (by decide) rfl
  rw [hkept, r.rd_modeWritten o m o (by decide) (by decide), Replica.rd_wr_same]
  by_cases hsoft : m = modeCableCheck ∨ m = modePrecharge
  · rw [if_pos hsoft, show (decide (m = modeCableCheck) || decide (m = modePrecharge)) = true by simpa using hsoft]
    rfl
  · rw [if_neg hsoft, show (decide (m = modeCableCheck) || decide (m = modePrecharge)) = false by simpa using hsoft]
    rfl

theorem Replica.out_writeMode (ho : o < 24) : (r.writeMode o m).out o = { r.out o with ocRun := 0, shortCnt := 0 } := by
  rw [Replica.out, (r.writesOnly_writeMode o m).2]
  exact r.out_modeWritten o m ho

theorem Replica.isOpen_writeMode_off : (r.writeMode o modeOff).isOpen o = false := by
  have hkept := (r.writesOnly_writeMode o modeOff).1
  rw [← r.isOpen_modeWritten_off o]
  simp only [Replica.isOpen, hkept.rd .CTL_OMODE_RAMP o (by decide) rfl, hkept.rd .CTL_OMODE_STOPPED o (by decide) rfl]

end

/-! ### A disagreement written by the safety engine (R209) -/

/-- An outlet that a disagreement opens: it is in a MODE from CABLE_CHECK to STOPPING and not open. -/
def Replica.mayDisagree (r : Replica) (o : Nat) : Prop := (1 ≤ r.mode o ∧ r.mode o ≤ 4) ∧ r.isOpen o = false

/-- An outlet that a disagreement has opened. -/
def Replica.Disagreed (r : Replica) (o : Nat) : Prop :=
  r.rd .CTL_OMODE_RAMP o = 1 ∧ r.rd .CTL_OMODE_CAUSE o = coDisagree ∧ r.rd .CTL_EVENT_VOLTAGE_DISAGREE = 1 ∧ (r.out o).faultDue ≠ none

section
variable {r : Replica} (v : Env) {o k : Nat}

/-- What a disagreement on an outlet does. -/
def Replica.disagree (r : Replica) (v : Env) (k : Nat) : Replica := (r.raise .CTL_EVENT_VOLTAGE_DISAGREE).openRamp v k coDisagree none

theorem Replica.rd_disagree {f : Field} (i : Nat) (hevent : f ≠ .CTL_EVENT_VOLTAGE_DISAGREE) (hf : f ∉ openingFields) (hc : f.isCount = false)
    (hi : f ∈ outletFields → i ≠ k) : (r.disagree v k).rd f i = r.rd f i :=
  ((r.raise .CTL_EVENT_VOLTAGE_DISAGREE).showsAt_openRamp v k coDisagree none f i hf hc hi).trans (r.rd_raise_of_ne _ _ hevent hc)

theorem Replica.event_disagree : (r.disagree v k).rd .CTL_EVENT_VOLTAGE_DISAGREE = 1 :=
  ((r.raise .CTL_EVENT_VOLTAGE_DISAGREE).showsAt_openRamp v k coDisagree none).event (by decide) (by decide) rfl (by decide)

theorem Replica.mayDisagree.disagreed (ho : o < 24) (h : r.mayDisagree o) : (r.disagree v o).Disagreed o :=
  Replica.openRamp_raised v none (by decide) (by decide) rfl (by decide) ho h.2 (by decide)

theorem Replica.mayDisagree.of_other (hk : k ≠ o) (h : r.mayDisagree o) : (r.disagree v k).mayDisagree o := by
  obtain ⟨hmode, hclosed⟩ := h
  have hkept : ∀ f ∈ [Field.CTL_OMODE_MODE, .CTL_OMODE_RAMP, .CTL_OMODE_STOPPED], (r.disagree v k).rd f o = r.rd f o := fun f hf => by
    simp only [List.mem_cons, List.not_mem_nil, or_false] at hf
    obtain rfl | rfl | rfl := hf <;> exact Replica.rd_disagree v o (by decide) (by decide) rfl fun _ => hk.symm
  refine ⟨?_, ?_⟩
  · rwa [Replica.mode, hkept _ (by decide)]
  · rwa [Replica.isOpen, hkept _ (by decide), hkept _ (by decide)]

theorem Replica.Disagreed.of_other (hk : k ≠ o) (h : r.Disagreed o) : (r.disagree v k).Disagreed o := by
  obtain ⟨hramp, hcause, -, hdue⟩ := h
  have hopens := (r.raise .CTL_EVENT_VOLTAGE_DISAGREE).openRamp_opens v k coDisagree none
  refine ⟨?_, ?_, r.event_disagree v, hopens.1.due o hdue⟩
  · rwa [Replica.rd_disagree v o (by decide) (by decide) rfl fun _ => hk.symm]
  · rwa [Replica.rd_disagree v o (by decide) (by decide) rfl fun _ => hk.symm]

theorem Replica.xdisWrite_opens {dis : Nat} (ho : o < 24) (hdis : bitOf dis o = true) (h : r.mayDisagree o) : (r.xdisWrite v dis).Disagreed o := by
  refine Replica.eachOut_once (P := (·.mayDisagree o)) (Q := (·.Disagreed o)) ho (fun r h => ?_) (fun k r hk h => ?_) (fun k r hk h => ?_) r h
  · rw [if_pos (by simpa [hdis] using h.1)]
    exact h.disagreed v ho
  · split
    · exact h.of_other v hk
    · exact h
  · split
    · exact h.of_other v hk
    · exact h

end

/-! ### The commands -/

@[simp] theorem Replica.mode_flushed (r : Replica) (o : Nat) : r.flushed.mode o = r.mode o := rfl
@[simp] theorem Replica.out_flushed (r : Replica) (o : Nat) : r.flushed.out o = r.out o := rfl
@[simp] theorem Replica.isOpen_flushed (r : Replica) (o : Nat) : r.flushed.isOpen o = r.isOpen o := rfl

/-- A run of stale frames that has reached its limit and is not declared yet (R207). -/
theorem Replica.lossDue_of_run {r : Replica} {g : Nat} (hlost : r.rd .CTL_CTRL_LOST_CYC ≤ r.rd .CTL_GFEED_NF_RUN g)
    (hunsaid : (r.grp g).lossSaid = false) : r.lossDue g = true := by simp [Replica.lossDue, hlost, hunsaid]

/-- An outlet that is not open may still be stopped by a soft-start guard (R213). -/
theorem Replica.maySoft_of_closed {r : Replica} {o : Nat} (v : Env) (hclosed : r.isOpen o = false) : r.maySoft v o = true := by
  have hstopped : r.rd .CTL_OMODE_STOPPED o ≠ 1 := fun h => by simp [Replica.isOpen, h] at hclosed
  have hlt : r.rd .CTL_OMODE_STOPPED o < 2 := Regs.rd_lt r.regs .CTL_OMODE_STOPPED o
  simp only [Replica.maySoft, Bool.or_eq_true, decide_eq_true_eq]
  omega

section
variable {s : State} {p : Pav} {o : Outlet} {g : Grp} (hstep : (s.site.pav p).inStep = true)
include hstep

theorem ctlModeWrite_writes (m : BitVec 4) : ∃ t : State, execCtlModeWrite o m s = .next t ∧
    (t.site.pav p).rep = ((s.view p).writeMode o m.toNat).flushed := State.onLog_of_eq hstep rfl

section
variable (hsoft : (s.view p).rd .CTL_OMODE_SOFT o = 1) (hmay : (s.view p).maySoft s.site.env o = true)
include hsoft hmay

theorem ssOvercurrent_of_due (hrun : 2 ≤ ((s.view p).out o).ocRun) : ∃ t : State, execSsOvercurrent o s = .next t ∧
    (t.site.pav p).rep = (((s.view p).raise .CTL_EVENT_SS_OVERCURRENT).stopNow s.site.env o coOvercurrent).flushed :=
  State.onLog_of_eq hstep (if_pos (by
    rw [Bool.and_eq_true, Bool.and_eq_true, decide_eq_true_eq, decide_eq_true_eq]
    exact ⟨⟨hsoft, hrun⟩, hmay⟩))

theorem shortSoftstart_of_due (hcycles : 0 < (s.view p).rd .CTL_LAYER_SHORT_CYC)
    (hcount : (s.view p).rd .CTL_LAYER_SHORT_CYC ≤ ((s.view p).out o).shortCnt) : ∃ t : State, execShortSoftstart o s = .next t ∧
    (t.site.pav p).rep = (((s.view p).raise .CTL_EVENT_SHORT_SOFTSTART).stopNow s.site.env o coShort).flushed :=
  State.onLog_of_eq hstep (if_pos (by
    rw [Bool.and_eq_true, Bool.and_eq_true, Bool.and_eq_true, decide_eq_true_eq, decide_eq_true_eq, decide_eq_true_eq]
    exact ⟨⟨⟨hsoft, hcycles⟩, hcount⟩, hmay⟩))

end

section
variable (hguard : (s.view p).guarded g = true) (hdue : (s.view p).lossDue g = true)
include hguard hdue

theorem feedbackLost_of_due (hinvalid : ((s.view p).grp g).runValid = false) : ∃ (t : State) (x : GroupLoop),
    execFeedbackLost g s = .next t ∧ (t.site.pav p).rep = ((((s.view p).setGrp g x).raise .CTL_EVENT_FEEDBACK_LOST).openRamp s.site.env
      ((s.view p).rd .CTL_GFEED_OUTLET g) coFeedbackLost (some g)).flushed := by
  refine ⟨_, _, rfl, (Site.rep_onLog s.site hstep _).trans (congrArg Replica.flushed (if_pos ?_))⟩
  have hdeclares : ((s.view p).guarded g && (s.view p).lossDue g && !((s.view p).grp g).runValid) = true := by
    rw [hguard, hdue, hinvalid]
    rfl
  exact hdeclares

theorem feedbackFrozen_of_due (hvalid : ((s.view p).grp g).runValid = true) : ∃ (t : State) (x : GroupLoop),
    execFeedbackFrozen g s = .next t ∧ (t.site.pav p).rep = ((((s.view p).setGrp g x).raise .CTL_EVENT_FEEDBACK_FROZEN).openRamp s.site.env
      ((s.view p).rd .CTL_GFEED_OUTLET g) coFeedbackFrozen (some g)).flushed := by
  refine ⟨_, _, rfl, (Site.rep_onLog s.site hstep _).trans (congrArg Replica.flushed (if_pos ?_))⟩
  have hdeclares : ∀ frozen : Bool, ((s.view p).guarded g && ((s.view p).lossDue g && ((s.view p).grp g).runValid || frozen)) = true := by
    rw [hguard, hdue, hvalid]
    exact fun _ => rfl
  exact hdeclares _

end

theorem ctlXdisWrite_writes (dis : BitVec 24) : ∃ t : State, execCtlXdisWrite dis s = .next t ∧
    (t.site.pav p).rep = ((s.view p).xdisWrite s.site.env dis.toNat).flushed := State.onLog_of_eq hstep rfl

theorem rampDone_of_released (hramp : (s.view p).rd .CTL_OMODE_RAMP o = 1)
    (hreleased : ∀ h : Grp, (s.view p).rd .CTL_GFEED_OUTLET h = o.val → 4 ≤ ((s.view p).grp h).rampK) : ∃ t : State,
    execRampDone o s = .next t ∧ (t.site.pav p).rep = (((s.view p).halted o).raise .CTL_EVENT_RAMP_DONE).flushed := by
  have hall : ((s.view p).groupsOf o).all (fun h => 4 ≤ ((s.view p).grp h).rampK) = true := by
    rw [List.all_eq_true]
    intro h hmem
    obtain ⟨hlt, hrouted⟩ := List.mem_filter.1 hmem
    exact decide_eq_true (hreleased ⟨h, List.mem_range.1 hlt⟩ (of_decide_eq_true hrouted))
  exact State.onLog_of_eq hstep (if_pos (by
    rw [Bool.and_eq_true, decide_eq_true_eq]
    exact ⟨hramp, hall⟩))

end

/-- Settles O33: one lemma per command above, then what an opening or a stop leaves of the outlet (`openRamp_declares`, `stopNow_declares`)
and of the event raised before it (`ShowsAt.event`). -/
theorem converterGuards : Obligations.ConverterGuards := by
  intro p o g s hstep r r'
  refine ⟨fun m => ?_, fun hsoft hrun hclosed => ?_, fun hsoft hcycles hcount hclosed => ?_,
    fun hguard houtlet hlost hunsaid hclosed => ⟨fun hinvalid => ?_, fun hvalid => ?_⟩,
    fun hsoft hcycles hcount hopen hhere hold => ?_, fun hsoft hrun hramp hstopped hother => ?_,
    fun dis hdis hlo hhi hclosed => ?_, fun hramp hreleased => ?_⟩
  · obtain ⟨t, hexec, (hrep : r' t = _)⟩ := ctlModeWrite_writes hstep (o := o) m
    refine ⟨t, hexec, ?_⟩
    simp only [hrep, Replica.mode_flushed, Replica.rd_flushed, Replica.out_flushed, Replica.isOpen_flushed,
      Replica.mode_writeMode_same (r := s.view p) o m.isLt, (s.view p).soft_writeMode, (s.view p).out_writeMode o m.toNat o.isLt]
    refine ⟨trivial, ?_, trivial, trivial, ?_, fun q hq => (s.view p).mode_writeMode_ne o m.toNat fun h => hq (Fin.ext h)⟩
    · simp only [modeCableCheck, modePrecharge, ← BitVec.toNat_inj]
      rfl
    · rintro rfl
      exact (s.view p).isOpen_writeMode_off o
  · obtain ⟨t, hexec, (hrep : r' t = _)⟩ := ssOvercurrent_of_due (o := o) hstep hsoft (Replica.maySoft_of_closed _ hclosed) hrun
    refine ⟨t, hexec, ?_⟩
    simp only [hrep, Replica.rd_flushed, Replica.out_flushed]
    exact Replica.stopNow_raised _ (by decide) (by decide) rfl (by decide) o.isLt hclosed (by decide)
  · obtain ⟨t, hexec, (hrep : r' t = _)⟩ := shortSoftstart_of_due (o := o) hstep hsoft (Replica.maySoft_of_closed _ hclosed) hcycles hcount
    refine ⟨t, hexec, ?_⟩
    simp only [hrep, Replica.rd_flushed, Replica.out_flushed]
    obtain ⟨hstopped, -, hshown⟩ := Replica.stopNow_raised (r := s.view p) (f := .CTL_EVENT_SHORT_SOFTSTART) (cause := coShort)
      s.site.env (by decide) (by decide) rfl (by decide) o.isLt hclosed (by decide)
    exact ⟨hstopped, hshown⟩
  · obtain ⟨t, x, hexec, (hrep : r' t = _)⟩ := feedbackLost_of_due hstep hguard (Replica.lossDue_of_run hlost hunsaid) hinvalid
    have houtlet' : (s.view p).rd .CTL_GFEED_OUTLET g = o.val := houtlet
    refine ⟨t, hexec, ?_⟩
    simp only [hrep, houtlet', Replica.rd_flushed, Replica.out_flushed]
    exact Replica.openRamp_raised _ _ (by decide) (by decide) rfl (by decide) o.isLt hclosed (by decide)
  · obtain ⟨t, x, hexec, (hrep : r' t = _)⟩ := feedbackFrozen_of_due hstep hguard (Replica.lossDue_of_run hlost hunsaid) hvalid
    have houtlet' : (s.view p).rd .CTL_GFEED_OUTLET g = o.val := houtlet
    refine ⟨t, hexec, ?_⟩
    simp only [hrep, houtlet', Replica.rd_flushed, Replica.out_flushed]
    exact Replica.openRamp_raised _ _ (by decide) (by decide) rfl (by decide) o.isLt hclosed (by decide)
  · have hhere' : (s.view p).openedHere s.site.env o = true := by
      rw [Replica.openedHere, Bool.and_eq_true, decide_eq_true_eq]
      exact ⟨hopen, hhere⟩
    have hmay : (s.view p).maySoft s.site.env o = true := by rw [Replica.maySoft, hhere', Bool.or_true]
    have hrank : (1 ≤ coRank coShort && coRank coShort ≤ 5 && coRank coShort < coRank ((s.view p).rd .CTL_OMODE_CAUSE o)) = true := by
      obtain h | h : (s.view p).rd .CTL_OMODE_CAUSE o = coOvercurrent ∨ (s.view p).rd .CTL_OMODE_CAUSE o = coFeedbackLost := hold
      · rw [h]
        decide
      · rw [h]
        decide
    obtain ⟨t, hexec, (hrep : r' t = _)⟩ := shortSoftstart_of_due (o := o) hstep hsoft hmay hcycles hcount
    refine ⟨t, hexec, ?_⟩
    simp only [hrep, Replica.rd_flushed]
    exact Replica.stopNow_renames _ (by decide) (by decide) rfl (by decide) hhere' hrank (by decide)
  · have hmay : (s.view p).maySoft s.site.env o = true := by
      rw [Replica.maySoft, Bool.or_eq_true, decide_eq_true_eq]
      exact .inl hstopped
    have hopen : ((s.view p).raise .CTL_EVENT_SS_OVERCURRENT).isOpen o = true := by
      rw [Replica.isOpen_raise (by decide), Replica.isOpen, Bool.or_eq_true, decide_eq_true_eq]
      exact .inl hramp
    have hcause : ((s.view p).raise .CTL_EVENT_SS_OVERCURRENT).rd .CTL_OMODE_CAUSE o = r.rd .CTL_OMODE_CAUSE o :=
      (s.view p).rd_raise_of_ne 0 o (by decide) rfl
    obtain ⟨t, hexec, (hrep : r' t = _)⟩ := ssOvercurrent_of_due (o := o) hstep hsoft hmay hrun
    refine ⟨t, hexec, ?_⟩
    simp only [hrep, Replica.rd_flushed, ← hcause]
    exact Replica.stopNow_keeps_cause _ _ hopen hother
  · obtain ⟨t, hexec, (hrep : r' t = _)⟩ := ctlXdisWrite_writes hstep dis
    refine ⟨t, hexec, ?_⟩
    simp only [hrep, Replica.rd_flushed, Replica.out_flushed]
    exact Replica.xdisWrite_opens _ o.isLt hdis ⟨⟨hlo, hhi⟩, hclosed⟩
  · obtain ⟨t, hexec, (hrep : r' t = _)⟩ := rampDone_of_released (o := o) hstep hramp hreleased
    have hkept : ∀ f : Field, f ≠ .CTL_EVENT_RAMP_DONE → f.isCount = false → (r' t).rd f o = ((s.view p).halted o).rd f o := fun f hf hc => by
      rw [hrep]
      exact Replica.rd_raise_of_ne _ _ _ hf hc
    refine ⟨t, hexec, ?_, ?_, ?_, ?_⟩
    · exact (hkept _ (by decide) rfl).trans (Replica.ramp_halted _ o)
    · exact (hkept _ (by decide) rfl).trans (Replica.stopped_halted _ o)
    · rw [hrep]
      exact Replica.rd_raise_same _ _ _ rfl (by decide)
    · exact (hkept _ (by decide) rfl).trans (Replica.rd_halted _ o o (by decide) (by decide))

end Sys2Proof.Machine
end

section
/-! PROOFS. Coefficient swaps, injection generators and capture units (R192 to R197, R214 to R223). -/
namespace Sys2Proof.Machine

/-! ### Swaps (R194, R196, R197) -/

section
variable (r : Replica) (o : Nat)

/-- The result of GO: no place, a swap already pending, or what the contents check finds. -/
def Replica.swapCode : Nat :=
  if r.rd .CTL_OSWCTL_ADDR o = 0 then 6 else if r.rd .CTL_OSWCTL_PEND o = 1 then 7 else setCheck (r.staged o)

/-- The contents check knows the codes 0 to 5. -/
theorem setCheck_le (b : List Byte) : setCheck b ≤ 5 := by
  unfold setCheck
  dsimp only
  repeat' split
  all_goals decide

theorem Replica.swapCode_lt : r.swapCode o < 2 ^ 4 := by
  have hcheck := setCheck_le (r.staged o)
  unfold Replica.swapCode
  split
  · decide
  · split
    · decide
    · omega

theorem Replica.swapGo_of_good (hcode : r.swapCode o = 0) :
    r.swapGo o = (r.wr .CTL_OSWCTL_RESULT (r.swapCode o) o).wr .CTL_OSWCTL_PEND 1 o := if_pos hcode

theorem Replica.swapGo_of_refused (hcode : r.swapCode o ≠ 0) :
    r.swapGo o = (r.wr .CTL_OSWCTL_RESULT (r.swapCode o) o).raise .CTL_EVENT_SWAP_REFUSED := if_neg hcode

theorem Replica.swapGo_shows : (r.swapGo o).rd .CTL_OSWCTL_RESULT o = r.swapCode o ∧
    (r.swapGo o).rd .CTL_OSWCTL_PEND o = (if r.swapCode o = 0 then 1 else r.rd .CTL_OSWCTL_PEND o) ∧
    (r.swapCode o ≠ 0 → (r.swapGo o).rd .CTL_EVENT_SWAP_REFUSED = 1) := by
  have hresult := r.rd_wr_of_lt .CTL_OSWCTL_RESULT (r.swapCode o) o (r.swapCode_lt o)
  by_cases hcode : r.swapCode o = 0
  · rw [r.swapGo_of_good o hcode, if_pos hcode]
    exact ⟨(Replica.rd_wr_of_ne _ _ _ _ (by decide)).trans hresult, Replica.rd_wr_of_lt _ _ _ _ (by decide), fun h => absurd hcode h⟩
  · rw [r.swapGo_of_refused o hcode, if_neg hcode]
    exact ⟨(Replica.rd_raise_of_ne _ _ _ (by decide) rfl).trans hresult,
      (Replica.rd_raise_of_ne _ _ _ (by decide) rfl).trans (r.rd_wr_of_ne _ _ _ (by decide)), fun _ => Replica.rd_raise_same _ _ _ rfl (by decide)⟩

end

/-- A boundary has been reached at its own sequence number. -/
theorem seqReached_self (n : Nat) (h : n < 2 ^ 32) : seqReached n n = true := by
  unfold seqReached
  rw [Nat.mod_eq_of_lt h, Nat.add_sub_cancel_left]
  decide

theorem Pavilion.eng_flush (v : Pavilion) (q : Pav) (red : Bool) (e : Eng) : (v.flush q red).loc.eng e = v.loc.eng e :=
  congrArg (fun x : Vector Engine 12 => x.get e) (v.flush_engines q red)

/-- A pavilion as an effect on whole pavilions finds it. -/
def State.stepView (s : State) (p : Pav) : Pavilion := { s.site.pav p with rep := s.view p }

/-- What an effect on whole pavilions leaves of one in step: its replica, its engines and its SRAM (R33). -/
theorem State.onStep_of_eq {s : State} {p : Pav} (hstep : (s.site.pav p).inStep = true) {f : Site → Pavilion → Pavilion} {w : Pavilion}
    (h : f s.site (s.stepView p) = w) : ∃ t : State, (s.run fun t => t.onStep (f t)) = .next t ∧
      (t.site.pav p).rep = w.rep.flushed ∧ (∀ e : Eng, t.site.eng p e = w.loc.eng e) ∧ (t.site.pav p).loc.sram = w.loc.sram := by
  obtain ⟨red, hpav⟩ := s.site.pav_onStep (f s.site) p
  have hleft : (s.site.onStep (f s.site)).pav p = w.flush p red := by
    rw [hpav, if_pos hstep, ← h]
    rfl
  refine ⟨_, rfl, ?_⟩
  simp only [Site.eng, hleft, Pavilion.eng_flush, Pavilion.flush_sram]
  exact ⟨rfl, fun _ => trivial, trivial⟩

/-- A pavilion once the set of an outlet has been loaded into the outlet's engine. -/
def Pavilion.swapped (v : Pavilion) (o : Nat) : Pavilion :=
  let r := (v.rep.wr .CTL_OSWCTL_PEND 0 o).raise .CTL_EVENT_SWAP_DONE
  let e := v.rep.rd .CTL_OSWCTL_ENGINE o
  { loc := v.loc.setEng (Fin.ofNat 12 e)
      ((v.loc.eng (Fin.ofNat 12 e)).loadSet (0x40000 + 16 * v.rep.rd .CTL_OSWCTL_ADDR o) (v.rep.staged o))
    rep := { r with swapWord := v.rep.swapWord ||| 2 ^ o, swapEngines := e :: v.rep.swapEngines,
                    caps := r.caps.map fun c => { c with swapped := true } } }

section
variable (v : Pavilion) {o : Nat} {e : Eng}

theorem Pavilion.loc_swapped (hengine : v.rep.rd .CTL_OSWCTL_ENGINE o = e.val) : (v.swapped o).loc =
    v.loc.setEng e ((v.loc.eng e).loadSet (0x40000 + 16 * v.rep.rd .CTL_OSWCTL_ADDR o) (v.rep.staged o)) := by
  have hself : Fin.ofNat 12 e.val = e := Fin.ext (Nat.mod_eq_of_lt e.isLt)
  simp only [Pavilion.swapped, hengine, hself]

theorem Pavilion.swapped_shows : (v.swapped o).rep.rd .CTL_OSWCTL_PEND o = 0 ∧ (v.swapped o).rep.rd .CTL_EVENT_SWAP_DONE = 1 := by
  have hregs : ∀ f i, (v.swapped o).rep.rd f i = ((v.rep.wr .CTL_OSWCTL_PEND 0 o).raise .CTL_EVENT_SWAP_DONE).rd f i := fun _ _ => rfl
  rw [hregs, hregs, Replica.rd_raise_of_ne _ _ _ (by decide) rfl]
  exact ⟨Replica.rd_wr_of_lt _ _ _ _ (by decide), Replica.rd_raise_same _ _ _ rfl (by decide)⟩

end

section
variable {s : State} {p : Pav} {o : Outlet} {e : Eng}

/-- A pending swap whose boundary has come is loaded in its engine's end-mark wait, when no lower outlet claims the engine (R196, R197). -/
theorem swapLoad_of_first (hstep : (s.site.pav p).inStep = true) (hpend : (s.view p).rd .CTL_OSWCTL_PEND o = 1)
    (hengine : (s.view p).rd .CTL_OSWCTL_ENGINE o = e.val) (hdue : seqReached ((s.view p).rd .CTL_OSWAP_APPLY o) s.site.seq = true)
    (hwait : ((s.stepView p).loc.eng e).inEndWait = true) (hfree : (s.view p).swapEngines.contains e.val = false)
    (hfirst : ∀ q : Outlet, q < o → ¬((s.view p).rd .CTL_OSWCTL_PEND q = 1 ∧ (s.view p).rd .CTL_OSWCTL_ENGINE q = e.val)) :
    ∃ t : State, execSwapLoad o s = .next t ∧ (t.site.pav p).rep = ((s.stepView p).swapped o).rep.flushed ∧
      (∀ d : Eng, t.site.eng p d = ((s.stepView p).swapped o).loc.eng d) ∧
      (t.site.pav p).loc.sram = ((s.stepView p).swapped o).loc.sram := by
  have hself : Fin.ofNat 12 e.val = e := Fin.ext (Nat.mod_eq_of_lt e.isLt)
  have hnone : ((List.range o.val).all fun q => !((s.view p).rd .CTL_OSWCTL_PEND q = 1 && (s.view p).rd .CTL_OSWCTL_ENGINE q = e.val &&
      seqReached ((s.view p).rd .CTL_OSWAP_APPLY q) s.site.seq)) = true := by
    rw [List.all_eq_true]
    intro q hq
    have hlt := List.mem_range.1 hq
    have hother := hfirst ⟨q, hlt.trans o.isLt⟩ hlt
    rw [Bool.not_eq_true', Bool.and_eq_false_iff, ← Bool.not_eq_true, Bool.and_eq_true, decide_eq_true_eq, decide_eq_true_eq]
    exact .inl hother
  have hview : (s.stepView p).rep = s.view p := rfl
  refine State.onStep_of_eq hstep (if_pos ?_)
  rw [hview, hpend, hengine, hself, hdue, hwait, hfree, hnone]
  rfl

end

/-! ### Injection generators (R215, R216) -/

section
variable (r : Replica) (i : Unit4)

/-- GO arms a generator with a defined wave on an outlet in CHARGING that no other generator is on. -/
theorem Replica.injGo_of_free (hwave : r.rd .CTL_INJCTRL_WAVE i ≤ 4) (houtlet : r.rd .CTL_INJCTRL_OUTLET i < 24)
    (hmode : r.mode (r.rd .CTL_INJCTRL_OUTLET i) = modeCharging)
    (hfree : ∀ j : Unit4, j ≠ i → r.rd .CTL_INJCTRL_OUTLET j ≠ r.rd .CTL_INJCTRL_OUTLET i) :
    r.injGo i = { r with injs := vput r.injs i { armed := true, inc := r.rd .CTL_INJFREQ_FREQ i } } := by
  have hclash : ((List.range 4).any fun j => j ≠ i && r.rd .CTL_INJCTRL_OUTLET j = r.rd .CTL_INJCTRL_OUTLET i &&
      (r.rd .CTL_INJCTRL_ACTIVE j = 1 || (vget r.injs j {}).armed)) = false := by
    rw [List.any_eq_false]
    intro j hj
    have hother := hfree ⟨j, List.mem_range.1 hj⟩
    simp only [ne_eq, Fin.ext_iff] at hother
    simp only [Bool.and_eq_true, decide_eq_true_eq]
    rintro ⟨⟨hne, hsame⟩, -⟩
    exact hother hne hsame
  unfold Replica.injGo
  dsimp only
  rw [hclash, if_pos]
  simp [hwave, houtlet, hmode]

theorem Replica.endInj_shows {code : Nat} (hcode : code < 4) : (r.endInj i code).rd .CTL_INJCTRL_ACTIVE i = 0 ∧
    (r.endInj i code).rd .CTL_INJCTRL_END i = code ∧ (r.endInj i code).rd .CTL_EVENT_INJ_DONE = 1 := by
  have hregs : ∀ f k, (r.endInj i code).rd f k =
      (((r.wr .CTL_INJCTRL_ACTIVE 0 i).wr .CTL_INJCTRL_END code i).raise .CTL_EVENT_INJ_DONE).rd f k := fun _ _ => rfl
  rw [hregs, hregs, hregs, Replica.rd_raise_of_ne _ _ _ (by decide) rfl, Replica.rd_raise_of_ne _ _ _ (by decide) rfl,
    Replica.rd_wr_of_ne _ _ _ _ (by decide)]
  exact ⟨Replica.rd_wr_of_lt _ _ _ _ (by decide), Replica.rd_wr_of_lt _ _ _ _ hcode, Replica.rd_raise_same _ _ _ rfl (by decide)⟩

end

/-! ### Operations of the hosts (R443) -/

section
variable (r : Replica)

theorem Replica.reported_withHosts (f : Hosts → Hosts) : r.Reported (r.withHosts f) := ⟨r.regs, _, r.jq, r.tx, rfl, fun _ _ _ _ => rfl⟩

theorem Replica.reported_principalEvent (n code : Nat) (sel : Session → Bool) (data : List Nat) :
    r.Reported (r.principalEvent n code sel data) := by
  unfold Replica.principalEvent
  split
  · exact r.reported_withHosts _
  · exact .foldl (fun r k => r.reported_sessionEvent k code data) _ r

theorem Replica.reported_completeOp (sel : HostOp → Bool) (result detail : Nat) (bytes : List Byte) :
    r.Reported (r.completeOp sel result detail bytes) := by
  unfold Replica.completeOp
  split
  · exact .refl r
  · exact (r.reported_withHosts _).trans (Replica.reported_principalEvent _ _ _ _ _)

end

/-! ### Capture units (R221 to R223) -/

/-- A pavilion once a capture unit has written its header; the operation that waits for the unit completes. -/
def Pavilion.captured (v : Pavilion) (i : Nat) (sel : HostOp → Bool) : Pavilion :=
  { loc := { v.loc with sram := v.loc.sram.wrBytes (v.rep.capBase i) (v.rep.capHeader i) }
    rep := ((v.rep.wr .CTL_CAPCTRL_STATE 4 i).raise .CTL_EVENT_CAP_DONE).completeOp sel 0 0 [] }

theorem Pavilion.captured_shows (v : Pavilion) (i : Nat) (sel : HostOp → Bool) :
    (v.captured i sel).rep.rd .CTL_CAPCTRL_STATE i = 4 ∧ (v.captured i sel).rep.rd .CTL_EVENT_CAP_DONE = 1 := by
  have hreported : Replica.Reported _ (v.captured i sel).rep :=
    ((v.rep.wr .CTL_CAPCTRL_STATE 4 i).raise .CTL_EVENT_CAP_DONE).reported_completeOp sel 0 0 []
  rw [hreported.rd (by decide) rfl, hreported.rd (by decide) rfl, Replica.rd_raise_of_ne _ _ _ (by decide) rfl]
  exact ⟨Replica.rd_wr_of_lt _ _ _ _ (by decide), Replica.rd_raise_same _ _ _ rfl (by decide)⟩

@[simp] theorem Replica.capBase_clock (r : Replica) (now i : Nat) : (r.clock now).capBase i = r.capBase i := rfl
@[simp] theorem Replica.capHeader_clock (r : Replica) (now i : Nat) : (r.clock now).capHeader i = r.capHeader i := rfl

theorem State.sram_captured (s : State) (p : Pav) (i : Nat) (sel : HostOp → Bool) : ((s.stepView p).captured i sel).loc.sram =
    (s.site.pav p).loc.sram.wrBytes ((s.site.pav p).rep.capBase i) ((s.site.pav p).rep.capHeader i) := by
  have hrep : (s.stepView p).rep = (s.site.pav p).rep.clock s.site.now := rfl
  have hloc : (s.stepView p).loc = (s.site.pav p).loc := rfl
  simp only [Pavilion.captured, hrep, hloc, Replica.capBase_clock, Replica.capHeader_clock]

/-! ### The commands -/

section
variable {s : State} {p : Pav} {o : Outlet} {i : Unit4} (hstep : (s.site.pav p).inStep = true)
include hstep

theorem ctlSwapGo_writes : ∃ t : State, execCtlSwapGo o s = .next t ∧ (t.site.pav p).rep = ((s.view p).swapGo o).flushed :=
  State.onLog_of_eq hstep rfl

theorem ctlInjGo_writes : ∃ t : State, execCtlInjGo i s = .next t ∧ (t.site.pav p).rep = ((s.view p).injGo i).flushed :=
  State.onLog_of_eq hstep rfl

theorem ctlInjStop_of_active (hactive : (s.view p).rd .CTL_INJCTRL_ACTIVE i = 1) : ∃ t : State, execCtlInjStop i s = .next t ∧
    (t.site.pav p).rep = ((s.view p).endInj i 1).flushed :=
  State.onLog_of_eq hstep (if_pos (by
    rw [Bool.or_eq_true, decide_eq_true_eq]
    exact .inl hactive))

theorem injectionStart_of_due (harmed : (vget (s.view p).injs i {}).armed = true)
    (hdue : seqReached ((s.view p).rd .CTL_INJSTART_START i) s.site.seq = true) : ∃ (t : State) (caps : Vector Capture 4),
    execInjectionStart i s = .next t ∧ (t.site.pav p).rep = Replica.flushed { (s.view p).wr .CTL_INJCTRL_ACTIVE 1 i with
      injs := vput (s.view p).injs i { vget (s.view p).injs i {} with armed := false, t := 0, phase := 0, lfsr := 0x7FF }, caps } := by
  refine ⟨_, _, rfl, (Site.rep_onLog s.site hstep _).trans (congrArg Replica.flushed (if_pos ?_))⟩
  have hstarts : ((vget (s.view p).injs i {}).armed && seqReached ((s.view p).rd .CTL_INJSTART_START i) s.site.seq) = true := by
    rw [harmed, hdue]
    rfl
  exact hstarts

theorem injDone_of_complete (hactive : (s.view p).rd .CTL_INJCTRL_ACTIVE i = 1)
    (hlen : (s.view p).rd .CTL_INJLEN_LEN i ≤ (vget (s.view p).injs i {}).t) : ∃ t : State, execInjDone i s = .next t ∧
    (t.site.pav p).rep = ((s.view p).endInj i 0).flushed :=
  State.onLog_of_eq hstep (if_pos (by
    rw [Bool.and_eq_true, decide_eq_true_eq, decide_eq_true_eq]
    exact ⟨hactive, hlen⟩))

theorem ctlCapArm_of_defined (htrig : (s.view p).rd .CTL_CAPCTRL_TRIG i < 6) (hdec : (s.view p).rd .CTL_CAPCTRL_DEC i ≠ 0)
    (hsize : (s.view p).rd .CTL_CAPSIZE_SIZE i ≠ 0) : ∃ (t : State) (src : List Nat), execCtlCapArm i s = .next t ∧
    (t.site.pav p).rep = Replica.flushed { ((s.view p).wr .CTL_CAPCTRL_STATE 1 i).wr .CTL_CAPCOUNT_COUNT 0 i with
      caps := vput (s.view p).caps i { src, trigger := (s.view p).rd .CTL_CAPCTRL_TRIG i = 0 } } := by
  refine ⟨_, _, rfl, (Site.rep_onLog s.site hstep _).trans (congrArg Replica.flushed (if_neg ?_))⟩
  have hdefined : ¬ (6 ≤ (s.view p).rd .CTL_CAPCTRL_TRIG i || (s.view p).rd .CTL_CAPCTRL_DEC i = 0 ||
      (s.view p).rd .CTL_CAPSIZE_SIZE i = 0) = true := by simp [Nat.not_le.2 htrig, hdec, hsize]
  exact hdefined

theorem ctlCapFire_of_waiting (htrig : (s.view p).rd .CTL_CAPCTRL_TRIG i = 1)
    (hstate : (s.view p).rd .CTL_CAPCTRL_STATE i = 1 ∨ (s.view p).rd .CTL_CAPCTRL_STATE i = 2) : ∃ t : State,
    execCtlCapFire i s = .next t ∧ (t.site.pav p).rep =
      Replica.flushed { s.view p with caps := vput (s.view p).caps i { vget (s.view p).caps i {} with trigger := true } } :=
  State.onLog_of_eq hstep (if_pos (by
    rw [Bool.and_eq_true, Bool.or_eq_true, decide_eq_true_eq, decide_eq_true_eq, decide_eq_true_eq]
    exact ⟨htrig, hstate⟩))

theorem ctlCapStop_writes : ∃ t : State, execCtlCapStop i s = .next t ∧ (t.site.pav p).loc.sram = (s.site.pav p).loc.sram ∧
    (t.site.pav p).rep = ((s.view p).wr .CTL_CAPCTRL_STATE 0 i).flushed :=
  ⟨_, rfl, Site.onLog_keeps (·.sram) (fun _ _ _ => rfl) s.site _ p, Site.rep_onLog s.site hstep _⟩

theorem capDone_of_written (hstate : (s.view p).rd .CTL_CAPCTRL_STATE i = 3) (hpost : (vget (s.view p).caps i {}).post = 0) :
    ∃ (sel : HostOp → Bool) (t : State), execCapDone i s = .next t ∧ (t.site.pav p).rep = ((s.stepView p).captured i sel).rep.flushed ∧
      (∀ e : Eng, t.site.eng p e = ((s.stepView p).captured i sel).loc.eng e) ∧
      (t.site.pav p).loc.sram = ((s.stepView p).captured i sel).loc.sram := by
  have hwritten : ((s.stepView p).rep.rd .CTL_CAPCTRL_STATE i = 3 && (vget (s.stepView p).rep.caps i {}).post = 0) = true := by
    rw [Bool.and_eq_true, decide_eq_true_eq, decide_eq_true_eq]
    exact ⟨hstate, hpost⟩
  exact ⟨_, State.onStep_of_eq (w := (s.stepView p).captured i _) hstep (if_pos hwritten)⟩

end

/-- Settles O34: one lemma per command above, then what the effect leaves shown (`swapGo_shows`, `swapped_shows`, `endInj_shows`,
`captured_shows`). -/
theorem swapsInjectionsCaptures : Obligations.SwapsInjectionsCaptures := by
  intro p o i s hstep r r'
  refine ⟨?_, fun e hpend hengine hdue hwait hfree hfirst => ?_, fun hwave houtlet hmode hfree => ?_, fun hactive => ?_,
    fun harmed hstart => ?_, fun hactive hlen => ?_, fun htrig hdec hsize => ?_, fun htrig hstate => ?_, ?_, fun hstate hpost => ?_⟩
  · obtain ⟨t, hexec, (hrep : r' t = _)⟩ := ctlSwapGo_writes (o := o) hstep
    refine ⟨t, hexec, ?_⟩
    simp only [hrep, Replica.rd_flushed]
    exact (s.view p).swapGo_shows o
  · obtain ⟨t, hexec, (hrep : r' t = _), hloaded, -⟩ := swapLoad_of_first hstep hpend hengine hdue hwait hfree hfirst
    obtain ⟨hpend', hdone⟩ := (s.stepView p).swapped_shows (o := o)
    have heng : ∀ d : Eng, t.site.eng p d = ((s.site.pav p).loc.setEng e _).eng d := fun d =>
      (hloaded d).trans (congrArg (Local.eng · d) ((s.stepView p).loc_swapped hengine))
    refine ⟨t, hexec, ?_, ?_, (heng e).trans (Local.eng_setEng_same _ e _), fun d hd => (heng d).trans (Local.eng_setEng_ne _ e d _ hd)⟩ <;>
      rw [hrep, Replica.rd_flushed]
    · exact hpend'
    · exact hdone
  · obtain ⟨t, hexec, (hrep : r' t = _)⟩ := ctlInjGo_writes (i := i) hstep
    rw [(s.view p).injGo_of_free i hwave houtlet hmode hfree] at hrep
    refine ⟨t, hexec, ?_, ?_⟩ <;> rw [hrep]
    · exact congrArg Injector.armed (vget_vput_same _ _ _ _ i.isLt)
    · rfl
  · obtain ⟨t, hexec, (hrep : r' t = _)⟩ := ctlInjStop_of_active hstep hactive
    refine ⟨t, hexec, ?_⟩
    simp only [hrep, Replica.rd_flushed]
    exact (s.view p).endInj_shows i (by decide)
  · have hdue : seqReached ((s.view p).rd .CTL_INJSTART_START i) s.site.seq = true := by
      have hat : (s.view p).rd .CTL_INJSTART_START i = s.site.seq := hstart
      rw [← hat]
      exact seqReached_self _ (Regs.rd_lt _ _ _)
    obtain ⟨t, caps, hexec, (hrep : r' t = _)⟩ := injectionStart_of_due hstep harmed hdue
    refine ⟨t, hexec, ?_, ?_, ?_⟩ <;> rw [hrep]
    · exact Replica.rd_wr_of_lt (s.view p) .CTL_INJCTRL_ACTIVE 1 i (by decide)
    · exact congrArg Injector.armed (vget_vput_same _ _ _ _ i.isLt)
    · exact congrArg Injector.t (vget_vput_same _ _ _ _ i.isLt)
  · obtain ⟨t, hexec, (hrep : r' t = _)⟩ := injDone_of_complete hstep hactive hlen
    refine ⟨t, hexec, ?_⟩
    simp only [hrep, Replica.rd_flushed]
    exact (s.view p).endInj_shows i (by decide)
  · obtain ⟨t, src, hexec, (hrep : r' t = _)⟩ := ctlCapArm_of_defined hstep htrig hdec hsize
    refine ⟨t, hexec, ?_, ?_, ?_, ?_⟩ <;> rw [hrep]
    · exact (Replica.rd_wr_of_ne _ _ _ _ (by decide)).trans (Replica.rd_wr_of_lt (s.view p) .CTL_CAPCTRL_STATE 1 i (by decide))
    · exact Replica.rd_wr_of_lt _ .CTL_CAPCOUNT_COUNT 0 i (by decide)
    · exact congrArg Capture.trigger (vget_vput_same _ _ _ _ i.isLt)
    · exact congrArg Capture.held (vget_vput_same _ _ _ _ i.isLt)
  · obtain ⟨t, hexec, (hrep : r' t = _)⟩ := ctlCapFire_of_waiting hstep htrig hstate
    refine ⟨t, hexec, ?_, ?_⟩ <;> rw [hrep]
    · exact congrArg Capture.trigger (vget_vput_same _ _ _ _ i.isLt)
    · rfl
  · obtain ⟨t, hexec, hsram, (hrep : r' t = _)⟩ := ctlCapStop_writes (i := i) hstep
    refine ⟨t, hexec, ?_, ?_, hsram⟩ <;> rw [hrep]
    · exact Replica.rd_wr_of_lt (s.view p) .CTL_CAPCTRL_STATE 0 i (by decide)
    · rfl
  · obtain ⟨sel, t, hexec, (hrep : r' t = _), -, hsram⟩ := capDone_of_written hstep hstate hpost
    obtain ⟨hdone, hevent⟩ := (s.stepView p).captured_shows i sel
    refine ⟨t, hexec, ?_, ?_, hsram.trans (s.sram_captured p i sel)⟩ <;> rw [hrep, Replica.rd_flushed]
    · exact hdone
    · exact hevent

end Sys2Proof.Machine
end

section
/-! PROOFS. Phase management and the Parterre: shedding, rotation, routing, frozen rings, the bank at the deadline, fallback, stale
inputs and the breach watch (R230 to R282). -/
namespace Sys2Proof.Machine

/-! ### The phase a shed takes (R235, R244) -/

section
variable (r : Replica) (g : Nat) {l : List Nat} {b : Nat} (k : Nat)

theorem Replica.pickPhase_concat_of_none (h : r.pickPhase g l true = none) : r.pickPhase g (l ++ [k]) true = some k := by
  unfold Replica.pickPhase at h ⊢
  rw [List.foldl_append, h]
  rfl

theorem Replica.pickPhase_concat_of_some (h : r.pickPhase g l true = some b) : r.pickPhase g (l ++ [k]) true =
    if (r.ph g).q.getD b 0 < (r.ph g).q.getD k 0 ∨ (r.ph g).q.getD k 0 = (r.ph g).q.getD b 0 ∧ r.slotOf g k < r.slotOf g b then some k
    else some b := by
  unfold Replica.pickPhase at h ⊢
  rw [List.foldl_append, h]
  simp

/-- A candidate of the largest charge count is taken, whatever the ties. -/
theorem Replica.pickPhase_largest (hne : l ≠ []) : ∃ k ∈ l, r.pickPhase g l true = some k ∧
    ∀ j ∈ l, (r.ph g).q.getD j 0 ≤ (r.ph g).q.getD k 0 := by
  induction l using List.reverseRecOn with
  | nil => exact absurd rfl hne
  | append_singleton l k ih =>
    rcases eq_or_ne l [] with rfl | hl
    · exact ⟨k, List.mem_singleton_self k, rfl, fun j hj => (List.mem_singleton.1 hj ▸ le_rfl)⟩
    · obtain ⟨b, hb, hpick, hmax⟩ := ih hl
      have hstep := r.pickPhase_concat_of_some g k hpick
      split at hstep
      · next hbetter =>
        have hle : (r.ph g).q.getD b 0 ≤ (r.ph g).q.getD k 0 := by omega
        refine ⟨k, by simp, hstep, fun j hj => ?_⟩
        rcases List.mem_append.1 hj with hj | hj
        · exact (hmax j hj).trans hle
        · exact (List.mem_singleton.1 hj ▸ le_rfl)
      · next hworse =>
        refine ⟨b, by simp [hb], hstep, fun j hj => ?_⟩
        rcases List.mem_append.1 hj with hj | hj
        · exact hmax j hj
        · rw [List.mem_singleton.1 hj]
          omega

end

/-- An enabled set has an enabled phase. -/
theorem enabled_ne_nil {en : Nat} (h : en % 256 ≠ 0) : ((List.range 8).filter fun k => bitOf en k) ≠ [] := by
  intro hnil
  refine h (Nat.eq_of_testBit_eq fun k => ?_)
  rw [show 256 = 2 ^ 8 from rfl, Nat.testBit_mod_two_pow, Nat.zero_testBit]
  by_cases hk : k < 8
  · have hoff := List.filter_eq_nil_iff.1 hnil k (List.mem_range.2 hk)
    simpa [bitOf, hk] using hoff
  · simp [hk]

section
variable (r : Replica) (g : Grp)

/-- A group whose shed has begun: the phase taken stands at full weight, and the shed count starts anew. -/
def Replica.shedBegun (r : Replica) (g : Nat) : Replica :=
  match r.pickPhase g ((List.range 8).filter fun k => bitOf (r.ph g).en k) true with
  | some k => r.setPh g { r.ph g with shed := some (k, 65536), hold := 0 }
  | none => r

theorem Replica.shedBegun_shows (hen : (r.ph g).en % 256 ≠ 0) : ∃ k : Nat, ((r.shedBegun g).ph g).shed = some (k, 65536) ∧ k < 8 ∧
    bitOf (r.ph g).en k = true ∧ (∀ j : Nat, j < 8 → bitOf (r.ph g).en j = true → (r.ph g).q.getD j 0 ≤ (r.ph g).q.getD k 0) ∧
    ((r.shedBegun g).ph g).en = (r.ph g).en ∧ ((r.shedBegun g).ph g).hold = 0 := by
  obtain ⟨k, hk, hpick, hmax⟩ := r.pickPhase_largest g (enabled_ne_nil hen)
  obtain ⟨hlt, hon⟩ := List.mem_filter.1 hk
  have hbegun : (r.shedBegun g).ph g = { r.ph g with shed := some (k, 65536), hold := 0 } := by
    unfold Replica.shedBegun
    rw [hpick]
    exact r.ph_setPh_same g _
  rw [hbegun]
  exact ⟨k, rfl, List.mem_range.1 hlt, hon, fun j hj hbit => hmax j (List.mem_filter.2 ⟨List.mem_range.2 hj, hbit⟩), rfl, rfl⟩

end

/-! ### Offsets that fall due (R239) -/

section
variable (r : Replica) (o : Nat) (g : Grp)

theorem Replica.regs_ofsFall : (r.ofsFall o).regs = r.regs := by
  unfold Replica.ofsFall
  refine foldl_keeps Replica.regs (fun r h => ?_) _ r
  split <;> rfl

/-- Of a group's phases, only the mark of due offsets may change. -/
theorem Replica.ph_ofsFall : ∃ due : Bool, (r.ofsFall o).ph g = { r.ph g with ofsDue := due } := by
  unfold Replica.ofsFall
  refine List.foldlRecOn (motive := fun q : Replica => ∃ due : Bool, q.ph g = { r.ph g with ofsDue := due }) _ _ ⟨_, rfl⟩ ?_
  rintro q ⟨due, hq⟩ h -
  split
  · by_cases hg : h = g.val
    · refine ⟨true, ?_⟩
      rw [hg, Replica.ph_setPh_same, hq]
    · exact ⟨due, (vget_vput_ne _ _ _ _ _ (Ne.symm hg)).trans hq⟩
  · exact ⟨due, hq⟩

end

/-! ### Rotation (R234, R236) -/

section
variable (r : Replica) (g : Grp)

variable {r g} in
theorem Replica.rotation_due (hmode : r.ilvMode g = 1) (hint : 0 < r.rotInt g) (hticks : r.rotInt g ≤ (r.ph g).ticks) :
    (r.ilvMode g = 1 && 0 < r.rotInt g && r.rotInt g ≤ (r.ph g).ticks) = true := by simp [hmode, hint, hticks]

/-- A timed rotation in a group that is not in ramp-out. -/
def Replica.rotated (r : Replica) (g : Nat) : Replica :=
  (r.setPh g { r.ph g with ticks := 0 }.rotate).ofsFall (r.rd .CTL_GFEED_OUTLET g)

theorem Replica.rotated_shows : ((r.rotated g).ph g).ticks = 0 ∧ ((r.rotated g).ph g).rot = ((r.ph g).rot + 1) % 8 := by
  obtain ⟨due, hph⟩ := (r.setPh g { r.ph g with ticks := 0 }.rotate).ph_ofsFall (r.rd .CTL_GFEED_OUTLET g) g
  rw [Replica.rotated, hph, Replica.ph_setPh_same]
  exact ⟨rfl, rfl⟩

end

/-! ### Routing (R179, R247, R285) -/

theorem Replica.busTo_lt (r : Replica) (g o b : Nat) (h : r.busTo g o = some b) : b < 4 := by
  unfold Replica.busTo at h
  split_ifs at h <;> cases h <;> decide

theorem Replica.routeByte_lt (r : Replica) (g o : Nat) : r.routeByte g o < 256 ^ 1 := by
  unfold Replica.routeByte
  split
  · next b hbus => exact Nat.pow_lt_pow_right (m := b) (n := 8) (by decide) ((r.busTo_lt g o b hbus).trans (by decide))
  · decide

section
variable (v : Pavilion) (g : Grp)

/-- A pavilion at the end of a group's ramp-out. -/
def Pavilion.rampedOut (v : Pavilion) (g : Nat) : Pavilion :=
  ({ v with rep := v.rep.setPh g { v.rep.ph g with en := 0, shed := none, adds := [] } } : Pavilion).putEn g

theorem Pavilion.rampedOut_shows : ((v.rampedOut g).rep.ph g).en = 0 ∧ ((v.rampedOut g).rep.ph g).shed = none ∧
    (v.rampedOut g).loc.outWin.rdN (128 * g + 34) 1 = 0 := by
  have hph : (v.rampedOut g).rep.ph g = { v.rep.ph g with en := 0, shed := none, adds := [] } := v.rep.ph_setPh_same g _
  have hout : (v.rampedOut g).loc.outWin = v.loc.outWin.wrN (128 * g + 34) 1 ((v.rampedOut g).rep.ph g).en := rfl
  rw [hout, Mem.rdN_wrN, hph]
  exact ⟨rfl, rfl, rfl⟩

/-- A pavilion that has sent a group's new ROUTE. -/
def Pavilion.routed (v : Pavilion) (g o : Nat) : Pavilion :=
  let route := v.rep.routeByte g o
  let r := v.rep.ofsFall (v.rep.rd .CTL_GFEED_OUTLET g)
  let r := r.setLink g { r.link g with routeSent := route, routeHeld := false, zcRun := 0 }
  { loc := { v.loc with outWin := v.loc.outWin.wrN (128 * g + 35) 1 route }
    rep := (r.wr .CTL_GFEED_OUTLET (if route = 0 then 31 else o) g).setPh g
      { r.ph g with rampOut := none, target := none, joining := route ≠ 0 } }

theorem Pavilion.routeChange_of_ready {o : Nat} (h : v.rep.routeReady g = some o) : v.routeChange g = v.routed g o := by
  unfold Pavilion.routeChange
  simp only [h]
  rfl

theorem Pavilion.routed_shows (o : Nat) : ((v.routed g o).rep.ph g).rampOut = none ∧
    ((v.routed g o).rep.link g).routeSent = v.rep.routeByte g o ∧
    (v.routed g o).loc.outWin.rdN (128 * g + 35) 1 = v.rep.routeByte g o ∧
    (v.routed g o).rep.rd .CTL_GFEED_OUTLET g = (if v.rep.routeByte g o = 0 then 31 else o % 32) := by
  refine ⟨congrArg Phases.rampOut (Replica.ph_setPh_same _ g _), congrArg StageLink.routeSent (Replica.link_setLink_same _ g _), ?_, ?_⟩
  · exact (Mem.rdN_wrN 1 _ _ _).trans (Nat.mod_eq_of_lt (v.rep.routeByte_lt g o))
  · exact (Replica.rd_wr_same _ _ _ _).trans (apply_ite (· % 32) _ _ _)

end

/-! ### Frozen rings (R252, R253) -/

theorem bitOf_putBit_false_of_bitOf {v i j w : Nat} (h : bitOf v j = false) : bitOf (putBit v i false % 2 ^ w) j = false := by
  unfold bitOf at h
  simp [bitOf, putBit, Nat.testBit_mod_two_pow, Nat.testBit_and, h]

section
variable (v : Pavilion) (p : Pav) (red : Bool) (g : Nat)

/-- The ring of a group is not frozen. -/
def Pavilion.RingFree (v : Pavilion) (g : Nat) : Prop :=
  vget v.rep.frozen g none = none ∧ bitOf (v.rep.rd .CTL_HFRZ_FRZ) g = false

variable {v g} in
theorem Pavilion.releaseRing_of_frozen {z : Frozen} (h : vget v.rep.frozen g none = some z) : (v.releaseRing p red g).rep =
    { v.rep.wr .CTL_HFRZ_FRZ (putBit (v.rep.rd .CTL_HFRZ_FRZ) g false) with frozen := vput v.rep.frozen g none } := by
  unfold Pavilion.releaseRing
  rw [h]

variable {v g} in
theorem Pavilion.releaseRing_of_free (h : vget v.rep.frozen g none = none) : v.releaseRing p red g = v := by
  unfold Pavilion.releaseRing
  rw [h]

variable {v g} in
theorem Pavilion.ringFree_releaseRing (hg : g < 32) (h : vget v.rep.frozen g none ≠ none) : (v.releaseRing p red g).RingFree g := by
  obtain ⟨z, hz⟩ := Option.ne_none_iff_exists'.1 h
  rw [Pavilion.RingFree, Pavilion.releaseRing_of_frozen p red hz]
  exact ⟨vget_vput_same _ _ _ _ hg, (congrArg (bitOf · g) (Replica.rd_wr_same _ _ _ _)).trans (bitOf_putBit_false _ _ _)⟩

/-- A release leaves the rings of the other groups. -/
theorem Pavilion.frozen_releaseRing_ne {k : Nat} (hk : k ≠ g) :
    vget (v.releaseRing p red k).rep.frozen g none = vget v.rep.frozen g none := by
  cases hz : vget v.rep.frozen k none with
  | none => rw [Pavilion.releaseRing_of_free p red hz]
  | some z =>
    rw [Pavilion.releaseRing_of_frozen p red hz]
    exact vget_vput_ne _ _ _ _ _ hk.symm

variable {v g} in
theorem Pavilion.RingFree.releaseRing_ne {k : Nat} (hk : k ≠ g) (h : v.RingFree g) : (v.releaseRing p red k).RingFree g := by
  refine ⟨(v.frozen_releaseRing_ne p red g hk).trans h.1, ?_⟩
  cases hz : vget v.rep.frozen k none with
  | none => rw [Pavilion.releaseRing_of_free p red hz, h.2]
  | some z =>
    rw [Pavilion.releaseRing_of_frozen p red hz]
    exact (congrArg (bitOf · g) (Replica.rd_wr_same _ _ _ _)).trans (bitOf_putBit_false_of_bitOf h.2)

variable {v g} in
/-- A write of ones releases the frozen rings it names. -/
theorem Pavilion.ringFree_releaseRings {mask : Nat} (hg : g < 32) (hmask : bitOf mask g = true) (h : vget v.rep.frozen g none ≠ none) :
    (v.releaseRings p red mask).RingFree g := by
  refine foldl_once (P := fun v => vget v.rep.frozen g none ≠ none) (Q := (·.RingFree g)) (fun v h => ?_) (fun v k hk h => ?_)
    (fun v k hk h => ?_) _ v List.nodup_range (List.mem_range.2 hg) h
  · rw [if_pos hmask]
    exact Pavilion.ringFree_releaseRing p red hg h
  · split
    · rwa [v.frozen_releaseRing_ne p red g hk]
    · exact h
  · split
    · exact h.releaseRing_ne p red hk
    · exact h

end

/-! ### The bank at the publication deadline (R261) -/

section
variable (r : Replica) (b : List Byte) (publish tick : Nat)

/-- The checks know the codes 0 to 8. -/
theorem Replica.bankCheck_le : r.bankCheck b publish tick ≤ 8 := by
  unfold Replica.bankCheck
  dsimp only
  repeat' split
  all_goals decide

theorem Replica.bankCheck_of_unpublished (h : publish ≠ fieldAt b 4 4) : r.bankCheck b publish tick = 1 := if_pos h

/-- What the examination of a bank leaves: its code, the bank accepted if the code is 0, and the headroom table read. -/
def Replica.examined (head : Option (List (Nat × Int))) : Replica :=
  (r.wr .CTL_PSTAT_RESULT (r.bankCheck b publish tick)).withAlloc fun a =>
    { a with accepted := if r.bankCheck b publish tick = 0 then some (parterreOf b) else none, headNext := head }

theorem Replica.examined_shows (head : Option (List (Nat × Int))) :
    (r.examined b publish tick head).rd .CTL_PSTAT_RESULT = r.bankCheck b publish tick ∧
    (r.examined b publish tick head).alloc.accepted = (if r.bankCheck b publish tick = 0 then some (parterreOf b) else none) ∧
    (r.examined b publish tick head).alloc.part = r.alloc.part ∧
    (publish ≠ fieldAt b 4 4 → (r.examined b publish tick head).rd .CTL_PSTAT_RESULT = 1) := by
  have hresult : (r.examined b publish tick head).rd .CTL_PSTAT_RESULT = r.bankCheck b publish tick :=
    r.rd_wr_of_lt .CTL_PSTAT_RESULT _ 0 ((r.bankCheck_le b publish tick).trans_lt (by decide))
  exact ⟨hresult, rfl, rfl, fun h => hresult.trans (r.bankCheck_of_unpublished b publish tick h)⟩

end

/-! ### Headroom without a table (R282) -/

section
variable (r : Replica)

variable {r} in
/-- The no-flow steady headroom rests on the parameter set alone. -/
theorem Replica.staleHead_of_params {q : Replica} (h : q.params = r.params) (o : Nat) : q.staleHead o = r.staleHead o := by
  simp only [Replica.staleHead, Replica.rAt, Replica.cab, Replica.prm, h]

/-- A replica whose headroom is the no-flow steady headroom of every outlet. -/
def Replica.headAged : Replica := (r.raise .CTL_AEVENT_HEAD_STALE).eachOut fun o r => r.wr .CTL_OHEAD_HEAD (r.staleHead o) o

theorem Replica.headAged_shows (o : Outlet) : r.headAged.rd .CTL_AEVENT_HEAD_STALE = 1 ∧
    r.headAged.rd .CTL_OHEAD_HEAD o = r.staleHead o % 2 ^ 16 := by
  refine ⟨?_, ?_⟩
  · refine Eq.trans ?_ (r.rd_raise_same .CTL_AEVENT_HEAD_STALE 0 rfl (by decide))
    exact Replica.eachOut_keeps (·.rd .CTL_AEVENT_HEAD_STALE) (fun k q => q.rd_wr_of_ne _ _ _ (by decide)) _
  · refine Replica.eachOut_once (P := fun q => q.params = r.params) (Q := fun q => q.rd .CTL_OHEAD_HEAD o = r.staleHead o % 2 ^ 16)
      o.isLt (fun q h => ?_) (fun k q _ h => (q.wr_params _ _ _).trans h) (fun k q hk h => ?_) _ (r.raise_params _ _)
    · rw [Replica.rd_wr_same, Replica.staleHead_of_params h]
      rfl
    · exact (Regs.rd_wr_ne _ _ _ _ _ _ (.inr hk.symm)).trans h

end

/-! ### Outlet states (R301, R303) -/

/-- The fields that a write of MODE may change. -/
def modeFields : List Field := [.CTL_OMODE_MODE, .CTL_OMODE_SOFT, .CTL_OMODE_RAMP, .CTL_OMODE_STOPPED] ++ openingFields
/-- The fields that a change of an outlet's state may change. -/
def ostateFields : List Field := [.DLK_OSTATE_STATE, .DLK_OSTATE_CAUSE] ++ modeFields

section
variable (r : Replica) (v : Env) (o : Nat)

theorem Replica.writesOnly_modeWritten (m : Nat) : Replica.WritesOnly modeFields r (r.modeWritten o m) := by
  have hset : ∀ (q : Replica) (x : OutletLoop), Replica.WritesOnly modeFields q (q.setOut o x) := fun _ _ => ⟨fun _ _ _ _ => rfl, rfl⟩
  have hmode := (((Replica.WritesOnly.refl r).wr (f := .CTL_OMODE_MODE) (by decide) m o).wr (f := .CTL_OMODE_SOFT) (by decide)
    (decide (m = modeCableCheck) || decide (m = modePrecharge)).toNat o).trans (hset _ { r.out o with ocRun := 0, shortCnt := 0 })
  unfold Replica.modeWritten
  dsimp only
  split
  · exact (hmode.wr (by decide) 0 o).wr (by decide) 0 o
  · exact hmode

theorem Replica.writesOnly_writeMode_mode (m : Nat) : Replica.WritesOnly modeFields r (r.writeMode o m) :=
  (r.writesOnly_modeWritten o m).trans ((r.writesOnly_writeMode o m).1.mono (List.subset_append_right _ _))

/-- The state and the cause written, before the outlet's MODE and the event to the hosts. -/
def Replica.ostateWritten (st cause : Nat) : Replica :=
  let r := (r.wr .DLK_OSTATE_STATE st o).wr .DLK_OSTATE_CAUSE cause o
  r.setVs o { r.vs o with entered := v.ticks }

theorem Replica.writesOnly_ostateWritten (st cause : Nat) :
    Replica.WritesOnly modeFields (r.ostateWritten v o st cause) (r.setOstate v o st (some cause)) :=
  (Replica.writesOnly_writeMode_mode _ o (modeOfState st)).trans ((Replica.reported_eventClass _ 1 evOutletState _).writesOnly (by decide))

theorem Replica.writesOnly_setOstate (st cause : Nat) : Replica.WritesOnly ostateFields r (r.setOstate v o st (some cause)) := by
  have hwritten : Replica.WritesOnly ostateFields r (r.ostateWritten v o st cause) :=
    ⟨(((Replica.WritesOnly.refl r).wr (f := .DLK_OSTATE_STATE) (by decide) st o).wr (f := .DLK_OSTATE_CAUSE) (by decide) cause o).rd, rfl⟩
  exact hwritten.trans ((r.writesOnly_ostateWritten v o st cause).mono (List.subset_append_right _ _))

variable {r o} in
/-- A stop takes an outlet that holds a vehicle's session to STOPPING with its cause. -/
theorem Replica.stopOutlet_shows {cause : Nat} (hcause : cause < 2 ^ 8) (hlo : osNegotiating ≤ r.ostate o) (hhi : r.ostate o ≤ osCharging) :
    (r.stopOutlet v o cause).ostate o = osStopping ∧ (r.stopOutlet v o cause).rd .DLK_OSTATE_CAUSE o = cause := by
  have hstops : r.stopOutlet v o cause = r.setOstate v o osStopping (some cause) := if_pos (by simp [hlo, hhi])
  have hkept := r.writesOnly_ostateWritten v o osStopping cause
  rw [hstops, Replica.ostate, hkept.rd .DLK_OSTATE_STATE o (by decide) rfl, hkept.rd .DLK_OSTATE_CAUSE o (by decide) rfl]
  exact ⟨(Replica.rd_wr_of_ne _ _ _ _ (by decide)).trans (r.rd_wr_of_lt .DLK_OSTATE_STATE osStopping o (by decide)),
    Replica.rd_wr_of_lt _ .DLK_OSTATE_CAUSE cause o hcause⟩

theorem Replica.writesOnly_stopOutlet (cause : Nat) : Replica.WritesOnly ostateFields r (r.stopOutlet v o cause) := by
  unfold Replica.stopOutlet
  dsimp only
  split
  · exact r.writesOnly_setOstate v o osStopping cause
  · exact .refl r

end

/-! ### A breach of the cap (R271) -/

section
variable (r : Replica) (o : Outlet)

/-- A breach noted: its event, its journal entry, and the run counted anew. -/
def Replica.breachNoted (now o : Nat) : Replica :=
  ((r.raise .CTL_AEVENT_INV_BREACH).journal now locOutletGuard o detected reLoopOpened 0x26).withAlloc fun a =>
    { a with breachRun := vput a.breachRun o 0 }

theorem Replica.rd_breachNoted (now o i : Nat) {f : Field} (hlost : f ≠ .HST_EVENT_EVENTS_LOST) (hc : f.isCount = false) :
    (r.breachNoted now o).rd f i = (r.raise .CTL_AEVENT_INV_BREACH).rd f i := (Replica.reported_journal _ _ _ _ _ _ _ _).rd hlost hc i

theorem Replica.breachNoted_shows (now : Nat) : (r.breachNoted now o).ostate o = r.ostate o ∧
    (r.breachNoted now o).rd .CTL_AEVENT_INV_BREACH = 1 ∧ vget (r.breachNoted now o).alloc.breachRun o 0 = 0 :=
  ⟨(r.rd_breachNoted now o o (by decide) rfl).trans (r.rd_raise_of_ne 0 o (by decide) rfl),
    (r.rd_breachNoted now o 0 (by decide) rfl).trans (r.rd_raise_same _ 0 rfl (by decide)), vget_vput_same _ _ _ _ o.isLt⟩

theorem Replica.breach_stops (v : Env) (now : Nat) (hlo : osNegotiating ≤ r.ostate o) (hhi : r.ostate o ≤ osCharging) :
    let r' := (r.breachNoted now o).stopOutlet v o ocInvBreach
    r'.ostate o = osStopping ∧ r'.rd .DLK_OSTATE_CAUSE o = ocInvBreach ∧ r'.rd .CTL_AEVENT_INV_BREACH = 1 ∧
      vget r'.alloc.breachRun o 0 = 0 := by
  obtain ⟨hstate, hevent, hrun⟩ := r.breachNoted_shows o now
  have hkept := (r.breachNoted now o).writesOnly_stopOutlet v o ocInvBreach
  obtain ⟨hstopping, hcause⟩ := Replica.stopOutlet_shows v (cause := ocInvBreach) (by decide) (hstate.symm ▸ hlo) (hstate.symm ▸ hhi)
  exact ⟨hstopping, hcause, (hkept.rd _ 0 (by decide) rfl).trans hevent, hkept.alloc.symm ▸ hrun⟩

end

/-! ### Host limits (R265) -/

/-- A report leaves the allocation records. -/
theorem Replica.Reported.alloc {r r' : Replica} (h : r.Reported r') : r'.alloc = r.alloc := by
  obtain ⟨_, _, _, _, rfl, _⟩ := h
  rfl

/-! ### The commands -/

@[simp] theorem Replica.ph_flushed (r : Replica) (g : Nat) : r.flushed.ph g = r.ph g := rfl
@[simp] theorem Replica.ostate_flushed (r : Replica) (o : Nat) : r.flushed.ostate o = r.ostate o := rfl

/-- What an effect on whole pavilions leaves of one in step, its output window shown (R33). -/
theorem State.onStep_outWin {s : State} {p : Pav} (hstep : (s.site.pav p).inStep = true) {f : Site → Pavilion → Pavilion} {w : Pavilion}
    (h : f s.site (s.stepView p) = w) : ∃ t : State, (s.run fun t => t.onStep (f t)) = .next t ∧
      (t.site.pav p).rep = w.rep.flushed ∧ (t.site.pav p).loc.outWin = w.loc.outWin := by
  obtain ⟨red, hpav⟩ := s.site.pav_onStep (f s.site) p
  have hleft : (s.site.onStep (f s.site)).pav p = w.flush p red := by
    rw [hpav, if_pos hstep, ← h]
    rfl
  refine ⟨_, rfl, ?_⟩
  simp only [hleft, Pavilion.flush_outWin]
  exact ⟨rfl, trivial⟩

section
variable {s : State} {p : Pav} {g : Grp} {o : Outlet} (hstep : (s.site.pav p).inStep = true)
include hstep

theorem shedStart_of_due (hheld : (s.view p).shedHold g ≤ ((s.view p).ph g).hold) (hpos : 0 < ((s.view p).ph g).hold)
    (hshed : ((s.view p).ph g).shed = none) (hadds : ((s.view p).ph g).adds = []) (hramp : ((s.view p).ph g).rampOut = none) :
    ∃ t : State, execShedStart g s = .next t ∧ (t.site.pav p).rep = ((s.view p).shedBegun g).flushed := by
  have hdue : ((s.view p).shedHold g ≤ ((s.view p).ph g).hold && 0 < ((s.view p).ph g).hold && ((s.view p).ph g).shed.isNone &&
      ((s.view p).ph g).adds = [] && ((s.view p).ph g).rampOut.isNone) = true := by simp [hheld, hpos, hshed, hadds, hramp]
  exact State.onLog_of_eq hstep (if_pos hdue)

section
variable (hmode : (s.view p).ilvMode g = 1) (hint : 0 < (s.view p).rotInt g) (hticks : (s.view p).rotInt g ≤ ((s.view p).ph g).ticks)
include hmode hint hticks

theorem rotationDue_of_feeding (hramp : ((s.view p).ph g).rampOut = none) : ∃ t : State, execRotationDue g s = .next t ∧
    (t.site.pav p).rep = ((s.view p).rotated g).flushed := by
  have hfeeds : ¬ ((s.view p).ph g).rampOut.isSome = true := by simp [hramp]
  exact State.onLog_of_eq hstep ((if_pos (Replica.rotation_due hmode hint hticks)).trans (if_neg hfeeds))

theorem rotationDue_of_rampOut (hramp : ((s.view p).ph g).rampOut ≠ none) : ∃ t : State, execRotationDue g s = .next t ∧
    (t.site.pav p).rep = ((s.view p).setPh g { (s.view p).ph g with ticks := 0, rotDue := true }).flushed :=
  State.onLog_of_eq hstep ((if_pos (Replica.rotation_due hmode hint hticks)).trans (if_pos (Option.isSome_iff_ne_none.2 hramp)))

end

theorem routeRampOutEnd_of_done {k q : Nat} (hramp : ((s.view p).ph g).rampOut = some (k, q)) (hdone : (s.view p).shedRamp g ≤ k) :
    ∃ t : State, execRouteRampOutEnd g s = .next t ∧ (t.site.pav p).rep = ((s.stepView p).rampedOut g).rep.flushed ∧
      (t.site.pav p).loc.outWin = ((s.stepView p).rampedOut g).loc.outWin := by
  refine State.onStep_outWin hstep ?_
  dsimp only
  split
  · next hsome =>
    cases hsome.symm.trans hramp
    exact if_pos hdone
  · next hnone => cases hnone.symm.trans hramp

theorem routeChangeSend_of_ready {k q : Nat} (hramp : ((s.view p).ph g).rampOut = some (k, q))
    (hcurrent : (s.view p).rd .STG_ZC_ZC_CYC ≤ ((s.view p).link g).zcRun) (hen : ((s.view p).ph g).en = 0) :
    ∃ t : State, execRouteChangeSend g s = .next t ∧ (t.site.pav p).rep = ((s.stepView p).routed g q).rep.flushed ∧
      (t.site.pav p).loc.outWin = ((s.stepView p).routed g q).loc.outWin := by
  have hready : (s.stepView p).rep.routeReady g = some q := by
    have hview : (s.stepView p).rep = s.view p := rfl
    unfold Replica.routeReady
    rw [hview, hramp]
    exact if_pos (by simp [hcurrent, hen])
  exact State.onStep_outWin hstep (Pavilion.routeChange_of_ready _ g hready)

/-- The release of the rings reaches each pavilion in step once. -/
theorem ctlHfrzRelease_releases (mask : Word) : ∃ (t : State) (red : Bool), execCtlHfrzRelease mask s = .next t ∧
    t.site.pav p = (s.site.pav p).releaseRings p red mask.toNat := by
  cases p <;> exact ⟨_, _, rfl, if_pos hstep⟩

theorem publicationDeadline_examines : ∃ (t : State) (head : Option (List (Nat × Int))), execPublicationDeadline s = .next t ∧
    let base := (s.view p).rd .CTL_PBASE_BASE + 1024 * (1 - (s.view p).alloc.bank)
    let b := (s.site.pav p).loc.sram.rdBytes base 960
    (t.site.pav p).rep = ((s.view p).examined b ((s.site.pav p).loc.sram.rdN (base + 960) 4) (nextTickOf s.site.now) head).flushed := by
  obtain ⟨t, hexec, hrep, -⟩ := State.onStep_of_eq hstep (f := fun t v => v.deadline t.now) rfl
  exact ⟨t, _, hexec, hrep⟩

theorem parterreFallback_of_late (hlate : (s.view p).rd .CTL_ACTRL_LATE_FB ≤ (s.view p).alloc.lateRun)
    (hnot : (s.view p).alloc.fallback = false) : ∃ t : State, execParterreFallback s = .next t ∧ (t.site.pav p).rep =
      (((s.view p).raise .CTL_AEVENT_PARTERRE_FALLBACK).withAlloc fun a =>
        { a with fallback := true, grants := Vector.replicate 24 0 }).flushed :=
  State.onLog_of_eq hstep (if_pos (by
    rw [Bool.and_eq_true, decide_eq_true_eq, Bool.not_eq_true']
    exact ⟨hlate, hnot⟩))

theorem invBreach_of_run (hcyc : (s.view p).rd .CTL_INVTOL_CYC ≤ vget (s.view p).alloc.breachRun o 0)
    (hpos : 0 < vget (s.view p).alloc.breachRun o 0) : ∃ t : State, execInvBreach o s = .next t ∧
      (t.site.pav p).rep = (((s.view p).breachNoted s.site.now o).stopOutlet s.site.env o ocInvBreach).flushed :=
  State.onLog_of_eq hstep (if_pos (by
    rw [Bool.and_eq_true, decide_eq_true_eq, decide_eq_true_eq]
    exact ⟨hcyc, hpos⟩))

theorem headStale_of_missed (hmiss : 3 ≤ (s.view p).alloc.headMiss) : ∃ t : State, execHeadStale s = .next t ∧
    (t.site.pav p).rep = (s.view p).headAged.flushed := State.onLog_of_eq hstep (if_pos hmiss)

theorem hostLimitExpiry_of_listed {n : Nat} {x : HostLimit} (hlimit : (s.view p).alloc.limits[n]? = some x) :
    ∃ t : State, execHostLimitExpiry n s = .next t ∧ (t.site.pav p).rep.alloc.limits = (s.view p).alloc.limits.eraseIdx n := by
  refine ⟨_, rfl, (congrArg (·.alloc.limits) (Site.rep_onLog s.site hstep _)).trans ?_⟩
  dsimp only
  split
  · next hnone => cases hnone.symm.trans hlimit
  · exact congrArg Allocation.limits (Replica.reported_eventClass _ _ _ _).alloc

theorem frontEndDataStale_of_aged (c : Fin 15) (hage : (s.view p).rd .CTL_FRESH_FE < (vget (s.view p).alloc.cabinets c {}).age) :
    ∃ t : State, execFrontEndDataStale c s = .next t ∧ (t.site.pav p).rep = ((s.view p).withAlloc fun a =>
      { a with cabinets := vput a.cabinets c { vget a.cabinets c {} with stale := true } }).flushed :=
  State.onLog_of_eq hstep (congrArg (fun a => { s.view p with alloc := a }) (if_pos hage))

theorem coolantDataStale_of_aged (hage : (s.view p).rd .CTL_FRESH_COOL < (vget (s.view p).alloc.coolant o {}).age) :
    ∃ t : State, execCoolantDataStale o s = .next t ∧ (t.site.pav p).rep = ((s.view p).withAlloc fun a =>
      { a with coolant := vput a.coolant o { vget a.coolant o {} with stale := true } }).flushed :=
  State.onLog_of_eq hstep (congrArg (fun a => { s.view p with alloc := a }) (if_pos hage))

end

/-- Settles O35: one lemma per command above, then what its effect leaves shown (`shedBegun_shows`, `rotated_shows`, `rampedOut_shows`,
`routed_shows`, `ringFree_releaseRings`, `examined_shows`, `breach_stops`, `headAged_shows`). -/
theorem phasesAndAllocation : Obligations.PhasesAndAllocation := by
  intro p g o s hstep l r r' x
  refine ⟨fun hheld hpos hshed hadds hramp hen => ?_, fun hmode hint hticks => ?_, fun k q hramp => ⟨fun hdone => ?_, fun hcurrent hen => ?_⟩,
    fun mask hmask hfrozen => ?_, ?_, fun hlate hnot => ?_, fun hcyc hpos hlo hhi => ?_, fun hmiss => ?_, fun n x hlimit => ?_,
    fun c hage => ?_, fun hage => ?_⟩
  · obtain ⟨t, hexec, (hrep : r' t = _)⟩ := shedStart_of_due hstep hheld hpos hshed hadds hramp
    obtain ⟨k, hshown⟩ := (s.view p).shedBegun_shows g hen
    refine ⟨t, k, hexec, ?_⟩
    simp only [hrep, Replica.ph_flushed]
    exact hshown
  · by_cases hramp : x.rampOut = none
    · obtain ⟨t, hexec, (hrep : r' t = _)⟩ := rotationDue_of_feeding hstep hmode hint hticks hramp
      obtain ⟨hticked, hrot⟩ := (s.view p).rotated_shows g
      refine ⟨t, hexec, ?_, ?_⟩
      · rw [hrep]
        exact hticked
      · rw [if_pos hramp, hrep]
        exact hrot
    · obtain ⟨t, hexec, (hrep : r' t = _)⟩ := rotationDue_of_rampOut hstep hmode hint hticks hramp
      refine ⟨t, hexec, ?_⟩
      rw [if_neg hramp, hrep, Replica.ph_flushed, Replica.ph_setPh_same]
      exact ⟨rfl, rfl, rfl⟩
  · obtain ⟨t, hexec, (hrep : r' t = _), hout⟩ := routeRampOutEnd_of_done hstep hramp hdone
    refine ⟨t, hexec, ?_⟩
    simp only [hrep, hout, Replica.ph_flushed]
    exact (s.stepView p).rampedOut_shows g
  · obtain ⟨t, hexec, (hrep : r' t = _), hout⟩ := routeChangeSend_of_ready hstep hramp hcurrent hen
    refine ⟨t, hexec, ?_⟩
    simp only [hrep, hout, Replica.ph_flushed, Replica.link_flushed, Replica.rd_flushed]
    exact (s.stepView p).routed_shows g q
  · obtain ⟨t, red, hexec, hpav⟩ := ctlHfrzRelease_releases hstep mask
    have hfree := Pavilion.ringFree_releaseRings p red g.isLt hmask hfrozen
    rw [← hpav] at hfree
    exact ⟨t, hexec, hfree⟩
  · obtain ⟨t, head, hexec, (hrep : r' t = _)⟩ := publicationDeadline_examines hstep
    refine ⟨t, hexec, ?_⟩
    simp only [hrep, Replica.rd_flushed, Replica.alloc_flushed]
    exact (s.view p).examined_shows _ _ _ head
  · obtain ⟨t, hexec, (hrep : r' t = _)⟩ := parterreFallback_of_late hstep hlate hnot
    refine ⟨t, hexec, ?_, ?_, ?_⟩ <;> rw [hrep]
    · rfl
    · simp [Replica.withAlloc, vget]
    · exact (s.view p).rd_raise_same .CTL_AEVENT_PARTERRE_FALLBACK 0 rfl (by decide)
  · obtain ⟨t, hexec, (hrep : r' t = _)⟩ := invBreach_of_run (o := o) hstep hcyc hpos
    refine ⟨t, hexec, ?_⟩
    simp only [hrep, Replica.ostate_flushed, Replica.rd_flushed, Replica.alloc_flushed]
    exact (s.view p).breach_stops o s.site.env s.site.now hlo hhi
  · obtain ⟨t, hexec, (hrep : r' t = _)⟩ := headStale_of_missed hstep hmiss
    have hsame : (s.view p).staleHead o = r.staleHead o := Replica.staleHead_of_params rfl o
    refine ⟨t, hexec, ?_⟩
    rw [hrep, Replica.rd_flushed, Replica.rd_flushed, ← hsame]
    exact (s.view p).headAged_shows o
  · exact hostLimitExpiry_of_listed hstep hlimit
  · obtain ⟨t, hexec, (hrep : r' t = _)⟩ := frontEndDataStale_of_aged hstep c hage
    refine ⟨t, hexec, ?_, ?_⟩ <;> rw [hrep]
    · exact congrArg Cabinet.stale (vget_vput_same _ _ _ _ c.isLt)
    · rfl
  · obtain ⟨t, hexec, (hrep : r' t = _)⟩ := coolantDataStale_of_aged hstep hage
    refine ⟨t, hexec, ?_, ?_⟩ <;> rw [hrep]
    · exact congrArg Coolant.stale (vget_vput_same _ _ _ _ o.isLt)
    · rfl

end Sys2Proof.Machine
end

section
/-! PROOFS. The vehicle's side of an outlet: what shows there, what leaves it as it is, and what entering a state makes of it (R301, R302). -/
namespace Sys2Proof.Machine

/-! ### What shows of a vehicle's session -/

/-- A vehicle session but for the times of its states and the page on display. -/
def VehSession.timeless (x : VehSession) : VehSession := { x with entered := 0, pluggedAt := 0, page := 0 }

/-- What an outlet shows of a vehicle's session: its state, the cause and the protocol, and the session itself. -/
structure VehSide where
  state : Nat
  cause : Nat
  proto : Nat
  veh : VehSession

def Replica.vehSide (r : Replica) (o : Nat) : VehSide :=
  ⟨r.ostate o, r.rd .DLK_OSTATE_CAUSE o, r.rd .DLK_OSTATE_PROTO o, (r.vs o).timeless⟩

/-- The fields in which a vehicle's side shows. -/
def vehFields : List Field := [.DLK_OSTATE_STATE, .DLK_OSTATE_CAUSE, .DLK_OSTATE_PROTO]

theorem isCount_of_mem_vehFields : ∀ f ∈ vehFields, f.isCount = false := by decide

theorem Replica.vs_setVs_same (r : Replica) {o : Nat} (ho : o < 24) (x : VehSession) : (r.setVs o x).vs o = x := vget_vput_same _ _ _ _ ho

theorem Replica.vehSide_of_rd {r r' : Replica} {o : Nat} (hrd : ∀ f ∈ vehFields, r'.rd f o = r.rd f o) (hvehs : r'.vehs = r.vehs) :
    r'.vehSide o = r.vehSide o := by
  simp only [Replica.vehSide, Replica.ostate, Replica.vs, hrd .DLK_OSTATE_STATE (by decide), hrd .DLK_OSTATE_CAUSE (by decide),
    hrd .DLK_OSTATE_PROTO (by decide), hvehs]

section
variable (r : Replica) (o : Nat)

/-! ### What leaves the vehicle's side as it is -/

theorem Replica.vehSide_setVs {o : Nat} (ho : o < 24) (x : VehSession) : (r.setVs o x).vehSide o = { r.vehSide o with veh := x.timeless } := by
  simp only [Replica.vehSide, r.vs_setVs_same ho]
  rfl

/-- The times and the page of a vehicle session do not show. -/
theorem Replica.vehSide_setVs_timeless {x : VehSession} (hx : x.timeless = (r.vs o).timeless) : (r.setVs o x).vehSide o = r.vehSide o := by
  by_cases ho : o < 24
  · rw [r.vehSide_setVs ho, hx]
    rfl
  · have hfar : ∀ q : Replica, q.vs o = {} := fun q => dif_neg ho
    simp only [Replica.vehSide, hfar]
    rfl

@[simp] theorem Replica.vehSide_wr {f : Field} (x i : Nat) (hf : f ∉ vehFields) : (r.wr f x i).vehSide o = r.vehSide o :=
  Replica.vehSide_of_rd (fun _ hg => r.rd_wr_of_ne _ _ _ (ne_of_mem_of_not_mem hg hf)) rfl

@[simp] theorem Replica.vehSide_raise {f : Field} (i : Nat) (hf : f ∉ vehFields) : (r.raise f i).vehSide o = r.vehSide o :=
  Replica.vehSide_of_rd (fun _ hg => r.rd_raise_of_ne _ _ (ne_of_mem_of_not_mem hg hf) (isCount_of_mem_vehFields _ hg)) rfl

@[simp] theorem Replica.vehSide_setDl (d : Nat) (x : DispLink) : (r.setDl d x).vehSide o = r.vehSide o := rfl
@[simp] theorem Replica.vehSide_setOut (k : Nat) (x : OutletLoop) : (r.setOut k x).vehSide o = r.vehSide o := rfl
@[simp] theorem Replica.vehSide_setSo (k : Nat) (x : SafetyOutlet) : (r.setSo k x).vehSide o = r.vehSide o := rfl
@[simp] theorem Replica.vehSide_setMeter (k : Nat) (x : Meter) : (r.setMeter k x).vehSide o = r.vehSide o := rfl
@[simp] theorem Replica.vehSide_withLegal (f : Legal → Legal) : (r.withLegal f).vehSide o = r.vehSide o := rfl
@[simp] theorem Replica.vehSide_adoptSafety (k : Nat) : (r.adoptSafety k).vehSide o = r.vehSide o := rfl
@[simp] theorem Replica.vehSide_report (k func detail cause : Nat) : (r.report k func detail cause).vehSide o = r.vehSide o := rfl

@[simp] theorem Replica.vehSide_setCtx (cls k : Nat) (x : Option KeyContext) : (r.setCtx cls k x).vehSide o = r.vehSide o := by
  have hfield : ctxField cls ∉ vehFields := by
    unfold ctxField
    split <;> decide
  unfold Replica.setCtx
  split
  · rfl
  · exact r.vehSide_wr o _ 0 hfield

variable {r o} in
theorem Replica.Reported.vehSide {r' : Replica} (h : r.Reported r') : r'.vehSide o = r.vehSide o := by
  refine Replica.vehSide_of_rd (fun f hf => h.rd (ne_of_mem_of_not_mem hf (by decide)) (isCount_of_mem_vehFields f hf) o) ?_
  obtain ⟨_, _, _, _, rfl, _⟩ := h
  rfl

@[simp] theorem Replica.vehSide_eventClass (cls code : Nat) (data : List Nat) : (r.eventClass cls code data).vehSide o = r.vehSide o :=
  (r.reported_eventClass cls code data).vehSide

@[simp] theorem Replica.vehSide_journal (now location instNo outcome reaction cause : Nat) (detail : List Byte) :
    (r.journal now location instNo outcome reaction cause detail).vehSide o = r.vehSide o :=
  (r.reported_journal now location instNo outcome reaction cause detail).vehSide

theorem Replica.reported_eventOwner (k code : Nat) (data : List Nat) : r.Reported (r.eventOwner k code data) := by
  unfold Replica.eventOwner
  split
  · unfold Replica.principalEvent
    split
    · exact ⟨r.regs, _, r.jq, r.tx, rfl, fun _ _ _ _ => rfl⟩
    · exact .foldl (fun r n => r.reported_sessionEvent n code data) _ r
  · exact .refl r

@[simp] theorem Replica.vehSide_writeMode (k m : Nat) : (r.writeMode k m).vehSide o = r.vehSide o := by
  refine Replica.vehSide_of_rd (fun f hf => (r.writesOnly_writeMode_mode k m).rd f o ?_ (isCount_of_mem_vehFields f hf)) ?_
  · revert f hf
    decide
  · have hvehs : (r.modeWritten k m).vehs = r.vehs := by
      unfold Replica.modeWritten
      dsimp only
      split <;> rfl
    obtain h | h := r.writeMode_cases k m <;> rw [h]
    · exact hvehs
    · refine (foldl_keeps Replica.vehs (fun r i => ?_) _ _).trans hvehs
      split <;> rfl

@[simp] theorem Replica.vehSide_outSend (k type : Nat) (body : List Nat) : (r.outSend k type body).vehSide o = r.vehSide o := by
  unfold Replica.outSend Replica.dlpSend
  dsimp only
  split <;> rfl

@[simp] theorem Replica.vehSide_display (page : Nat) : (r.display o page).vehSide o = r.vehSide o := by
  unfold Replica.display
  split
  · rfl
  · rw [Replica.vehSide_outSend]
    exact r.vehSide_setVs_timeless o rfl

/-! ### The legal log and the sensor heads (R322, R335 to R348) -/

@[simp] theorem Replica.vehSide_legalEvent (v : Env) (code outlet tx : Nat) (detail : List Byte) :
    (r.legalEvent v code outlet tx detail).vehSide o = r.vehSide o := by
  simp (disch := decide) [Replica.legalEvent, Replica.legalCounters, Replica.legalWrite]

@[simp] theorem Replica.vehSide_countSlots (v : Env) : (r.countSlots v).vehSide o = r.vehSide o := by
  unfold Replica.countSlots
  dsimp only
  split <;> split <;> simp (disch := decide)

@[simp] theorem Replica.vehSide_putSlot (v : Env) (k : Nat) (x : LegalSlot) : (r.putSlot v k x).vehSide o = r.vehSide o :=
  Replica.vehSide_countSlots _ o v

@[simp] theorem Replica.vehSide_adoptMeter (v : Env) (k : Nat) : (r.adoptMeter v k).vehSide o = r.vehSide o := by
  unfold Replica.adoptMeter
  dsimp only
  split
  · rfl
  · split <;> split <;> simp (disch := decide)

@[simp] theorem Replica.vehSide_releaseSlot (v : Env) (k : Nat) : (r.releaseSlot v k).vehSide o = r.vehSide o := by
  unfold Replica.releaseSlot
  split <;> simp (disch := decide)

@[simp] theorem Replica.vehSide_commitTrans (v : Env) (k : Nat) (t : Trans) (reason cause : Nat) :
    (r.commitTrans v k t reason cause).vehSide o = r.vehSide o := by
  unfold Replica.commitTrans
  dsimp only
  split <;> simp (disch := decide) [Replica.legalCounters, Replica.legalWrite]

@[simp] theorem Replica.sesPhase_commitTrans (n : Nat) (v : Env) (k : Nat) (t : Trans) (reason cause : Nat) :
    (r.commitTrans v k t reason cause).sesPhase n = r.sesPhase n := by
  have hlegal : ∀ (q : Replica) (f : Legal → Legal), (q.withLegal f).sesPhase n = q.sesPhase n := fun _ _ => rfl
  unfold Replica.commitTrans
  dsimp only
  split <;> simp [Replica.legalCounters, hlegal]

/-- A closing position commits the transaction or marks it: neither more nor less shows of it than of these two. -/
theorem Replica.closeTrans_keeps {γ : Type} (g : Replica → γ) (hset : ∀ q k m, g (Replica.setMeter q k m) = g q)
    (hcommit : ∀ q v k t reason cause, g (Replica.commitTrans q v k t reason cause) = g q) (v : Env) (k reason cause : Nat) :
    g (r.closeTrans v k reason cause) = g r := by
  unfold Replica.closeTrans
  dsimp only
  split
  · rfl
  · split
    · split
      · exact hcommit _ _ _ _ _ _
      · rfl
    · split
      · exact hset _ _ _
      · exact hcommit _ _ _ _ _ _

@[simp] theorem Replica.vehSide_closeTrans (v : Env) (k reason cause : Nat) : (r.closeTrans v k reason cause).vehSide o = r.vehSide o :=
  r.closeTrans_keeps (·.vehSide o) (by simp) (by simp) v k reason cause

@[simp] theorem Replica.sesPhase_closeTrans (n : Nat) (v : Env) (k reason cause : Nat) :
    (r.closeTrans v k reason cause).sesPhase n = r.sesPhase n :=
  r.closeTrans_keeps (·.sesPhase n) (by simp) (by simp) v k reason cause

@[simp] theorem Replica.vehSide_setHead (k st : Nat) : (r.setHead k st).vehSide o = r.vehSide o := by
  unfold Replica.setHead
  dsimp only
  split <;> simp (disch := decide)

@[simp] theorem Replica.vehSide_startHead (k : Nat) : (r.startHead k).vehSide o = r.vehSide o := by
  simp (disch := decide) [Replica.startHead]

@[simp] theorem Replica.vehSide_renewHead (k st : Nat) : (r.renewHead k st).vehSide o = r.vehSide o := by
  unfold Replica.renewHead
  split <;> simp

@[simp] theorem Replica.vehSide_moveSafety (v : Env) (k : Nat) : (r.moveSafety v k).vehSide o = r.vehSide o := by
  unfold Replica.moveSafety
  split <;> simp (disch := decide)

end

/-! ### Entering a state (R302) -/

section
variable (r : Replica) (v : Env) (o : Nat)

theorem Replica.vehSide_wr_proto (x : Nat) (hx : x < 4) : (r.wr .DLK_OSTATE_PROTO x o).vehSide o = { r.vehSide o with proto := x } := by
  simp only [Replica.vehSide, Replica.ostate, r.rd_wr_of_ne _ _ _ (show Field.DLK_OSTATE_STATE ≠ .DLK_OSTATE_PROTO by decide),
    r.rd_wr_of_ne _ _ _ (show Field.DLK_OSTATE_CAUSE ≠ .DLK_OSTATE_PROTO by decide), r.rd_wr_of_lt .DLK_OSTATE_PROTO x o hx]
  rfl

theorem Replica.vehSide_wr_cause (x : Nat) (hx : x < 256) : (r.wr .DLK_OSTATE_CAUSE x o).vehSide o = { r.vehSide o with cause := x } := by
  simp only [Replica.vehSide, Replica.ostate, r.rd_wr_of_ne _ _ _ (show Field.DLK_OSTATE_STATE ≠ .DLK_OSTATE_CAUSE by decide),
    r.rd_wr_of_ne _ _ _ (show Field.DLK_OSTATE_PROTO ≠ .DLK_OSTATE_CAUSE by decide), r.rd_wr_of_lt .DLK_OSTATE_CAUSE x o hx]
  rfl

theorem Replica.vehSide_wr_state (x : Nat) (hx : x < 16) : (r.wr .DLK_OSTATE_STATE x o).vehSide o = { r.vehSide o with state := x } := by
  simp only [Replica.vehSide, Replica.ostate, r.rd_wr_of_ne _ _ _ (show Field.DLK_OSTATE_CAUSE ≠ .DLK_OSTATE_STATE by decide),
    r.rd_wr_of_ne _ _ _ (show Field.DLK_OSTATE_PROTO ≠ .DLK_OSTATE_STATE by decide), r.rd_wr_of_lt .DLK_OSTATE_STATE x o hx]
  rfl

section
variable {st : Nat} {cause : Option Nat} (hst : st < 16) (hcause : ∀ c ∈ cause, c < 256)
include hst hcause

theorem Replica.vehSide_setOstate : (r.setOstate v o st cause).vehSide o =
    { r.vehSide o with state := st, cause := cause.getD (r.vehSide o).cause } := by
  have hentered : ∀ q : Replica, (q.setVs o { q.vs o with entered := v.ticks }).vehSide o = q.vehSide o :=
    fun q => q.vehSide_setVs_timeless o rfl
  unfold Replica.setOstate
  cases cause with
  | none => simp [hentered, r.vehSide_wr_state o st hst]
  | some c => simp [hentered, Replica.vehSide_wr_cause _ o c (hcause c rfl), r.vehSide_wr_state o st hst]

/-- The replica as the effects of entering a state find it. -/
def Replica.entered (st : Nat) (cause : Option Nat) : Replica :=
  let q := if r.ostate o = osFault && st ≠ osFault then
      (r.wr .SAF_STOP_STOP (putBit (r.rd .SAF_STOP_STOP) o false)).setSo o { r.so o with weldFailed := false }
    else r
  let q := q.setOstate v o st cause
  let q := q.setOut o { q.out o with faultDue := none, stopRun := 0 }
  q.setSo o { q.so o with unlockSent := false }

theorem Replica.vehSide_entered : (r.entered v o st cause).vehSide o =
    { r.vehSide o with state := st, cause := cause.getD (r.vehSide o).cause } := by
  unfold Replica.entered
  dsimp only
  split <;> simp (disch := decide) [Replica.vehSide_setOstate _ v o hst hcause]

end

/-- After a transition shows what the effects of entering the state leave. -/
theorem Replica.vehSide_goto_eq (st : Nat) (cause : Option Nat) : (r.goto v o st cause).vehSide o =
    ((r.entered v o st cause).entryEffects v o (r.ostate o) st (cause.getD 0)).vehSide o := by
  change ((((r.entered v o st cause).entryEffects v o (r.ostate o) st (cause.getD 0)).renewHead o st).moveSafety v o).vehSide o = _
  rw [Replica.vehSide_moveSafety, Replica.vehSide_renewHead]

/-- States that a vehicle's session enters as it stands. -/
def sessionStates : List Nat := [osPlugged, osNegotiating, osWeldCheck, osFault, osCommission]

theorem Replica.vehSide_entryEffects_osPlugged (old cause : Nat) : (r.entryEffects v o old osPlugged cause).vehSide o = r.vehSide o := by
  have hplugged : (r.setVs o { r.vs o with pluggedAt := v.ticks }).vehSide o = r.vehSide o := r.vehSide_setVs_timeless o rfl
  unfold Replica.entryEffects
  rw [if_pos rfl]
  dsimp only
  split <;> simp [hplugged]

theorem Replica.vehSide_entryEffects_osFault (old cause : Nat) : (r.entryEffects v o old osFault cause).vehSide o = r.vehSide o := by
  obtain ⟨q, hentry, hq⟩ : ∃ q : Replica, r.entryEffects v o old osFault cause = (q.releaseSlot v o).adoptSafety o ∧
      q.vehSide o = r.vehSide o := by
    refine ⟨_, rfl, ?_⟩
    dsimp only
    split <;> split <;> simp
  rw [hentry, Replica.vehSide_adoptSafety, Replica.vehSide_releaseSlot, hq]

theorem Replica.vehSide_entryEffects {st : Nat} (hst : st ∈ sessionStates) (old cause : Nat) :
    (r.entryEffects v o old st cause).vehSide o = r.vehSide o := by
  simp only [sessionStates, List.mem_cons, List.not_mem_nil, or_false] at hst
  obtain rfl | rfl | rfl | rfl | rfl := hst
  · exact r.vehSide_entryEffects_osPlugged v o old cause
  · rfl
  · exact Replica.vehSide_closeTrans r o v o 1 _
  · exact r.vehSide_entryEffects_osFault v o old cause
  · rfl

/-- A transition to such a state shows the state, and the cause where one is given. -/
theorem Replica.vehSide_goto {st : Nat} (hst : st ∈ sessionStates) {cause : Option Nat} (hcause : ∀ c ∈ cause, c < 256) :
    (r.goto v o st cause).vehSide o = { r.vehSide o with state := st, cause := cause.getD (r.vehSide o).cause } := by
  have hlt : st < 16 := by
    revert st
    decide
  rw [r.vehSide_goto_eq, Replica.vehSide_entryEffects _ v o hst, r.vehSide_entered v o hlt hcause]

theorem Replica.vehSide_goto_none {st : Nat} (hst : st ∈ sessionStates) :
    (r.goto v o st).vehSide o = { r.vehSide o with state := st } := r.vehSide_goto v o hst fun _ h => nomatch h

/-! ### The end of a session (R268, R344) -/

/-- What the end of a session leaves of it: the reports of the dispenser and the orders of the host. -/
def VehSession.ended (x : VehSession) : VehSession :=
  { conn := x.conn, pilot := x.pilot, pp := x.pp, lock := x.lock, outOfService := x.outOfService, reqNo := x.reqNo, pump := x.pump, fan := x.fan,
    coolTicks := x.coolTicks }

variable {o} (ho : o < 24)
include ho

theorem Replica.vehSide_endSession : (r.endSession v o).vehSide o = { r.vehSide o with proto := 0, veh := (r.vehSide o).veh.ended } := by
  simp (disch := decide) [Replica.endSession, Replica.writeVeh, Replica.vehSide_wr_proto, Replica.vehSide_setVs _ ho]
  rfl

theorem Replica.vehSide_goto_osIdle : (r.goto v o osIdle).vehSide o =
    { r.vehSide o with state := osIdle, proto := 0, veh := (r.vehSide o).veh.ended } := by
  obtain ⟨q, hentry, hq⟩ : ∃ q : Replica, (r.entered v o osIdle none).entryEffects v o (r.ostate o) osIdle 0 = q.endSession v o ∧
      q.vehSide o = (r.entered v o osIdle none).vehSide o := by
    refine ⟨_, rfl, ?_⟩
    split
    · dsimp only
      split <;> split <;> simp
    · rfl
  rw [r.vehSide_goto_eq, Option.getD_none, hentry, Replica.vehSide_endSession _ v ho, hq,
    r.vehSide_entered (cause := none) v o (by decide) fun _ h => nomatch h]
  rfl

theorem Replica.vehSide_goto_osUnavailable : (r.goto v o osUnavailable).vehSide o =
    { r.vehSide o with state := osUnavailable, proto := 0, veh := (r.vehSide o).veh.ended } := by
  rw [r.vehSide_goto_eq]
  have hentry : ∀ (q : Replica) (old : Nat), q.entryEffects v o old osUnavailable 0 = (q.endSession v o).adoptSafety o := fun _ _ => rfl
  rw [Option.getD_none, hentry, Replica.vehSide_adoptSafety, Replica.vehSide_endSession _ v ho,
    r.vehSide_entered (cause := none) v o (by decide) fun _ h => nomatch h]
  rfl

end

/-! ### What an entry about an outlet may complete (R302) -/

section
variable (r : Replica) (v : Env) (o : Nat)

theorem Replica.advance_of_osIdle (hidle : r.ostate o = osIdle) : r.advance v o = r := by
  unfold Replica.advance
  rw [hidle]
  rfl

section
variable (hplugged : r.ostate o = osPlugged)
include hplugged

theorem Replica.advance_of_osPlugged : r.advance v o = if (r.vs o).linkUp && (r.vs o).shook then r.goto v o osNegotiating else r := by
  unfold Replica.advance
  rw [hplugged]
  rfl

theorem Replica.advance_of_link_down (hlink : (r.vs o).linkUp = false) : r.advance v o = r := by
  rw [r.advance_of_osPlugged v o hplugged, hlink]
  rfl

/-- With the link up and the handshake answered, a plugged outlet negotiates. -/
theorem Replica.vehSide_advance_of_shook (hlink : (r.vs o).linkUp = true) (hshook : (r.vs o).shook = true) :
    (r.advance v o).vehSide o = { r.vehSide o with state := osNegotiating } := by
  rw [r.advance_of_osPlugged v o hplugged, hlink, hshook]
  exact r.vehSide_goto_none v o (by decide)

end

theorem Replica.ostate_of_awaits {r : Replica} {o : Nat} (h : r.awaits o = true) : r.ostate o = osPlugged ∨ r.ostate o = osNegotiating := by
  simp only [Replica.awaits, Bool.and_eq_true, Bool.or_eq_true, decide_eq_true_eq] at h
  exact h.1

theorem Replica.advance_of_osNegotiating (hneg : r.ostate o = osNegotiating) : r.advance v o =
    if (r.meterReady o).rd .MET_OSTATE_NRC o = 1 then (r.meterReady o).display o 8
    else if (r.meterReady o).startMet o && (r.vs o).params && !(r.vs o).lockCmd then
      ((r.meterReady o).setVs o { r.vs o with lockCmd := true }).outSend o pduLockSet [1]
    else r.meterReady o := by
  unfold Replica.advance
  rw [hneg]
  rfl

/-- What an outlet that awaits authorisation or goes through to it keeps of its session: all but the lock command. -/
theorem Replica.advance_keeps_session {o : Nat} (ho : o < 24) (hst : r.ostate o = osPlugged ∨ r.ostate o = osNegotiating) {γ : Type}
    (g : VehSession → γ) (hg : ∀ x : VehSession, g { x with lockCmd := true } = g x) :
    g ((r.advance v o).vehSide o).veh = g (r.vehSide o).veh := by
  obtain hplugged | hneg := hst
  · rw [r.advance_of_osPlugged v o hplugged]
    split
    · rw [r.vehSide_goto_none v o (by decide)]
    · rfl
  · have hready : (r.meterReady o).vehSide o = r.vehSide o := by simp (disch := decide) [Replica.meterReady]
    rw [r.advance_of_osNegotiating v o hneg]
    split
    · rw [Replica.vehSide_display, hready]
    · split
      · rw [Replica.vehSide_outSend, Replica.vehSide_setVs _ ho]
        exact hg (r.vs o).timeless
      · rw [hready]

theorem Replica.sesPhase_display (n k page : Nat) : (r.display k page).sesPhase n = r.sesPhase n := by
  unfold Replica.display
  split <;> simp

theorem Replica.sesPhase_advance (n : Nat) (hst : r.ostate o = osPlugged ∨ r.ostate o = osNegotiating) :
    (r.advance v o).sesPhase n = r.sesPhase n := by
  obtain hplugged | hneg := hst
  · rw [r.advance_of_osPlugged v o hplugged]
    split
    · exact r.sesPhase_goto n none fun _ _ _ => rfl
    · rfl
  · rw [r.advance_of_osNegotiating v o hneg]
    split
    · exact Replica.sesPhase_display _ n o 8
    · split
      · simp [Replica.meterReady]
      · rfl

end

/-! ### Cards and the owner (R303, R313, R446) -/

section
variable (r : Replica) {o : Nat} (ho : o < 24)
include ho

theorem Replica.vehSide_askOwner (pnc : Bool) (ident : List Nat) : (r.askOwner o pnc ident).vehSide o =
    { r.vehSide o with veh := { (r.vehSide o).veh with asked := some ((r.vs o).reqNo + 1, pnc, ident), reqNo := (r.vs o).reqNo + 1 } } :=
  (Replica.reported_eventOwner _ _ _ _).vehSide.trans (r.vehSide_setVs ho _)

theorem Replica.vehSide_presentCard (card : List Nat) : (r.presentCard o card).vehSide o =
    if (vget r.owners o none).isSome then
      { r.vehSide o with veh := { (r.vehSide o).veh with asked := some ((r.vs o).reqNo + 1, false, card), reqNo := (r.vs o).reqNo + 1 } }
    else r.vehSide o := by
  unfold Replica.presentCard
  split
  · next hnone => simp [hnone]
  · next hsome =>
    have hsent : ((r.outSend o pduCardResult [2]).vehSide o) = r.vehSide o := r.vehSide_outSend o _ _ _
    have hreq : ((r.outSend o pduCardResult [2]).vs o).reqNo = (r.vs o).reqNo := congrArg (·.veh.reqNo) hsent
    rw [Replica.vehSide_askOwner _ ho, hsent, hreq, hsome]
    rfl

/-- A card in the plug-in changes at most the pending request. -/
theorem Replica.usePreauth_keeps : ((r.usePreauth o).vehSide o).state = (r.vehSide o).state ∧
    ((r.usePreauth o).vehSide o).veh.linkUp = (r.vehSide o).veh.linkUp := by
  unfold Replica.usePreauth
  split
  · exact ⟨rfl, rfl⟩
  · rw [Replica.vehSide_presentCard _ ho]
    split <;> exact ⟨rfl, rfl⟩

end

end Sys2Proof.Machine
end

section
/-! PROOFS. What the PDUs of a dispenser and the timers do to its outlets (R286 to R291, R302 to R313, R369, R372). -/
namespace Sys2Proof.Machine

/-! ### A PDU that passes (R286 to R291) -/

section
variable {r : Replica} {d : DLink} {lane : Lane} {h : DlpHdr} {type minVer : Nat}

theorem Replica.dl_setDl_same (r : Replica) (d : DLink) (x : DispLink) : (r.setDl d x).dl d = x := vget_vput_same _ _ _ _ d.isLt

theorem Replica.dlpIn_of_passes (hpass : r.passes d lane h type minVer) (f : Replica → Replica) :
    r.dlpIn d lane h type minVer true f = f (r.received d lane h) := by
  obtain ⟨hon, hlane, hvalid, htag, hfresh, hver⟩ := hpass
  have hused : (decide (r.rd .DLK_LCFG_EN_LINK d = 0) || decide (lane = .B) && decide (r.lanesOf d = 1)) = false := by
    obtain rfl | htwo := hlane
    · simp [hon]
    · simp [hon, htwo]
  have hnew : ∀ x : DispLink, x.high = (r.dl d).high → x.seen = (r.dl d).seen → ((r.setDl d x).dl d).fresh h.seq = true := by
    intro x hhigh hseen
    rw [Replica.dl_setDl_same, ← hfresh]
    simp only [DispLink.fresh, hhigh, hseen]
  unfold Replica.dlpIn
  rw [hused, if_neg Bool.false_ne_true, hvalid, htag]
  dsimp only
  rw [hnew _ (by cases lane <;> rfl) (by cases lane <;> rfl)]
  exact if_neg (Nat.not_lt.2 hver)

variable {s : State} {p : Pav} (hstep : (s.site.pav p).inStep = true)
  (hpass : s.site.drives lane = true ∧ (s.view p).passes d lane h type minVer)
include hstep hpass

/-- A PDU that passes has its effect on the replica that has noted it. -/
theorem State.dlp_of_passes {lenOk : Bool} (hlen : lenOk = true) {f : Env → Replica → Replica} {w : Replica}
    (hf : f s.site.env ((s.view p).received d lane h) = w) :
    ∃ t : State, s.dlp d lane h type minVer lenOk f = .next t ∧ (t.site.pav p).rep = w.flushed := by
  obtain ⟨hdrives, hpass⟩ := hpass
  refine ⟨_, State.run_of_eq (if_pos hdrives), ?_⟩
  have hrep := s.site.rep_onLog hstep fun r => r.dlpIn d lane h type minVer lenOk (f s.site.env)
  rw [hlen] at hrep ⊢
  exact hrep.trans (congrArg Replica.flushed ((Replica.dlpIn_of_passes hpass _).trans hf))

theorem State.dlpOutlet_of_passes {lenOk : Bool} (hlen : lenOk = true) {j : Fin 2} (hj : h.outlet = j.val) {f : Env → Replica → Nat → Replica}
    {w : Replica} (hf : f s.site.env ((s.view p).received d lane h) (2 * d.val + j.val) = w) :
    ∃ t : State, s.dlpOutlet d lane h type minVer lenOk f = .next t ∧ (t.site.pav p).rep = w.flushed := by
  refine State.dlp_of_passes hstep hpass hlen ?_
  have hnamed : hdrOutlet d h = some (2 * d.val + j.val) := by
    rw [hdrOutlet, hj, if_pos j.isLt]
  rw [hnamed]
  exact hf

end

/-! ### The connector, the lock and the insulation monitor (R302, R369, R372, R374) -/

@[simp] theorem Replica.ostate_setVs (r : Replica) (o k : Nat) (x : VehSession) : (r.setVs k x).ostate o = r.ostate o := rfl

section
variable (r : Replica) (v : Env) {o : Nat}

/-- The report of the connector noted, and a plug lost under voltage reported to SF7. -/
def Replica.connectorNoted (o conn pilot pp : Nat) : Replica :=
  let q := r.setVs o { r.vs o with conn := conn ≠ 0, pilot, pp }
  if (conn = 0 || (q.kindOf o = 1 && (pilot = 1 || pilot = 5 || pilot = 6))) && q.energised o then q.report o 7 0x12 ocPlugOutLive else q

theorem Replica.plug_of_idle {conn : Nat} (pilot pp : Nat) (hconn : conn ≠ 0) (hidle : r.ostate o = osIdle) :
    r.plug v o conn pilot pp = ((r.connectorNoted o conn pilot pp).goto v o osPlugged).usePreauth o := (if_pos hconn).trans (if_pos hidle)

theorem Replica.plug_of_unplugged {conn : Nat} (pilot pp : Nat) (hconn : conn = 0) (hplugged : r.ostate o = osPlugged) :
    r.plug v o conn pilot pp = (r.connectorNoted o conn pilot pp).goto v o osIdle :=
  (if_neg (not_not.2 hconn)).trans (if_pos (by simp [hplugged]))

/-- A fault of the lock in NEGOTIATING is FAULT with LOCK_FAIL. -/
theorem Replica.lockState_of_fault (hneg : r.ostate o = osNegotiating) :
    (r.lockState v o 3).ostate o = osFault ∧ (r.lockState v o 3).rd .DLK_OSTATE_CAUSE o = ocLockFail := by
  have hfaults : r.lockState v o 3 = (r.setVs o { r.vs o with lock := some 3 }).goto v o osFault (some ocLockFail) :=
    if_pos (by simp [hneg])
  have hshown := (r.setVs o { r.vs o with lock := some 3 }).vehSide_goto v o (st := osFault) (cause := some ocLockFail) (by decide) (by decide)
  rw [hfaults]
  exact ⟨congrArg VehSide.state hshown, congrArg VehSide.cause hshown⟩

theorem Replica.lockState_of_idle (l : Nat) (hidle : r.ostate o = osIdle) : r.lockState v o l = r.setVs o { r.vs o with lock := some l } := by
  have hstate : (r.setVs o { r.vs o with lock := some l }).ostate o = osIdle := hidle
  have hquiet : (r.setVs o { r.vs o with lock := some l }).energised o = false := by
    rw [Replica.energised, hstate]
    rfl
  unfold Replica.lockState
  dsimp only
  rw [hstate, hquiet, Replica.advance_of_osIdle _ v o hstate, Bool.and_false]
  simp [osIdle, osNegotiating]

/-- An insulation fault of an energised outlet is reported to SF5. -/
theorem Replica.imdState_of_fault (iso : Nat) (hon : r.energised o = true) :
    r.imdState v o 2 iso = (r.setVs o { r.vs o with imd := some (2, iso), imdFresh := true }).report o 5 0x10 ocIsolation := by
  have hon' : (r.setVs o { r.vs o with imd := some (2, iso), imdFresh := true }).energised o = true := hon
  unfold Replica.imdState
  dsimp only
  rw [hon', Bool.not_true, if_neg Bool.false_ne_true]
  exact if_pos (by simp)

/-! ### The vehicle (R302, R303, R306) -/

theorem Replica.chooseProto_lt (offered : Nat) : r.chooseProto o offered < 4 := by
  have hchoice : ∀ a b c : Bool, (if a then 1 else if b then 2 else if c then 3 else 0 : Nat) < 4 := by decide
  exact hchoice _ _ _

section
variable (hfirst : r.ctxOrphaned 0 (2 * o) = false) (hsecond : r.ctxOrphaned 0 (2 * o + 1) = false)
include hfirst hsecond

theorem Replica.vehicle_stop : r.vehicle v o .stop = r.stopOutlet v o ocVehicleStop := by
  unfold Replica.vehicle
  dsimp only
  rw [hfirst, hsecond]
  rfl

theorem Replica.vehicle_handshake {offered : Nat} (hproto : r.chooseProto o offered ≠ 0) : r.vehicle v o (.handshake offered) =
    ((r.setVs o { r.vs o with shook := true }).wr .DLK_OSTATE_PROTO (r.chooseProto o offered) o).advance v o := by
  unfold Replica.vehicle
  dsimp only
  rw [hfirst, hsecond]
  exact if_neg hproto

end

variable (ho : o < 24)
include ho

theorem Replica.vehSide_connectorNoted (conn pilot pp : Nat) : (r.connectorNoted o conn pilot pp).vehSide o =
    { r.vehSide o with veh := { (r.vehSide o).veh with conn := conn ≠ 0, pilot, pp } } := by
  unfold Replica.connectorNoted
  dsimp only
  split
  · rw [Replica.vehSide_report, r.vehSide_setVs ho]
    rfl
  · rw [r.vehSide_setVs ho]
    rfl

/-- A plug takes an idle outlet whose link is down to PLUGGED. -/
theorem Replica.ostate_plugged {conn : Nat} (pilot pp : Nat) (hconn : conn ≠ 0) (hidle : r.ostate o = osIdle)
    (hlink : (r.vs o).linkUp = false) : ((r.plug v o conn pilot pp).advance v o).ostate o = osPlugged := by
  obtain ⟨hstate, hkept⟩ := ((r.connectorNoted o conn pilot pp).goto v o osPlugged).usePreauth_keeps ho
  rw [← r.plug_of_idle v pilot pp hconn hidle, Replica.vehSide_goto_none _ v o (by decide),
    r.vehSide_connectorNoted ho] at hstate hkept
  rw [Replica.advance_of_link_down _ v o hstate (hkept.trans hlink)]
  exact hstate

/-- An unplug takes a plugged outlet back to IDLE. -/
theorem Replica.ostate_unplugged {conn : Nat} (pilot pp : Nat) (hconn : conn = 0) (hplugged : r.ostate o = osPlugged) :
    ((r.plug v o conn pilot pp).advance v o).ostate o = osIdle := by
  have hidle : (r.plug v o conn pilot pp).ostate o = osIdle := by
    rw [r.plug_of_unplugged v pilot pp hconn hplugged]
    exact congrArg VehSide.state (Replica.vehSide_goto_osIdle _ v ho)
  rw [Replica.advance_of_osIdle _ v o hidle]
  exact hidle

section
variable (hfirst : r.ctxOrphaned 0 (2 * o) = false) (hsecond : r.ctxOrphaned 0 (2 * o + 1) = false)
include hfirst hsecond

/-- A handshake with a protocol in common takes a plugged outlet whose link is up to NEGOTIATING. -/
theorem Replica.vehicle_handshake_shows {offered : Nat} (hproto : r.chooseProto o offered ≠ 0) (hplugged : r.ostate o = osPlugged)
    (hlink : (r.vs o).linkUp = true) : (r.vehicle v o (.handshake offered)).ostate o = osNegotiating ∧
      (r.vehicle v o (.handshake offered)).rd .DLK_OSTATE_PROTO o = r.chooseProto o offered := by
  have hshook := (r.setVs o { r.vs o with shook := true }).vehSide_wr_proto o _ (r.chooseProto_lt (o := o) offered)
  rw [r.vehSide_setVs ho] at hshook
  have hshown := Replica.vehSide_advance_of_shook _ v o ((congrArg VehSide.state hshook).trans hplugged)
    ((congrArg (·.veh.linkUp) hshook).trans hlink) (congrArg (·.veh.shook) hshook)
  rw [hshook] at hshown
  rw [r.vehicle_handshake v hfirst hsecond hproto]
  exact ⟨congrArg VehSide.state hshown, congrArg VehSide.proto hshown⟩

end

/-- The link up after the handshake takes a plugged outlet to NEGOTIATING. -/
theorem Replica.ostate_linkUp (hplugged : r.ostate o = osPlugged) (hshook : (r.vs o).shook = true) :
    ((r.setVs o { r.vs o with linkUp := true }).advance v o).ostate o = osNegotiating := by
  have hup := r.vehSide_setVs ho { r.vs o with linkUp := true }
  have hshown := Replica.vehSide_advance_of_shook _ v o ((congrArg VehSide.state hup).trans hplugged) (congrArg (·.veh.linkUp) hup)
    ((congrArg (·.veh.shook) hup).trans hshook)
  exact congrArg VehSide.state hshown

end

/-! ### Buttons, cards and coolant (R297, R303, R312, R313) -/

section
variable (r : Replica) (v : Env) {d : Nat} {h : DlpHdr} (hout : h.outlet < 2)

theorem Replica.button_select {key : Nat} (hkey : key = 3 ∨ key = 4) :
    r.button v d h key = r.setDl d { r.dl d with selected := some (key - 3, v.ticks) } := if_pos (by simpa using hkey)

include hout

theorem Replica.target_of_outlet : r.target v d h = some (2 * d + h.outlet) := if_pos hout

theorem Replica.button_stop : r.button v d h 2 = r.stopOutlet v (2 * d + h.outlet) ocButton := by
  unfold Replica.button
  rw [r.target_of_outlet v hout]
  rfl

/-- A card at an outlet that awaits authorisation, with none pending there, is presented. -/
theorem Replica.card_of_awaits (card : List Nat) (hawaits : r.awaits (2 * d + h.outlet) = true)
    (hnone : (r.vs (2 * d + h.outlet)).asked = none) : r.card v d h card = r.presentCard (2 * d + h.outlet) card := by
  have hearly : r.authorisedBy (2 * d + h.outlet) card = false := by
    unfold Replica.authorisedBy
    obtain hst | hst := Replica.ostate_of_awaits hawaits <;> rw [hst] <;> rfl
  unfold Replica.card
  rw [r.target_of_outlet v hout]
  simp [hearly, hawaits, hnone]

end

theorem Replica.coolant_coolStatus (r : Replica) {o : Nat} (ho : o < 24) (b : List Byte) :
    let c := vget (r.coolStatus o b).alloc.coolant o {}
    c.supply = signed 16 (fieldAt b 0 2) ∧ c.flow = fieldAt b 4 2 ∧ c.age = 0 ∧ c.stale = false := by
  intro c
  obtain ⟨x, hx, hc⟩ : ∃ x : Coolant, c = x ∧
      (x.supply = signed 16 (fieldAt b 0 2) ∧ x.flow = fieldAt b 4 2 ∧ x.age = 0 ∧ x.stale = false) :=
    ⟨_, vget_vput_same _ _ _ _ ho, rfl, rfl, rfl, rfl⟩
  rwa [hx]

/-! ### The commands -/

@[simp] theorem Replica.vs_flushed (r : Replica) (o : Nat) : r.flushed.vs o = r.vs o := rfl
@[simp] theorem Replica.dl_flushed (r : Replica) (d : Nat) : r.flushed.dl d = r.dl d := rfl
@[simp] theorem Replica.regs_flushed (r : Replica) : r.flushed.regs = r.regs := rfl

/-- The replica of a pavilion once it has noted a PDU. -/
def State.noted (s : State) (p : Pav) (d : DLink) (lane : Lane) (h : DlpHdr) : Replica := (s.view p).received d lane h

/-- A PDU comes in on a lane that is driven, and passes. -/
def State.passes (s : State) (p : Pav) (d : DLink) (lane : Lane) (h : DlpHdr) (type minVer : Nat) : Prop :=
  s.site.drives lane = true ∧ (s.view p).passes d lane h type minVer

theorem outlet_lt (d : DLink) (j : Fin 2) : 2 * d.val + j.val < 24 := by omega

section
variable {s : State} {p : Pav} {d : DLink} {j : Fin 2} {lane : Lane} {h : DlpHdr} {body : List Byte} (hstep : (s.site.pav p).inStep = true)
  (hj : h.outlet = j.val)
include hstep hj

section
variable (hpass : s.passes p d lane h 0x10 0) (hlen : body.length = 4)
include hpass hlen

theorem dlpPlug_of_passes : ∃ t : State, execDlpPlug d lane h body s = .next t ∧ (t.site.pav p).rep =
    (((s.noted p d lane h).plug s.site.env (2 * d.val + j.val) (byteAt body 0) (byteAt body 1) (fieldAt body 2 2)).advance s.site.env
      (2 * d.val + j.val)).flushed := State.dlpOutlet_of_passes hstep hpass (decide_eq_true hlen) hj rfl

theorem dlpPlug_plugs (hconn : byteAt body 0 ≠ 0) (hidle : (s.noted p d lane h).ostate (2 * d.val + j.val) = osIdle)
    (hlink : ((s.noted p d lane h).vs (2 * d.val + j.val)).linkUp = false) : ∃ t : State, execDlpPlug d lane h body s = .next t ∧
      (t.site.pav p).rep.ostate (2 * d.val + j.val) = osPlugged := by
  obtain ⟨t, hexec, hrep⟩ := dlpPlug_of_passes hstep hj hpass hlen
  refine ⟨t, hexec, ?_⟩
  rw [hrep]
  exact (s.noted p d lane h).ostate_plugged _ (outlet_lt d j) _ _ hconn hidle hlink

theorem dlpPlug_unplugs (hconn : byteAt body 0 = 0) (hplugged : (s.noted p d lane h).ostate (2 * d.val + j.val) = osPlugged) :
    ∃ t : State, execDlpPlug d lane h body s = .next t ∧ (t.site.pav p).rep.ostate (2 * d.val + j.val) = osIdle := by
  obtain ⟨t, hexec, hrep⟩ := dlpPlug_of_passes hstep hj hpass hlen
  refine ⟨t, hexec, ?_⟩
  rw [hrep]
  exact (s.noted p d lane h).ostate_unplugged _ (outlet_lt d j) _ _ hconn hplugged

end

section
variable (hpass : s.passes p d lane h 0x13 0) (hlen : body.length = 1)
include hpass hlen

theorem dlpLockState_of_fault (hlock : byteAt body 0 = 3) (hneg : (s.noted p d lane h).ostate (2 * d.val + j.val) = osNegotiating) :
    ∃ t : State, execDlpLockState d lane h body s = .next t ∧ (t.site.pav p).rep.ostate (2 * d.val + j.val) = osFault ∧
      (t.site.pav p).rep.rd .DLK_OSTATE_CAUSE (2 * d.val + j.val) = ocLockFail := by
  obtain ⟨t, hexec, hrep⟩ : ∃ t : State, execDlpLockState d lane h body s = .next t ∧ (t.site.pav p).rep =
      ((s.noted p d lane h).lockState s.site.env (2 * d.val + j.val) 3).flushed :=
    State.dlpOutlet_of_passes hstep hpass (decide_eq_true hlen) hj (by rw [hlock]; rfl)
  refine ⟨t, hexec, ?_⟩
  rw [hrep]
  exact (s.noted p d lane h).lockState_of_fault _ hneg

theorem dlpLockState_of_idle (hidle : (s.noted p d lane h).ostate (2 * d.val + j.val) = osIdle) :
    ∃ t : State, execDlpLockState d lane h body s = .next t ∧
      ((t.site.pav p).rep.vs (2 * d.val + j.val)).lock = some (byteAt body 0) ∧ (t.site.pav p).rep.regs = (s.noted p d lane h).regs := by
  obtain ⟨t, hexec, hrep⟩ : ∃ t : State, execDlpLockState d lane h body s = .next t ∧ (t.site.pav p).rep = _ :=
    State.dlpOutlet_of_passes hstep hpass (decide_eq_true hlen) hj ((s.noted p d lane h).lockState_of_idle _ _ hidle)
  refine ⟨t, hexec, ?_, ?_⟩ <;> rw [hrep]
  · exact congrArg VehSession.lock ((s.noted p d lane h).vs_setVs_same (outlet_lt d j) _)
  · rfl

end

theorem dlpImdState_of_fault (hpass : s.passes p d lane h 0x15 0) (hlen : body.length = 5) (hfault : byteAt body 0 = 2)
    (hon : (s.noted p d lane h).energised (2 * d.val + j.val) = true) : ∃ t : State, execDlpImdState d lane h body s = .next t ∧
      ((t.site.pav p).rep.vs (2 * d.val + j.val)).imd = some (2, fieldAt body 1 4) ∧ ((t.site.pav p).rep.so (2 * d.val + j.val)).reports =
        ((s.noted p d lane h).so (2 * d.val + j.val)).reports ++ [(5, 0x10, ocIsolation)] := by
  obtain ⟨t, hexec, hrep⟩ : ∃ t : State, execDlpImdState d lane h body s = .next t ∧ (t.site.pav p).rep = _ :=
    State.dlpOutlet_of_passes hstep hpass (decide_eq_true hlen) hj
      ((congrArg (fun k => (s.noted p d lane h).imdState _ _ k _) hfault).trans ((s.noted p d lane h).imdState_of_fault _ _ hon))
  refine ⟨t, hexec, ?_, ?_⟩ <;> rw [hrep]
  · exact congrArg VehSession.imd ((s.noted p d lane h).vs_setVs_same (outlet_lt d j) _)
  · exact congrArg SafetyOutlet.reports (Replica.so_setSo_same _ (outlet_lt d j) _)

section
variable (hpass : s.passes p d lane h 0x20 0) (hfirst : (s.noted p d lane h).ctxOrphaned 0 (2 * (2 * d.val + j.val)) = false)
  (hsecond : (s.noted p d lane h).ctxOrphaned 0 (2 * (2 * d.val + j.val) + 1) = false) {len : Nat} (hlo : 14 ≤ len) (hhi : len ≤ 1294)
include hpass hfirst hsecond hlo hhi

theorem dlpVehFrame_stops (hcharging : (s.noted p d lane h).ostate (2 * d.val + j.val) = osCharging) :
    ∃ t : State, execDlpVehFrame d lane h len .stop s = .next t ∧ (t.site.pav p).rep.ostate (2 * d.val + j.val) = osStopping ∧
      (t.site.pav p).rep.rd .DLK_OSTATE_CAUSE (2 * d.val + j.val) = ocVehicleStop := by
  obtain ⟨t, hexec, hrep⟩ : ∃ t : State, execDlpVehFrame d lane h len .stop s = .next t ∧ (t.site.pav p).rep = _ :=
    State.dlpOutlet_of_passes hstep hpass (by simp [hlo, hhi]) hj ((s.noted p d lane h).vehicle_stop _ hfirst hsecond)
  refine ⟨t, hexec, ?_⟩
  rw [hrep]
  exact Replica.stopOutlet_shows _ (by decide) (by rw [hcharging]; decide) (by rw [hcharging])

theorem dlpVehFrame_negotiates {offered : Nat} (hproto : (s.noted p d lane h).chooseProto (2 * d.val + j.val) offered ≠ 0)
    (hplugged : (s.noted p d lane h).ostate (2 * d.val + j.val) = osPlugged)
    (hlink : ((s.noted p d lane h).vs (2 * d.val + j.val)).linkUp = true) :
    ∃ t : State, execDlpVehFrame d lane h len (.handshake offered) s = .next t ∧
      (t.site.pav p).rep.ostate (2 * d.val + j.val) = osNegotiating ∧ (t.site.pav p).rep.rd .DLK_OSTATE_PROTO (2 * d.val + j.val) =
        (s.noted p d lane h).chooseProto (2 * d.val + j.val) offered := by
  obtain ⟨t, hexec, hrep⟩ : ∃ t : State, execDlpVehFrame d lane h len (.handshake offered) s = .next t ∧ (t.site.pav p).rep =
      ((s.noted p d lane h).vehicle s.site.env (2 * d.val + j.val) (.handshake offered)).flushed :=
    State.dlpOutlet_of_passes hstep hpass (by simp [hlo, hhi]) hj rfl
  refine ⟨t, hexec, ?_⟩
  rw [hrep]
  exact (s.noted p d lane h).vehicle_handshake_shows _ (outlet_lt d j) hfirst hsecond hproto hplugged hlink

end

theorem dlpVehLink_negotiates (hpass : s.passes p d lane h 0x21 0) (hlen : body.length = 2) (hup : byteAt body 0 = 1)
    (hplugged : (s.noted p d lane h).ostate (2 * d.val + j.val) = osPlugged)
    (hshook : ((s.noted p d lane h).vs (2 * d.val + j.val)).shook = true) : ∃ t : State, execDlpVehLink d lane h body s = .next t ∧
      (t.site.pav p).rep.ostate (2 * d.val + j.val) = osNegotiating := by
  obtain ⟨t, hexec, hrep⟩ : ∃ t : State, execDlpVehLink d lane h body s = .next t ∧ (t.site.pav p).rep = (((s.noted p d lane h).setVs
      (2 * d.val + j.val) { (s.noted p d lane h).vs (2 * d.val + j.val) with linkUp := true }).advance s.site.env (2 * d.val + j.val)).flushed :=
    State.dlpOutlet_of_passes hstep hpass (decide_eq_true hlen) hj (by rw [hup]; rfl)
  refine ⟨t, hexec, ?_⟩
  rw [hrep]
  exact (s.noted p d lane h).ostate_linkUp _ (outlet_lt d j) hplugged hshook

section
variable (hpass : s.passes p d lane h 0x41 0) (hlen : body.length = 1)
include hpass hlen

theorem dlpButton_stops (hkey : byteAt body 0 = 2) (hlo : osNegotiating ≤ (s.noted p d lane h).ostate (2 * d.val + j.val))
    (hhi : (s.noted p d lane h).ostate (2 * d.val + j.val) ≤ osCharging) : ∃ t : State, execDlpButton d lane h body s = .next t ∧
      (t.site.pav p).rep.ostate (2 * d.val + j.val) = osStopping ∧
        (t.site.pav p).rep.rd .DLK_OSTATE_CAUSE (2 * d.val + j.val) = ocButton := by
  have hstops : (s.noted p d lane h).button s.site.env d h (byteAt body 0) =
      (s.noted p d lane h).stopOutlet s.site.env (2 * d.val + j.val) ocButton := by
    rw [hkey, ← hj]
    exact (s.noted p d lane h).button_stop _ (hj ▸ j.isLt)
  obtain ⟨t, hexec, hrep⟩ : ∃ t : State, execDlpButton d lane h body s = .next t ∧ (t.site.pav p).rep = _ :=
    State.dlp_of_passes hstep hpass (decide_eq_true hlen) hstops
  refine ⟨t, hexec, ?_⟩
  rw [hrep]
  exact Replica.stopOutlet_shows _ (by decide) hlo hhi

omit hj in
theorem dlpButton_selects (hkey : byteAt body 0 = 3 ∨ byteAt body 0 = 4) : ∃ t : State, execDlpButton d lane h body s = .next t ∧
    ((t.site.pav p).rep.dl d).selected = some (byteAt body 0 - 3, s.site.ticks) ∧
      (t.site.pav p).rep.regs = (s.noted p d lane h).regs := by
  obtain ⟨t, hexec, hrep⟩ : ∃ t : State, execDlpButton d lane h body s = .next t ∧ (t.site.pav p).rep = _ :=
    State.dlp_of_passes hstep hpass (decide_eq_true hlen) ((s.noted p d lane h).button_select s.site.env hkey)
  refine ⟨t, hexec, ?_, ?_⟩ <;> rw [hrep]
  · exact congrArg DispLink.selected ((s.noted p d lane h).dl_setDl_same d _)
  · rfl

end

theorem dlpCard_asks (hpass : s.passes p d lane h 0x42 0) (hmin : 6 ≤ body.length) (hlen : body.length = 2 + byteAt body 1)
    (hmax : byteAt body 1 ≤ 10) (hawaits : (s.noted p d lane h).awaits (2 * d.val + j.val) = true)
    (hnone : ((s.noted p d lane h).vs (2 * d.val + j.val)).asked = none) : ∃ t : State, execDlpCard d lane h body s = .next t ∧
      ((t.site.pav p).rep.vs (2 * d.val + j.val)).asked = if (vget (s.noted p d lane h).owners (2 * d.val + j.val) none).isSome then
        some (((s.noted p d lane h).vs (2 * d.val + j.val)).reqNo + 1, false, (body.drop 2).map BitVec.toNat) else none := by
  have hpresents : (s.noted p d lane h).card s.site.env d h ((body.drop 2).map BitVec.toNat) =
      (s.noted p d lane h).presentCard (2 * d.val + j.val) ((body.drop 2).map BitVec.toNat) := by
    rw [← hj] at hawaits hnone ⊢
    exact (s.noted p d lane h).card_of_awaits _ (hj ▸ j.isLt) _ hawaits hnone
  have hlenOk : (decide (6 ≤ body.length) && decide (body.length = 2 + byteAt body 1) && decide (byteAt body 1 ≤ 10)) = true := by
    rw [decide_eq_true hmin, decide_eq_true hlen, decide_eq_true hmax]
    rfl
  obtain ⟨t, hexec, hrep⟩ : ∃ t : State, execDlpCard d lane h body s = .next t ∧ (t.site.pav p).rep = _ :=
    State.dlp_of_passes hstep hpass hlenOk hpresents
  refine ⟨t, hexec, ?_⟩
  have hshown := congrArg (·.veh.asked) ((s.noted p d lane h).vehSide_presentCard (outlet_lt d j) ((body.drop 2).map BitVec.toNat))
  rw [hrep]
  refine hshown.trans ?_
  split
  · rfl
  · exact hnone

theorem dlpCoolStatus_keeps (hpass : s.passes p d lane h 0x50 2) (hlen : body.length = 12) :
    ∃ t : State, execDlpCoolStatus d lane h body s = .next t ∧
      let c := vget (t.site.pav p).rep.alloc.coolant (2 * d.val + j.val) {}
      c.supply = signed 16 (fieldAt body 0 2) ∧ c.flow = fieldAt body 4 2 ∧ c.age = 0 ∧ c.stale = false := by
  obtain ⟨t, hexec, hrep⟩ : ∃ t : State, execDlpCoolStatus d lane h body s = .next t ∧ (t.site.pav p).rep =
      ((s.noted p d lane h).coolStatus (2 * d.val + j.val) body).flushed :=
    State.dlpOutlet_of_passes hstep hpass (decide_eq_true hlen) hj rfl
  refine ⟨t, hexec, ?_⟩
  rw [hrep]
  exact (s.noted p d lane h).coolant_coolStatus (outlet_lt d j) body

end

/-! ### Timers (R311 to R313) -/

section
variable {s : State} {p : Pav} {u : Outlet} (hstep : (s.site.pav p).inStep = true)
include hstep

theorem cardAnswerTimeout_ends (hasked : ((s.view p).vs u).asked ≠ none) : ∃ t : State, execCardAnswerTimeout u s = .next t ∧
    ((t.site.pav p).rep.vs u).asked = none := by
  have hended : ((s.view p).setVs u { (s.view p).vs u with asked := none }).vehSide u = _ := (s.view p).vehSide_setVs u.isLt _
  refine ⟨_, rfl, (congrArg (fun r : Replica => (r.vs u).asked) (Site.rep_onLog s.site hstep _)).trans ?_⟩
  rw [Replica.vs_flushed]
  dsimp only
  split
  · split
    · exact congrArg (·.veh.asked) hended
    · exact congrArg (·.veh.asked) ((Replica.vehSide_outSend _ _ _ _ _).trans hended)
  · next hnone => exact absurd hnone hasked

theorem certAnswerTimeout_ends : ∃ t : State, execCertAnswerTimeout u s = .next t ∧ ((t.site.pav p).rep.vs u).certAsked = none ∧
    (t.site.pav p).rep.regs = (s.view p).regs := by
  obtain ⟨t, hexec, hrep⟩ : ∃ t : State, execCertAnswerTimeout u s = .next t ∧ (t.site.pav p).rep =
      ((s.view p).setVs u { (s.view p).vs u with certAsked := none }).flushed := State.onLog_of_eq hstep rfl
  refine ⟨t, hexec, ?_, ?_⟩ <;> rw [hrep]
  · exact congrArg VehSession.certAsked ((s.view p).vs_setVs_same u.isLt _)
  · rfl

/-- Low flow with the pump on counts as a fault of the pump. -/
theorem coolFlowLow_of_low (hflow : (vget (s.view p).alloc.coolant u {}).flow < (s.view p).cab u 24 2)
    (hpump : ((s.view p).vs u).pump = some 100) (hgood : (vget (s.view p).alloc.coolant u {}).pumpFault = false) :
    ∃ t : State, execCoolFlowLow u s = .next t ∧ (t.site.pav p).rep.rd .DLK_EVENT_COOL_FAULT = 1 ∧
      (vget (t.site.pav p).rep.alloc.coolant u {}).pumpFault = true := by
  have hdue : (decide ((vget (s.view p).alloc.coolant u {}).flow < (s.view p).cab u 24 2) &&
      (match ((s.view p).vs u).pump with | some k => decide (0 < k) | none => false) && !(vget (s.view p).alloc.coolant u {}).pumpFault) = true := by
    rw [hpump, hgood]
    simpa using hflow
  obtain ⟨t, hexec, hrep⟩ : ∃ t : State, execCoolFlowLow u s = .next t ∧ (t.site.pav p).rep = _ := State.onLog_of_eq hstep (if_pos hdue)
  refine ⟨t, hexec, ?_, ?_⟩ <;> rw [hrep]
  · exact (s.view p).rd_raise_same .DLK_EVENT_COOL_FAULT 0 rfl (by decide)
  · exact congrArg Coolant.pumpFault (vget_vput_same _ _ _ _ u.isLt)

theorem preauthExpiry_ends (d : DLink) : ∃ t : State, execPreauthExpiry d s = .next t ∧ ((t.site.pav p).rep.dl d).preauth = none ∧
    (t.site.pav p).rep.regs = (s.view p).regs := by
  obtain ⟨t, hexec, hrep⟩ : ∃ t : State, execPreauthExpiry d s = .next t ∧ (t.site.pav p).rep =
      ((s.view p).setDl d { (s.view p).dl d with preauth := none }).flushed := State.onLog_of_eq hstep rfl
  refine ⟨t, hexec, ?_, ?_⟩ <;> rw [hrep]
  · exact congrArg DispLink.preauth ((s.view p).dl_setDl_same d _)
  · rfl

end

/-- Settles O37: one lemma per outcome of each command above. -/
theorem dispenserOutlets : Obligations.DispenserOutlets := by
  intro p d j lane h body s hstep hj o r r' q pass moves stop
  refine ⟨fun hpass hlen => ⟨fun hconn hidle hlink => ?_, fun hconn hplugged => ?_⟩,
    fun hpass hlen => ⟨fun hlock hneg => ?_, fun hidle => ?_⟩,
    fun hpass hlen hfault hon => ?_, fun hpass hfirst hsecond len hlo hhi => ⟨fun hcharging => ?_, fun offered hproto hplugged hlink => ?_⟩,
    fun hpass hlen hup hplugged hshook => ?_, fun hpass hlen => ⟨fun hkey hlo hhi => ?_, fun hkey => ?_⟩,
    fun hpass hmin hlen hmax hawaits hnone => ?_, fun hpass hlen => ?_, ?_, ?_⟩
  · exact dlpPlug_plugs hstep hj hpass hlen hconn hidle hlink
  · exact dlpPlug_unplugs hstep hj hpass hlen hconn hplugged
  · exact dlpLockState_of_fault hstep hj hpass hlen hlock hneg
  · exact dlpLockState_of_idle hstep hj hpass hlen hidle
  · exact dlpImdState_of_fault hstep hj hpass hlen hfault hon
  · exact dlpVehFrame_stops hstep hj hpass hfirst hsecond hlo hhi hcharging
  · exact dlpVehFrame_negotiates hstep hj hpass hfirst hsecond hlo hhi hproto hplugged hlink
  · exact dlpVehLink_negotiates hstep hj hpass hlen hup hplugged hshook
  · exact dlpButton_stops hstep hj hpass hlen hkey hlo hhi
  · exact dlpButton_selects hstep hpass hlen hkey
  · exact dlpCard_asks hstep hj hpass hmin hlen hmax hawaits hnone
  · exact dlpCoolStatus_keeps hstep hj hpass hlen
  · rintro u (hu : u.val = o)
    rw [← hu]
    exact ⟨cardAnswerTimeout_ends hstep, certAnswerTimeout_ends hstep, coolFlowLow_of_low hstep⟩
  · exact preauthExpiry_ends hstep d

end Sys2Proof.Machine
end

section
/-! PROOFS. The commands of a host on outlets: limits, status, ownership, start and stop, answers, fault clear, service and commissioning
(R265, R302 to R304, R311, R313, R440, R446, R447). -/
namespace Sys2Proof.Machine

/-! ### The outlet a command names, and its owner (R440, R446) -/

section
variable {r : Replica} {n : Nat} {o : Outlet} (f : Replica → Replica × Resp)

theorem onOutlet_of_outlet (r : Replica) (o : Outlet) : onOutlet o f r = f r := if_neg (Nat.not_le.2 o.isLt)

theorem onOwned_of_owner (howner : vget r.owners o none = some (r.ses n).principal) : onOwned n o f r = f r :=
  (onOutlet_of_outlet _ r o).trans (if_pos howner)

theorem onOwned_of_other (howner : vget r.owners o none ≠ some (r.ses n).principal) : onOwned n o f r = (r, refuse hsNotOwner) :=
  (onOutlet_of_outlet _ r o).trans (if_neg howner)

end

/-- A number that the outlet has given to a request. -/
theorem request_known {q last : Nat} (hlo : 1 ≤ q) (hhi : q ≤ last) : ¬(decide (q = 0) || decide (last < q)) = true := by
  simp
  omega

/-- A new owner is entered, and the sessions hear of it. -/
theorem Replica.setOwner_shows (r : Replica) (o : Outlet) (new : Option Nat) (n : Nat) :
    vget (r.setOwner o new).owners o none = new ∧ (r.setOwner o new).sesPhase n = r.sesPhase n := by
  refine ⟨?_, Replica.sesPhase_eventClass _ n _ _ _⟩
  obtain ⟨_, _, _, _, howners, _⟩ := Replica.reported_eventClass ({ r.setVs o { r.vs o with
      asked := (r.vs o).asked.map (fun a => (0, a.2.1, a.2.2)), certAsked := (r.vs o).certAsked.map fun _ => 0 } with
    owners := vput r.owners o new } : Replica) 6 evOwnerChanged
      (o :: (leBytes 8 ((vget r.owners o none).getD 0) ++ leBytes 8 (new.getD 0)).map BitVec.toNat)
  exact (congrArg (fun q : Replica => vget q.owners o none) howners).trans (vget_vput_same _ _ _ _ o.isLt)

/-! ### Transitions end no host session (R302) -/

section
variable (r : Replica) (n : Nat) (v : Env) (o : Nat)

theorem Replica.sesPhase_goto_osIdle : (r.goto v o osIdle).sesPhase n = r.sesPhase n := by
  refine r.sesPhase_goto n none fun r old cause => ?_
  obtain ⟨q, hentry, hq⟩ : ∃ q : Replica, r.entryEffects v o old osIdle cause = q.endSession v o ∧ q.sesPhase n = r.sesPhase n := by
    refine ⟨_, rfl, ?_⟩
    split
    · dsimp only
      split <;> split <;> simp
    · rfl
  rw [hentry, Replica.sesPhase_endSession, hq]

theorem Replica.sesPhase_goto_osWeldCheck : (r.goto v o osWeldCheck).sesPhase n = r.sesPhase n :=
  r.sesPhase_goto n none fun r _ _ => r.sesPhase_closeTrans n v o 1 _

theorem Replica.sesPhase_goto_osUnavailable : (r.goto v o osUnavailable).sesPhase n = r.sesPhase n :=
  r.sesPhase_goto n none fun r => r.sesPhase_entryEffects_osUnavailable n v o

theorem Replica.sesPhase_goto_osCommission : (r.goto v o osCommission).sesPhase n = r.sesPhase n := r.sesPhase_goto n none fun _ _ _ => rfl

end

/-! ### An authorisation (R313) -/

section
variable (r : Replica)

/-- A pending request ended: a card's holder is told. -/
def Replica.requestEnded (o : Nat) (pnc : Bool) (code : Nat) : Replica :=
  let q := r.setVs o { r.vs o with asked := none }
  if pnc then q else q.outSend o pduCardResult [code]

/-- An authorisation entered. -/
def Replica.authHeld (o kind : Nat) (ident : List Nat) (ref : List Byte) : Replica :=
  r.setVs o { r.vs o with held := true, kind, ident, href := (padTo 16 ref).map BitVec.toNat }

/-- A request ended with an authorisation, before what it may complete. -/
def Replica.authTaken (o : Nat) (pnc : Bool) (code : Nat) (ident : List Nat) (ref : List Byte) : Replica :=
  let q := (r.requestEnded o pnc code).authHeld o (if pnc then 2 else 1) ident ref
  if pnc then q.wr .DLK_OSTATE_PNC 1 o else q

/-- What an answer of the owner to the pending request comes to (R313): one that comes late refuses a card. -/
def Replica.authAnswered (v : Env) (o result : Nat) (pnc : Bool) (ident : List Nat) (ref : List Byte) : Replica × Resp :=
  let code := if !r.awaits o then 1 else result
  if !r.awaits o then (r.requestEnded o pnc code, refuse hsExpired)
  else if result = 1 then (r.requestEnded o pnc code, {})
  else ((r.authTaken o pnc code ident ref).advance v o, {})

section
variable {r} (v : Env) {o : Nat} (pnc : Bool) (ident : List Nat) (ref : List Byte)

theorem Replica.authAnswered_of_late (hawaits : r.awaits o = false) (result : Nat) :
    r.authAnswered v o result pnc ident ref = (r.requestEnded o pnc 1, refuse hsExpired) := by
  rw [Replica.authAnswered, hawaits]
  rfl

theorem Replica.authAnswered_of_refused (hawaits : r.awaits o = true) :
    r.authAnswered v o 1 pnc ident ref = (r.requestEnded o pnc 1, {}) := by
  rw [Replica.authAnswered, hawaits]
  rfl

theorem Replica.authAnswered_of_granted (hawaits : r.awaits o = true) :
    r.authAnswered v o 0 pnc ident ref = ((r.authTaken o pnc 0 ident ref).advance v o, {}) := by
  rw [Replica.authAnswered, hawaits]
  rfl

end

theorem Replica.sesPhase_requestEnded (o : Nat) (pnc : Bool) (code n : Nat) : (r.requestEnded o pnc code).sesPhase n = r.sesPhase n := by
  unfold Replica.requestEnded
  dsimp only
  split <;> simp

theorem Replica.sesPhase_authTaken (o : Nat) (pnc : Bool) (code : Nat) (ident : List Nat) (ref : List Byte) (n : Nat) :
    (r.authTaken o pnc code ident ref).sesPhase n = r.sesPhase n := by
  unfold Replica.authTaken
  dsimp only
  split <;> simp [Replica.authHeld, Replica.sesPhase_requestEnded]

variable {o : Nat} (ho : o < 24)
include ho

theorem Replica.vehSide_requestEnded (pnc : Bool) (code : Nat) :
    (r.requestEnded o pnc code).vehSide o = { r.vehSide o with veh := { (r.vehSide o).veh with asked := none } } := by
  unfold Replica.requestEnded
  dsimp only
  split
  · exact r.vehSide_setVs ho _
  · rw [Replica.vehSide_outSend]
    exact r.vehSide_setVs ho _

theorem Replica.vehSide_authHeld (kind : Nat) (ident : List Nat) (ref : List Byte) : (r.authHeld o kind ident ref).vehSide o =
    { r.vehSide o with veh := { (r.vehSide o).veh with held := true, kind, ident, href := (padTo 16 ref).map BitVec.toNat } } :=
  r.vehSide_setVs ho _

/-- An authorisation stands after what it completes. -/
theorem Replica.authHeld_advance_shows (v : Env) (hawaits : r.awaits o = true) (kind : Nat) (ident : List Nat) (ref : List Byte) :
    (((r.authHeld o kind ident ref).advance v o).vs o).held = true :=
  ((r.authHeld o kind ident ref).advance_keeps_session v ho (Replica.ostate_of_awaits (r := r) hawaits) (·.held) fun _ => rfl).trans
    (congrArg (·.veh.held) (r.vehSide_authHeld ho kind ident ref))

omit ho in
theorem Replica.vehSide_authTaken (pnc : Bool) (code : Nat) (ident : List Nat) (ref : List Byte) : (r.authTaken o pnc code ident ref).vehSide o =
    ((r.requestEnded o pnc code).authHeld o (if pnc then 2 else 1) ident ref).vehSide o := by
  unfold Replica.authTaken
  dsimp only
  split
  · exact Replica.vehSide_wr _ o 1 o (by decide)
  · rfl

theorem Replica.vehSide_authTaken_eq (pnc : Bool) (code : Nat) (ident : List Nat) (ref : List Byte) : (r.authTaken o pnc code ident ref).vehSide o =
    { r.vehSide o with veh := { (r.vehSide o).veh with
      asked := none, held := true, kind := if pnc then 2 else 1, ident, href := (padTo 16 ref).map BitVec.toNat } } := by
  rw [r.vehSide_authTaken, Replica.vehSide_authHeld _ ho, r.vehSide_requestEnded ho]

/-- A request granted leaves an authorisation and no request, after what it completes as well; no session of a host ends. -/
theorem Replica.authTaken_advance_shows (v : Env) (hawaits : r.awaits o = true) (pnc : Bool) (code : Nat) (ident : List Nat)
    (ref : List Byte) (n : Nat) : let r' := (r.authTaken o pnc code ident ref).advance v o
    (r'.vs o).held = true ∧ (r'.vs o).asked = none ∧ r'.sesPhase n = r.sesPhase n := by
  have htaken := r.vehSide_authTaken_eq ho pnc code ident ref
  have hstate : (r.authTaken o pnc code ident ref).ostate o = r.ostate o := congrArg VehSide.state htaken
  have hst : (r.authTaken o pnc code ident ref).ostate o = osPlugged ∨ (r.authTaken o pnc code ident ref).ostate o = osNegotiating :=
    hstate.symm ▸ Replica.ostate_of_awaits hawaits
  have hkept := (r.authTaken o pnc code ident ref).advance_keeps_session v ho hst (fun x => (x.held, x.asked)) fun _ => rfl
  rw [htaken] at hkept
  obtain ⟨hheld, hasked⟩ := Prod.mk.inj hkept
  exact ⟨hheld, hasked, (Replica.sesPhase_advance _ v o n hst).trans (r.sesPhase_authTaken o pnc code ident ref n)⟩

end

/-! ### The commands -/

section
variable {s : State} {p : Pav} {n : Sess} {tag : Nat} {o : Outlet} (hstep : (s.site.pav p).inStep = true)
include hstep

/-! ### Limits (R265) -/

section
variable (hmay : (s.view p).maySend n rolesOp false)
include hmay

theorem siteLimitSet_of_ttl {power ttl : Nat} (hpower : power ≠ 0) (hlo : 1 ≤ ttl) (hhi : ttl ≤ 86400) : ∃ t : State,
    execSiteLimitSet n tag power ttl s = .next t ∧ (t.site.pav p).rep.answers n tag 0x0201 {} ∧
      { principal := ((s.view p).ses n).principal, outlet := none, value := power, seconds := ttl } ∈ (t.site.pav p).rep.alloc.limits := by
  obtain ⟨t, hrun, hanswered⟩ : ∃ t : State, execSiteLimitSet n tag power ttl s = .next t ∧ Replica.Answered ((s.view p).putLimit
      { principal := ((s.view p).ses n).principal, outlet := none, value := power, seconds := ttl }) (t.site.pav p).rep n tag 0x0201 {} :=
    State.host_answers hstep hmay ((if_neg hpower).trans (if_neg (by simp; omega))) hmay.1
  refine ⟨t, hrun, hanswered.answers, ?_⟩
  rw [hanswered.keeps (·.alloc.limits)]
  exact List.mem_append_right _ (List.mem_singleton.2 rfl)

theorem siteLimitSet_of_bad_ttl {power ttl : Nat} (hpower : power ≠ 0) (hbad : ttl = 0 ∨ 86400 < ttl) : ∃ t : State,
    execSiteLimitSet n tag power ttl s = .next t ∧ (t.site.pav p).rep.answers n tag 0x0201 (refuse hsBadValue 20) :=
  State.host_gets hstep hmay ((if_neg hpower).trans (if_pos (by simpa using hbad)))

/-- Power 0 ends the principal's limit of the site. -/
theorem siteLimitSet_of_zero {power : Nat} (hpower : power = 0) (ttl : Nat) : ∃ t : State,
    execSiteLimitSet n tag power ttl s = .next t ∧ (t.site.pav p).rep.answers n tag 0x0201 {} ∧
      ∀ y ∈ (t.site.pav p).rep.alloc.limits, y.principal = ((s.view p).ses n).principal → y.outlet ≠ none := by
  obtain ⟨t, hrun, hanswered⟩ : ∃ t : State, execSiteLimitSet n tag power ttl s = .next t ∧ Replica.Answered ((s.view p).withAlloc fun a =>
      { a with limits := a.limits.filter fun y => !(y.principal = ((s.view p).ses n).principal && y.outlet.isNone) })
        (t.site.pav p).rep n tag 0x0201 {} := State.host_answers hstep hmay (if_pos hpower) hmay.1
  refine ⟨t, hrun, hanswered.answers, fun y hy hmine hsite => ?_⟩
  rw [hanswered.keeps (·.alloc.limits)] at hy
  have hkept := (List.mem_filter.1 hy).2
  simp [hmine, hsite] at hkept

/-- The limit that outlet.limit.set puts in force. -/
def Replica.outletLimit (r : Replica) (n : Sess) (o : Outlet) (power amps ttl pExp iExp : Nat) : HostLimit :=
  { principal := (r.ses n).principal, outlet := some o, value := power, amps, seconds := ttl
    pExp := if (r.ses n).major = 2 then pExp else 0, iExp := if (r.ses n).major = 2 then iExp else 0 }

theorem outletLimitSet_of_ttl {power amps ttl pExp iExp : Nat} (hlo : 1 ≤ ttl) (hhi : ttl ≤ 86400) : ∃ (t : State) (y : HostLimit),
    execOutletLimitSet n tag o power amps ttl pExp iExp s = .next t ∧ (t.site.pav p).rep.answers n tag 0x0301 {} ∧
      y ∈ (t.site.pav p).rep.alloc.limits ∧ y.principal = ((s.view p).ses n).principal ∧ y.outlet = some o ∧ y.value = power ∧
        y.amps = amps ∧ y.seconds = ttl := by
  have hplace : Fin.ofNat 24 o.val = o := Fin.ext (Nat.mod_eq_of_lt o.isLt)
  have hgood : ¬(decide (ttl = 0) || decide (86400 < ttl)) = true := by simp; omega
  obtain ⟨t, hrun, hanswered⟩ : ∃ t : State, execOutletLimitSet n tag o power amps ttl pExp iExp s = .next t ∧
      ((s.view p).putLimit ((s.view p).outletLimit n o power amps ttl pExp iExp)).Answered (t.site.pav p).rep n tag 0x0301 {} :=
    State.host_answers hstep hmay ((onOutlet_of_outlet _ (s.view p) o).trans ((if_neg hgood).trans (by
      rw [hplace]
      simp only [Replica.outletLimit]))) hmay.1
  refine ⟨t, (s.view p).outletLimit n o power amps ttl pExp iExp, hrun, hanswered.answers, ?_, rfl, rfl, rfl, rfl, rfl⟩
  rw [hanswered.keeps (·.alloc.limits)]
  exact List.mem_append_right _ (List.mem_singleton.2 rfl)

theorem outletLimitSet_of_bad_ttl (power amps : Nat) {ttl : Nat} (pExp iExp : Nat) (hbad : ttl = 0 ∨ 86400 < ttl) : ∃ t : State,
    execOutletLimitSet n tag o power amps ttl pExp iExp s = .next t ∧ (t.site.pav p).rep.answers n tag 0x0301 (refuse hsBadValue 23) :=
  State.host_gets hstep hmay ((onOutlet_of_outlet _ (s.view p) o).trans (if_pos (by simpa using hbad)))

/-! ### Ownership (R446, R447) -/

theorem outletOwn_of_free (force : Bool) (howner : vget (s.view p).owners o none = none ∨
    vget (s.view p).owners o none = some ((s.view p).ses n).principal) : ∃ t : State, execOutletOwn n tag o force s = .next t ∧
      (t.site.pav p).rep.answers n tag 0x0302 {} ∧ vget (t.site.pav p).rep.owners o none = some ((s.view p).ses n).principal := by
  obtain hnone | hmine := howner
  · obtain ⟨howns, hphase⟩ := (s.view p).setOwner_shows o (some ((s.view p).ses n).principal) n
    obtain ⟨t, hrun, hanswered⟩ : ∃ t : State, execOutletOwn n tag o force s = .next t ∧ 
        ((s.view p).setOwner o (some ((s.view p).ses n).principal)).Answered (t.site.pav p).rep n tag 0x0302 {} :=
      State.host_answers hstep hmay ((onOutlet_of_outlet _ (s.view p) o).trans (by
        dsimp only
        rw [hnone])) (hphase.trans hmay.1)
    exact ⟨t, hrun, hanswered.answers, (hanswered.keeps fun r => vget r.owners o none).trans howns⟩
  · obtain ⟨t, hrun, hanswered⟩ : ∃ t : State, execOutletOwn n tag o force s = .next t ∧ 
        (s.view p).Answered (t.site.pav p).rep n tag 0x0302 {} :=
      State.host_answers hstep hmay ((onOutlet_of_outlet _ (s.view p) o).trans (by
        dsimp only
        rw [hmine]
        exact if_pos rfl)) hmay.1
    exact ⟨t, hrun, hanswered.answers, (hanswered.keeps fun r => vget r.owners o none).trans hmine⟩

theorem outletOwn_of_owned {q : Nat} (howner : vget (s.view p).owners o none = some q) (hother : q ≠ ((s.view p).ses n).principal) :
    ∃ t : State, execOutletOwn n tag o false s = .next t ∧ (t.site.pav p).rep.answers n tag 0x0302 (refuse hsOwned) :=
  State.host_gets hstep hmay ((onOutlet_of_outlet _ (s.view p) o).trans (by
    dsimp only
    rw [howner]
    exact (if_neg hother).trans (if_neg Bool.false_ne_true)))

section
variable (howner : vget (s.view p).owners o none = some ((s.view p).ses n).principal)
include howner

theorem outletDisown_of_owner : ∃ t : State, execOutletDisown n tag o s = .next t ∧ (t.site.pav p).rep.answers n tag 0x0303 {} ∧
    vget (t.site.pav p).rep.owners o none = none := by
  obtain ⟨howns, hphase⟩ := (s.view p).setOwner_shows o none n
  obtain ⟨t, hrun, hanswered⟩ : ∃ t : State, execOutletDisown n tag o s = .next t ∧
      ((s.view p).setOwner o none).Answered (t.site.pav p).rep n tag 0x0303 {} :=
    State.host_answers hstep hmay (onOwned_of_owner _ howner) (hphase.trans hmay.1)
  exact ⟨t, hrun, hanswered.answers, (hanswered.keeps fun r => vget r.owners o none).trans howns⟩

theorem outletPrioritySet_of_le {prio : Nat} (hprio : prio ≤ 255) : ∃ t : State, execOutletPrioritySet n tag o prio s = .next t ∧
    (t.site.pav p).rep.answers n tag 0x0304 {} ∧ vget (t.site.pav p).rep.alloc.prio o 0 = prio := by
  obtain ⟨t, hrun, hanswered⟩ : ∃ t : State, execOutletPrioritySet n tag o prio s = .next t ∧ Replica.Answered
      (((s.view p).withAlloc fun a => { a with prio := vput a.prio o prio }).withHosts fun h => { h with prioBy := vput h.prioBy o (some n.val) })
        (t.site.pav p).rep n tag 0x0304 {} :=
    State.host_answers hstep hmay ((onOwned_of_owner _ howner).trans (if_neg (Nat.not_lt.2 hprio))) hmay.1
  exact ⟨t, hrun, hanswered.answers, (hanswered.keeps fun r => vget r.alloc.prio o 0).trans (vget_vput_same _ _ _ _ o.isLt)⟩

theorem outletPrioritySet_of_gt {prio : Nat} (hprio : 255 < prio) : ∃ t : State, execOutletPrioritySet n tag o prio s = .next t ∧
    (t.site.pav p).rep.answers n tag 0x0304 (refuse hsBadValue 17) :=
  State.host_gets hstep hmay ((onOwned_of_owner _ howner).trans (if_pos hprio))

/-! ### Authorisation by the owner (R311, R313) -/

theorem outletStart_of_awaits (ref : List Byte) (hawaits : (s.view p).awaits o = true) : ∃ t : State,
    execOutletStart n tag o ref s = .next t ∧ (t.site.pav p).rep.answers n tag 0x0305 {} ∧ ((t.site.pav p).rep.vs o).held = true := by
  obtain ⟨t, hrun, hanswered⟩ : ∃ t : State, execOutletStart n tag o ref s = .next t ∧
      (((s.view p).authHeld o 3 [] ref).advance s.site.env o).Answered (t.site.pav p).rep n tag 0x0305 {} :=
    State.host_answers hstep hmay ((onOwned_of_owner _ howner).trans (if_neg (by simp [hawaits])))
      ((((s.view p).authHeld o 3 [] ref).sesPhase_advance s.site.env o n (Replica.ostate_of_awaits (r := s.view p) hawaits)).trans hmay.1)
  exact ⟨t, hrun, hanswered.answers, (hanswered.keeps fun r => (r.vs o).held).trans
    ((s.view p).authHeld_advance_shows o.isLt _ hawaits 3 [] ref)⟩

theorem outletStart_of_not_awaits (ref : List Byte) (hawaits : (s.view p).awaits o = false) : ∃ t : State,
    execOutletStart n tag o ref s = .next t ∧ (t.site.pav p).rep.answers n tag 0x0305 (refuse hsWrongState) :=
  State.host_gets hstep hmay ((onOwned_of_owner _ howner).trans (if_pos (by simp [hawaits])))

section
variable {reqId : Nat} {pnc : Bool} {ident : List Nat} (hasked : ((s.view p).vs o).asked = some (reqId, pnc, ident)) (hlo : 1 ≤ reqId)
  (hhi : reqId ≤ ((s.view p).vs o).reqNo) (ref : List Byte)
include hasked hlo hhi

theorem outletAuthAnswer_of_asked {result : Nat} (hresult : result ≤ 1) {w : Replica} {y : Resp}
    (hw : (s.view p).authAnswered s.site.env o result pnc ident ref = (w, y)) (hopen : (w.ses n).phase = 3) :
    ∃ t : State, execOutletAuthAnswer n tag o reqId result ref s = .next t ∧ w.Answered (t.site.pav p).rep n tag 0x0307 y := by
  refine State.host_answers hstep hmay ((onOwned_of_owner _ howner).trans
    ((if_neg (request_known hlo hhi)).trans ((if_neg (Nat.not_lt.2 hresult)).trans ?_))) hopen
  rw [hasked]
  exact (if_neg (not_not.2 rfl)).trans hw

theorem outletAuthAnswer_grants (hawaits : (s.view p).awaits o = true) : ∃ t : State,
    execOutletAuthAnswer n tag o reqId 0 ref s = .next t ∧ (t.site.pav p).rep.answers n tag 0x0307 {} ∧
      ((t.site.pav p).rep.vs o).held = true ∧ ((t.site.pav p).rep.vs o).asked = none := by
  obtain ⟨hheld, hended, hphase⟩ := (s.view p).authTaken_advance_shows o.isLt s.site.env hawaits pnc 0 ident ref n
  obtain ⟨t, hrun, hanswered⟩ := outletAuthAnswer_of_asked (tag := tag) hstep hmay howner hasked hlo hhi ref (by decide)
    (Replica.authAnswered_of_granted s.site.env pnc ident ref hawaits) (hphase.trans hmay.1)
  exact ⟨t, hrun, hanswered.answers, (hanswered.keeps fun r => (r.vs o).held).trans hheld,
    (hanswered.keeps fun r => (r.vs o).asked).trans hended⟩

theorem outletAuthAnswer_refuses (hawaits : (s.view p).awaits o = true) : ∃ t : State,
    execOutletAuthAnswer n tag o reqId 1 ref s = .next t ∧ (t.site.pav p).rep.answers n tag 0x0307 {} ∧
      ((t.site.pav p).rep.vs o).held = ((s.view p).vs o).held ∧ ((t.site.pav p).rep.vs o).asked = none := by
  obtain ⟨t, hrun, hanswered⟩ := outletAuthAnswer_of_asked (tag := tag) hstep hmay howner hasked hlo hhi ref (by decide)
    (Replica.authAnswered_of_refused s.site.env pnc ident ref hawaits) (((s.view p).sesPhase_requestEnded o pnc 1 n).trans hmay.1)
  have hended := (s.view p).vehSide_requestEnded o.isLt pnc 1
  exact ⟨t, hrun, hanswered.answers, (hanswered.keeps fun r => (r.vs o).held).trans (congrArg (·.veh.held) hended),
    (hanswered.keeps fun r => (r.vs o).asked).trans (congrArg (·.veh.asked) hended)⟩

theorem outletAuthAnswer_of_late (hawaits : (s.view p).awaits o = false) : ∃ t : State,
    execOutletAuthAnswer n tag o reqId 0 ref s = .next t ∧ (t.site.pav p).rep.answers n tag 0x0307 (refuse hsExpired) := by
  obtain ⟨t, hrun, hanswered⟩ := outletAuthAnswer_of_asked (tag := tag) hstep hmay howner hasked hlo hhi ref (by decide)
    (Replica.authAnswered_of_late s.site.env pnc ident ref hawaits 0) (((s.view p).sesPhase_requestEnded o pnc 1 n).trans hmay.1)
  exact ⟨t, hrun, hanswered.answers⟩

end

section
variable {reqId : Nat} {answer : List Byte} (hlo : 1 ≤ reqId) (hhi : reqId ≤ ((s.view p).vs o).reqNo) (hlen : answer.length ≤ 4000)
include hlo hhi hlen

theorem outletCertAnswer_of_asked (hasked : ((s.view p).vs o).certAsked = some reqId) : ∃ t : State,
    execOutletCertAnswer n tag o reqId answer s = .next t ∧ (t.site.pav p).rep.answers n tag 0x0308 {} ∧
      ((t.site.pav p).rep.vs o).certAsked = none := by
  obtain ⟨t, hrun, hanswered⟩ : ∃ t : State, execOutletCertAnswer n tag o reqId answer s = .next t ∧ Replica.Answered
      (((s.view p).setVs o { (s.view p).vs o with certAsked := none }).dlpOut (o / 2) 0x20 (o % 2) 0 (answer.map BitVec.toNat) none)
        (t.site.pav p).rep n tag 0x0308 {} :=
    State.host_answers hstep hmay ((onOwned_of_owner _ howner).trans
    ((if_neg (request_known hlo hhi)).trans ((if_neg (Nat.not_lt.2 hlen)).trans
      (if_neg (not_not.2 hasked))))) hmay.1
  exact ⟨t, hrun, hanswered.answers, (hanswered.keeps fun r => (r.vs o).certAsked).trans
    (congrArg VehSession.certAsked ((s.view p).vs_setVs_same o.isLt _))⟩

theorem outletCertAnswer_of_other (hasked : ((s.view p).vs o).certAsked ≠ some reqId) : ∃ t : State,
    execOutletCertAnswer n tag o reqId answer s = .next t ∧ (t.site.pav p).rep.answers n tag 0x0308 (refuse hsExpired) := by
  exact State.host_gets hstep hmay ((onOwned_of_owner _ howner).trans
    ((if_neg (request_known hlo hhi)).trans ((if_neg (Nat.not_lt.2 hlen)).trans
    (if_pos hasked))))

end

end

theorem outletDisown_of_other (howner : vget (s.view p).owners o none ≠ some ((s.view p).ses n).principal) : ∃ t : State,
    execOutletDisown n tag o s = .next t ∧ (t.site.pav p).rep.answers n tag 0x0303 (refuse hsNotOwner) :=
  State.host_gets hstep hmay (onOwned_of_other _ howner)

theorem outletStart_of_other (ref : List Byte) (howner : vget (s.view p).owners o none ≠ some ((s.view p).ses n).principal) : ∃ t : State,
    execOutletStart n tag o ref s = .next t ∧ (t.site.pav p).rep.answers n tag 0x0305 (refuse hsNotOwner) :=
  State.host_gets hstep hmay (onOwned_of_other _ howner)

/-! ### Service (R302) -/

/-- The order out of service takes an idle outlet to UNAVAILABLE, and stands. -/
theorem outletServiceSet_of_idle (hidle : (s.view p).ostate o = osIdle) : ∃ t : State, execOutletServiceSet n tag o 1 s = .next t ∧
    (t.site.pav p).rep.answers n tag 0x030A {} ∧ (t.site.pav p).rep.ostate o = osUnavailable ∧
      ((t.site.pav p).rep.vs o).outOfService = true := by
  obtain ⟨t, hrun, hanswered⟩ : ∃ t : State, execOutletServiceSet n tag o 1 s = .next t ∧ Replica.Answered
      (((s.view p).setVs o { (s.view p).vs o with outOfService := true }).goto s.site.env o osUnavailable) (t.site.pav p).rep n tag 0x030A {} :=
    State.host_answers hstep hmay ((onOutlet_of_outlet _ (s.view p) o).trans (by
      have hstate : ((s.view p).setVs o { (s.view p).vs o with outOfService := true }).ostate o = osIdle := hidle
      simp [hstate, osIdle, osCableCheck])) ((Replica.sesPhase_goto_osUnavailable _ n s.site.env o).trans hmay.1)
  have hshown := ((s.view p).setVs o { (s.view p).vs o with outOfService := true }).vehSide_goto_osUnavailable s.site.env o.isLt
  rw [(s.view p).vehSide_setVs o.isLt] at hshown
  exact ⟨t, hrun, hanswered.answers, (hanswered.keeps fun r => r.ostate o).trans (congrArg VehSide.state hshown),
    (hanswered.keeps fun r => (r.vs o).outOfService).trans (congrArg (·.veh.outOfService) hshown)⟩

theorem outletServiceSet_of_zero : ∃ t : State, execOutletServiceSet n tag o 0 s = .next t ∧
    (t.site.pav p).rep.answers n tag 0x030A {} ∧ ((t.site.pav p).rep.vs o).outOfService = false ∧
      (t.site.pav p).rep.ostate o = (s.view p).ostate o := by
  obtain ⟨t, hrun, hanswered⟩ : ∃ t : State, execOutletServiceSet n tag o 0 s = .next t ∧ Replica.Answered
      ((s.view p).setVs o { (s.view p).vs o with outOfService := false }) (t.site.pav p).rep n tag 0x030A {} :=
    State.host_answers hstep hmay (onOutlet_of_outlet _ (s.view p) o) hmay.1
  exact ⟨t, hrun, hanswered.answers, (hanswered.keeps fun r => (r.vs o).outOfService).trans
    (congrArg VehSession.outOfService ((s.view p).vs_setVs_same o.isLt _)), hanswered.keeps fun r => r.ostate o⟩

end

/-! ### Stop and fault clear (R302 to R304) -/

section
variable (hmay : (s.view p).maySend n rolesBoth false)
include hmay

theorem outletStop_of_energised (hlo : osCableCheck ≤ (s.view p).ostate o) (hhi : (s.view p).ostate o ≤ osCharging) : ∃ t : State,
    execOutletStop n tag o s = .next t ∧ (t.site.pav p).rep.answers n tag 0x0306 {} ∧ (t.site.pav p).rep.ostate o = osStopping ∧
      (t.site.pav p).rep.rd .DLK_OSTATE_CAUSE o = ocHostStop := by
  obtain ⟨t, hrun, hanswered⟩ : ∃ t : State, execOutletStop n tag o s = .next t ∧
      ((s.view p).stopOutlet s.site.env o ocHostStop).Answered (t.site.pav p).rep n tag 0x0306 {} :=
    State.host_answers hstep hmay ((onOutlet_of_outlet _ (s.view p) o).trans (if_pos (by simp [hlo, hhi])))
      (((s.view p).sesPhase_stopOutlet n s.site.env o ocHostStop).trans hmay.1)
  obtain ⟨hstate, hcause⟩ := Replica.stopOutlet_shows s.site.env (cause := ocHostStop) (by decide)
    (Nat.le_trans (by decide) hlo : osNegotiating ≤ (s.view p).ostate o) hhi
  exact ⟨t, hrun, hanswered.answers, (hanswered.keeps fun r => r.ostate o).trans hstate,
    (hanswered.keeps fun r => r.rd .DLK_OSTATE_CAUSE o).trans hcause⟩

theorem outletStop_of_not_energised (hlt : (s.view p).ostate o < osCableCheck) : ∃ t : State, execOutletStop n tag o s = .next t ∧
    (t.site.pav p).rep.answers n tag 0x0306 (refuse hsWrongState) := by
  have hlow : (s.view p).ostate o < 4 := hlt
  have hnot : (s.view p).ostate o ≠ osStopping := by
    rintro heq
    rw [heq] at hlow
    exact absurd hlow (by decide)
  exact State.host_gets hstep hmay ((onOutlet_of_outlet _ (s.view p) o).trans ((if_neg (by simp; omega)).trans (if_neg hnot)))

section
variable (hfault : (s.view p).ostate o = osFault)
include hfault

theorem outletFaultClear_of_clear (hclear : (s.view p).rd .DLK_OSTATE_WELD_OWED o = 0) : ∃ t : State,
    execOutletFaultClear n tag o s = .next t ∧ (t.site.pav p).rep.answers n tag 0x0309 {} ∧ (t.site.pav p).rep.ostate o = osIdle := by
  obtain ⟨t, hrun, hanswered⟩ : ∃ t : State, execOutletFaultClear n tag o s = .next t ∧
      ((s.view p).goto s.site.env o osIdle).Answered (t.site.pav p).rep n tag 0x0309 {} :=
    State.host_answers hstep hmay ((onOutlet_of_outlet _ (s.view p) o).trans ((if_neg (not_not.2 hfault)).trans (if_pos hclear)))
      (((s.view p).sesPhase_goto_osIdle n s.site.env o).trans hmay.1)
  exact ⟨t, hrun, hanswered.answers, (hanswered.keeps fun r => r.ostate o).trans
    (congrArg VehSide.state ((s.view p).vehSide_goto_osIdle s.site.env o.isLt))⟩

/-- A weld test that is owed comes first, on an ACTIVE link. -/
theorem outletFaultClear_of_owed (howed : (s.view p).rd .DLK_OSTATE_WELD_OWED o = 1) (hlink : (s.view p).dstate (o / 2) = dsActive) :
    ∃ t : State, execOutletFaultClear n tag o s = .next t ∧ (t.site.pav p).rep.answers n tag 0x0309 {} ∧
      (t.site.pav p).rep.ostate o = osWeldCheck := by
  have hweld : ¬(s.view p).rd .DLK_OSTATE_WELD_OWED o = 0 := by
    rw [howed]
    decide
  obtain ⟨t, hrun, hanswered⟩ : ∃ t : State, execOutletFaultClear n tag o s = .next t ∧ Replica.Answered
      (((s.view p).goto s.site.env o osWeldCheck).setSo o { ((s.view p).goto s.site.env o osWeldCheck).so o with weld := .drop })
        (t.site.pav p).rep n tag 0x0309 {} :=
    State.host_answers hstep hmay ((onOutlet_of_outlet _ (s.view p) o).trans ((if_neg (not_not.2 hfault)).trans
      ((if_neg hweld).trans (if_neg (not_not.2 hlink))))) (((s.view p).sesPhase_goto_osWeldCheck n s.site.env o).trans hmay.1)
  exact ⟨t, hrun, hanswered.answers, (hanswered.keeps fun r => r.ostate o).trans
    (congrArg VehSide.state ((s.view p).vehSide_goto_none s.site.env o (st := osWeldCheck) (by decide)))⟩

end

theorem outletFaultClear_of_not_fault (hnot : (s.view p).ostate o ≠ osFault) : ∃ t : State, execOutletFaultClear n tag o s = .next t ∧
    (t.site.pav p).rep.answers n tag 0x0309 (refuse hsWrongState) :=
  State.host_gets hstep hmay ((onOutlet_of_outlet _ (s.view p) o).trans (if_pos hnot))

end

/-! ### Commissioning (R302) -/

section
variable (hmay : (s.view p).maySend n rolesOem true)
include hmay

theorem outletCommission_of_idle (hidle : (s.view p).ostate o = osIdle) : ∃ t : State, execOutletCommission n tag o 1 s = .next t ∧
    (t.site.pav p).rep.answers n tag 0x030C {} ∧ (t.site.pav p).rep.ostate o = osCommission := by
  obtain ⟨t, hrun, hanswered⟩ : ∃ t : State, execOutletCommission n tag o 1 s = .next t ∧
      ((s.view p).goto s.site.env o osCommission).Answered (t.site.pav p).rep n tag 0x030C {} :=
    State.host_answers hstep hmay ((onOutlet_of_outlet _ (s.view p) o).trans (by simp [hidle]))
      (((s.view p).sesPhase_goto_osCommission n s.site.env o).trans hmay.1)
  exact ⟨t, hrun, hanswered.answers, (hanswered.keeps fun r => r.ostate o).trans
    (congrArg VehSide.state ((s.view p).vehSide_goto_none s.site.env o (st := osCommission) (by decide)))⟩

theorem outletCommission_of_commission (hcommission : (s.view p).ostate o = osCommission) : ∃ t : State,
    execOutletCommission n tag o 0 s = .next t ∧ (t.site.pav p).rep.answers n tag 0x030C {} ∧ (t.site.pav p).rep.ostate o = osIdle := by
  obtain ⟨t, hrun, hanswered⟩ : ∃ t : State, execOutletCommission n tag o 0 s = .next t ∧
      ((s.view p).goto s.site.env o osIdle).Answered (t.site.pav p).rep n tag 0x030C {} :=
    State.host_answers hstep hmay ((onOutlet_of_outlet _ (s.view p) o).trans (by simp [hcommission]))
      (((s.view p).sesPhase_goto_osIdle n s.site.env o).trans hmay.1)
  exact ⟨t, hrun, hanswered.answers, (hanswered.keeps fun r => r.ostate o).trans
    (congrArg VehSide.state ((s.view p).vehSide_goto_osIdle s.site.env o.isLt))⟩

theorem outletCommission_of_plugged (hplugged : (s.view p).ostate o = osPlugged) : ∃ t : State,
    execOutletCommission n tag o 1 s = .next t ∧ (t.site.pav p).rep.answers n tag 0x030C (refuse hsWrongState) :=
  State.host_gets hstep hmay ((onOutlet_of_outlet _ (s.view p) o).trans (by simp [hplugged, osPlugged, osIdle]))

end

/-! ### Status (R440) -/

section
variable (hmay : (s.view p).maySend n rolesAll false)
include hmay

theorem siteStatusRead_answers : ∃ b : List Byte, b.length = 44 ∧ ∃ t : State, execSiteStatusRead n tag s = .next t ∧
    (t.site.pav p).rep.answers n tag 0x0202 { body := leBytes 4 ((s.view p).rd .CTL_PSITE_LIMIT) ++ b } := by
  refine ⟨_, ?_, State.host_gets hstep hmay (by
    simp only [List.append_assoc]
    rfl)⟩
  simp [leBytes_length, List.length_flatten, Function.comp_def]

theorem outletStatusRead_of_outlet : ∃ b : List Byte, b.length = 28 ∧ ∃ t : State, execOutletStatusRead n tag o s = .next t ∧
    (t.site.pav p).rep.answers n tag 0x030B { body := b ++ leBytes 8 ((vget (s.view p).owners o none).getD 0) } := by
  refine ⟨_, ?_, State.host_gets hstep hmay (onOutlet_of_outlet _ (s.view p) o)⟩
  simp [leBytes_length]

theorem outletStatusRead_of_no_outlet {k : Nat} (hk : 24 ≤ k) : ∃ t : State, execOutletStatusRead n tag k s = .next t ∧
    (t.site.pav p).rep.answers n tag 0x030B (refuse hsBadValue 16) := State.host_gets hstep hmay (if_pos hk)

theorem groupStatusRead_answers (g : Grp) : ∃ t : State, execGroupStatusRead n tag g s = .next t ∧
    (t.site.pav p).rep.answers n tag 0x0311 { body := (s.view p).statusRecord g ++ leBytes 4 ((s.view p).regs.word .CTL (0x800 + 4 * g)) } :=
  State.host_gets hstep hmay (if_neg (Nat.not_le.2 g.isLt))

end

end

/-- Settles O46: one lemma per outcome of each command above. -/
theorem hostOutletCommands : Obligations.HostOutletCommands := by
  intro p n tag o s hstep r r' me owner gets moves may
  refine ⟨fun hmay => ⟨fun power ttl => ⟨fun hpower hlo hhi => ?_, fun hpower hbad => ?_, fun hpower => ?_⟩,
      fun power amps ttl pExp iExp => ⟨fun hlo hhi => ?_, fun hbad => ?_⟩, fun force => ⟨fun howner => ?_, fun q howner hother hforce => ?_⟩,
      fun howner => ⟨?_, fun prio => ⟨fun hprio => ?_, fun hprio => ?_⟩, fun ref => ⟨fun hawaits => ?_, fun hawaits => ?_,
        fun reqId pnc ident hasked hlo hhi => ⟨fun hawaits => ⟨?_, ?_⟩, fun hawaits => ?_⟩⟩,
        fun reqId answer hlo hhi hlen => ⟨fun hasked => ?_, fun hasked => ?_⟩⟩,
      fun howner => ⟨?_, ?_⟩, fun hidle => ?_, ?_⟩,
    fun hmay => ⟨fun hlo hhi => ?_, fun hlt => ?_, fun hfault => ⟨fun hclear => ?_, fun howed hlink => ?_⟩, fun hnot => ?_⟩,
    fun hmay => ⟨fun hidle => ?_, fun hcommission => ?_, fun hplugged => ?_⟩, fun hmay => ⟨?_, ?_, fun g => ?_, fun k hk => ?_⟩⟩
  · exact siteLimitSet_of_ttl hstep hmay hpower hlo hhi
  · exact siteLimitSet_of_bad_ttl hstep hmay hpower hbad
  · exact siteLimitSet_of_zero hstep hmay hpower ttl
  · exact outletLimitSet_of_ttl hstep hmay hlo hhi
  · exact outletLimitSet_of_bad_ttl hstep hmay power amps pExp iExp hbad
  · exact outletOwn_of_free hstep hmay force howner
  · rw [hforce]
    exact outletOwn_of_owned hstep hmay howner hother
  · exact outletDisown_of_owner hstep hmay howner
  · exact outletPrioritySet_of_le hstep hmay howner hprio
  · exact outletPrioritySet_of_gt hstep hmay howner hprio
  · exact outletStart_of_awaits hstep hmay howner ref hawaits
  · exact outletStart_of_not_awaits hstep hmay howner ref hawaits
  · exact outletAuthAnswer_grants hstep hmay howner hasked hlo hhi ref hawaits
  · exact outletAuthAnswer_refuses hstep hmay howner hasked hlo hhi ref hawaits
  · exact outletAuthAnswer_of_late hstep hmay howner hasked hlo hhi ref hawaits
  · exact outletCertAnswer_of_asked hstep hmay howner hlo hhi hlen hasked
  · exact outletCertAnswer_of_other hstep hmay howner hlo hhi hlen hasked
  · exact outletDisown_of_other hstep hmay howner
  · exact outletStart_of_other hstep hmay [] howner
  · exact outletServiceSet_of_idle hstep hmay hidle
  · exact outletServiceSet_of_zero hstep hmay
  · exact outletStop_of_energised hstep hmay hlo hhi
  · exact outletStop_of_not_energised hstep hmay hlt
  · exact outletFaultClear_of_clear hstep hmay hfault hclear
  · exact outletFaultClear_of_owed hstep hmay hfault howed hlink
  · exact outletFaultClear_of_not_fault hstep hmay hnot
  · exact outletCommission_of_idle hstep hmay hidle
  · exact outletCommission_of_commission hstep hmay hcommission
  · exact outletCommission_of_plugged hstep hmay hplugged
  · exact siteStatusRead_answers hstep hmay
  · exact outletStatusRead_of_outlet hstep hmay
  · exact groupStatusRead_answers hstep hmay g
  · exact outletStatusRead_of_no_outlet hstep hmay hk

end Sys2Proof.Machine
end

section
/-! PROOFS. What a transition of an outlet leaves: the marks and gates of the safety engine, its link, and every other outlet (R302, R303). -/
namespace Sys2Proof.Machine

/-! ### What shows nothing of a transition -/

/-- The fields that no transition out of a state other than FAULT writes: the marks of a trip, the weld test owed, and what shows of the
outlet's link. -/
def stillFields : List Field :=
  [.SAF_STOP_STOP, .SAF_OTRIP_FUNC, .SAF_EVENT_SF2_TRIP, .DLK_OSTATE_WELD_OWED, .DLK_LSTATE_STATE, .DLK_EVENT_LINK_LOST, .DLK_EVENT_DLP_FAIL]

/-- A field shows nothing of the transitions of outlet `k`: one of those, or the vehicle's side of another outlet. -/
abbrev Field.Aside (k : Nat) (f : Field) (i : Nat) : Prop := f ∈ stillFields ∨ f ∈ vehFields ∧ i ≠ k

theorem isCount_of_aside {k : Nat} {f : Field} {i : Nat} (h : f.Aside k i) : f.isCount = false := by
  obtain h | ⟨h, -⟩ := h
  · revert f
    decide
  · exact isCount_of_mem_vehFields f h

theorem mem_of_aside {k : Nat} {f : Field} {i : Nat} (h : f.Aside k i) : f ∈ stillFields ++ vehFields :=
  List.mem_append.2 (h.imp_right And.left)

/-- What a replica shows aside from the transitions of outlet `k`: those fields, and the gates that the safety engine asks for. -/
def Replica.aside (r : Replica) (k : Nat) : (Field → Nat → Nat) × Nat :=
  (fun f i => if f.Aside k i then r.rd f i else 0, r.safety.gates)

section
variable {r r' : Replica} {k : Nat}

theorem Replica.aside_of_rd (hrd : ∀ (f : Field) (i : Nat), f.Aside k i → r'.rd f i = r.rd f i) (hgates : r'.safety.gates = r.safety.gates) :
    r'.aside k = r.aside k := by
  refine Prod.ext (funext fun f => funext fun i => ?_) hgates
  simp only [Replica.aside]
  split
  · next h => exact hrd f i h
  · rfl

theorem Replica.aside_of_regs (hregs : r'.regs = r.regs) (hgates : r'.safety.gates = r.safety.gates) : r'.aside k = r.aside k :=
  Replica.aside_of_rd (fun f i _ => by rw [Replica.rd, hregs]; rfl) hgates

theorem Replica.rd_of_aside (h : r'.aside k = r.aside k) {f : Field} {i : Nat} (hf : f.Aside k i) : r'.rd f i = r.rd f i := by
  have hi := congrFun (congrFun (congrArg Prod.fst h) f) i
  simpa only [Replica.aside, if_pos hf] using hi

theorem Replica.gates_of_aside (h : r'.aside k = r.aside k) : r'.safety.gates = r.safety.gates := congrArg Prod.snd h

theorem Replica.Reported.aside (h : r.Reported r') : r'.aside k = r.aside k := by
  refine Replica.aside_of_rd (fun f i hf => h.rd (ne_of_mem_of_not_mem (mem_of_aside hf) (by decide)) (isCount_of_aside hf) i) ?_
  obtain ⟨_, _, _, _, rfl, _⟩ := h
  rfl

end

section
variable (r : Replica) (v : Env) (k : Nat)

@[simp] theorem Replica.aside_wr {f : Field} (x i : Nat) (hf : f ∉ stillFields ++ vehFields) : (r.wr f x i).aside k = r.aside k :=
  Replica.aside_of_rd (fun _ _ hg => r.rd_wr_of_ne _ _ _ (ne_of_mem_of_not_mem (mem_of_aside hg) hf)) rfl

/-- The vehicle's side of an outlet shows at that outlet alone. -/
@[simp] theorem Replica.aside_wr_veh {f : Field} (x : Nat) (hf : f ∉ stillFields) : (r.wr f x k).aside k = r.aside k := by
  refine Replica.aside_of_rd (fun g i hg => Regs.rd_wr_ne _ _ _ _ _ _ ?_) rfl
  exact hg.imp (fun hg => ne_of_mem_of_not_mem hg hf) And.right

@[simp] theorem Replica.aside_raise {f : Field} (i : Nat) (hf : f ∉ stillFields ++ vehFields) : (r.raise f i).aside k = r.aside k :=
  Replica.aside_of_rd (fun _ _ hg => r.rd_raise_of_ne _ _ (ne_of_mem_of_not_mem (mem_of_aside hg) hf) (isCount_of_aside hg)) rfl

@[simp] theorem Replica.aside_setVs (o : Nat) (x : VehSession) : (r.setVs o x).aside k = r.aside k := Replica.aside_of_regs rfl rfl
@[simp] theorem Replica.aside_setOut (o : Nat) (x : OutletLoop) : (r.setOut o x).aside k = r.aside k := Replica.aside_of_regs rfl rfl
@[simp] theorem Replica.aside_setSo (o : Nat) (x : SafetyOutlet) : (r.setSo o x).aside k = r.aside k := Replica.aside_of_regs rfl rfl
@[simp] theorem Replica.aside_setMeter (o : Nat) (x : Meter) : (r.setMeter o x).aside k = r.aside k := Replica.aside_of_regs rfl rfl
@[simp] theorem Replica.aside_withLegal (f : Legal → Legal) : (r.withLegal f).aside k = r.aside k := Replica.aside_of_regs rfl rfl
@[simp] theorem Replica.aside_adoptSafety (o : Nat) : (r.adoptSafety o).aside k = r.aside k := Replica.aside_of_regs rfl rfl

@[simp] theorem Replica.aside_setCtx (cls i : Nat) (x : Option KeyContext) : (r.setCtx cls i x).aside k = r.aside k := by
  have hfield : ctxField cls ∉ stillFields ++ vehFields := by
    unfold ctxField
    split <;> decide
  unfold Replica.setCtx
  split
  · rfl
  · exact r.aside_wr k _ 0 hfield

@[simp] theorem Replica.aside_eventClass (cls code : Nat) (data : List Nat) : (r.eventClass cls code data).aside k = r.aside k :=
  (r.reported_eventClass cls code data).aside

@[simp] theorem Replica.aside_journal (now location instNo outcome reaction cause : Nat) (detail : List Byte) :
    (r.journal now location instNo outcome reaction cause detail).aside k = r.aside k :=
  (r.reported_journal now location instNo outcome reaction cause detail).aside

@[simp] theorem Replica.aside_writeMode (o m : Nat) : (r.writeMode o m).aside k = r.aside k := by
  refine Replica.aside_of_rd (fun f i hf => (r.writesOnly_writeMode_mode o m).rd f i ?_ (isCount_of_aside hf)) ?_
  · have hapart : ∀ f ∈ stillFields ++ vehFields, f ∉ modeFields := by decide
    exact hapart f (mem_of_aside hf)
  · have hsafety : (r.modeWritten o m).safety = r.safety := by
      unfold Replica.modeWritten
      dsimp only
      split <;> rfl
    obtain h | h := r.writeMode_cases o m <;> rw [h]
    · exact congrArg Safety.gates hsafety
    · refine congrArg Safety.gates ((foldl_keeps Replica.safety (fun r i => ?_) _ _).trans hsafety)
      split <;> rfl

@[simp] theorem Replica.aside_outSend (o type : Nat) (body : List Nat) : (r.outSend o type body).aside k = r.aside k := by
  unfold Replica.outSend Replica.dlpSend
  dsimp only
  split <;> rfl

/-! ### The legal log, the sensor heads and the safety set (R322, R335 to R348, R387) -/

@[simp] theorem Replica.aside_legalEvent (code outlet tx : Nat) (detail : List Byte) :
    (r.legalEvent v code outlet tx detail).aside k = r.aside k := by
  simp (disch := decide) [Replica.legalEvent, Replica.legalCounters, Replica.legalWrite]

@[simp] theorem Replica.aside_countSlots : (r.countSlots v).aside k = r.aside k := by
  unfold Replica.countSlots
  dsimp only
  split <;> split <;> simp (disch := decide)

@[simp] theorem Replica.aside_putSlot (n : Nat) (x : LegalSlot) : (r.putSlot v n x).aside k = r.aside k := Replica.aside_countSlots _ v k

@[simp] theorem Replica.aside_adoptMeter (o : Nat) : (r.adoptMeter v o).aside k = r.aside k := by
  unfold Replica.adoptMeter
  dsimp only
  split
  · rfl
  · split <;> split <;> simp (disch := decide)

@[simp] theorem Replica.aside_releaseSlot (o : Nat) : (r.releaseSlot v o).aside k = r.aside k := by
  unfold Replica.releaseSlot
  split <;> simp (disch := decide)

@[simp] theorem Replica.aside_commitTrans (o : Nat) (t : Trans) (reason cause : Nat) :
    (r.commitTrans v o t reason cause).aside k = r.aside k := by
  unfold Replica.commitTrans
  dsimp only
  split <;> simp (disch := decide) [Replica.legalCounters, Replica.legalWrite]

@[simp] theorem Replica.aside_closeTrans (o reason cause : Nat) : (r.closeTrans v o reason cause).aside k = r.aside k :=
  r.closeTrans_keeps (·.aside k) (by simp) (by simp) v o reason cause

@[simp] theorem Replica.aside_setHead (o st : Nat) : (r.setHead o st).aside k = r.aside k := by
  unfold Replica.setHead
  dsimp only
  split <;> simp (disch := decide)

@[simp] theorem Replica.aside_renewHead (o st : Nat) : (r.renewHead o st).aside k = r.aside k := by
  unfold Replica.renewHead
  split
  · simp (disch := decide) [Replica.startHead]
  · rfl

@[simp] theorem Replica.aside_moveSafety (o : Nat) : (r.moveSafety v o).aside k = r.aside k := by
  unfold Replica.moveSafety
  split <;> simp (disch := decide)

@[simp] theorem Replica.aside_endSession (o : Nat) : (r.endSession v o).aside o = r.aside o := by
  simp (disch := decide) [Replica.endSession, Replica.writeVeh]

/-! ### Transitions (R302) -/

@[simp] theorem Replica.aside_setOstate (st : Nat) (cause : Option Nat) : (r.setOstate v k st cause).aside k = r.aside k := by
  unfold Replica.setOstate
  cases cause <;> simp (disch := decide)

theorem Replica.aside_stopOutlet (cause : Nat) : (r.stopOutlet v k cause).aside k = r.aside k := by
  unfold Replica.stopOutlet
  dsimp only
  split
  · exact r.aside_setOstate v k _ _
  · rfl

/-- The states that a stop, a fault or a lost link lead to. -/
def lossStates : List Nat := [osWeldCheck, osFault, osUnavailable]

theorem Replica.aside_entryEffects {st : Nat} (hst : st ∈ lossStates) (old cause : Nat) :
    (r.entryEffects v k old st cause).aside k = r.aside k := by
  simp only [lossStates, List.mem_cons, List.not_mem_nil, or_false] at hst
  obtain rfl | rfl | rfl := hst
  · exact r.aside_closeTrans v k k 1 _
  · obtain ⟨q, hentry, hq⟩ : ∃ q : Replica, r.entryEffects v k old osFault cause = (q.releaseSlot v k).adoptSafety k ∧
        q.aside k = r.aside k := by
      refine ⟨_, rfl, ?_⟩
      dsimp only
      split <;> split <;> simp
    rw [hentry, Replica.aside_adoptSafety, Replica.aside_releaseSlot, hq]
  · exact r.aside_endSession v k

/-- A transition out of a state other than FAULT shows nothing aside from its outlet. -/
theorem Replica.aside_goto {st : Nat} (hst : st ∈ lossStates) (cause : Option Nat) (hold : r.ostate k ≠ osFault) :
    (r.goto v k st cause).aside k = r.aside k := by
  unfold Replica.goto
  simp [hold, Replica.aside_entryEffects _ v k hst]

/-- To FAULT with the weld test owed. -/
theorem Replica.aside_goto_owed (cause : Option Nat) (hold : r.ostate k ≠ osFault) :
    ((r.wr .DLK_OSTATE_WELD_OWED 1 k).goto v k osFault cause).aside k = (r.wr .DLK_OSTATE_WELD_OWED 1 k).aside k :=
  Replica.aside_goto _ v k (by decide) cause fun h => hold ((r.rd_wr_of_ne _ _ _ (by decide)).symm.trans h)

end

end Sys2Proof.Machine
end

section
/-! PROOFS. The timers of the outlet states, and the ends of STOPPING (R302 to R304, R309, R376, R377). -/
namespace Sys2Proof.Machine

/-! ### The end of a wait for authorisation (R302) -/

theorem Replica.vehSide_goto_osUnplugWait (r : Replica) (v : Env) {o : Nat} (ho : o < 24) {cause : Option Nat} (hcause : ∀ c ∈ cause, c < 256) :
    (r.goto v o osUnplugWait cause).vehSide o =
      { r.vehSide o with state := osUnplugWait, cause := cause.getD (r.vehSide o).cause, proto := 0, veh := (r.vehSide o).veh.ended } := by
  have hentry : ∀ (q : Replica) (old c : Nat), q.entryEffects v o old osUnplugWait c = q.endSession v o := fun _ _ _ => rfl
  rw [r.vehSide_goto_eq, hentry, Replica.vehSide_endSession _ v ho, r.vehSide_entered v o (by decide) hcause]

/-! ### An immediate stop leaves the vehicle's side (R204, R213) -/

theorem Replica.Reported.vehs {r r' : Replica} (h : r.Reported r') : r'.vehs = r.vehs := by
  obtain ⟨_, _, _, _, rfl, _⟩ := h
  rfl

section
variable (r : Replica) (v : Env) (o cause : Nat) (grp : Option Nat)

theorem Replica.vehs_openJournal : (r.openJournal v o cause grp).vehs = r.vehs := by
  unfold Replica.openJournal
  split <;> exact (r.reported_journal _ _ _ _ _ _ _).vehs

theorem Replica.vehs_opening : (r.opening v o cause grp).vehs = r.vehs := by
  have hring : ∀ (q : Replica) (g : Nat), (q.freezeRing v g cause).vehs = q.vehs := fun q g => by
    unfold Replica.freezeRing
    split <;> rfl
  have hinj : ∀ q : Replica, (q.endInjOn o 3).vehs = q.vehs := foldl_keeps Replica.vehs (fun r i => by split <;> rfl) _
  have hmark : ∀ q : Replica, (q.markOpening o).vehs = q.vehs := fun _ => rfl
  unfold Replica.opening
  simp only [Replica.setOut_vehs, Replica.vehs_openJournal, hmark, hinj, foldl_keeps Replica.vehs hring]

theorem Replica.vehs_addCause : (r.addCause v o cause grp).vehs = r.vehs := by
  unfold Replica.addCause
  dsimp only
  split
  · rw [Replica.setOut_vehs, foldl_keeps Replica.vehs (by exact fun _ _ => rfl), Replica.wr_vehs, Replica.vehs_openJournal]
  · rw [Replica.setOut_vehs, Replica.vehs_openJournal]

theorem Replica.vehs_stopNow : (r.stopNow v o cause).vehs = r.vehs := by
  unfold Replica.stopNow
  dsimp only
  rw [Replica.wr_vehs, Replica.wr_vehs]
  split
  · exact r.vehs_addCause v o cause none
  · split
    · exact r.vehs_opening v o cause none
    · rw [Replica.wr_vehs, Replica.setOut_vehs, r.vehs_opening]

theorem Replica.vehSide_stopNow : (r.stopNow v o cause).vehSide o = r.vehSide o := by
  have hapart : ∀ f ∈ vehFields, f ∉ openingFields ∧ f ∉ outletFields := by decide
  refine Replica.vehSide_of_rd (fun f hf => ?_) (r.vehs_stopNow v o cause)
  obtain ⟨hopening, hplace⟩ := hapart f hf
  exact r.showsAt_stopNow v o cause f o hopening (isCount_of_mem_vehFields f hf) fun h => absurd h hplace

end

/-! ### The lapse of T_STOP (R302, R376) -/

section
variable (r : Replica) (v : Env) {o : Nat}

/-- The marks of a trip: the events of its triggers, STOP, the grants withheld, the function and DETAIL of the trip, and the block. -/
def Replica.tripMarked (o : Nat) (ts : List (Nat × Nat × Nat)) (func detail : Nat) : Replica :=
  let r := ts.foldl (fun r t => r.safEvent (sfEvent t.1) o) r
  let r := (r.wr .SAF_STOP_STOP (putBit (r.rd .SAF_STOP_STOP) o true)).withholdGrants o
  ((r.wr .SAF_OTRIP_FUNC func o).wr .SAF_OTRIP_DETAIL detail o).wr .SAF_BLOCK_BLOCK (putBit (r.rd .SAF_BLOCK_BLOCK) o true)

/-- What a trip does after its marks: the converter stops at once, and the gate is to be cleared. -/
def Replica.tripStopped (o : Nat) (due : Option Nat) : Replica :=
  let r := r.stopNow v o coSafetyStop
  let r := r.setOut o { r.out o with faultDue := due }
  r.setSo o { r.so o with clearing := true, zcRun := 0 }

theorem Replica.trip_of_running {ts : List (Nat × Nat × Nat)} {func detail cause : Nat} (hts : ts ≠ []) (hon : r.energised o = true)
    (hnot : r.stopped o = false) (hsf7 : (ts.any fun t => t.1 = 7) = false) (hcause : tripCause ts = (func, detail, cause)) :
    r.trip v o ts = (r.tripMarked o ts func detail).tripStopped v o
      (if cause = 0 then ((r.tripMarked o ts func detail).out o).faultDue else some cause) := by
  unfold Replica.trip
  rw [hcause, hsf7, hon, hnot, if_neg (by simpa using hts)]
  rfl

/-- The lapse of T_STOP marks the outlet by SF2 and brings no cause. -/
theorem Replica.trip_of_lapse (hstopping : r.ostate o = osStopping) (hnot : r.stopped o = false) : ∃ due : Option Nat,
    r.trip v o [(2, 0xFF, 0)] = (r.tripMarked o [(2, 0xFF, 0)] 2 0xFF).tripStopped v o due := by
  have hon : r.energised o = true := by
    rw [Replica.energised, hstopping]
    rfl
  exact ⟨_, r.trip_of_running v (func := 2) (detail := 0xFF) (cause := 0) (by decide) hon hnot rfl rfl⟩

theorem Replica.lapse_marks (ho : o < 24) : let w := r.tripMarked o [(2, 0xFF, 0)] 2 0xFF
    w.vehSide o = r.vehSide o ∧ w.stopped o = true ∧ w.rd .SAF_OTRIP_FUNC o = 2 ∧ w.rd .SAF_EVENT_SF2_TRIP = 1 := by
  intro w
  have hw : w = Replica.tripMarked r o [(2, 0xFF, 0)] 2 0xFF := rfl
  simp only [Replica.tripMarked, List.foldl_cons, List.foldl_nil, sfEvent, Replica.withholdGrants] at hw
  rw [hw]
  refine ⟨by simp (disch := decide) [Replica.safEvent], ?_, ?_, ?_⟩
  · simp (disch := decide) only [Replica.stopped, Replica.rd_wr_of_ne, Replica.rd_wr_same]
    exact bitOf_putBit_true _ ho
  · simp (disch := decide) only [Replica.rd_wr_of_ne, Replica.rd_wr_same]
    rfl
  · simp (disch := decide) only [Replica.rd_wr_of_ne, Replica.safEvent]
    exact ((Replica.reported_eventClass _ 5 evSafety _).rd (by decide) rfl 0).trans (r.rd_raise_same _ 0 rfl (by decide))

theorem Replica.vehSide_tripStopped (due : Option Nat) : (r.tripStopped v o due).vehSide o = r.vehSide o := by
  rw [Replica.tripStopped, Replica.vehSide_setSo, Replica.vehSide_setOut, Replica.vehSide_stopNow]

theorem Replica.rd_tripStopped (due : Option Nat) {f : Field} (i : Nat) (hf : f ∉ openingFields) (hplace : f ∉ outletFields)
    (hc : f.isCount = false) : (r.tripStopped v o due).rd f i = r.rd f i :=
  r.showsAt_stopNow v o coSafetyStop f i hf hc fun h => absurd h hplace

theorem Replica.trip_of_lapse_shows (ho : o < 24) (hstopping : r.ostate o = osStopping) (hnot : r.stopped o = false) :
    let w := r.trip v o [(2, 0xFF, 0)]
    w.vehSide o = r.vehSide o ∧ w.stopped o = true ∧ w.rd .SAF_OTRIP_FUNC o = 2 ∧ w.rd .SAF_EVENT_SF2_TRIP = 1 := by
  obtain ⟨hveh, hstop, hfunc, hevent⟩ := r.lapse_marks ho
  obtain ⟨due, htrip⟩ := r.trip_of_lapse v hstopping hnot
  rw [htrip]
  refine ⟨(Replica.vehSide_tripStopped _ v due).trans hveh, ?_, ?_, ?_⟩
  · rw [Replica.stopped, Replica.rd_tripStopped _ v due 0 (by decide) (by decide) rfl]
    exact hstop
  · exact (Replica.rd_tripStopped _ v due o (by decide) (by decide) rfl).trans hfunc
  · exact (Replica.rd_tripStopped _ v due 0 (by decide) (by decide) rfl).trans hevent

end

/-! ### The end of STOPPING (R302, R304) -/

section
variable (r : Replica) (v : Env) (o : Nat)

theorem Replica.ostate_endStopping : (r.endStopping v o).ostate o = if (r.vs o).lost then osFault else osWeldCheck := by
  unfold Replica.endStopping
  split
  · exact congrArg VehSide.state (Replica.vehSide_goto _ v o (st := osFault) (cause := some ocDispenserLost) (by decide) (by decide))
  · exact congrArg VehSide.state (r.vehSide_goto_none v o (st := osWeldCheck) (by decide))

section
variable {r o} (hold : r.ostate o ≠ osFault)
include hold

/-- The end of STOPPING keeps the marks of a trip and the gates. -/
theorem Replica.endStopping_keeps : (r.endStopping v o).safety.gates = r.safety.gates ∧
    ∀ (f : Field) (i : Nat), f ∈ stillFields → f ≠ .DLK_OSTATE_WELD_OWED → (r.endStopping v o).rd f i = r.rd f i := by
  unfold Replica.endStopping
  split
  · have hkept := r.aside_goto_owed v o (some ocDispenserLost) hold
    exact ⟨Replica.gates_of_aside (r := r.wr .DLK_OSTATE_WELD_OWED 1 o) hkept,
      fun f i hf hne => (Replica.rd_of_aside hkept (.inl hf)).trans (r.rd_wr_of_ne _ _ _ hne)⟩
  · have hkept := r.aside_goto v o (st := osWeldCheck) (by decide) none hold
    exact ⟨Replica.gates_of_aside hkept, fun f i hf _ => Replica.rd_of_aside hkept (.inl hf)⟩

/-- After LINK_LOST the outlet goes to FAULT, and owes its weld test. -/
theorem Replica.endStopping_of_lost (hlost : (r.vs o).lost = true) :
    (r.endStopping v o).rd .DLK_OSTATE_CAUSE o = ocDispenserLost ∧ (r.endStopping v o).rd .DLK_OSTATE_WELD_OWED o = 1 := by
  unfold Replica.endStopping
  rw [if_pos hlost]
  refine ⟨congrArg VehSide.cause (Replica.vehSide_goto _ v o (st := osFault) (cause := some ocDispenserLost) (by decide) (by decide)), ?_⟩
  exact (Replica.rd_of_aside (r.aside_goto_owed v o _ hold) (.inl (by decide))).trans
    (r.rd_wr_of_lt .DLK_OSTATE_WELD_OWED 1 o (by decide))

end

/-- A gate cleared: its channel's bit reads 0. -/
theorem Replica.gates_clearGate {c : Nat} (hchan : r.channelOf o = some c) : bitOf (r.clearGate o).safety.gates c = false := by
  have hclear : bitOf (putBit r.safety.gates c false) c = false := by
    simpa [bitOf, Nat.testBit_mod_two_pow] using bitOf_putBit_false r.safety.gates c (c + 1)
  unfold Replica.clearGate
  rw [hchan]
  exact hclear

theorem Replica.vehSide_clearGate : (r.clearGate o).vehSide o = r.vehSide o := by
  unfold Replica.clearGate
  split <;> rfl

end

/-! ### The timers -/

/-- The outlet stands in a state, for a cause. -/
def Replica.StandsIn (r : Replica) (o st cause : Nat) : Prop := r.ostate o = st ∧ r.rd .DLK_OSTATE_CAUSE o = cause

section
variable {s : State} {p : Pav} {o : Outlet} (hstep : (s.site.pav p).inStep = true)
include hstep

theorem State.onLog_of_view {f : Site → Replica → Replica} {w : Replica} (hf : f s.site (s.view p) = w) :
    ∃ t : State, s.onLog f = .next t ∧ (t.site.pav p).rep = w.flushed := State.onLog_of_eq hstep hf

/-- A timer that moves the outlet to a state in which the session goes on. -/
theorem State.onLog_goto {f : Site → Replica → Replica} {st cause : Nat} (hst : st ∈ sessionStates) (hcause : cause < 256)
    (hf : f s.site (s.view p) = (s.view p).goto s.site.env o st (some cause)) :
    ∃ t : State, s.onLog f = .next t ∧ (t.site.pav p).rep.StandsIn o st cause := by
  obtain ⟨t, hexec, hrep⟩ := State.onLog_of_view hstep hf
  have hshown := (s.view p).vehSide_goto s.site.env o hst (cause := some cause) (by simpa using hcause)
  exact ⟨t, hexec, hrep ▸ ⟨congrArg VehSide.state hshown, congrArg VehSide.cause hshown⟩⟩

/-- A timer that stops the outlet. -/
theorem State.onLog_stop {f : Site → Replica → Replica} {cause : Nat} (hcause : cause < 2 ^ 8)
    (hf : f s.site (s.view p) = (s.view p).stopOutlet s.site.env o cause) (hlo : osNegotiating ≤ (s.view p).ostate o)
    (hhi : (s.view p).ostate o ≤ osCharging) : ∃ t : State, s.onLog f = .next t ∧ (t.site.pav p).rep.StandsIn o osStopping cause := by
  obtain ⟨t, hexec, hrep⟩ := State.onLog_of_view hstep hf
  exact ⟨t, hexec, hrep ▸ Replica.stopOutlet_shows s.site.env hcause hlo hhi⟩

theorem tLinkExpiry_of_plugged (hplugged : (s.view p).ostate o = osPlugged) :
    ∃ t : State, execTLinkExpiry o s = .next t ∧ (t.site.pav p).rep.StandsIn o osFault ocNoVehicleLink :=
  State.onLog_goto hstep (by decide) (by decide) (if_pos hplugged)

theorem tAuthExpiry_of_waiting (hneg : (s.view p).ostate o = osNegotiating)
    (hwait : (s.view p).startMet o = false ∨ (s.view p).rd .MET_OSTATE_NRC o = 1 ∨ (s.view p).grantCc o = false) :
    ∃ t : State, execTAuthExpiry o s = .next t ∧ (t.site.pav p).rep.StandsIn o osUnplugWait ocAuthTimeout := by
  obtain ⟨t, hexec, hrep⟩ : ∃ t : State, execTAuthExpiry o s = .next t ∧
      (t.site.pav p).rep = ((s.view p).goto s.site.env o osUnplugWait (some ocAuthTimeout)).flushed :=
    State.onLog_of_view hstep (if_pos (by simpa [hneg, or_assoc] using hwait))
  have hshown := (s.view p).vehSide_goto_osUnplugWait s.site.env o.isLt (cause := some ocAuthTimeout) (by decide)
  exact ⟨t, hexec, hrep ▸ ⟨congrArg VehSide.state hshown, congrArg VehSide.cause hshown⟩⟩

theorem tLockExpiry_of_unlocked (hneg : (s.view p).ostate o = osNegotiating) (hcmd : ((s.view p).vs o).lockCmd = true)
    (hlock : ((s.view p).vs o).lock ≠ some 1) :
    ∃ t : State, execTLockExpiry o s = .next t ∧ (t.site.pav p).rep.StandsIn o osFault ocLockFail :=
  State.onLog_goto hstep (by decide) (by decide) (if_pos (by simp [hneg, hcmd, hlock]))

theorem tCcExpiry_of_cableCheck (hcc : (s.view p).ostate o = osCableCheck) :
    ∃ t : State, execTCcExpiry o s = .next t ∧ (t.site.pav p).rep.StandsIn o osFault ocCableCheckTimeout :=
  State.onLog_goto hstep (by decide) (by decide) (if_pos hcc)

theorem tPreExpiry_of_precharge (hpre : (s.view p).ostate o = osPrecharge) :
    ∃ t : State, execTPreExpiry o s = .next t ∧ (t.site.pav p).rep.StandsIn o osFault ocPrechargeTimeout :=
  State.onLog_goto hstep (by decide) (by decide) (if_pos hpre)

theorem tLoopExpiry_of_charging (hcharging : (s.view p).ostate o = osCharging) :
    ∃ t : State, execTLoopExpiry o s = .next t ∧ (t.site.pav p).rep.StandsIn o osStopping ocProtocolTimeout :=
  State.onLog_stop hstep (by decide) (if_pos hcharging) (hcharging.symm ▸ by decide) hcharging.le

theorem protocolSequenceTimeout_of_session (hlo : osNegotiating ≤ (s.view p).ostate o) (hhi : (s.view p).ostate o ≤ osCharging) :
    ∃ t : State, execProtocolSequenceTimeout o s = .next t ∧ (t.site.pav p).rep.StandsIn o osStopping ocProtocolTimeout :=
  State.onLog_stop hstep (by decide) rfl hlo hhi

section
variable (hstopping : (s.view p).ostate o = osStopping) (hnot : (s.view p).stopped o = false)
include hstopping hnot

/-- The current has come down: the gate of the outlet's channel is cleared, and STOPPING ends. -/
theorem stopCurrentReached_ends (hrun : 4 ≤ ((s.view p).out o).stopRun) : ∃ t : State, execStopCurrentReached o s = .next t ∧
    (∀ c : Nat, (s.view p).channelOf o = some c → bitOf (t.site.pav p).rep.safety.gates c = false) ∧
    if ((s.view p).vs o).lost then (t.site.pav p).rep.ostate o = osFault ∧ (t.site.pav p).rep.rd .DLK_OSTATE_CAUSE o = ocDispenserLost ∧
      (t.site.pav p).rep.rd .DLK_OSTATE_WELD_OWED o = 1
    else (t.site.pav p).rep.ostate o = osWeldCheck := by
  obtain ⟨t, hexec, hrep⟩ : ∃ t : State, execStopCurrentReached o s = .next t ∧
      (t.site.pav p).rep = (((s.view p).clearGate o).endStopping s.site.env o).flushed :=
    State.onLog_of_view hstep (if_pos (by simp [hstopping, hnot, hrun]))
  have hveh := (s.view p).vehSide_clearGate o
  have hlost : (((s.view p).clearGate o).vs o).lost = ((s.view p).vs o).lost := congrArg (·.veh.lost) hveh
  have hold : ((s.view p).clearGate o).ostate o ≠ osFault := by
    rw [show ((s.view p).clearGate o).ostate o = osStopping from (congrArg VehSide.state hveh).trans hstopping]
    decide
  have hstate := ((s.view p).clearGate o).ostate_endStopping s.site.env o
  refine ⟨t, hexec, fun c hchan => ?_, ?_⟩
  · rw [hrep, Replica.safety_flushed, (Replica.endStopping_keeps s.site.env hold).1]
    exact (s.view p).gates_clearGate o hchan
  · rw [hrep, ← hlost]
    rw [← Replica.ostate_flushed] at hstate
    split
    · next h =>
      obtain ⟨hcause, howed⟩ := Replica.endStopping_of_lost s.site.env hold h
      exact ⟨hstate.trans (if_pos h), hcause, howed⟩
    · next h => exact hstate.trans (if_neg h)

/-- T_STOP lapses: the outlet is tripped by SF2, and STOPPING ends. -/
theorem tStopExpiry_trips : ∃ t : State, execTStopExpiry o s = .next t ∧ (t.site.pav p).rep.stopped o = true ∧
    (t.site.pav p).rep.rd .SAF_OTRIP_FUNC o = 2 ∧ (t.site.pav p).rep.rd .SAF_EVENT_SF2_TRIP = 1 ∧
      (t.site.pav p).rep.ostate o = if ((s.view p).vs o).lost then osFault else osWeldCheck := by
  obtain ⟨t, hexec, hrep⟩ : ∃ t : State, execTStopExpiry o s = .next t ∧
      (t.site.pav p).rep = (((s.view p).trip s.site.env o [(2, 0xFF, 0)]).endStopping s.site.env o).flushed :=
    State.onLog_of_view hstep (if_pos (by simp [hstopping, hnot]))
  obtain ⟨hveh, hstop, hfunc, hevent⟩ := (s.view p).trip_of_lapse_shows s.site.env o.isLt hstopping hnot
  have hold : ((s.view p).trip s.site.env o [(2, 0xFF, 0)]).ostate o ≠ osFault := by
    rw [show Replica.ostate _ o = osStopping from (congrArg VehSide.state hveh).trans hstopping]
    decide
  have hrd := (Replica.endStopping_keeps s.site.env hold).2
  refine ⟨t, hexec, ?_, ?_, ?_, ?_⟩ <;> rw [hrep]
  · rw [Replica.stopped, Replica.rd_flushed, hrd .SAF_STOP_STOP 0 (by decide) (by decide)]
    exact hstop
  · exact (hrd .SAF_OTRIP_FUNC o (by decide) (by decide)).trans hfunc
  · exact (hrd .SAF_EVENT_SF2_TRIP 0 (by decide) (by decide)).trans hevent
  · rw [Replica.ostate_flushed, Replica.ostate_endStopping, show (Replica.vs _ o).lost = _ from congrArg (·.veh.lost) hveh]
    rfl

end

end

/-- Settles O38: one lemma per timer above. -/
theorem outletTimers : Obligations.OutletTimers := by
  intro p o s hstep r r' moves
  refine ⟨fun hplugged => ?_, fun hneg hwait => ?_, fun hneg hcmd hlock => ?_, fun hcc => ?_, fun hpre => ?_, fun hcharging => ?_,
    fun hlo hhi => ?_, fun hstopping hnot => ⟨fun hrun => ?_, ?_⟩⟩
  · exact tLinkExpiry_of_plugged hstep hplugged
  · exact tAuthExpiry_of_waiting hstep hneg hwait
  · exact tLockExpiry_of_unlocked hstep hneg hcmd hlock
  · exact tCcExpiry_of_cableCheck hstep hcc
  · exact tPreExpiry_of_precharge hstep hpre
  · exact tLoopExpiry_of_charging hstep hcharging
  · exact protocolSequenceTimeout_of_session hstep hlo hhi
  · obtain ⟨t, hexec, hgate, hends⟩ := stopCurrentReached_ends hstep hstopping hnot hrun
    exact ⟨t, hexec, fun c _ => hgate c, hends⟩
  · exact tStopExpiry_trips hstep hstopping hnot

end Sys2Proof.Machine
end

section
/-! PROOFS. Dispenser links: sending, acknowledgements, the states of a link and the loss of it (R286 to R293, R300, R304). -/
namespace Sys2Proof.Machine

/-! ### Sending on a link, and contexts (R288, R291, R516) -/

section
variable (r : Replica) (d : Nat)

@[simp] theorem Replica.regs_dlpOut (type outlet flags : Nat) (body : List Nat) (lane : Option Pav) :
    (r.dlpOut d type outlet flags body lane).regs = r.regs := by
  unfold Replica.dlpOut
  dsimp only
  split <;> rfl

@[simp] theorem Replica.regs_dlpSend (type outlet : Nat) (body : List Nat) (lane : Option Pav) :
    (r.dlpSend d type outlet body lane).regs = r.regs := by
  unfold Replica.dlpSend
  dsimp only
  split
  · rfl
  · exact Replica.regs_dlpOut _ d _ _ _ _ _

theorem Replica.rd_setCtx (cls k : Nat) (x : Option KeyContext) {f : Field} (i : Nat) (hf : f ≠ ctxField cls) :
    (r.setCtx cls k x).rd f i = r.rd f i := by
  unfold Replica.setCtx
  split
  · rfl
  · exact r.rd_wr_of_ne _ _ _ hf

theorem Replica.ctx_setCtx_same {cls k : Nat} (x : Option KeyContext) (hk : k < ctxSize cls) (hplace : ctxBase cls + k < 192) :
    (r.setCtx cls k x).ctx cls k = x := by
  unfold Replica.setCtx
  rw [if_neg (Nat.not_le.2 hk)]
  exact vget_vput_same _ _ _ _ hplace

/-! ### A link that goes down (R300) -/

/-- The fields that show a link's state and its contexts. -/
def linkFields : List Field := [.DLK_LSTATE_STATE, .DLK_ACTIVE_ACT, .KEY_CTX0_LANE]

theorem Replica.rd_linkDown_eq (st : Nat) {f : Field} (i : Nat) (hctx : f ≠ .KEY_CTX0_LANE) : (r.linkDown d st).rd f i =
    ((r.wr .DLK_LSTATE_STATE st d).wr .DLK_ACTIVE_ACT (putBit (r.rd .DLK_ACTIVE_ACT) d false)).rd f i :=
  (Replica.rd_setCtx _ 3 (2 * d + 1) none i hctx).trans (Replica.rd_setCtx _ 3 (2 * d) none i hctx)

theorem Replica.rd_linkDown (st : Nat) {f : Field} (i : Nat) (hf : f ∉ linkFields) : (r.linkDown d st).rd f i = r.rd f i := by
  simp only [linkFields, List.mem_cons, List.not_mem_nil, or_false, not_or] at hf
  obtain ⟨hstate, hactive, hctx⟩ := hf
  rw [r.rd_linkDown_eq d st i hctx, Replica.rd_wr_of_ne _ _ _ _ hactive, Replica.rd_wr_of_ne _ _ _ _ hstate]

theorem Replica.dstate_linkDown {st : Nat} (hst : st < 8) : (r.linkDown d st).dstate d = st := by
  rw [Replica.dstate, r.rd_linkDown_eq d st d (by decide), Replica.rd_wr_of_ne _ _ _ _ (by decide)]
  exact r.rd_wr_of_lt .DLK_LSTATE_STATE st d hst

end

/-! ### An outlet at the loss of its link (R302, R304) -/

section
variable (r : Replica) (v : Env) (o : Nat)

/-- The head session of an outlet whose link is lost. -/
def Replica.headDropped (o : Nat) : Replica :=
  if r.head o ≠ headNone then r.setHead o (if r.head o = headStreaming then headStreaming else headNone) else r

theorem Replica.aside_headDropped (k : Nat) : (r.headDropped o).aside k = r.aside k := by
  unfold Replica.headDropped
  split
  · exact r.aside_setHead k o _
  · rfl

theorem Replica.ostate_headDropped : (r.headDropped o).ostate o = r.ostate o := by
  unfold Replica.headDropped
  split
  · exact congrArg VehSide.state (r.vehSide_setHead o o _)
  · rfl

/-- A session marked as having lost its dispenser. -/
def Replica.sessionLost (o : Nat) : Replica := r.setVs o { r.vs o with lost := true, lock := none, imd := none }

theorem Replica.outletLost_eq : r.outletLost v o =
    if r.ostate o = osCableCheck ∨ r.ostate o = osPrecharge ∨ r.ostate o = osCharging then
      ((r.headDropped o).sessionLost o).stopOutlet v o ocDispenserLost
    else if r.ostate o = osStopping then (r.headDropped o).sessionLost o
    else if r.ostate o = osFault ∨ r.ostate o = osUnavailable then r.headDropped o
    else if r.ostate o = osCommission then ((r.headDropped o).wr .DLK_OSTATE_WELD_OWED 1 o).goto v o osFault (some ocDispenserLost)
    else (r.headDropped o).goto v o osUnavailable := by
  simp only [Replica.outletLost, Bool.or_eq_true, decide_eq_true_eq, or_assoc]
  rfl

/-- The loss of a link shows nothing aside from the outlet but the weld test it may owe. -/
theorem Replica.rd_outletLost {f : Field} {i : Nat} (hf : f.Aside o i) (hne : f ≠ .DLK_OSTATE_WELD_OWED) :
    (r.outletLost v o).rd f i = r.rd f i := by
  have hdropped : (r.headDropped o).rd f i = r.rd f i := Replica.rd_of_aside (r.aside_headDropped o o) hf
  have hstate := r.ostate_headDropped o
  rw [r.outletLost_eq]
  split
  · exact (Replica.rd_of_aside (Replica.aside_stopOutlet _ v o ocDispenserLost) hf).trans hdropped
  · split
    · exact hdropped
    · split
      · exact hdropped
      · next hstay =>
        have hold : (r.headDropped o).ostate o ≠ osFault := fun h => hstay (.inl (hstate.symm.trans h))
        split
        · exact (Replica.rd_of_aside (Replica.aside_goto_owed _ v o _ hold) hf).trans ((Replica.rd_wr_of_ne _ _ _ _ hne).trans hdropped)
        · exact (Replica.rd_of_aside (Replica.aside_goto _ v o (by decide) none hold) hf).trans hdropped

variable {r o} in
theorem Replica.outletLost_of_charging (hcharging : r.ostate o = osCharging) :
    (r.outletLost v o).StandsIn o osStopping ocDispenserLost := by
  have hstate : ((r.headDropped o).sessionLost o).ostate o = osCharging := (r.ostate_headDropped o).trans hcharging
  rw [r.outletLost_eq, if_pos (.inr (.inr hcharging))]
  exact Replica.stopOutlet_shows v (by decide) (hstate.symm ▸ by decide) hstate.le

end

/-! ### A link lost (R293, R300, R304) -/

section
variable (r : Replica) (v : Env) (d : Nat)

/-- A link lost, before its outlets take it. -/
def Replica.linkCut (d : Nat) : Replica := (r.raise .DLK_EVENT_LINK_LOST).linkDown d dsDown

theorem Replica.linkLost_eq : r.linkLost v d = ((r.linkCut d).outletLost v (2 * d)).outletLost v (2 * d + 1) := rfl

theorem Replica.rd_linkLost {f : Field} (i : Nat) (hf : f ∈ stillFields) (hne : f ≠ .DLK_OSTATE_WELD_OWED) :
    (r.linkLost v d).rd f i = (r.linkCut d).rd f i := by
  rw [r.linkLost_eq, Replica.rd_outletLost _ v _ (.inl hf) hne, Replica.rd_outletLost _ v _ (.inl hf) hne]

theorem Replica.linkLost_shows : (r.linkLost v d).dstate d = dsDown ∧ (r.linkLost v d).rd .DLK_EVENT_LINK_LOST = 1 ∧
    (r.linkLost v d).rd .DLK_EVENT_DLP_FAIL = r.rd .DLK_EVENT_DLP_FAIL := by
  refine ⟨?_, ?_, ?_⟩
  · exact (r.rd_linkLost v d d (by decide) (by decide)).trans (Replica.dstate_linkDown _ d (by decide))
  · rw [r.rd_linkLost v d 0 (by decide) (by decide), Replica.linkCut, Replica.rd_linkDown _ d _ 0 (by decide)]
    exact r.rd_raise_same _ 0 rfl (by decide)
  · rw [r.rd_linkLost v d 0 (by decide) (by decide), Replica.linkCut, Replica.rd_linkDown _ d _ 0 (by decide)]
    exact r.rd_raise_of_ne 0 0 (by decide) rfl

/-- A charging outlet of a link that is lost stops with DISPENSER_LOST. -/
theorem Replica.linkLost_of_charging (hcharging : r.ostate (2 * d) = osCharging) :
    (r.linkLost v d).StandsIn (2 * d) osStopping ocDispenserLost := by
  have hcut : (r.linkCut d).ostate (2 * d) = osCharging :=
    ((Replica.rd_linkDown _ d _ _ (by decide)).trans (r.rd_raise_of_ne 0 _ (by decide) rfl)).trans hcharging
  obtain ⟨hstate, hcause⟩ := Replica.outletLost_of_charging v hcut
  have hother : ∀ f ∈ vehFields, f ≠ .DLK_OSTATE_WELD_OWED →
      (r.linkLost v d).rd f (2 * d) = ((r.linkCut d).outletLost v (2 * d)).rd f (2 * d) :=
    fun f hf hne => Replica.rd_outletLost _ v (2 * d + 1) (.inr ⟨hf, by omega⟩) hne
  exact ⟨(hother .DLK_OSTATE_STATE (by decide) (by decide)).trans hstate, (hother .DLK_OSTATE_CAUSE (by decide) (by decide)).trans hcause⟩

end

/-! ### Numbers that have been accepted (R290, R291) -/

/-- A number that has been noted is not fresh. -/
theorem DispLink.fresh_note (x : DispLink) (seq : Nat) : (x.note seq).fresh seq = false := by
  unfold DispLink.note
  split
  · simp [DispLink.fresh]
  · next h hhigh =>
    split
    · simp [DispLink.fresh]
    · next hle =>
      by_cases hseq : seq = h
      · simp [DispLink.fresh, hhigh, hseq]
      · have hset : bitOf (putBit x.seen (h - 1 - seq) true) (h - 1 - seq) = true := by
          simp [bitOf, putBit, Nat.testBit_or, Nat.testBit_two_pow_self]
        simp [DispLink.fresh, hhigh, hle, hset]

theorem DispLink.fresh_of_numbers {x y : DispLink} (h : (y.high, y.seen) = (x.high, x.seen)) (seq : Nat) : y.fresh seq = x.fresh seq := by
  obtain ⟨hhigh, hseen⟩ := Prod.mk.inj h
  simp only [DispLink.fresh, hhigh, hseen]

/-- The record of the numbers that a link has accepted. -/
def Replica.numbers (r : Replica) (d : Nat) : Option Nat × Nat := ((r.dl d).high, (r.dl d).seen)

section
variable (r : Replica) (d : Nat)

theorem Replica.numbers_setDl (e : Nat) {x : DispLink} (hx : (x.high, x.seen) = r.numbers e) : (r.setDl e x).numbers d = r.numbers d := by
  obtain rfl | hne := eq_or_ne d e
  · by_cases hd : d < 12
    · rw [← hx]
      exact congrArg (fun y : DispLink => (y.high, y.seen)) (vget_vput_same _ _ _ _ hd)
    · have hfar : ∀ q : Replica, q.dl d = {} := fun q => dif_neg hd
      simp only [Replica.numbers, hfar]
  · exact congrArg (fun y : DispLink => (y.high, y.seen)) (vget_vput_ne _ _ _ _ _ hne)

theorem Replica.numbers_dlpOut (e type outlet flags : Nat) (body : List Nat) (lane : Option Pav) :
    (r.dlpOut e type outlet flags body lane).numbers d = r.numbers d := by
  unfold Replica.dlpOut
  dsimp only
  split <;> exact r.numbers_setDl d e rfl

theorem Replica.numbers_dlpSend (e type outlet : Nat) (body : List Nat) (lane : Option Pav) :
    (r.dlpSend e type outlet body lane).numbers d = r.numbers d := by
  unfold Replica.dlpSend
  dsimp only
  split
  · exact r.numbers_setDl d e rfl
  · exact (Replica.numbers_dlpOut _ _ _ _ _ _ _ _).trans (r.numbers_setDl d e rfl)

theorem Replica.numbers_setCtx (cls k : Nat) (x : Option KeyContext) : (r.setCtx cls k x).numbers d = r.numbers d := by
  unfold Replica.setCtx
  split <;> rfl

theorem Replica.numbers_startHead (o : Nat) : (r.startHead o).numbers d = r.numbers d := by
  refine (Replica.numbers_dlpSend _ d (o / 2) _ _ _ none).trans ?_
  have hhead : ∀ q : Replica, (q.setHead o headIdent).numbers d = q.numbers d := fun q => Replica.numbers_setCtx _ d _ _ _
  exact hhead _

theorem Replica.numbers_linkActive (e : Nat) : (r.linkActive e).numbers d = r.numbers d := by
  have hstart : ∀ (q : Replica) (o : Nat), (if q.supported o then q.startHead o else q).numbers d = q.numbers d := fun q o => by
    split
    · exact q.numbers_startHead d o
    · rfl
  unfold Replica.linkActive
  simp only [List.foldl_cons, List.foldl_nil, hstart]
  rfl

/-- What an acknowledgement moves the link to. -/
def Replica.ackMoved (e : Nat) (p : OutPdu) : Replica :=
  if p.type = 0x02 && r.dstate e = dsHello then
    (if r.rd .DLK_CTRL_AUTHREQ = 1 then r.wr .DLK_LSTATE_STATE dsAuth e else r.enterConfig e)
  else if p.type = 0x04 && r.dstate e = dsConfig then r.linkActive e else r

theorem Replica.numbers_ackMoved (e : Nat) (p : OutPdu) : (r.ackMoved e p).numbers d = r.numbers d := by
  unfold Replica.ackMoved
  split
  · split
    · rfl
    · exact Replica.numbers_dlpSend _ d e _ _ _ none
  · split
    · exact r.numbers_linkActive d e
    · rfl

theorem Replica.numbers_acked (e : Nat) (p : OutPdu) : (r.acked e p).numbers d = r.numbers d := by
  obtain ⟨w, hw, hacked⟩ : ∃ w : Replica, w.numbers d = r.numbers d ∧ r.acked e p =
      match (w.dl e).waiting.find? fun q => q.type = p.type && q.outlet = p.outlet && q.lane = p.lane with
      | none => w
      | some q => (w.setDl e { w.dl e with
          waiting := (w.dl e).waiting.erase q, unacked := (w.dl e).unacked ++ [{ q with seq := (w.dl e).seqNo }] }).dlpOut
            e q.type q.outlet 1 q.body q.lane :=
    ⟨(r.setDl e { r.dl e with unacked := (r.dl e).unacked.filter fun q => q.seq ≠ p.seq }).ackMoved e p,
      (Replica.numbers_ackMoved _ d e p).trans (r.numbers_setDl d e (by rfl)), rfl⟩
  rw [hacked, ← hw]
  split
  · rfl
  · exact (Replica.numbers_dlpOut _ _ _ _ _ _ _ _).trans (w.numbers_setDl d e (by rfl))

theorem Replica.numbers_takeAcks (e : Nat) (h : DlpHdr) : (r.takeAcks e h).numbers d = r.numbers d :=
  foldl_keeps (Replica.numbers · d) (fun q p => Replica.numbers_acked q d e p) _ r

/-- The number of a PDU is not fresh once the PDU has been noted and its acknowledgements taken. -/
theorem Replica.fresh_received (d : DLink) (lane : Lane) (h : DlpHdr) : ((r.received d lane h).dl d).fresh h.seq = false := by
  obtain ⟨q, hreceived⟩ : ∃ q : Replica, r.received d lane h = (q.setDl d ((q.dl d).note h.seq)).takeAcks d h := ⟨_, rfl⟩
  rw [hreceived, DispLink.fresh_of_numbers (Replica.numbers_takeAcks _ d d h), Replica.dl_setDl_same]
  exact DispLink.fresh_note _ _

end

end Sys2Proof.Machine
end

section
/-! PROOFS. Discovery, errors, repetition, send points and lanes of the dispenser links, and the exits of FAULT (R286 to R300). -/
namespace Sys2Proof.Machine

/-! ### HELLO (R299, R300) -/

theorem commonVer_lt (a b : Nat) : commonVer a b < 4 := by
  unfold commonVer
  dsimp only
  split
  · decide
  · split
    · decide
    · split <;> decide

section
variable (r : Replica) (v : Env) (d : DLink) (lane : Lane) (h : DlpHdr) (b : List Byte)

theorem Replica.regs_helloAck (ver : Nat) : (r.helloAck v d lane ver).regs = r.regs := by
  unfold Replica.helloAck
  dsimp only
  split <;> exact r.regs_dlpSend d _ _ _ _

/-! What a HELLO that is taken does, part by part: the other lane's unit, what is kept of the dispenser, its state, and the answer. -/

def DispLink.otherUnit (x : DispLink) (lane : Lane) : Option Nat := match lane with | .A => x.unitB | .B => x.unitA

theorem DispLink.otherUnit_none {x : DispLink} (hA : x.unitA = none) (hB : x.unitB = none) (lane : Lane) : x.otherUnit lane = none := by
  cases lane
  · exact hB
  · exact hA

def Replica.helloMatched (lane : Lane) (other : Option Nat) (unit : Nat) : Replica :=
  if lane = .A && (match other with | some u => u ≠ unit | none => false) then
    ((r.raise .DLK_EVENT_LANE_MISMATCH).setCtx 3 (2 * d + 1) none).setDl d { r.dl d with unitB := none, authB := false } else r

def Replica.helloKept : Replica :=
  let x := { r.dl d with maker := fieldAt b 2 2, model := fieldAt b 4 2, fwVer := fieldAt b 14 2, imax0 := fieldAt b 20 2, imax1 := fieldAt b 22 2 }
  r.setDl d (match lane with
    | .A => { x with unitA := some (fieldAt b 6 8), srcA := h.src } | .B => { x with unitB := some (fieldAt b 6 8), srcB := h.src })

/-- What a HELLO that is taken shows of the link: the version, and what the dispenser says of itself. -/
def Replica.helloFields (ver : Nat) : Replica :=
  let r := (((r.wr .DLK_LSTATE_VER ver d).wr .DLK_LSTATE_KIND0 (byteAt b 16) d).wr .DLK_LSTATE_KIND1 (byteAt b 17) d).wr
    .DLK_LSTATE_CAPS (fieldAt b 18 2) d
  (r.wr .DLK_LUNIT_LO_UNIT (fieldAt b 6 8) d).wr .DLK_LUNIT_HI_UNIT (fieldAt b 6 8 / 2 ^ 32) d

def Replica.helloUp : Replica := if r.dstate d = dsDown then r.wr .DLK_LSTATE_STATE dsHello d else r

def Replica.helloAnswered (ver : Nat) : Replica :=
  if (r.dl d).unacked.any fun p => p.type = 0x02 && p.lane = some lane then r else r.helloAck v d lane ver

def Replica.helloTaken (other : Option Nat) (ver : Nat) : Replica :=
  (((((r.helloMatched d lane other (fieldAt b 6 8)).helloKept d lane h b).helloFields d b ver).helloUp d).helloAnswered v d lane ver)

/-- The link in HELLO, with what the dispenser says of itself. -/
def Replica.helloShown (ver : Nat) : Replica := (r.helloFields d b ver).wr .DLK_LSTATE_STATE dsHello d

theorem Replica.helloShown_shows {ver : Nat} (hver : ver < 4) : let w := r.helloShown d b ver
    w.dstate d = dsHello ∧ w.rd .DLK_LSTATE_VER d = ver ∧ w.rd .DLK_LSTATE_KIND0 d = byteAt b 16 % 4 ∧
      w.rd .DLK_LUNIT_LO_UNIT d = fieldAt b 6 8 % 2 ^ 32 := by
  refine ⟨Replica.rd_wr_of_lt _ .DLK_LSTATE_STATE dsHello d (by decide), ?_, ?_, ?_⟩ <;>
    simp (disch := decide) only [Replica.helloShown, Replica.helloFields, Replica.rd_wr_of_ne, Replica.rd_wr_same]
  · exact Nat.mod_eq_of_lt hver
  · rfl
  · rfl

theorem Replica.regs_helloTaken (hdown : r.dstate d = dsDown) (ver : Nat) :
    (r.helloTaken v d lane h b none ver).regs = (r.helloShown d b ver).regs := by
  have hmatched : r.helloMatched d lane none (fieldAt b 6 8) = r := if_neg (by simp)
  have hstate : ((r.helloKept d lane h b).helloFields d b ver).dstate d = dsDown := by
    simp (disch := decide) only [Replica.helloFields, Replica.dstate, Replica.rd_wr_of_ne]
    exact hdown
  have hanswered : ∀ q : Replica, (q.helloAnswered v d lane ver).regs = q.regs := fun q => by
    unfold Replica.helloAnswered
    split
    · rfl
    · exact q.regs_helloAck v d lane ver
  rw [Replica.helloTaken, hanswered, hmatched, Replica.helloUp, if_pos hstate]
  rfl

theorem Replica.hello_eq : r.hello v d lane h b =
    if r.dstate d = dsFault || r.dstate d = dsDisabled then r
    else if lane = .B && (match (r.dl d).otherUnit lane with | some u => u ≠ fieldAt b 6 8 | none => false) then r.raise .DLK_EVENT_LANE_MISMATCH
    else if (byteAt b 1 = 1) ≠ ((r.noteDispenser v d (fieldAt b 6 8)).lanesOf d = 1) then (r.noteDispenser v d (fieldAt b 6 8)).linkDown d dsFault
    else if commonVer (byteAt b 0) (r.rd .DLK_CTRL_VERS) = 0 then
      ((r.noteDispenser v d (fieldAt b 6 8)).raise .DLK_EVENT_NO_VERSION).linkDown d dsFault
    else (r.noteDispenser v d (fieldAt b 6 8)).helloTaken v d lane h b ((r.dl d).otherUnit lane) (commonVer (byteAt b 0) (r.rd .DLK_CTRL_VERS)) := rfl

/-- The first unit on a link is noted without NEW_DISPENSER. -/
theorem Replica.noteDispenser_of_first (hlast : (r.dl d).lastUnit = none) (unit : Nat) :
    r.noteDispenser v d unit = r.setDl d { r.dl d with lastUnit := some unit } := if_pos (by simp [hlast])

section
variable (hdown : r.dstate d = dsDown) (hother : (r.dl d).otherUnit lane = none) (hlast : (r.dl d).lastUnit = none)
  (hlanes : byteAt b 1 = 1 ↔ r.lanesOf d = 1)
include hdown hother hlast hlanes

theorem Replica.hello_of_first : r.hello v d lane h b =
    if commonVer (byteAt b 0) (r.rd .DLK_CTRL_VERS) = 0 then
      ((r.setDl d { r.dl d with lastUnit := some (fieldAt b 6 8) }).raise .DLK_EVENT_NO_VERSION).linkDown d dsFault
    else (r.setDl d { r.dl d with lastUnit := some (fieldAt b 6 8) }).helloTaken v d lane h b none
      (commonVer (byteAt b 0) (r.rd .DLK_CTRL_VERS)) := by
  have hstate : ¬(decide (r.dstate d = dsFault) || decide (r.dstate d = dsDisabled)) = true := by
    rw [hdown]
    decide
  rw [r.hello_eq, if_neg hstate, hother, if_neg (by simp), r.noteDispenser_of_first v d hlast]
  exact if_neg (not_not.2 (propext hlanes))

/-- A HELLO with a version in common shows the link in HELLO, with the version and what the dispenser says of itself. -/
theorem Replica.hello_shows {ver : Nat} (hver : commonVer (byteAt b 0) (r.rd .DLK_CTRL_VERS) = ver) (hpos : ver ≠ 0) :
    let w := r.hello v d lane h b
    w.dstate d = dsHello ∧ w.rd .DLK_LSTATE_VER d = ver ∧ w.rd .DLK_LSTATE_KIND0 d = byteAt b 16 % 4 ∧
      w.rd .DLK_LUNIT_LO_UNIT d = fieldAt b 6 8 % 2 ^ 32 := by
  have hshown : (r.hello v d lane h b).regs = (r.helloShown d b ver).regs := by
    rw [r.hello_of_first v d lane h b hdown hother hlast hlanes, hver, if_neg hpos]
    exact (Replica.regs_helloTaken _ v d lane h b (by exact hdown) ver).trans rfl
  simp only [Replica.dstate, Replica.rd, hshown]
  exact r.helloShown_shows d b (hver ▸ commonVer_lt _ _)

theorem Replica.hello_of_no_version (hver : commonVer (byteAt b 0) (r.rd .DLK_CTRL_VERS) = 0) :
    (r.hello v d lane h b).dstate d = dsFault ∧ (r.hello v d lane h b).rd .DLK_EVENT_NO_VERSION = 1 := by
  rw [r.hello_of_first v d lane h b hdown hother hlast hlanes, if_pos hver]
  refine ⟨Replica.dstate_linkDown _ d (by decide), (Replica.rd_linkDown _ d _ 0 (by decide)).trans ?_⟩
  exact Replica.rd_raise_same _ _ 0 rfl (by decide)

end
end

/-! ### Responses (R300) -/

section
variable (r : Replica) (d : DLink)

theorem Replica.authResp_of_failed (lane : Lane) (hacked : (r.dl d).unacked = []) (hstate : r.dstate d = dsHello ∨ r.dstate d = dsAuth) :
    r.authResp d lane false = (r.raise .DLK_EVENT_AUTH_FAIL).linkDown d dsFault := by
  have hgoes : ¬(r.dstate d ≠ dsHello && r.dstate d ≠ dsAuth) = true := by
    obtain h | h := hstate <;> simp [h]
  unfold Replica.authResp
  rw [hacked]
  exact (if_neg hgoes).trans (if_pos rfl)

/-- Lane A authenticated, with its context. -/
def Replica.laneAuthed : Replica :=
  (r.setDl d { r.dl d with authA := true }).setCtx 3 (2 * d)
    (some { cls := 3, slot := (r.authSlot 2).getD 0xFF, peer := (r.dl d).unitA.getD 0 })

theorem Replica.authResp_of_verified (hacked : (r.dl d).unacked = []) (hstate : r.dstate d = dsHello ∨ r.dstate d = dsAuth)
    (hlanes : r.lanesOf d = 1) : r.authResp d .A true = (r.laneAuthed d).enterConfig d := by
  have hgoes : ¬(r.dstate d ≠ dsHello && r.dstate d ≠ dsAuth) = true := by
    obtain h | h := hstate <;> simp [h]
  have hone : (r.laneAuthed d).lanesOf d = 1 :=
    (congrArg (fun n => if n = 1 then 1 else 2) (Replica.rd_setCtx _ 3 (2 * d) _ (f := .DLK_LCFG_LANES) d (by decide))).trans hlanes
  unfold Replica.authResp
  rw [hacked]
  refine (if_neg hgoes).trans ((if_neg (by simp)).trans (if_pos ?_))
  change (true && (_ || decide ((r.laneAuthed d).lanesOf d = 1))) = true
  simp [hone]

theorem Replica.authA_setDl {x : DispLink} (hx : x.authA = (r.dl d).authA) : ((r.setDl d x).dl d).authA = (r.dl d).authA :=
  (congrArg DispLink.authA (r.dl_setDl_same d x)).trans hx

theorem Replica.authA_dlpOut (type outlet flags : Nat) (body : List Nat) (lane : Option Pav) :
    ((r.dlpOut d type outlet flags body lane).dl d).authA = (r.dl d).authA := by
  unfold Replica.dlpOut
  dsimp only
  split <;> exact r.authA_setDl d (by rfl)

theorem Replica.authA_dlpSend (type outlet : Nat) (body : List Nat) (lane : Option Pav) :
    ((r.dlpSend d type outlet body lane).dl d).authA = (r.dl d).authA := by
  unfold Replica.dlpSend
  dsimp only
  split
  · exact r.authA_setDl d (by rfl)
  · exact (Replica.authA_dlpOut _ d _ _ _ _ _).trans (r.authA_setDl d (by rfl))

theorem Replica.gate_dlpSend (type outlet : Nat) (body : List Nat) (lane : Option Pav) : (r.dlpSend d type outlet body lane).gate = r.gate := by
  unfold Replica.dlpSend Replica.dlpOut
  dsimp only
  split
  · rfl
  · split <;> rfl

theorem Replica.dl_setCtx (cls k : Nat) (x : Option KeyContext) : (r.setCtx cls k x).dl d = r.dl d := by
  unfold Replica.setCtx
  split <;> rfl

/-- With lane A authenticated and its context taken, the link is in CONFIG. -/
theorem Replica.laneAuthed_config : let w := (r.laneAuthed d).enterConfig d
    w.dstate d = dsConfig ∧ (w.dl d).authA = true ∧ w.ctx 3 (2 * d) ≠ none := by
  refine ⟨?_, ?_, ?_⟩
  · exact (congrArg (·.rd .DLK_LSTATE_STATE d) (Replica.regs_dlpSend _ d _ _ _ none)).trans
      (Replica.rd_wr_of_lt _ .DLK_LSTATE_STATE dsConfig d (by decide))
  · have hdl : (r.laneAuthed d).dl d = { r.dl d with authA := true } := (Replica.dl_setCtx _ d 3 (2 * d) _).trans (r.dl_setDl_same d _)
    exact (Replica.authA_dlpSend _ d _ _ _ none).trans (congrArg DispLink.authA hdl)
  · have hplace : (2 * d : Nat) < 24 := by omega
    have hctx : (r.laneAuthed d).ctx 3 (2 * d) = some _ := Replica.ctx_setCtx_same _ _ hplace (Nat.add_lt_add_left hplace 88 |>.trans (by decide))
    have hkept : ((r.laneAuthed d).enterConfig d).ctx 3 (2 * d) = (r.laneAuthed d).ctx 3 (2 * d) :=
      congrArg (fun x : Gate => vget x.contexts (ctxBase 3 + 2 * d) none) (Replica.gate_dlpSend _ d _ _ _ none)
    rw [hkept, hctx]
    exact Option.some_ne_none _

end

/-! ### Send points (R292) -/

/-- A KEEPALIVE on a lane, where one is due. -/
def Replica.keepLane (r : Replica) (d : Nat) (lane : Pav) (due : Bool) : Replica := if due then r.dlpOut d 0x05 0xFF 0 [] (some lane) else r

/-- One link's part of a send point. -/
def Replica.sendStep (r : Replica) (d : Nat) : Replica :=
  let live := r.rd .DLK_LCFG_EN_LINK d = 1 && r.dstate d ≠ dsDown && r.dstate d ≠ dsDisabled
  let q := r.keepLane d .A (live && !(r.dl d).sentA)
  let q := q.keepLane d .B (live && !(r.dl d).sentB && q.lanesOf d = 2)
  q.setDl d { q.dl d with sentA := false, sentB := false }

theorem Replica.sendPoint_eq (r : Replica) : r.sendPoint = (List.range 12).foldl Replica.sendStep r := rfl

section
variable (r : Replica) (d : Nat)

theorem Replica.regs_keepLane (lane : Pav) (due : Bool) : (r.keepLane d lane due).regs = r.regs := by
  unfold Replica.keepLane
  split <;> rfl

theorem Replica.tx_keepLane (lane : Pav) (due : Bool) : r.tx ⊆ (r.keepLane d lane due).tx := by
  unfold Replica.keepLane
  split
  · exact List.subset_append_left _ _
  · exact List.Subset.refl _

theorem Replica.dl_keepLane_ne {e : Nat} (hne : e ≠ d) (lane : Pav) (due : Bool) : (r.keepLane d lane due).dl e = r.dl e := by
  unfold Replica.keepLane
  split
  · exact vget_vput_ne _ _ _ _ _ hne
  · rfl

theorem Replica.regs_sendStep : (r.sendStep d).regs = r.regs := (Replica.regs_keepLane _ d .B _).trans (r.regs_keepLane d .A _)

theorem Replica.tx_sendStep : r.tx ⊆ (r.sendStep d).tx := List.Subset.trans (r.tx_keepLane d .A _) (Replica.tx_keepLane _ d .B _)

theorem Replica.dl_sendStep_ne {e : Nat} (hne : e ≠ d) : (r.sendStep d).dl e = r.dl e :=
  (vget_vput_ne _ _ _ _ _ hne).trans ((Replica.dl_keepLane_ne _ d hne .B _).trans (r.dl_keepLane_ne d hne .A _))

/-- What a send point has done for a link: a KEEPALIVE on lane A, and its mark cleared; no register changes. -/
def Replica.KeptAlive (r r' : Replica) (d : Nat) : Prop :=
  (∃ b : List Nat, Tx.dlpLane .A d 0x05 b ∈ r'.tx) ∧ (r'.dl d).sentA = false ∧ r'.regs = r.regs

end

section
variable {r : Replica} {d : DLink} (hen : r.rd .DLK_LCFG_EN_LINK d = 1) (hactive : r.dstate d = dsActive) (hsilent : (r.dl d).sentA = false)
include hen hactive hsilent

/-- On a link that is up and has been silent on lane A, its step sends there. -/
theorem Replica.sendStep_keeps_alive : r.KeptAlive (r.sendStep d) d := by
  have hdue : (decide (r.rd .DLK_LCFG_EN_LINK d = 1) && decide (r.dstate d ≠ dsDown) && decide (r.dstate d ≠ dsDisabled) &&
      !(r.dl d).sentA) = true := by
    rw [hen, hactive, hsilent]
    decide
  have hsent : (r.keepLane d .A true).tx = r.tx ++ [.dlpLane .A d 0x05 ((r.dl d).seqNo :: 0xFF :: 0 :: [])] := rfl
  refine ⟨⟨(r.dl d).seqNo :: 0xFF :: 0 :: [], Replica.tx_keepLane _ d .B _ ?_⟩,
    congrArg DispLink.sentA (Replica.dl_setDl_same _ d _), r.regs_sendStep d⟩
  rw [hdue, hsent]
  exact List.mem_append_right _ (List.mem_singleton.2 rfl)

theorem Replica.sendPoint_keeps_alive : r.KeptAlive r.sendPoint d := by
  rw [r.sendPoint_eq]
  refine foldl_once (P := fun q : Replica => q.regs = r.regs ∧ q.dl d = r.dl d) (Q := fun q => r.KeptAlive q d) (a := d.val)
    (fun q hq => ?_) (fun q k hk hq => ?_) (fun q k hk hq => ?_) _ r List.nodup_range (List.mem_range.2 d.isLt) ⟨rfl, rfl⟩
  · obtain ⟨hregs, hdl⟩ := hq
    have hrd : ∀ f : Field, q.rd f d = r.rd f d := fun f => by rw [Replica.rd, hregs]; rfl
    obtain ⟨hsent, hmark, hstep⟩ := Replica.sendStep_keeps_alive (r := q) (d := d) ((hrd _).trans hen) ((hrd _).trans hactive)
      (hdl.symm ▸ hsilent)
    exact ⟨hsent, hmark, hstep.trans hregs⟩
  · exact ⟨(q.regs_sendStep k).trans hq.1, (q.dl_sendStep_ne k hk.symm).trans hq.2⟩
  · obtain ⟨⟨b, hsent⟩, hmark, hregs⟩ := hq
    exact ⟨⟨b, q.tx_sendStep k hsent⟩, q.dl_sendStep_ne k hk.symm ▸ hmark, (q.regs_sendStep k).trans hregs⟩

end

/-! ### Repetition (R291) -/

section
variable (r : Replica) (d : DLink)

/-- An unacknowledged PDU goes out once more: one repetition fewer, counted, its lanes no longer silent. -/
def Replica.repeated (d seq : Nat) (u : OutPdu) : Replica :=
  let x := r.dl d
  let r := r.setDl d { x with unacked := x.unacked.map fun q => if q.seq = seq then { q with left := q.left - 1 } else q,
                              sentA := x.sentA || u.lane ≠ some .B, sentB := x.sentB || u.lane ≠ some .A }
  let r := r.wr .DLK_LRETX_RETX (r.rd .DLK_LRETX_RETX d + 1) d
  match u.lane with
  | none => r.send (.dlp d u.type (u.seq :: u.outlet :: 3 :: u.body))
  | some l => r.send (.dlpLane l d u.type (u.seq :: u.outlet :: 3 :: u.body))

theorem Replica.repeated_shows (seq : Nat) (u : OutPdu) : (r.repeated d seq u).rd .DLK_LRETX_RETX d = (r.rd .DLK_LRETX_RETX d + 1) % 2 ^ 16 ∧
    ((r.repeated d seq u).dl d).unacked = (r.dl d).unacked.map fun x => if x.seq = seq then { x with left := x.left - 1 } else x := by
  unfold Replica.repeated
  dsimp only
  split <;> exact ⟨Replica.rd_wr_same _ .DLK_LRETX_RETX _ d, congrArg DispLink.unacked (r.dl_setDl_same d _)⟩

end

/-! ### Lanes (R292) -/

/-- Lane B down: its bit and its event, and the entry of the fault. -/
theorem Replica.laneB_down_shows (r : Replica) (v : Env) (d : Nat) : let w := r.dispLane v d .B false
    bitOf (w.rd .DLK_LANEB_UP) d = false ∧ w.rd .DLK_EVENT_LANE_DOWN = 1 ∧ w.rd .DLK_LANEA_UP = r.rd .DLK_LANEA_UP := by
  intro w
  have hreported := Replica.reported_fault (((r.wr .DLK_LANEB_UP (putBit (r.rd .DLK_LANEB_UP) d false)).setDl d
    { r.dl d with lostB := true, upB := 0 }).raise .DLK_EVENT_LANE_DOWN) v.now locDispLane d masked reOtherPath 0
  refine ⟨?_, ?_, ?_⟩
  · refine (congrArg (bitOf · d) ((hreported.rd (f := .DLK_LANEB_UP) (by decide) rfl 0).trans ?_)).trans
      (bitOf_putBit_false (r.rd .DLK_LANEB_UP) d 12)
    exact (Replica.rd_raise_of_ne _ 0 0 (by decide) rfl).trans (r.rd_wr_same .DLK_LANEB_UP _ 0)
  · exact (hreported.rd (by decide) rfl 0).trans (Replica.rd_raise_same _ .DLK_EVENT_LANE_DOWN 0 rfl (by decide))
  · exact (hreported.rd (by decide) rfl 0).trans ((Replica.rd_raise_of_ne _ 0 0 (by decide) rfl).trans (r.rd_wr_of_ne _ 0 0 (by decide)))

/-! ### The commands -/

@[simp] theorem Replica.dstate_flushed (r : Replica) (d : Nat) : r.flushed.dstate d = r.dstate d := rfl

section
variable {s : State} {p : Pav} {d : DLink} {lane : Lane} {h : DlpHdr} {body : List Byte} (hstep : (s.site.pav p).inStep = true)
include hstep

section
variable {type minVer : Nat} (hpass : s.passes p d lane h type minVer)
include hpass

/-- A PDU without an effect of its own changes no register beyond its acknowledgements, and its number is no longer fresh. -/
theorem State.dlp_of_no_effect {lenOk : Bool} (hlen : lenOk = true) : ∃ t : State, s.dlp d lane h type minVer lenOk (fun _ r => r) = .next t ∧
    (t.site.pav p).rep.regs = (s.noted p d lane h).regs ∧ ((t.site.pav p).rep.dl d).fresh h.seq = false := by
  obtain ⟨t, hexec, hrep⟩ := State.dlp_of_passes hstep hpass hlen (f := fun _ r => r) rfl
  exact ⟨t, hexec, by rw [hrep]; rfl, by rw [hrep]; exact (s.view p).fresh_received d lane h⟩

end

theorem dlpError_raises (hpass : s.passes p d lane h 0xFF 0) (hlen : body.length = 2) :
    ∃ t : State, execDlpError d lane h body s = .next t ∧ (t.site.pav p).rep.rd .DLK_EVENT_PROTO_ERR = 1 := by
  obtain ⟨t, hexec, hrep⟩ : ∃ t : State, execDlpError d lane h body s = .next t ∧
      (t.site.pav p).rep = ((s.noted p d lane h).raise .DLK_EVENT_PROTO_ERR).flushed :=
    State.dlp_of_passes hstep hpass (decide_eq_true hlen) rfl
  exact ⟨t, hexec, hrep ▸ Replica.rd_raise_same _ .DLK_EVENT_PROTO_ERR 0 rfl (by decide)⟩

/-- An unknown TYPE is answered with ERROR. -/
theorem dlpUnknownPdu_answers {type : Byte} (hpass : s.passes p d lane h type.toNat 0) : ∃ (t : State) (seq code : Nat),
    execDlpUnknownPdu d lane h type body s = .next t ∧ (t.site.pav p).rep.rd .DLK_EVENT_PROTO_ERR = 1 ∧
      (t.site.pav p).rep.tx = (s.noted p d lane h).tx ++ [.dlp d 0xFF [seq, 0xFF, 0, type.toNat, code]] := by
  obtain ⟨code, t, hexec, hrep⟩ : ∃ (code : Nat) (t : State), execDlpUnknownPdu d lane h type body s = .next t ∧
      (t.site.pav p).rep = ((s.noted p d lane h).sendError d type.toNat code).flushed :=
    ⟨_, State.dlp_of_passes hstep hpass rfl rfl⟩
  refine ⟨t, ((s.noted p d lane h).dl d).seqNo, code, hexec, ?_, ?_⟩ <;> rw [hrep]
  · exact Replica.rd_raise_same _ .DLK_EVENT_PROTO_ERR 0 rfl (by decide)
  · rfl

section
variable (hpass : s.passes p d lane h 0x01 0) (hlen : body.length = 24) (hdown : (s.noted p d lane h).dstate d = dsDown)
  (hA : ((s.noted p d lane h).dl d).unitA = none) (hB : ((s.noted p d lane h).dl d).unitB = none)
  (hlast : ((s.noted p d lane h).dl d).lastUnit = none) (hlanes : byteAt body 1 = 1 ↔ (s.noted p d lane h).lanesOf d = 1)
include hpass hlen hdown hA hB hlast hlanes

theorem dlpHello_takes {ver : Nat} (hver : commonVer (byteAt body 0) ((s.noted p d lane h).rd .DLK_CTRL_VERS) = ver) (hpos : ver ≠ 0) :
    ∃ t : State, execDlpHello d lane h body s = .next t ∧ (t.site.pav p).rep.dstate d = dsHello ∧
      (t.site.pav p).rep.rd .DLK_LSTATE_VER d = ver ∧ (t.site.pav p).rep.rd .DLK_LSTATE_KIND0 d = byteAt body 16 % 4 ∧
        (t.site.pav p).rep.rd .DLK_LUNIT_LO_UNIT d = fieldAt body 6 8 % 2 ^ 32 := by
  obtain ⟨t, hexec, hrep⟩ : ∃ t : State, execDlpHello d lane h body s = .next t ∧
      (t.site.pav p).rep = ((s.noted p d lane h).hello s.site.env d lane h body).flushed :=
    State.dlp_of_passes hstep hpass (decide_eq_true hlen) rfl
  refine ⟨t, hexec, ?_⟩
  simp only [hrep, Replica.dstate_flushed, Replica.rd_flushed]
  exact (s.noted p d lane h).hello_shows _ d lane h body hdown (DispLink.otherUnit_none hA hB lane) hlast hlanes hver hpos

theorem dlpHello_of_no_version (hver : commonVer (byteAt body 0) ((s.noted p d lane h).rd .DLK_CTRL_VERS) = 0) :
    ∃ t : State, execDlpHello d lane h body s = .next t ∧ (t.site.pav p).rep.dstate d = dsFault ∧
      (t.site.pav p).rep.rd .DLK_EVENT_NO_VERSION = 1 := by
  obtain ⟨t, hexec, hrep⟩ : ∃ t : State, execDlpHello d lane h body s = .next t ∧
      (t.site.pav p).rep = ((s.noted p d lane h).hello s.site.env d lane h body).flushed :=
    State.dlp_of_passes hstep hpass (decide_eq_true hlen) rfl
  refine ⟨t, hexec, ?_⟩
  simp only [hrep, Replica.dstate_flushed, Replica.rd_flushed]
  exact (s.noted p d lane h).hello_of_no_version _ d lane h body hdown (DispLink.otherUnit_none hA hB lane) hlast hlanes hver

end

section
variable (hpass : s.passes p d lane h 0x03 0) (hlen : body.length = 16) (hreq : (s.noted p d lane h).rd .DLK_CTRL_AUTHREQ = 1)
  (hacked : ((s.noted p d lane h).dl d).unacked = [])
  (hstate : (s.noted p d lane h).dstate d = dsHello ∨ (s.noted p d lane h).dstate d = dsAuth)
include hpass hlen hreq hacked hstate

theorem dlpAuthResp_of_verified (hlanes : (s.noted p d lane h).lanesOf d = 1) (hlane : lane = .A) :
    ∃ t : State, execDlpAuthResp d lane h body true s = .next t ∧ (t.site.pav p).rep.dstate d = dsConfig ∧
      ((t.site.pav p).rep.dl d).authA = true ∧ (t.site.pav p).rep.ctx 3 (2 * d) ≠ none := by
  subst hlane
  obtain ⟨t, hexec, hrep⟩ : ∃ t : State, execDlpAuthResp d .A h body true s = .next t ∧
      (t.site.pav p).rep = (((s.noted p d .A h).laneAuthed d).enterConfig d).flushed :=
    State.dlp_of_passes hstep hpass (decide_eq_true hlen)
      ((if_pos hreq).trans ((s.noted p d .A h).authResp_of_verified d hacked hstate hlanes))
  refine ⟨t, hexec, ?_⟩
  rw [hrep]
  exact (s.noted p d .A h).laneAuthed_config d

theorem dlpAuthResp_of_failed : ∃ t : State, execDlpAuthResp d lane h body false s = .next t ∧ (t.site.pav p).rep.dstate d = dsFault ∧
    (t.site.pav p).rep.rd .DLK_EVENT_AUTH_FAIL = 1 := by
  obtain ⟨t, hexec, hrep⟩ : ∃ t : State, execDlpAuthResp d lane h body false s = .next t ∧
      (t.site.pav p).rep = (((s.noted p d lane h).raise .DLK_EVENT_AUTH_FAIL).linkDown d dsFault).flushed :=
    State.dlp_of_passes hstep hpass (decide_eq_true hlen)
      ((if_pos hreq).trans ((s.noted p d lane h).authResp_of_failed d lane hacked hstate))
  refine ⟨t, hexec, ?_, ?_⟩ <;> rw [hrep]
  · exact Replica.dstate_linkDown _ d (by decide)
  · exact (Replica.rd_linkDown _ d _ 0 (by decide)).trans (Replica.rd_raise_same _ .DLK_EVENT_AUTH_FAIL 0 rfl (by decide))

end

section
variable {seq : Nat} {u : OutPdu} (hfind : (((s.view p).dl d).unacked.find? fun x => x.seq = seq) = some u)
include hfind

theorem dlpRetxTimeout_repeats (hleft : 0 < u.left) : ∃ t : State, execDlpRetxTimeout d seq s = .next t ∧
    (t.site.pav p).rep.rd .DLK_LRETX_RETX d = ((s.view p).rd .DLK_LRETX_RETX d + 1) % 2 ^ 16 ∧
      ((t.site.pav p).rep.dl d).unacked =
        ((s.view p).dl d).unacked.map fun x => if x.seq = seq then { x with left := x.left - 1 } else x := by
  obtain ⟨t, hexec, hrep⟩ : ∃ t : State, execDlpRetxTimeout d seq s = .next t ∧ (t.site.pav p).rep = ((s.view p).repeated d seq u).flushed :=
    State.onLog_of_view hstep (by
      dsimp only
      rw [hfind]
      exact if_pos hleft)
  refine ⟨t, hexec, ?_⟩
  rw [hrep]
  exact (s.view p).repeated_shows d seq u

/-- With no repetition left, an ACTIVE link is lost. -/
theorem dlpRetxTimeout_fails (hleft : u.left = 0) (hactive : (s.view p).dstate d = dsActive) :
    ∃ t : State, execDlpRetxTimeout d seq s = .next t ∧ (t.site.pav p).rep.dstate d = dsDown ∧
      (t.site.pav p).rep.rd .DLK_EVENT_DLP_FAIL = 1 ∧ (t.site.pav p).rep.rd .DLK_EVENT_LINK_LOST = 1 := by
  have hup : ((s.view p).raise .DLK_EVENT_DLP_FAIL).dstate d = dsActive :=
    ((s.view p).rd_raise_of_ne 0 d (by decide) rfl).trans hactive
  obtain ⟨t, hexec, hrep⟩ : ∃ t : State, execDlpRetxTimeout d seq s = .next t ∧
      (t.site.pav p).rep = (((s.view p).raise .DLK_EVENT_DLP_FAIL).linkLost s.site.env d).flushed :=
    State.onLog_of_view hstep (by
      dsimp only
      rw [hfind]
      exact (if_neg (by simp [hleft])).trans (if_pos hup))
  obtain ⟨hdown, hlost, hfail⟩ := ((s.view p).raise .DLK_EVENT_DLP_FAIL).linkLost_shows s.site.env d
  refine ⟨t, hexec, ?_⟩
  simp only [hrep, Replica.dstate_flushed, Replica.rd_flushed]
  exact ⟨hdown, hfail.trans ((s.view p).rd_raise_same _ 0 rfl (by decide)), hlost⟩

end

theorem dlpSendPoint_keeps_alive (hen : (s.view p).rd .DLK_LCFG_EN_LINK d = 1) (hactive : (s.view p).dstate d = dsActive)
    (hsilent : ((s.view p).dl d).sentA = false) : ∃ (t : State) (b : List Nat), execDlpSendPoint s = .next t ∧
      Tx.dlpLane .A d 0x05 b ∈ (t.site.pav p).rep.tx ∧ ((t.site.pav p).rep.dl d).sentA = false ∧
        (t.site.pav p).rep.regs = (s.view p).regs := by
  obtain ⟨w, hw⟩ : ∃ w : Replica, (s.view p).sendPoint = w := ⟨_, rfl⟩
  obtain ⟨⟨b, hsent⟩, hmark, hregs⟩ := Replica.sendPoint_keeps_alive hen hactive hsilent
  rw [hw] at hsent hmark hregs
  obtain ⟨t, hexec, hrep⟩ : ∃ t : State, execDlpSendPoint s = .next t ∧ (t.site.pav p).rep = w.flushed := State.onLog_of_view hstep hw
  refine ⟨t, b, hexec, ?_⟩
  rw [hrep]
  exact ⟨hsent, hmark, hregs⟩

theorem dlpLaneDown_of_up (hup : bitOf ((s.view p).rd .DLK_LANEB_UP) d = true) (hlanes : (s.view p).lanesOf d = 2) :
    ∃ t : State, execDlpLaneDown d .B s = .next t ∧ bitOf ((t.site.pav p).rep.rd .DLK_LANEB_UP) d = false ∧
      (t.site.pav p).rep.rd .DLK_EVENT_LANE_DOWN = 1 ∧ (t.site.pav p).rep.rd .DLK_LANEA_UP = (s.view p).rd .DLK_LANEA_UP := by
  obtain ⟨t, hexec, hrep⟩ : ∃ t : State, execDlpLaneDown d .B s = .next t ∧
      (t.site.pav p).rep = ((s.view p).dispLane s.site.env d .B false).flushed :=
    State.onLog_of_view hstep (if_pos (by simp [hup, hlanes]))
  refine ⟨t, hexec, ?_⟩
  simp only [hrep, Replica.rd_flushed]
  exact (s.view p).laneB_down_shows s.site.env d

theorem dlpSupervisionTimeout_of_active (hactive : (s.view p).dstate d = dsActive) :
    ∃ t : State, execDlpSupervisionTimeout d s = .next t ∧ (t.site.pav p).rep.dstate d = dsDown ∧
      (t.site.pav p).rep.rd .DLK_EVENT_LINK_LOST = 1 ∧ ((s.view p).ostate (2 * d) = osCharging →
        (t.site.pav p).rep.StandsIn (2 * d) osStopping ocDispenserLost) := by
  have hlive : ¬(decide ((s.view p).dstate d = dsDown) || decide ((s.view p).dstate d = dsDisabled) ||
      decide ((s.view p).dstate d = dsFault)) = true := by
    rw [hactive]
    decide
  obtain ⟨t, hexec, hrep⟩ : ∃ t : State, execDlpSupervisionTimeout d s = .next t ∧
      (t.site.pav p).rep = ((s.view p).linkLost s.site.env d).flushed := State.onLog_of_view hstep (if_neg hlive)
  obtain ⟨hdown, hlost, -⟩ := (s.view p).linkLost_shows s.site.env d
  refine ⟨t, hexec, ?_⟩
  simp only [hrep, Replica.dstate_flushed, Replica.rd_flushed, Replica.StandsIn, Replica.ostate_flushed]
  exact ⟨hdown, hlost, (s.view p).linkLost_of_charging s.site.env d⟩

section
variable (hfault : (s.view p).dstate d = dsFault)
include hfault

/-- FAULT is left for DOWN, after its time or at once on RESTART. -/
theorem State.onLog_leaves_fault : ∃ t : State, (s.onLog fun _ r => if r.dstate d = dsFault then r.linkDown d dsDown else r) = .next t ∧
    (t.site.pav p).rep.dstate d = dsDown := by
  obtain ⟨t, hexec, hrep⟩ := State.onLog_of_view hstep (f := fun _ r => if r.dstate d = dsFault then r.linkDown d dsDown else r) (if_pos hfault)
  exact ⟨t, hexec, hrep ▸ (s.view p).dstate_linkDown d (by decide)⟩

end

end

/-- Settles O36: one lemma per outcome of each command above. -/
theorem dispenserLinks : Obligations.DispenserLinks := by
  intro p d lane h body s hstep r r' q pass
  refine ⟨fun hpass hlen => ?_, fun hpass hlen => ?_, fun hpass hlen => ?_, fun type hpass => ?_,
    fun hpass hlen hdown hA hB hlast hlanes => ⟨fun hver => ?_, fun hver => ?_⟩,
    fun hpass hlen hreq hacked hstate => ⟨fun hlanes hlane => ?_, ?_⟩, fun seq u hfind => ⟨fun hleft => ?_, fun hleft hactive => ?_⟩,
    fun hen hactive hsilent => ?_, fun hup hlanes => ?_, fun hactive => ?_, fun hfault => ⟨?_, ?_⟩⟩
  · exact State.dlp_of_no_effect hstep hpass (decide_eq_true (congrArg List.length hlen))
  · exact State.dlp_of_no_effect hstep hpass (decide_eq_true hlen)
  · exact dlpError_raises hstep hpass hlen
  · exact dlpUnknownPdu_answers (body := body) hstep hpass
  · exact dlpHello_takes hstep hpass hlen hdown hA hB hlast hlanes rfl hver
  · exact dlpHello_of_no_version hstep hpass hlen hdown hA hB hlast hlanes hver
  · exact dlpAuthResp_of_verified hstep hpass hlen hreq hacked hstate hlanes hlane
  · exact dlpAuthResp_of_failed hstep hpass hlen hreq hacked hstate
  · exact dlpRetxTimeout_repeats hstep hfind hleft
  · exact dlpRetxTimeout_fails hstep hfind hleft hactive
  · exact dlpSendPoint_keeps_alive hstep hen hactive hsilent
  · exact dlpLaneDown_of_up hstep hup hlanes
  · exact dlpSupervisionTimeout_of_active hstep hactive
  · exact State.onLog_leaves_fault hstep hfault
  · exact State.onLog_leaves_fault hstep hfault

end Sys2Proof.Machine
end
